-- ==== Sys2Proof/Word.lean ====
section
/-!
DEFINITION. The plain types every other file uses: bytes and words, the two spans and the status codes.
-/

namespace Sys2Proof

/-- A byte. -/
abbrev Byte := BitVec 8
/-- The image of one 32-bit control register. -/
abbrev Word32 := BitVec 32
/-- A 64-bit word: a Pier register, a big-number limb. -/
abbrev Word64 := BitVec 64

/-- The two span dies (Architecture, Dies and links). -/
inductive SpanId where
  | a
  | b
deriving DecidableEq, Repr

/-- The other span. -/
def SpanId.other : SpanId → SpanId
  | .a => .b
  | .b => .a

/-- Who a report, slate or record names as its origin: a span or the hub die (R406). -/
inductive Die where
  | span (sp : SpanId)
  | hub
deriving DecidableEq, Repr

/-- The status codes of the master table (R416), each named as the table names it. -/
inductive Status where
  /-- 0x0000: Success. -/
  | ok
  /-- 0x0101: Addressed to an earlier role. -/
  | staleEpoch
  /-- 0x0102: Object draining. -/
  | keyDraining
  /-- 0x0103: No slate room outside the reserve. -/
  | logFull
  /-- 0x0104: Span isolated. -/
  | spanIsolated
  /-- 0x0105: Base state changed. -/
  | staleBase
  /-- 0x0106: Limit reached. -/
  | resourceExhausted
  /-- 0x0107: Counter at LIMIT. -/
  | counterExhausted
  /-- 0x0108: Deferral limit passed. -/
  | deferredTimeout
  /-- 0x0109: Unit closed, fatal or disabled. -/
  | serviceUnavailable
  /-- 0x010A: Image layout broken. -/
  | imageFormat
  /-- 0x010B: Configuration cannot be realised. -/
  | imageInfeasible
  /-- 0x010C: Handle unknown or out of reach. -/
  | objectUnknown
  /-- 0x010D: Object still in a key slot. -/
  | objectInSlot
  /-- 0x010E: Descriptor rules broken. -/
  | descriptorFormat
  /-- 0x010F: DMA failed. -/
  | bufferFault
  /-- 0x0110: Cancelled before start. -/
  | commandCancelled
  /-- 0x0111: State digests did not match. -/
  | rejoinFailed
  /-- 0x0112: Undefined hypercall. -/
  | unknownCall
  /-- 0x0113: Fuse margins disagree. -/
  | fuseMarginal
  /-- 0x0114: Not a monitor command, or its arguments are malformed. -/
  | monitorSyntax
  /-- 0x0201: Value zero. -/
  | inputZero
  /-- 0x0202: Value one. -/
  | inputOne
  /-- 0x0203: Value or field out of range. -/
  | inputRange
  /-- 0x0204: Point off curve or subgroup. -/
  | notOnCurve
  /-- 0x0205: No inverse. -/
  | notInvertible
  /-- 0x0206: Bound exceeded; result withheld. -/
  | arithGuard
  /-- 0x0207: Repeat differs or memory error. -/
  | faultMismatch
  /-- 0x0208: Chain too long at issue. -/
  | chainLimit
  /-- 0x0209: Integrity check failed. -/
  | unwrapFail
  /-- 0x020A: Identity point. -/
  | pointAtInfinity
  /-- 0x020B: Lane command broken. -/
  | commandFormat
  /-- 0x020C: Job aborted. -/
  | jobCancelled
  /-- 0x0301: Quorum not reached. -/
  | quorumPending
  /-- 0x0302: Lock or pin held. -/
  | lockHeld
  /-- 0x0303: Lease expired; rolled back. -/
  | lockAbandoned
  /-- 0x0304: Caller or signature not allowed. -/
  | notAuthorised
  /-- 0x0305: Window or switch time passed. -/
  | approvalExpired
  /-- 0x0306: Proposal not open. -/
  | proposalClosed
  /-- 0x0307: Signer voted already. -/
  | duplicateApproval
  /-- 0x0308: Usage, state or type forbids. -/
  | usageDenied
  /-- 0x0309: Forced keystone not allowed. -/
  | forceRefused
  /-- 0x030A: Not allowed in this state. -/
  | lifecycleState
  /-- 0x0401: Nonce not strictly above. -/
  | nonceOrder
  /-- 0x0402: Nonce seen or too old. -/
  | replay
  /-- 0x0403: Outside freshness window. -/
  | staleFrame
  /-- 0x0404: Tag differs. -/
  | tagFail
  /-- 0x0405: No context in service. -/
  | noContext
  /-- 0x0406: Would exceed 2,000 bytes. -/
  | frameLength
  /-- 0x0407: Key held by another context. -/
  | classKeyConflict
  /-- 0x0408: No key in force. -/
  | noKey
  /-- 0x0409: No slot accepts key ID. -/
  | keyIdUnknown
  /-- 0x040A: Frame does not fit template. -/
  | templateMismatch
  /-- 0x040B: Not allowed in context state. -/
  | contextState
  /-- 0x040C: Object cannot enter a slot. -/
  | keyUnsuitable
deriving DecidableEq, Repr, Inhabited

end Sys2Proof
end

