-- ==== Sys2Proof/Machine/Bytes.lean ====
section
/-!
DEFINITION. The values of status, span and die codes, the byte-order helpers of R2 to R4, bit fields and the forms of time.
-/

namespace Sys2Proof

/-- The span number of scene instances: A is 0, B is 1. -/
def SpanId.num : SpanId → Nat
  | .a => 0
  | .b => 1

/-- The SPAN code of slates, reports and change records: A is 1, B is 2 (R406). -/
def SpanId.code : SpanId → Nat
  | .a => 1
  | .b => 2

/-- The code of a die: A is 1, B is 2, HUB is 3 (R406). -/
def Die.code : Die → Nat
  | .span sp => sp.code
  | .hub => 3

/-- The 16-bit value of a status code (R416). -/
def Status.code : Status → Nat
  | .ok => 0x0000
  | .staleEpoch => 0x0101
  | .keyDraining => 0x0102
  | .logFull => 0x0103
  | .spanIsolated => 0x0104
  | .staleBase => 0x0105
  | .resourceExhausted => 0x0106
  | .counterExhausted => 0x0107
  | .deferredTimeout => 0x0108
  | .serviceUnavailable => 0x0109
  | .imageFormat => 0x010A
  | .imageInfeasible => 0x010B
  | .objectUnknown => 0x010C
  | .objectInSlot => 0x010D
  | .descriptorFormat => 0x010E
  | .bufferFault => 0x010F
  | .commandCancelled => 0x0110
  | .rejoinFailed => 0x0111
  | .unknownCall => 0x0112
  | .fuseMarginal => 0x0113
  | .monitorSyntax => 0x0114
  | .inputZero => 0x0201
  | .inputOne => 0x0202
  | .inputRange => 0x0203
  | .notOnCurve => 0x0204
  | .notInvertible => 0x0205
  | .arithGuard => 0x0206
  | .faultMismatch => 0x0207
  | .chainLimit => 0x0208
  | .unwrapFail => 0x0209
  | .pointAtInfinity => 0x020A
  | .commandFormat => 0x020B
  | .jobCancelled => 0x020C
  | .quorumPending => 0x0301
  | .lockHeld => 0x0302
  | .lockAbandoned => 0x0303
  | .notAuthorised => 0x0304
  | .approvalExpired => 0x0305
  | .proposalClosed => 0x0306
  | .duplicateApproval => 0x0307
  | .usageDenied => 0x0308
  | .forceRefused => 0x0309
  | .lifecycleState => 0x030A
  | .nonceOrder => 0x0401
  | .replay => 0x0402
  | .staleFrame => 0x0403
  | .tagFail => 0x0404
  | .noContext => 0x0405
  | .frameLength => 0x0406
  | .classKeyConflict => 0x0407
  | .noKey => 0x0408
  | .keyIdUnknown => 0x0409
  | .templateMismatch => 0x040A
  | .contextState => 0x040B
  | .keyUnsuitable => 0x040C

/-- Little-endian bytes of a number (R3), `n` of them. -/
def leBytes : Nat → Nat → List Byte
  | 0, _ => []
  | n + 1, v => BitVec.ofNat 8 v :: leBytes n (v / 256)

/-- Network-order bytes of a number (R2, R464), `n` of them. -/
def beBytes (n v : Nat) : List Byte := (leBytes n v).reverse

/-- The number whose little-endian bytes are given (R3). -/
def ofLe : List Byte → Nat
  | [] => 0
  | b :: bs => b.toNat + 256 * ofLe bs

/-- The number whose network-order bytes are given (R2). -/
def ofBe (bs : List Byte) : Nat := ofLe bs.reverse

/-- `n` zero bytes. -/
def zeroBytes (n : Nat) : List Byte := List.replicate n 0

/-- The bytes `off` to `off + n - 1` of a byte string, zero beyond its end. -/
def sliceBytes (bs : List Byte) (off n : Nat) : List Byte :=
  let t := (bs.drop off).take n
  t ++ zeroBytes (n - t.length)

/-- A little-endian field of `n` bytes at an offset (R3). -/
def leField (bs : List Byte) (off n : Nat) : Nat := ofLe (sliceBytes bs off n)

/-- A network-order field of `n` bytes at an offset (R2). -/
def beField (bs : List Byte) (off n : Nat) : Nat := ofBe (sliceBytes bs off n)

/-- The bytes of an ASCII string, without a terminator (R464). -/
def asciiBytes (t : String) : List Byte := t.toList.map fun c => BitVec.ofNat 8 c.toNat

/-- Pads a byte string with zeros to a length, and cuts what lies beyond it. -/
def padBytes (n : Nat) (bs : List Byte) : List Byte := sliceBytes bs 0 n

/-- Bits `hi` to `lo` of a number. -/
def bitsOf (v hi lo : Nat) : Nat := v / 2 ^ lo % 2 ^ (hi + 1 - lo)

/-- A saturating 32-bit increment. -/
def satInc32 (v n : Nat) : Nat := min (v + n) (2 ^ 32 - 1)

/-- The number one for true, zero for false. -/
def boolNat (b : Bool) : Nat := if b then 1 else 0

/-- The 64-bit form of a TAI time (R10): the low 32 bits of the seconds above 32 bits of nanoseconds. Times in the model
are TAI nanoseconds since the epoch of R9, as one number. -/
def tai64 (ns : Nat) : Nat := ns / 1000000000 % 2 ^ 32 * 2 ^ 32 + ns % 1000000000

/-- The TAI time in nanoseconds that a 64-bit form names (R10). -/
def ofTai64 (v : Nat) : Nat := v / 2 ^ 32 * 1000000000 + v % 2 ^ 32

/-- The distance between two numbers. -/
def absDiff (x y : Nat) : Nat := if x ≤ y then y - x else x - y

/-- One second in nanoseconds. -/
def sec : Nat := 1000000000
/-- One millisecond in nanoseconds. -/
def ms : Nat := 1000000
/-- One microsecond in nanoseconds. -/
def us : Nat := 1000

end Sys2Proof
end

