-- ==== Sys2Proof/Machine/Types.lean ====
section
/-!
DEFINITION. The plain data that commands carry and that the replicated state holds: callers, sessions, scenes, key
objects, contexts and key slots, proposals, ceremony locks, slates and change records.
Times are TAI nanoseconds, as one number (R9).
-/

namespace Sys2Proof.Machine

/-- The ROLE of a signer (R41, the life-cycle and debug signature entries). -/
inductive Role where
  | producer
  | officer
  | manufacturer
  | debugAuthority
deriving DecidableEq, Repr

/-- The ROLE code. -/
def Role.code : Role → Nat
  | .producer => 1
  | .officer => 2
  | .manufacturer => 3
  | .debugAuthority => 4

/-- One signer: a producer (owner 0) or an officer of an owner, by index (R60). -/
structure Signer where
  role : Role
  owner : Nat
  index : Nat
deriving DecidableEq, Repr

/-- Through which door a command came in. A host function is on the caller's own span (P4 on A, P5 on B). -/
inductive Origin where
  /-- A host descriptor: function 0 is the PF, n is VF n; port queue pair and CID. -/
  | host (fn queue cid : Nat)
  /-- A guest's vault call: guest, its queue pair and CID (R324). -/
  | guest (g queue cid : Nat)
  /-- The management service over a TLS connection, with the connection's exporter value (R61). -/
  | mgmt (conn : Nat) (exporter : List Byte)
  /-- The Leolo monitor. -/
  | monitor
  /-- An execution under an approved SINGLE proposal (R69). -/
  | proposal (pid : Nat)
  /-- The device's own initiative (R22). -/
  | device
deriving DecidableEq, Repr

/-- The caller of a command: the receiving span, the door, the session named (0 for none) and the epoch it carries (R54). -/
structure Caller where
  span : SpanId
  origin : Origin
  session : Nat
  epoch : Nat
deriving DecidableEq, Repr

/-- What leaves the module at its ports, newest first in `State.outputs`. -/
inductive Output where
  /-- The reply to a command from the management service, the monitor or the device's own proposals. -/
  | reply (c : Caller) (st : Status) (inDoubt : Bool) (fields : List (List Byte))
  /-- The 16-byte completion entry at a completion-queue position of host memory (R249). -/
  | cqEntry (sp : SpanId) (queue pos cid : Nat) (st : Status) (slot sqHead outLen : Nat) (phase inDoubt : Bool) (result : Nat)
  /-- Output fields written at a descriptor's OUT_ADDR (R243). -/
  | hostData (sp : SpanId) (queue cid : Nat) (bytes : List Byte)
  /-- An MSI-X message (R250). -/
  | msix (sp : SpanId) (fn vector addr data : Nat)
  /-- A frame that a stream port transmits. -/
  | frame (sp : SpanId) (port : Nat) (bytes : List Byte)
  /-- A PAUSE frame that a stream port transmits, with its pause time (R107). -/
  | pause (sp : SpanId) (port quanta : Nat)
  /-- The abilities that a BASEX_1G port advertises in Clause 37 auto-negotiation: full duplex and symmetric PAUSE (R86). -/
  | advert (sp : SpanId) (port : Nat) (fullDuplex symPause : Bool)
  /-- The report detail of an image that a command of a span is refused for: feasibility check and scene-table index (R43, log entry 106). -/
  | imageDetail (sp : SpanId) (check entry : Nat)
  /-- A level change on PPS_OUT (R164). -/
  | pps (sp : SpanId) (high : Bool)
  /-- A level change of PFW_N: low while the power-fail warning is asserted (R427). -/
  | pfwN (low : Bool)
  /-- A value that a read command returns. -/
  | readData (sp : SpanId) (addr value : Nat)
deriving DecidableEq, Repr

/-- A scene: type, owner, instance and payload (R34). -/
structure Scene where
  type : Nat
  owner : Nat
  inst : Nat
  payload : List Byte
deriving DecidableEq, Repr

/-- An entry of an image's scene table with its payload; OP is 0 in a FULL image (R34). -/
structure SceneOp where
  op : Nat
  scene : Scene
deriving DecidableEq, Repr

/-- An entry of a signature block: its head fields and the signature (R41). -/
structure SigEntry where
  alg : Nat
  role : Nat
  owner : Nat
  signer : Nat
  signTime : Nat
  sig : List Byte
deriving DecidableEq, Repr

/-- The staging states of `CNT_STAGE_STATE`. -/
inductive StageState where
  | quorumPending
  | validating
  | validated
  | prepared
  | committed
deriving DecidableEq, Repr

/-- The STATE code of a staged image; no staged image reads 0. -/
def StageState.code : StageState → Nat
  | .quorumPending => 1
  | .validating => 2
  | .validated => 3
  | .prepared => 4
  | .committed => 5

/-- The staged image (R43 to R51). -/
structure Staged where
  full : Bool
  epoch : Nat
  baseEpoch : Nat
  siteId : List Byte
  atTime : Bool
  switchTime : Nat
  body : List Byte
  ops : List SceneOp
  sigs : List SigEntry
  state : StageState
  closeAt : Nat
  /-- Whether each span's own validation has ended (R44). -/
  validA : Bool
  validB : Bool
  /-- T_sw, once fixed (R49). -/
  tsw : Nat
  /-- The SB_APPLY that waits for DECIDE (R48). -/
  apply : Option Caller
deriving DecidableEq, Repr

/-- A resource with a role epoch (R54, R246). -/
inductive Resource where
  /-- The host port. -/
  | port
  /-- A stream port P0 to P3. -/
  | stream (p : Nat)
  | slot (n : Nat) (slotB : Bool)
  | gate (sp : SpanId) (k : Nat)
  | fn (n : Nat)
  | queue (n : Nat)
  | lane (sp : SpanId) (k : Nat)
  | ctx (n : Nat)
  | guest (g : Nat)
deriving DecidableEq, Repr

/-- An officer session (R61 to R63). -/
structure Session where
  id : Nat
  signer : Signer
  keyDigest : List Byte
  binding : List Byte
  origin : Origin
  span : SpanId
  openedAt : Nat
  lastAt : Nat
  /-- First SEQ of the session's accepted LOG_EXPORT (R467). -/
  exportFrom : Option Nat
deriving DecidableEq, Repr

/-- The states of a key object (R176). -/
inductive ObjState where
  | active
  | suspended
  | fenced
  | draining
  | zeroised
deriving DecidableEq, Repr

/-- The STATE code of the attribute head. -/
def ObjState.code : ObjState → Nat
  | .active => 1
  | .suspended => 2
  | .fenced => 3
  | .draining => 4
  | .zeroised => 5

/-- A key object: the attribute head and the material (R174 to R178). SLOT_REFS is counted from the key slots. -/
structure KeyObj where
  handle : Nat
  type : Nat
  state : ObjState
  origin : Nat
  owner : Nat
  usage : Nat
  exportable : Bool
  signLoaded : Bool
  deriveMask : Nat
  version : Nat
  material : List Byte
  created : Nat
  changed : Nat
  parent : Nat
  label : List Byte
  pubDigest : List Byte
  /-- The fingerprint of a symmetric object's material (R183); empty for the others. -/
  fingerprint : List Byte
deriving DecidableEq, Repr

/-- A monotonic counter object (R188). -/
structure CtrObj where
  handle : Nat
  value : Nat
  ceil : Nat
  limit : Nat
  label : List Byte
  version : Nat
deriving DecidableEq, Repr

/-- The states of a stream context (R115). -/
inductive CtxState where
  | unconfigured
  | ready
  | active
  | suspended
  | draining
deriving DecidableEq, Repr

/-- The STATE code of the context entry. -/
def CtxState.code : CtxState → Nat
  | .unconfigured => 0
  | .ready => 1
  | .active => 2
  | .suspended => 3
  | .draining => 4

/-- A context entry (chapter Stream tag engine, Context entry). -/
structure CtxEntry where
  state : CtxState
  dir : Nat
  alg : Nat
  tagBytes : Nat
  template : Nat
  owner : Nat
  failDisp : Nat
  overlapS : Nat
  rate : Nat
  freshMs : Nat
  version : Nat
  eraAnchor : Nat
  activated : Nat
  classKey : List Byte
  handleA : Nat
  handleB : Nat
deriving DecidableEq, Repr

/-- LOAD of a key slot. -/
inductive SlotLoad where
  | empty
  | loaded
  | fenced
deriving DecidableEq, Repr

/-- The LOAD code of a key slot. -/
def SlotLoad.code : SlotLoad → Nat
  | .empty => 0
  | .loaded => 1
  | .fenced => 2

/-- A key slot: its head and MATERIAL, the expanded key (Key-slot entry). -/
structure Slot where
  load : SlotLoad
  alg : Nat
  keyBytes : Nat
  keyId : Nat
  salt : Nat
  fromSecond : Nat
  handle : Nat
  material : List Byte
deriving DecidableEq, Repr

/-- The empty context entry. -/
def CtxEntry.empty : CtxEntry :=
  ⟨.unconfigured, 0, 0, 0, 0, 0, 0, 0, 0, 0, 0, 0, 0, [], 0, 0⟩

/-- The empty key slot. -/
def Slot.empty : Slot := ⟨.empty, 0, 0, 0, 0, 0, 0, []⟩

/-- Inputs of KEY_GENERATE. -/
structure KeyGenArgs where
  type : Nat
  usage : Nat
  flags : Nat
  deriveMask : Nat
  label : List Byte
  hmacLen : Nat
deriving DecidableEq, Repr

/-- Inputs of KEY_IMPORT_SEALED. -/
structure KeyImportArgs where
  unwrapping : Nat
  blob : List Byte
  usage : Nat
deriving DecidableEq, Repr

/-- Inputs of KEY_UNWRAP. -/
structure KeyUnwrapArgs where
  unwrapping : Nat
  method : Nat
  wrapped : List Byte
  type : Nat
  usage : Nat
  flags : Nat
  label : List Byte
deriving DecidableEq, Repr

/-- Inputs of KEY_DERIVE. -/
structure KeyDeriveArgs where
  root : Nat
  profile : Nat
  kdfLabel : List Byte
  context : List Byte
  type : Nat
  length : Nat
  usage : Nat
  label : List Byte
deriving DecidableEq, Repr

/-- Inputs of CTX_CONFIG. -/
structure CtxConfigArgs where
  ctx : Nat
  dir : Nat
  alg : Nat
  tagBytes : Nat
  template : Nat
  failDisp : Nat
  overlapS : Nat
  rate : Nat
  freshMs : Nat
  classKey : List Byte
deriving DecidableEq, Repr

/-- Inputs of CTX_KEY_LOAD. -/
structure KeyLoadArgs where
  ctx : Nat
  slotB : Bool
  handle : Nat
  keyId : Nat
  salt : Nat
  fromSecond : Nat
deriving DecidableEq, Repr

/-- The commands that R64 places under quorum, with their inputs: the body of a SINGLE proposal or of a ceremony step. -/
inductive QCmd where
  | keyGenerate (a : KeyGenArgs)
  | keyImportSealed (a : KeyImportArgs)
  | keyUnwrap (a : KeyUnwrapArgs)
  | keyDerive (a : KeyDeriveArgs)
  | keySetUsage (handle usage flags : Nat)
  | keySetState (handle state : Nat)
  | keyDestroy (handle : Nat)
  | ctrCreate (initial limit : Nat) (label : List Byte)
  | ctrDestroy (handle : Nat)
  | ctxConfig (a : CtxConfigArgs)
  | ctxKeyLoad (a : KeyLoadArgs)
  | ctxKeyClear (ctx : Nat) (slotB : Bool)
  | ctxCommit (ctx : Nat)
  | ctxActivate (ctx : Nat)
  | ctxSuspend (ctx : Nat)
  | ctxResume (ctx : Nat)
  | ctxDrain (ctx : Nat)
  | sbKeystonePref (sp : SpanId)
  | sbSpanReset (sp : SpanId)
  | sbFwUpdate (digest : List Byte)
  | worldRestart (g : Nat)
deriving DecidableEq, Repr

/-- A subject with a VERSION that a proposal or a forwarded change records (R65, R262). -/
inductive Subject where
  | obj (handle : Nat)
  | ctr (handle : Nat)
  | ctx (n : Nat)
deriving DecidableEq, Repr

/-- The states of a proposal (R69). -/
inductive PropState where
  | opened
  | executing
  | approved
  | inCeremony
  | executed
  | failed
  | rejected
  | expired
  | withdrawn
  | stale
  | abandoned
deriving DecidableEq, Repr

/-- Whether a proposal state is final (R69). -/
def PropState.final : PropState → Bool
  | .executed | .failed | .rejected | .expired | .withdrawn | .stale | .abandoned => true
  | _ => false

/-- A vote on a proposal: the officer's index and key digest, and the verdict (R66, R68). -/
structure Vote where
  index : Nat
  keyDigest : List Byte
  approve : Bool
deriving DecidableEq, Repr

/-- What a proposal proposes: one command, or the opcodes and body digests of a ceremony's steps (R64). -/
inductive PropBody where
  | single (c : QCmd)
  | ceremony (steps : List (Nat × List Byte))
deriving DecidableEq, Repr

/-- A proposal record (R65 to R70). -/
structure Proposal where
  id : Nat
  owner : Nat
  body : PropBody
  proposer : Nat
  epoch : Nat
  tOpen : Nat
  tClose : Nat
  versions : List (Subject × Nat)
  pd : List Byte
  votes : List Vote
  state : PropState
  quorumAt : Nat
  closedAt : Nat
  status : Status
deriving DecidableEq, Repr

/-- One replicated effect on the vault, the contexts or the device (R261: a journal record of a change). -/
inductive Effect where
  | putObj (o : KeyObj)
  | dropObj (handle : Nat)
  | putCtr (c : CtrObj)
  | dropCtr (handle : Nat)
  | setSerial (owner next : Nat)
  /-- A new ORK of an owner with its m_n, both of 256 random bits (R169). -/
  | putOrk (owner : Nat) (key mn : List Byte)
  /-- Shadow-bank write of a context entry, with its classification entry (R116, R94). -/
  | shadowCtx (n : Nat) (e : CtxEntry)
  /-- Shadow-bank write of a key slot (R132, R134). -/
  | shadowSlot (n : Nat) (slotB : Bool) (sl : Slot)
  /-- Per-entry commit of a context's shadow writes (R18, R116). -/
  | commitCtx (n : Nat)
  /-- A context's state change with its own commit (R115, R116), with its ERA_ANCHOR and ACTIVATED when it activates. -/
  | ctxState (n : Nat) (st : CtxState) (anchor activated : Nat)
  /-- Promotion of slot B into slot A (R133). -/
  | promote (n : Nat)
  /-- The FENCE response for an object: object FENCED and its slots fenced (R134, R176). -/
  | fence (handle : Nat)
  /-- Zeroisation of the owners in a mask, bit n for owner n (R172). -/
  | zeroise (mask : Nat)
  | setPref (sp : SpanId)
  | restartGuest (g : Nat)
  | resetSpan (sp : SpanId)
  | fwUpdate (digest : List Byte)
deriving DecidableEq, Repr

/-- The PLANE codes of a slate. -/
inductive Plane where
  | data
  | control
  | management
  | device
deriving DecidableEq, Repr

/-- The PLANE code. -/
def Plane.code : Plane → Nat
  | .data => 1
  | .control => 2
  | .management => 3
  | .device => 4

/-- A slate before it is ordered: everything but SEQ, EPOCH and PREV_HASH. TIME is that of the record, or `time` for a slate of a
side segment, which keeps its own (R275 step 5). -/
structure SlateReq where
  time : Option Nat
  kind : Nat
  status : Status
  plane : Plane
  die : Die
  port : Nat
  fn : Nat
  owner : Nat
  officer : Nat
  session : Nat
  subject : Nat
  detail : List Byte
deriving DecidableEq, Repr

/-- A held ceremony lock: the owner (0 is the site lock), the holder's session (0 is the secure world), the proposal, the
deadline, the lease term in which it was taken, the steps done, the subjects that they name, the working set, and the slates that its steps write
when it is committed (R71 to R75, R139). -/
structure Lock where
  owner : Nat
  holder : Nat
  pid : Nat
  deadline : Nat
  term : Nat
  stepsDone : Nat
  named : List Subject
  working : List Effect
  slates : List SlateReq
deriving DecidableEq, Repr

/-- A slate (chapter Owners, Slate layout). -/
structure Slate where
  seq : Nat
  time : Nat
  epoch : Nat
  req : SlateReq
  prevHash : List Byte
deriving DecidableEq, Repr

/-- A context that a CONTEXT_MOVE passes at an epoch switch (R36 to R38): its new owner, and the slot B that the switch writes under
KEY_HANDOVER; none under KEYLESS. -/
structure CtxMove where
  n : Nat
  dest : Nat
  slotB : Option Slot
deriving DecidableEq, Repr

/-- What an epoch switch installs (R53): the epoch, the configuration, the resources whose role changes (R54), the ports for which the image
has a PORT scene, the contexts that move, and the new m_n of each owner with an ORK where PROTECTION changes (R170). -/
structure Adoption where
  epoch : Nat
  config : List Scene
  roles : List Resource
  ports : List Nat
  moves : List CtxMove
  mns : List (Nat × List Byte)
deriving DecidableEq, Repr

/-- One replicated change of a record, as it is applied. -/
inductive Delta where
  | eff (e : Effect)
  | openSession (s : Session)
  | closeSession (id : Nat)
  | sessionExport (id first : Nat)
  | putProp (p : Proposal)
  | dropProp (id : Nat)
  | propSerial (owner next : Nat)
  | lockTake (l : Lock)
  | lockRenew (owner deadline : Nat)
  | lockStep (owner : Nat) (named : List Subject) (effs : List Effect) (slates : List SlateReq)
  | lockFree (owner : Nat)
  | setStaged (s : Option Staged) (expired : Bool)
  | ackLog (seq : Nat)
  | setFormat (n : Nat)
  /-- The epoch switch, on a span that has not made it yet (R50, R53). -/
  | adopt (a : Adoption)
  | clearSticky (mask : Nat)
  /-- A slate that FLOOR mode counts in the counter of its kind group (R80). -/
  | coalesce (group : Nat)
  /-- The counters clear as their COALESCED slates are written (R80). -/
  | clearCoalesced
deriving DecidableEq, Repr

/-- The KIND codes of a change record. -/
inductive ChangeKind where
  | command
  | ceremonyEnd
  | device
  | epochSwitch
  | image
  | sideMerge
  | termStart
  | formatRaise
deriving DecidableEq, Repr

/-- The KIND code of a change record. -/
def ChangeKind.code : ChangeKind → Nat
  | .command => 1
  | .ceremonyEnd => 2
  | .device => 3
  | .epochSwitch => 4
  | .image => 5
  | .sideMerge => 6
  | .termStart => 7
  | .formatRaise => 8

/-- The commands that the keystone span decides when it orders them, on its own ordered state (R16, R262). -/
inductive KCmd where
  | sessionOpen (x : Session)
  | sessionClose (id reason : Nat)
  | propSubmit (owner : Nat) (body : PropBody) (sig : List Byte)
  | propVote (pid : Nat) (approve : Bool) (sig : List Byte)
  | propWithdraw (pid : Nat)
  | propExecute (pid : Nat)
  | cerBegin (pid : Nat)
  | cerRenew (lock : Nat)
  | cerStep (lock idx : Nat) (q : QCmd)
  | cerEnd (lock : Nat)
  | logExport (first : Nat)
  | logAck (seq : Nat) (hash : List Byte) (producer ackTime : Nat) (sig : List Byte)
  | ctrIncr (handle step : Nat)
  | sbStage (image : List Byte)
  | sbSign (e : SigEntry)
  | sbApply (t : Nat)
  | sbWithdraw (epoch : Nat)
  | errAck (mask : Nat)
deriving DecidableEq, Repr

/-- A prepared change (R262): what it does, its slates, the versions it read, and who is told when it is applied. -/
structure Change where
  id : Nat
  kind : ChangeKind
  origin : Die
  versions : List (Subject × Nat)
  deltas : List Delta
  slates : List SlateReq
  /-- The command that completes when the change is applied (R263), on the span that received it. -/
  caller : Option Caller
  status : Status
  fields : List (List Byte)
  /-- The command that the keystone span still has to decide, or decided to make the change. -/
  late : Option KCmd
  /-- The command does not complete when the change is applied, but when what it has begun ends. -/
  hold : Bool
  /-- The random bytes that the receiving span has drawn for the command; none until it has prepared the change (R262). -/
  rnd : Option (List Byte)
deriving DecidableEq, Repr

/-- A change on the device's own initiative on a span, of a kind. -/
def ownChange (kind : ChangeKind) (sp : SpanId) (deltas : List Delta) (slates : List SlateReq) : Change :=
  ⟨0, kind, .span sp, [], deltas, slates, none, .ok, [], none, false, none⟩

/-- A change that writes slates of a command, which completes with a status and fields when it is applied. -/
def replyChange (c : Caller) (slates : List SlateReq) (st : Status) (fields : List (List Byte)) : Change :=
  ⟨0, .command, .span c.span, [], [], slates, some c, st, fields, none, false, none⟩

/-- The change of a command whose decision the keystone span completes. -/
def lateChange (sp : SpanId) (c : Option Caller) (k : KCmd) : Change :=
  ⟨0, .command, .span sp, [], [], [], c, .ok, [], some k, false, none⟩

/-- A change record: the header fields and the change it carries (R261). -/
structure Record where
  csn : Nat
  term : Nat
  epoch : Nat
  time : Nat
  firstSeq : Nat
  committedThrough : Nat
  prevDigest : List Byte
  change : Change
deriving DecidableEq, Repr

/-- The span modes (R271). -/
inductive Mode where
  | joining
  | keystone
  | follower
  | solo
  | seeking
  | isolated
  | rejoining
deriving DecidableEq, Repr

/-- The MODE code of `CNT_STATE`. -/
def Mode.code : Mode → Nat
  | .joining => 0
  | .keystone => 1
  | .follower => 2
  | .solo => 3
  | .seeking => 4
  | .isolated => 5
  | .rejoining => 6

/-- What a HELLO carries (R275). -/
structure Hello where
  mode : Mode
  term : Nat
  csn : Nat
  digest : List Byte
  prepared : Nat
  sideCount : Nat
  fwVersion : Nat
  formatMin : Nat
  formatMax : Nat
deriving DecidableEq, Repr

/-- The deck messages (chapter Continuity, Ordering and durability while joined; R46, R49 and R50 for the last ones). -/
inductive DeckMsg where
  | hello (h : Hello)
  | forward (c : Change)
  | record (r : Record)
  | ack (csn : Nat)
  | commit (csn : Nat)
  | commitAck (csn : Nat)
  | result (id : Nat) (st : Status) (fields : List (List Byte))
  | renew (term sentAt : Nat)
  | vote (term sentAt : Nat)
  | time (sentAt : Nat)
  | digest (csn : Nat) (d : List Byte)
  | bucket (csn : Nat)
  | handover (term : Nat)
  | prepare (epoch tsw : Nat)
  | ready (epoch : Nat) (d : List Byte)
  /-- The answer to PREPARE of a span on which a feasibility check fails: the check and the scene-table index (R46, log entry 106). -/
  | infeasible (epoch check entry : Nat)
  | decision (epoch : Nat) (commit : Bool)
deriving DecidableEq, Repr

/-- Who reads or writes a control register (R7, R462 step 3): a core, the hub link, or a PCIe function. -/
inductive Master where
  | core (c : Nat)
  | hub
  | fn (n : Nat)
deriving DecidableEq, Repr

/-- A Pier core: core 0 to 5 of a span, or the supervisor core of the hub die. -/
inductive CoreId where
  | span (sp : SpanId) (c : Nat)
  | supervisor
deriving DecidableEq, Repr

/-- The interrupts of a Pier core (R355). -/
inductive Interrupt where
  | irq
  | virq
  | timer
deriving DecidableEq, Repr

/-- The SCHEME of KEY_SIGN and KEY_VERIFY (R192). -/
inductive Scheme where
  | ecdsa
  | eddsa
  | rsaPss (salt : Nat)
  | rsaPkcs1
  | mlDsa (context : List Byte)
deriving DecidableEq, Repr

/-- A telemetry update of the field controller (PWR registers): voltages in 10 mV, power in 10 mW, current in mA. -/
structure Telemetry where
  vaux : Nat
  vpoe : Nat
  vhold : Nat
  power : Nat
  current : Nat
  temp : Int
deriving DecidableEq, Repr

/-- The NOR areas in the order of R363. -/
inductive NorArea where
  | ident
  | status
  | calib
  | owner
  | side
  | reserved
  | firmware
  | guest
  | config
  | journal
  | objects
  | log
deriving DecidableEq, Repr

/-- The number of an area in the order of R363. -/
def NorArea.code : NorArea → Nat
  | .ident => 0
  | .status => 1
  | .calib => 2
  | .owner => 3
  | .side => 4
  | .reserved => 5
  | .firmware => 6
  | .guest => 7
  | .config => 8
  | .journal => 9
  | .objects => 10
  | .log => 11

/-- The byte address at which an area begins (R363). -/
def NorArea.base : NorArea → Nat
  | .ident => 0x0
  | .status => 0x10000
  | .calib => 0x30000
  | .owner => 0x40000
  | .side => 0xA0000
  | .reserved => 0x120000
  | .firmware => 0x200000
  | .guest => 0xA00000
  | .config => 0x1000000
  | .journal => 0x1800000
  | .objects => 0x2800000
  | .log => 0x4000000

/-- The size of an area in bytes (R363). -/
def NorArea.size : NorArea → Nat
  | .ident => 0x10000
  | .status => 0x20000
  | .calib => 0x10000
  | .owner => 0x60000
  | .side => 0x80000
  | .reserved => 0xE0000
  | .firmware => 0x800000
  | .guest => 0x600000
  | .config => 0x800000
  | .journal => 0x1000000
  | .objects => 0x1800000
  | .log => 0x4000000

/-- A fuse word as its three readings (R375): normal, low margin, high margin. -/
structure FuseWord where
  n : Nat
  norm : Nat
  low : Nat
  high : Nat
deriving DecidableEq, Repr

end Sys2Proof.Machine
end

