-- ==== Sys2Proof/Syntax.lean ====
section
/-!
DEFINITION. The commands of the block: one constructor per row of the opcode table, with the row's operands.
-/

namespace Sys2Proof

open Machine

/-- The commands, in the table's order. -/
inductive Instr where
  /-- REGISTER_WRITE (R5): A write to a register field that has no behaviour row of its own sets, clears or is ignored as its access code states. -/
  | registerWrite (sp : SpanId) (m : Master) (off : Nat) (v : Word32)
  /-- RC_READ (R5): A read of an RC register or field returns its current value and then clears it. -/
  | rcRead (sp : SpanId) (m : Master) (off : Nat)
  /-- LO_READ_SHADOW (R7): A read of the _LO half of a 64-bit pair copies the _HI half into the reader's shadow. -/
  | loReadShadow (sp : SpanId) (m : Master) (off : Nat)
  /-- LO_WRITE_HOLD (R7): A write of the _LO half of a 64-bit pair is held until the _HI half is written. -/
  | loWriteHold (sp : SpanId) (m : Master) (off : Nat) (v : Word32)
  /-- HI_WRITE_COMMIT (R7): A write of the _HI half of a 64-bit pair makes the whole 64-bit value take effect. -/
  | hiWriteCommit (sp : SpanId) (m : Master) (off : Nat) (v : Word32)
  /-- SB_STAGE (R43): A storyboard image is checked in order and staged, validated or left pending quorum. -/
  | sbStage (c : Caller) (image : List Byte)
  /-- SB_SIGN (R45): One signature entry is added to the staged image and quorum is evaluated again. -/
  | sbSign (c : Caller) (e : SigEntry)
  /-- SB_APPLY (R48): T_sw is fixed for an ON_COMMAND image and PREPARE begins. -/
  | sbApply (c : Caller) (t : Nat)
  /-- SB_WITHDRAW (R47): The staged image is discarded and its pins and holds are released. -/
  | sbWithdraw (c : Caller) (epoch : Nat)
  /-- SB_STATUS (R253): Returns the staging state, the epoch in force and the configuration digest. -/
  | sbStatus (c : Caller)
  /-- IMAGE_VALIDATED (R44): Both spans finish validating the image with equal digests, the image is marked validated, and PREPARE of an AT_TIME image begins. -/
  | imageValidated
  /-- APPROVAL_WINDOW_CLOSE (R45): The approval window closes without quorum and the staged image is discarded. -/
  | approvalWindowClose
  /-- PREPARE (R49): The other span receives PREPARE, builds its shadow banks, records PREPARED and answers READY. -/
  | prepare (sp : SpanId)
  /-- READY (R49): The keystone span receives READY and decides COMMIT or ABORT, records the decision and sends it. -/
  | ready (sp : SpanId)
  /-- DECISION (R49): The other span receives the decision for the prepared epoch. -/
  | decision (sp : SpanId)
  /-- DECIDE_DEADLINE (R49): T_sw minus 1 ms passes without READY and the keystone span decides ABORT. -/
  | decideDeadline (sp : SpanId)
  /-- DECISION_QUERY (R50): A prepared span without a decision at T_sw minus 500 us asks the witness and switches or stays. -/
  | decisionQuery (sp : SpanId)
  /-- EPOCH_TICK (R53): The time base reaches T_sw and every unit of the span adopts the new epoch, discarding uncommitted shadow writes. -/
  | epochTick (sp : SpanId)
  /-- OS_OPEN (R62): Issues a 32-byte challenge for a signer, unless the signer is locked out or sessions are exhausted. -/
  | osOpen (c : Caller) (who : Signer)
  /-- OS_PROVE (R61): Verifies the signed challenge with its binding and opens a session. -/
  | osProve (c : Caller) (challenge sig : List Byte)
  /-- OS_CLOSE (R63): Ends the named session. -/
  | osClose (c : Caller) (id : Nat)
  /-- SESSION_IDLE_TIMEOUT (R63): A session ends after 300 s without a command. -/
  | sessionIdleTimeout (id : Nat)
  /-- SESSION_AGE_LIMIT (R63): A session ends 8 h after it opened. -/
  | sessionAgeLimit (id : Nat)
  /-- PROP_SUBMIT (R65): Opens a proposal with its ID, versions and T_close and records the proposer's vote. -/
  | propSubmit (c : Caller) (owner : Nat) (body : PropBody) (sig : List Byte)
  /-- PROP_VOTE (R67): Records an officer's vote and evaluates quorum and rejection. -/
  | propVote (c : Caller) (pid : Nat) (approve : Bool) (sig : List Byte)
  /-- PROP_WITHDRAW (R69): The proposer withdraws an open or approved proposal. -/
  | propWithdraw (c : Caller) (pid : Nat)
  /-- PROP_STATUS (R69): Returns a proposal record, or lists the open proposals. -/
  | propStatus (c : Caller) (pid : Nat)
  /-- PROPOSAL_EXECUTE (R69): A SINGLE proposal at quorum is checked and its command runs under the owner's ceremony lock once the lock is free. -/
  | proposalExecute (pid : Nat)
  /-- PROPOSAL_LOCK_TIMEOUT (R69): A SINGLE execution still waiting for its lock 60 s after quorum closes with DEFERRED_TIMEOUT. -/
  | proposalLockTimeout (pid : Nat)
  /-- PROPOSAL_EXPIRY (R70): Keystone time reaches T_close and an open proposal closes as EXPIRED. -/
  | proposalExpiry (pid : Nat)
  /-- PROPOSAL_BEGIN_TIMEOUT (R69): An APPROVED ceremony proposal expires when 300 s pass without CER_BEGIN. -/
  | proposalBeginTimeout (pid : Nat)
  /-- PROPOSAL_RECORD_EXPIRY (R69): A final proposal record is dropped 24 h after it closed. -/
  | proposalRecordExpiry (pid : Nat)
  /-- CER_BEGIN (R71): An approving officer takes the ceremony lock with a 30 s lease. -/
  | cerBegin (c : Caller) (pid : Nat)
  /-- CER_RENEW (R71): The holder moves the lease deadline to its admission time plus 30 s. -/
  | cerRenew (c : Caller) (lock : Nat)
  /-- CER_STEP (R72): Executes the next approved step against the ceremony's working set. -/
  | cerStep (c : Caller) (lock idx : Nat) (q : QCmd)
  /-- CER_END (R73): Commits the working set through the journal and Continuity as one change. -/
  | cerEnd (c : Caller) (lock : Nat)
  /-- CEREMONY_LEASE_EXPIRY (R74): The lease deadline passes and the working set is discarded, the lock freed and the ceremony abandoned. -/
  | ceremonyLeaseExpiry (lock : Nat)
  /-- CHECKPOINT_PAIR (R78): After 4,094 slates or 60 s the keystone span writes a signed CHECKPOINT_R and CHECKPOINT_S pair. -/
  | checkpointPair
  /-- LOG_EXPORT (R467): Writes an EXPORT slate and enables reads for the session from a first SEQ. -/
  | logExport (c : Caller) (first : Nat)
  /-- LOG_READ (R467): Returns up to 512 slates with their commit words. -/
  | logRead (c : Caller) (first count : Nat)
  /-- LOG_ACK (R81): A producer acknowledges the log up to SEQ_ack, releasing sectors and queueing their erases. -/
  | logAck (c : Caller) (seq : Nat) (hash : List Byte) (producer ackTime : Nat) (sig : List Byte)
  /-- LOG_INFO (R253): Returns the head SEQ, the acknowledged SEQ, F, the log mode and the newest checkpoint. -/
  | logInfo (c : Caller)
  /-- FRAME_RECEIVED (R88): A whole frame arrives on a stream port and is admitted or refused. -/
  | frameReceived (sp : SpanId) (n : Nat) (f : List Byte) (cut : Bool)
  /-- FRAME_RETURN (R106): The oldest ready frame of a port is transmitted in arrival order and its cells are freed. -/
  | frameReturn (sp : SpanId) (n : Nat)
  /-- PAUSE_REPEAT (R107): While space stays below XON the port repeats its PAUSE every 1.6 ms or 16 ms. -/
  | pauseRepeat (sp : SpanId) (n : Nat)
  /-- PARTNER_PAUSE_EXPIRY (R108): The pause time named by a received PAUSE runs out and the transmit line restarts. -/
  | partnerPauseExpiry (sp : SpanId) (n : Nat)
  /-- PTP_TX_DOORBELL (R112): A write of the PTP transmit doorbell marks a slot busy for sending. -/
  | ptpTxDoorbell (sp : SpanId) (n slot : Nat)
  /-- PTP_FRAME_INSERT (R112): An inserted PTP frame is sent at the next frame boundary, and its timestamp and DONE are written. -/
  | ptpFrameInsert (sp : SpanId) (n : Nat)
  /-- LINK_CHANGE (R87): A stream port gains or loses link and the change is reported. -/
  | linkChange (sp : SpanId) (n : Nat) (lock hiBer : Bool)
  /-- TRAIN_TIMEOUT (R85): KR training does not complete within 500 ms and TRAIN_FAIL is set. -/
  | trainTimeout (sp : SpanId) (n : Nat)
  /-- TRAIN_RESTART (R85): Training restarts 1 s after a training timeout. -/
  | trainRestart (sp : SpanId) (n : Nat)
  /-- RETRAIN (R85): A write of RETRAIN restarts Clause 72 training. -/
  | retrain (sp : SpanId) (n : Nat)
  /-- BUF_RSV_WRITE (R104): A write of a port's reserved cells is ignored, applied at once or held until the pool has room. -/
  | bufRsvWrite (sp : SpanId) (n : Nat) (v : Word32)
  /-- BUF_RSV_RAISE_APPLY (R104): A held raise of a reservation takes effect once the pool holds enough free cells. -/
  | bufRsvRaiseApply (sp : SpanId) (n : Nat)
  /-- CLS_EM_READ (R92): Reads an active exact-match entry into the data registers. -/
  | clsEmRead (sp : SpanId)
  /-- CLS_EM_WRITE (R94): Writes the data registers into a shadow exact-match entry. -/
  | clsEmWrite (sp : SpanId)
  /-- CLS_EM_CLEAR (R94): Marks a shadow exact-match entry invalid. -/
  | clsEmClear (sp : SpanId)
  /-- CLS_COMMIT (R95): A write of GO commits the classification shadow writes, pending each port's frame boundary. -/
  | clsCommit (sp : SpanId)
  /-- PORT_BANK_ADOPT (R95): A port reaches a frame boundary and adopts the new active classification bank. -/
  | portBankAdopt (sp : SpanId) (n : Nat)
  /-- CTX_CONFIG (R117): Writes a context entry and its classification entry to the shadow bank. -/
  | ctxConfig (c : Caller) (a : CtxConfigArgs)
  /-- CTX_KEY_LOAD (R132): Loads a vault key object into a key slot of the shadow bank. -/
  | ctxKeyLoad (c : Caller) (a : KeyLoadArgs)
  /-- CTX_KEY_CLEAR (R134): Empties a key slot in the shadow bank. -/
  | ctxKeyClear (c : Caller) (ctx : Nat) (slotB : Bool)
  /-- CTX_COMMIT (R116): Commits the context's shadow writes to the active bank. -/
  | ctxCommit (c : Caller) (ctx : Nat)
  /-- CTX_ACTIVATE (R144): Makes a READY context ACTIVE, clearing its stream state and setting ERA_ANCHOR. -/
  | ctxActivate (c : Caller) (ctx : Nat)
  /-- CTX_SUSPEND (R115): Makes an ACTIVE context SUSPENDED. -/
  | ctxSuspend (c : Caller) (ctx : Nat)
  /-- CTX_RESUME (R115): Makes a SUSPENDED context ACTIVE. -/
  | ctxResume (c : Caller) (ctx : Nat)
  /-- CTX_DRAIN (R115): Removes the context's classification entry and makes it DRAINING. -/
  | ctxDrain (c : Caller) (ctx : Nat)
  /-- CTX_READ (R115): Returns the active context entry, both slot heads and the stream state. -/
  | ctxRead (c : Caller) (ctx : Nat)
  /-- CONTEXT_DRAINED (R115): A DRAINING context's reference count reaches zero and it becomes UNCONFIGURED. -/
  | contextDrained (n : Nat)
  /-- CONTEXT_PROMOTE (R133): Keystone time passes B.FROM_SECOND plus OVERLAP_S plus 1 s and slot B is promoted into slot A. -/
  | contextPromote (n : Nat)
  /-- STE_CTX_READ_ACTIVE (R113): Reads the active context entry into the entry window. -/
  | steCtxReadActive (sp : SpanId)
  /-- STE_CTX_WRITE_SHADOW (R116): Writes the entry window into the shadow context entry. -/
  | steCtxWriteShadow (sp : SpanId)
  /-- STE_CTX_READ_SHADOW (R116): Reads the shadow context entry into the entry window. -/
  | steCtxReadShadow (sp : SpanId)
  /-- STE_CTX_COMMIT (R116): Commits the shadow context entry to the active bank. -/
  | steCtxCommit (sp : SpanId)
  /-- STE_CTX_CLEAR_STATE (R114): Clears the stream state of a READY context. -/
  | steCtxClearState (sp : SpanId)
  /-- STE_KS_WRITE_SHADOW (R113): Writes a key-slot head and material from the data window into the shadow bank. -/
  | steKsWriteShadow (sp : SpanId)
  /-- STE_KS_CLEAR_SHADOW (R113): Empties a shadow key slot. -/
  | steKsClearShadow (sp : SpanId)
  /-- STE_KS_READ_HEAD (R113): Reads an active key-slot head into the head registers. -/
  | steKsReadHead (sp : SpanId)
  /-- TB_STEP (R157): A write of TB_STEP adds a signed step to the time at the next tick. -/
  | tbStep (sp : SpanId) (v : Word32)
  /-- TB_SET (R157): A write of TB_SET_SEC_HI loads the set registers into the time base at the next tick. -/
  | tbSet (sp : SpanId) (v : Word32)
  /-- TB_SLEW (R157): A write of TB_SLEW_TICKS starts a slew of TB_SLEW_NS spread over the given ticks. -/
  | tbSlew (sp : SpanId) (v : Word32)
  /-- SLEW_COMPLETE (R157): The slew total has been applied and the slew ends. -/
  | slewComplete (sp : SpanId)
  /-- TB_QUALIFY (R159): A write of QUALIFY sets QUALIFIED. -/
  | tbQualify (sp : SpanId)
  /-- TB_UNQUALIFY (R159): A write of UNQUALIFY clears QUALIFIED. -/
  | tbUnqualify (sp : SpanId)
  /-- TB_REF_LOST (R158): The time-base reference is lost and TBCLK runs from the internal oscillator. -/
  | tbRefLost (sp : SpanId)
  /-- TB_PEER_MEASURE (R160): Each millisecond the follower measures its offset from the time master and corrects it by slewing. -/
  | tbPeerMeasure (sp : SpanId)
  /-- UTC_OFFSET_CHANGE (R165): At the scheduled TAI second, TB_UTC_NEXT is copied into TB_UTC_OFFSET. -/
  | utcOffsetChange (sp : SpanId)
  /-- PPS_IN_EDGE (R164): A rising 1PPS input edge is timestamped. -/
  | ppsInEdge (sp : SpanId)
  /-- PPS_OUT_RISE (R164): The 1PPS output rises near a whole second. -/
  | ppsOutRise (sp : SpanId)
  /-- PPS_OUT_FALL (R164): The 1PPS output falls after TB_PPS_OUT_WIDTH ticks. -/
  | ppsOutFall (sp : SpanId)
  /-- KEY_GENERATE (R175): Generates a new key object. -/
  | keyGenerate (c : Caller) (a : KeyGenArgs)
  /-- KEY_IMPORT_SEALED (R180): Imports an object from a sealed blob. -/
  | keyImportSealed (c : Caller) (a : KeyImportArgs)
  /-- KEY_UNWRAP (R181): Unwraps a symmetric key by RFC 3394 or RFC 5649. -/
  | keyUnwrap (c : Caller) (a : KeyUnwrapArgs)
  /-- KEY_DERIVE (R182): Derives a symmetric key from an HMAC root. -/
  | keyDerive (c : Caller) (a : KeyDeriveArgs)
  /-- KEY_SET_USAGE (R175): Clears usage bits or EXPORTABLE of an object. -/
  | keySetUsage (c : Caller) (handle usage flags : Nat)
  /-- KEY_SET_STATE (R176): Makes an object ACTIVE or SUSPENDED. -/
  | keySetState (c : Caller) (handle st : Nat)
  /-- KEY_DESTROY (R186): Makes an object DRAINING on its way to destruction. -/
  | keyDestroy (c : Caller) (handle : Nat)
  /-- KEY_DESTROY_TIMEOUT (R186): The reference count has not reached zero within 1 s and KEY_DESTROY completes with DEFERRED_TIMEOUT. -/
  | keyDestroyTimeout (handle : Nat)
  /-- OBJECT_DESTROYED (R186): A DRAINING object's references reach zero on both spans and it is wiped and tombstoned. -/
  | objectDestroyed (handle : Nat)
  /-- CTR_CREATE (R188): Creates a monotonic counter with its first reservation. -/
  | ctrCreate (c : Caller) (initial limit : Nat) (label : List Byte)
  /-- CTR_DESTROY (R188): Destroys a counter object. -/
  | ctrDestroy (c : Caller) (handle : Nat)
  /-- KEY_SIGN (R192): Signs a digest or message with a key object. -/
  | keySign (c : Caller) (handle : Nat) (scheme : Scheme) (msg : List Byte)
  /-- KEY_VERIFY (R192): Verifies a signature under a stored or inline public key. -/
  | keyVerify (c : Caller) (handle type : Nat) (inlinePub : List Byte) (scheme : Scheme) (msg sig : List Byte)
  /-- KEY_AGREE (R192): Computes an X25519 or X448 shared secret. -/
  | keyAgree (c : Caller) (handle : Nat) (peer : List Byte)
  /-- KEY_ENCAP (R192): Performs ML-KEM encapsulation. -/
  | keyEncap (c : Caller) (handle type : Nat) (inlinePub : List Byte)
  /-- KEY_DECAP (R192): Performs ML-KEM decapsulation. -/
  | keyDecap (c : Caller) (handle : Nat) (ct : List Byte)
  /-- KEY_PUBLIC (R192): Returns an object's public key. -/
  | keyPublic (c : Caller) (handle : Nat)
  /-- KEY_INFO (R192): Returns an object's attribute head. -/
  | keyInfo (c : Caller) (handle : Nat)
  /-- KEY_LIST (R192): Lists up to 256 handles and their states. -/
  | keyList (c : Caller) (first count : Nat)
  /-- CTR_READ (R190): Returns a counter's VALUE and LIMIT. -/
  | ctrRead (c : Caller) (handle : Nat)
  /-- CTR_INCR (R189): Increments a counter by STEP, reserving a further block when needed. -/
  | ctrIncr (c : Caller) (handle step : Nat)
  /-- KEY_EXPORT_SEALED (R179): Exports an exportable object as a sealed blob. -/
  | keyExportSealed (c : Caller) (wrapping handle : Nat)
  /-- VAULT_JOB_DISPATCH (R198): A vault command waiting for big-number work starts as one job on the first free secure-world lane. -/
  | vaultJobDispatch (sp : SpanId)
  /-- BNE_CMD_PUSH (R201): A write of CMD3 pushes a lane command, which is queued or refused at issue with its job. -/
  | bneCmdPush (sp : SpanId) (k w0 w1 w2 w3 : Nat)
  /-- LANE_JOB_START (R209): A whole job is queued on an idle lane with completion room, random values are drawn and validation begins. -/
  | laneJobStart (sp : SpanId) (k : Nat)
  /-- JOB (R199): Opens a job with its REPEAT, RAND and tag. -/
  | job (sp : SpanId) (k : Nat)
  /-- VALIDATE (R203): Runs the fixed-time validation stage over four slots. -/
  | validate (sp : SpanId) (k : Nat)
  /-- LOAD (R199): Loads limbs from an address into a slot. -/
  | load (sp : SpanId) (k : Nat)
  /-- STORE (R207): Stages a slot for release, or compares it in the second run. -/
  | store (sp : SpanId) (k : Nat)
  /-- LOADG (R202): Loads a group descriptor, replacing it when the job passes. -/
  | loadg (sp : SpanId) (k : Nat)
  /-- MADD (R217): Modular addition. -/
  | madd (sp : SpanId) (k : Nat)
  /-- MSUB (R217): Modular subtraction. -/
  | msub (sp : SpanId) (k : Nat)
  /-- MMUL (R216): Montgomery product with correction. -/
  | mmul (sp : SpanId) (k : Nat)
  /-- MMAC (R218): Adds E products unreduced into the accumulator. -/
  | mmac (sp : SpanId) (k : Nat)
  /-- MRED (R223): Reduces a 2k-limb integer modulo p. -/
  | mred (sp : SpanId) (k : Nat)
  /-- MREDA (R221): Reduces the accumulator and clears it. -/
  | mreda (sp : SpanId) (k : Nat)
  /-- MINV (R224): Constant-time modular inverse. -/
  | minv (sp : SpanId) (k : Nat)
  /-- MEXP (R225): Modular exponentiation. -/
  | mexp (sp : SpanId) (k : Nat)
  /-- CONV_IN (R216): Converts into Montgomery form. -/
  | convIn (sp : SpanId) (k : Nat)
  /-- CONV_OUT (R216): Converts out of Montgomery form. -/
  | convOut (sp : SpanId) (k : Nat)
  /-- IMUL (R214): Full 2k-limb integer product. -/
  | imul (sp : SpanId) (k : Nat)
  /-- IADD (R214): Integer addition over 2k limbs. -/
  | iadd (sp : SpanId) (k : Nat)
  /-- ESMUL (R225): Weierstrass scalar multiplication. -/
  | esmul (sp : SpanId) (k : Nat)
  /-- DSMUL (R225): Weierstrass double scalar multiplication. -/
  | dsmul (sp : SpanId) (k : Nat)
  /-- EDMUL (R225): Edwards scalar multiplication. -/
  | edmul (sp : SpanId) (k : Nat)
  /-- XMUL (R225): Montgomery-curve x-only scalar multiplication. -/
  | xmul (sp : SpanId) (k : Nat)
  /-- PNTT (R229): Forward NTT of a polynomial. -/
  | pntt (sp : SpanId) (k : Nat)
  /-- PINTT (R229): Inverse NTT with scaling. -/
  | pintt (sp : SpanId) (k : Nat)
  /-- PMAC (R231): Pointwise multiply-accumulate in the NTT domain. -/
  | pmac (sp : SpanId) (k : Nat)
  /-- PADD (R230): Coefficient-wise polynomial addition. -/
  | padd (sp : SpanId) (k : Nat)
  /-- PSUB (R230): Coefficient-wise polynomial subtraction. -/
  | psub (sp : SpanId) (k : Nat)
  /-- PROUND (R232): Applies a FIPS 204 or FIPS 203 rounding function. -/
  | pround (sp : SpanId) (k : Nat)
  /-- PNORM (R230): Sets REJECT if a centred coefficient reaches the bound. -/
  | pnorm (sp : SpanId) (k : Nat)
  /-- PCODE (R199): Packs or unpacks a polynomial in a standard encoding. -/
  | pcode (sp : SpanId) (k : Nat)
  /-- XOF (R199): One SHAKE absorb or squeeze. -/
  | xof (sp : SpanId) (k : Nat)
  /-- SAMPLE (R199): Samples a polynomial from the XOF state. -/
  | sample (sp : SpanId) (k : Nat)
  /-- LOOP_MARK (R220): Marks the start of a rejection loop. -/
  | loopMark (sp : SpanId) (k : Nat)
  /-- LOOP_BACK (R220): Returns to the mark if REJECT is set, within its count. -/
  | loopBack (sp : SpanId) (k : Nat)
  /-- CMP (R199): Fixed-time comparison of limbs, setting RESULT. -/
  | cmp (sp : SpanId) (k : Nat)
  /-- LANE_ABORT (R209): A write of ABORT ends the running job at the next command boundary. For `k` from 8 on the memory of lane `k % 8` shows errors
instead (R208): an uncorrectable one for `k / 8 = 1`, else `k / 8 - 1` single-bit errors. -/
  | laneAbort (sp : SpanId) (k : Nat)
  /-- LANE_WIPE_DONE (R209): The 512-cycle wipe ends, the lane is IDLE and the completion is written. -/
  | laneWipeDone (sp : SpanId) (k : Nat)
  /-- LANE_COMPLETION_POP (R211): A read of CPL3 pops the head completion, releasing a HELD lane. -/
  | laneCompletionPop (sp : SpanId) (k : Nat)
  /-- SQ_DOORBELL (R241): A write of a new SQ tail is accepted or refused. -/
  | sqDoorbell (sp : SpanId) (fn queue v : Nat)
  /-- CQ_DOORBELL (R241): A write of a new CQ head releases completions or is refused. -/
  | cqDoorbell (sp : SpanId) (fn queue v : Nat)
  /-- DESCRIPTOR_FETCH (R242): The port fetches descriptors from an enabled queue when admission allows. -/
  | descriptorFetch (sp : SpanId) (g : Option Nat) (queue : Nat) (desc : List Byte) (input : Option (List Byte))
  /-- COMMAND_START (R244): A fetched descriptor whose input has been read starts, after barriers, and is checked. -/
  | commandStart (sp : SpanId) (g : Option Nat) (queue slot : Nat) (outFails cqFails : Bool)
  /-- DEFERRED_TIMEOUT (R248): A command waiting before execution reaches its deferral limit and completes without executing. -/
  | deferredTimeout (sp : SpanId) (g : Option Nat) (queue slot : Nat)
  /-- MSIX_AGG_TIMEOUT (R250): AGG_TIME passes since the oldest unsignalled completion and the vector is sent. -/
  | msixAggTimeout (sp : SpanId) (g : Option Nat) (queue : Nat)
  /-- HOST_CANCEL (R251): Cancels the in-flight descriptors of a queue with a CID. -/
  | hostCancel (sp : SpanId) (fn queue cid : Nat)
  /-- HOST_Q_ENABLE (R239): Setting ENABLE resets the queue pointers and phase and records the role epoch. -/
  | hostQEnable (sp : SpanId) (fn : Nat)
  /-- HOST_Q_DISABLE (R239): Clearing ENABLE drains the queue pair. -/
  | hostQDisable (sp : SpanId) (fn : Nat)
  /-- HOST_FN_QUEUES_WRITE (R240): A write of a function's queue assignment is applied or refused. -/
  | hostFnQueuesWrite (sp : SpanId) (n : Nat) (v : Word32)
  /-- FUNCTION_LEVEL_RESET (R255): An FLR stops the function's queues, discards or aborts its work and ends its sessions. -/
  | functionLevelReset (sp : SpanId) (fn : Nat)
  /-- VF_ENABLE_CLEAR (R255): VF Enable cleared acts as FLR of every VF. -/
  | vfEnableClear (sp : SpanId)
  /-- PCIE_RESET (R256): PERST, hot reset or link down acts as a PF FLR of the port. -/
  | pcieReset (sp : SpanId)
  /-- BUS_MASTER_RESTORE (R256): Bus Master Enable in D0 returns and held output, completion and interrupt writes are issued. -/
  | busMasterRestore (sp : SpanId) (fn : Nat)
  /-- HELLO (R275): A HELLO from the peer is received and the join or rejoin proceeds. -/
  | hello (sp : SpanId)
  /-- FORWARD (R262): The keystone span receives a prepared change, checks versions and orders a record. -/
  | forward (sp : SpanId)
  /-- REC (R263): The follower receives a change record, writes it and sends ACK. -/
  | recMsg (sp : SpanId)
  /-- ACK (R263): The keystone span receives ACK and, with its own write done, sends COMMIT. -/
  | ack (sp : SpanId)
  /-- COMMIT (R263): The follower receives COMMIT, applies the change and sends COMMIT_ACK. -/
  | commit (sp : SpanId)
  /-- COMMIT_ACK (R263): The keystone span applies the change and the command completes. -/
  | commitAck (sp : SpanId)
  /-- RESULT (R262): The follower receives the status of a forwarded change. -/
  | result (sp : SpanId)
  /-- RENEW (R266): A voter receives RENEW and answers VOTE if it has promised no later term. -/
  | renew (sp : SpanId) (voter : Die)
  /-- VOTE (R266): The keystone span receives a VOTE and extends its lease. -/
  | vote (sp : SpanId)
  /-- TIME (R160): A TIME offset measurement message is received. -/
  | timeMsg (sp : SpanId)
  /-- DIGEST (R276): State digests are compared at rejoin. -/
  | digestMsg (sp : SpanId)
  /-- BUCKET (R277): Differing buckets are received and applied during rejoin. -/
  | bucket (sp : SpanId)
  /-- HANDOVER (R270): The follower receives HANDOVER and becomes keystone and time master. -/
  | handover (sp : SpanId)
  /-- LEASE_RENEW_TIMER (R266): Every 100 ms the keystone span sends RENEW to both voters. -/
  | leaseRenewTimer (sp : SpanId)
  /-- LEASE_EXPIRY (R266): The lease runs out and the span stops ordering and acting as time master. -/
  | leaseExpiry (sp : SpanId)
  /-- TAKEOVER (R269): After the voter's promise runs out, a seeking span commits its prepared records and takes the lease. -/
  | takeover (sp : SpanId)
  /-- HANDOVER_START (R270): After 60 s joined with the preference naming the follower, the keystone span hands over. -/
  | handoverStart (sp : SpanId)
  /-- SOLO_RECORD_ACK (R272): The witness acknowledges a SOLO record and the keystone span commits it. -/
  | soloRecordAck (sp : SpanId)
  /-- DECK_HEARTBEAT (R259): An idle deck link sends a heartbeat every 10 us. -/
  | deckHeartbeat (link : Nat)
  /-- DECK_LINK_DOWN (R259): A deck link falls silent for 100 us and goes down; unacknowledged messages move to the other link. -/
  | deckLinkDown (link retrans silence : Nat)
  /-- DECK_RETRAIN (R259): A down deck link begins a retraining attempt every 10 ms. -/
  | deckRetrain (link : Nat)
  /-- DECK_LINK_UP (R259): A deck link completes training and comes up. -/
  | deckLinkUp (link : Nat)
  /-- PEER_LOST (R260): Both deck links have been down for 5 ms and the span changes mode. -/
  | peerLost (sp : SpanId)
  /-- REJOIN_RETRY (R277): 60 s after a failed rejoin the span tries again. -/
  | rejoinRetry (sp : SpanId)
  /-- SB_KEYSTONE_PREF (R270): Sets the keystone preference in force. -/
  | sbKeystonePref (c : Caller) (sp : SpanId)
  /-- SB_KEYSTONE_FORCE (R278): Producers force an isolated span to take the lease from the witness. -/
  | sbKeystoneForce (c : Caller) (sp : SpanId) (term csn t : Nat) (sigs : List (Nat × List Byte))
  /-- RAW_BLOCK_COMPLETE (R284): A source completes a 1,024-bit raw block, which is conditioned into the pool or discarded. -/
  | rawBlockComplete (sp : SpanId) (src : Nat) (block : List Byte)
  /-- SOURCE_STARTUP_DONE (R283): A source's 4,096-bit start-up test ends and it begins producing. -/
  | sourceStartupDone (sp : SpanId) (src : Nat)
  /-- SOURCE_TEST_FAIL (R286): A health test fails and the source is stopped and restarted. -/
  | sourceTestFail (sp : SpanId) (src test : Nat)
  /-- DRBG_GENERATE (R291): A DRBG request is served whole by a generate engine. -/
  | drbgGenerate (sp : SpanId) (inst n : Nat) (pr : Bool)
  /-- DRBG_RESEED (R290): An instance reseeds from a pool block at its scheduled point. -/
  | drbgReseed (sp : SpanId) (inst : Nat)
  /-- RNG_GET (R325): A guest obtains bytes from DRBG instance 2. -/
  | rngGet (c : Caller) (n : Nat)
  /-- RUSHES_CAPTURE_DONE (R294): The capture of 1,048,576 raw bits ends. -/
  | rushesCaptureDone (sp : SpanId) (bits : List Byte)
  /-- TAMPER_EVENT (R301): A counting source detects an event and adds it to its filter count. -/
  | tamperEvent (n : Nat)
  /-- FILTER_BUCKET_ADVANCE (R301): A filter moves to its next WINDOW/16 bucket. -/
  | filterBucketAdvance (n : Nat)
  /-- TEMP_CONVERSION (R300): A temperature conversion runs every 1 ms. -/
  | tempConversion (k code : Nat)
  /-- UNTRIMMED_SENSOR_TICK (R300): An untrimmed sensor produces one event per second. -/
  | untrimmedSensorTick (n : Nat)
  /-- CLOCK_MEASURE (R301): A 1 ms clock measurement against the AON oscillator completes. -/
  | clockMeasure (k : Nat) (counts : List Nat)
  /-- TMP_SELFTEST (R310): Stimulates one counting source with its response suppressed. -/
  | tmpSelftest (c : Caller) (source : Nat)
  /-- SELFTEST_END (R311): The stimulus ends, the detector is sampled again and the result is recorded. -/
  | selftestEnd (persist : Bool)
  /-- TMP_ACK (R312): Clears the ALARM bits of quiet sources. -/
  | tmpAck (c : Caller) (mask : Nat)
  /-- VBAK_LOSS (R309): VBAK falls below 2.4 V. -/
  | vbakLoss
  /-- TAKE_SLOT_START (R318): A take slot begins and the Keeper switches the core to its guest. -/
  | takeSlotStart (sp : SpanId) (core : Nat)
  /-- HC_INFO (R323): Returns the guest's number, memory, lanes and epoch. -/
  | hcInfo (sp : SpanId) (core : Nat)
  /-- HC_YIELD (R317): Leaves the rest of the take idle. -/
  | hcYield (sp : SpanId) (core : Nat)
  /-- HC_TIMER (R323): Sets or cancels the guest's timer deadline. -/
  | hcTimer (sp : SpanId) (core : Nat)
  /-- HC_TIMER_FIRE (R323): The guest's timer deadline passes and VIRQ 0 is raised. -/
  | hcTimerFire (sp : SpanId) (g : Nat)
  /-- HC_IRQ (R323): Masks, unmasks or acknowledges a virtual interrupt. -/
  | hcIrq (sp : SpanId) (core : Nat)
  /-- HC_WDT_KICK (R328): Restarts the guest watchdog. -/
  | hcWdtKick (sp : SpanId) (core : Nat)
  /-- HC_VC_CONFIG (R324): Configures, enables or disables a vault-call queue pair. -/
  | hcVcConfig (sp : SpanId) (core : Nat)
  /-- HC_VC_CANCEL (R324): Cancels vault calls of a queue with a CID. -/
  | hcVcCancel (sp : SpanId) (core : Nat)
  /-- HC_UNIT (R330): Requests clock-gating, power-down or restore of a lane or SerDes. -/
  | hcUnit (sp : SpanId) (core : Nat)
  /-- HC_TIME (R323): Returns the time base and QUALIFIED. -/
  | hcTime (sp : SpanId) (core : Nat)
  /-- UNIT_GATE_GRANT (R330): A requested lane becomes idle and is gated. -/
  | unitGateGrant (sp : SpanId) (unit : Nat)
  /-- UNIT_REQUEST_TIMEOUT (R330): The HC_UNIT limit passes before the grant. -/
  | unitRequestTimeout (sp : SpanId) (g core : Nat)
  /-- UNIT_POWER_RESTORED (R330): Power returns to a unit 200 us after ON, with lane memory wiped. -/
  | unitPowerRestored (sp : SpanId) (unit : Nat)
  /-- KPR_VC_DB (R324): A guest writes a vault-call SQ tail or CQ head. -/
  | kprVcDb (sp : SpanId) (core : Nat) (v : Word32)
  /-- KPR_SWDT_KICK (R326): Restarts a secure-core watchdog. -/
  | kprSwdtKick (sp : SpanId) (core : Nat)
  /-- SWDT_EXPIRY (R326): A secure watchdog expires and source 0x470's policy applies. -/
  | swdtExpiry (sp : SpanId) (core : Nat)
  /-- GUEST_WDT_HALF (R328): Half the guest watchdog period passes without a kick and VIRQ 16 is raised. -/
  | guestWdtHalf (sp : SpanId) (g : Nat)
  /-- GUEST_WDT_EXPIRY (R328): The guest watchdog expires and source 0x480 + g reports. -/
  | guestWdtExpiry (sp : SpanId) (g : Nat)
  /-- WORLD_RESTART (R329): Restarts a normal guest on both spans under quorum. -/
  | worldRestart (c : Caller) (g : Nat)
  /-- GUEST_IMAGE_LOADED (R329): The guest image is loaded and checked and the guest runs or halts. -/
  | guestImageLoaded (sp : SpanId) (g : Nat) (digest : List Byte)
  /-- GATE_FLIP (R335): A write of FLIP makes both gates' shadow banks active. -/
  | gateFlip (sp : SpanId) (core : Nat)
  /-- GATE_WR_WRITE (R335): Writes the data words into a shadow slot or region. -/
  | gateWrWrite (sp : SpanId) (core : Nat)
  /-- GATE_WR_CLEAR (R335): Empties a shadow slot or region. -/
  | gateWrClear (sp : SpanId) (core : Nat)
  /-- ADD (R349): Integer addition. -/
  | add (p : CoreId) (rd rs1 rs2 : BitVec 5)
  /-- SUB (R349): Integer subtraction. -/
  | sub (p : CoreId) (rd rs1 rs2 : BitVec 5)
  /-- AND (R349): Bitwise AND. -/
  | andOp (p : CoreId) (rd rs1 rs2 : BitVec 5)
  /-- OR (R349): Bitwise OR. -/
  | orOp (p : CoreId) (rd rs1 rs2 : BitVec 5)
  /-- XOR (R349): Bitwise XOR. -/
  | xorOp (p : CoreId) (rd rs1 rs2 : BitVec 5)
  /-- ANDN (R349): rs1 AND NOT rs2. -/
  | andn (p : CoreId) (rd rs1 rs2 : BitVec 5)
  /-- SHL (R349): Shift left. -/
  | shl (p : CoreId) (rd rs1 rs2 : BitVec 5)
  /-- SHR (R349): Logical shift right. -/
  | shr (p : CoreId) (rd rs1 rs2 : BitVec 5)
  /-- SAR (R349): Arithmetic shift right. -/
  | sar (p : CoreId) (rd rs1 rs2 : BitVec 5)
  /-- CMPEQ (R349): Compare equal. -/
  | cmpeq (p : CoreId) (rd rs1 rs2 : BitVec 5)
  /-- CMPLT (R349): Signed compare less than. -/
  | cmplt (p : CoreId) (rd rs1 rs2 : BitVec 5)
  /-- CMPLTU (R349): Unsigned compare less than. -/
  | cmpltu (p : CoreId) (rd rs1 rs2 : BitVec 5)
  /-- MIN (R349): Signed minimum. -/
  | minOp (p : CoreId) (rd rs1 rs2 : BitVec 5)
  /-- MINU (R349): Unsigned minimum. -/
  | minu (p : CoreId) (rd rs1 rs2 : BitVec 5)
  /-- MAX (R349): Signed maximum. -/
  | maxOp (p : CoreId) (rd rs1 rs2 : BitVec 5)
  /-- MAXU (R349): Unsigned maximum. -/
  | maxu (p : CoreId) (rd rs1 rs2 : BitVec 5)
  /-- MUL (R349): Low 64 bits of the product. -/
  | mul (p : CoreId) (rd rs1 rs2 : BitVec 5)
  /-- MULHS (R349): High 64 bits of the signed product. -/
  | mulhs (p : CoreId) (rd rs1 rs2 : BitVec 5)
  /-- MULHU (R349): High 64 bits of the unsigned product. -/
  | mulhu (p : CoreId) (rd rs1 rs2 : BitVec 5)
  /-- QUO (R349): Signed quotient towards zero. -/
  | quo (p : CoreId) (rd rs1 rs2 : BitVec 5)
  /-- QUOU (R349): Unsigned quotient. -/
  | quou (p : CoreId) (rd rs1 rs2 : BitVec 5)
  /-- MOD (R349): Signed remainder. -/
  | modOp (p : CoreId) (rd rs1 rs2 : BitVec 5)
  /-- MODU (R349): Unsigned remainder. -/
  | modu (p : CoreId) (rd rs1 rs2 : BitVec 5)
  /-- ADD32 (R349): 32-bit addition, sign-extended. -/
  | add32 (p : CoreId) (rd rs1 rs2 : BitVec 5)
  /-- SUB32 (R349): 32-bit subtraction, sign-extended. -/
  | sub32 (p : CoreId) (rd rs1 rs2 : BitVec 5)
  /-- ADDK (R349): Add a sign-extended immediate. -/
  | addk (p : CoreId) (rd rs1 : BitVec 5) (imm : BitVec 16)
  /-- ANDK (R349): AND with a zero-extended immediate. -/
  | andk (p : CoreId) (rd rs1 : BitVec 5) (imm : BitVec 16)
  /-- ORK (R349): OR with a zero-extended immediate. -/
  | ork (p : CoreId) (rd rs1 : BitVec 5) (imm : BitVec 16)
  /-- XORK (R349): XOR with a zero-extended immediate. -/
  | xork (p : CoreId) (rd rs1 : BitVec 5) (imm : BitVec 16)
  /-- CMPLTK (R349): Signed compare with an immediate. -/
  | cmpltk (p : CoreId) (rd rs1 : BitVec 5) (imm : BitVec 16)
  /-- CMPLTUK (R349): Unsigned compare with an immediate. -/
  | cmpltuk (p : CoreId) (rd rs1 : BitVec 5) (imm : BitVec 16)
  /-- SHLK (R349): Shift left by an immediate. -/
  | shlk (p : CoreId) (rd rs1 : BitVec 5) (sh : BitVec 6)
  /-- SHRK (R349): Logical shift right by an immediate. -/
  | shrk (p : CoreId) (rd rs1 : BitVec 5) (sh : BitVec 6)
  /-- SARK (R349): Arithmetic shift right by an immediate. -/
  | sark (p : CoreId) (rd rs1 : BitVec 5) (sh : BitVec 6)
  /-- HIK (R349): Loads an immediate into bits [63:16]. -/
  | hik (p : CoreId) (rd : BitVec 5) (imm : BitVec 21)
  /-- PCK (R349): PC plus an immediate shifted by 16. -/
  | pck (p : CoreId) (rd : BitVec 5) (imm : BitVec 21)
  /-- LD64 (R349): Loads 64 bits. -/
  | ld64 (p : CoreId) (rd rs1 : BitVec 5) (imm : BitVec 16)
  /-- LD32S (R349): Loads 32 bits sign-extended. -/
  | ld32s (p : CoreId) (rd rs1 : BitVec 5) (imm : BitVec 16)
  /-- LD32U (R349): Loads 32 bits zero-extended. -/
  | ld32u (p : CoreId) (rd rs1 : BitVec 5) (imm : BitVec 16)
  /-- LD16S (R349): Loads 16 bits sign-extended. -/
  | ld16s (p : CoreId) (rd rs1 : BitVec 5) (imm : BitVec 16)
  /-- LD16U (R349): Loads 16 bits zero-extended. -/
  | ld16u (p : CoreId) (rd rs1 : BitVec 5) (imm : BitVec 16)
  /-- LD8S (R349): Loads 8 bits sign-extended. -/
  | ld8s (p : CoreId) (rd rs1 : BitVec 5) (imm : BitVec 16)
  /-- LD8U (R349): Loads 8 bits zero-extended. -/
  | ld8u (p : CoreId) (rd rs1 : BitVec 5) (imm : BitVec 16)
  /-- ST64 (R349): Stores 64 bits. -/
  | st64 (p : CoreId) (rd rs1 : BitVec 5) (imm : BitVec 16)
  /-- ST32 (R349): Stores 32 bits. -/
  | st32 (p : CoreId) (rd rs1 : BitVec 5) (imm : BitVec 16)
  /-- ST16 (R349): Stores 16 bits. -/
  | st16 (p : CoreId) (rd rs1 : BitVec 5) (imm : BitVec 16)
  /-- ST8 (R349): Stores 8 bits. -/
  | st8 (p : CoreId) (rd rs1 : BitVec 5) (imm : BitVec 16)
  /-- BREQ (R349): Branch if equal. -/
  | breq (p : CoreId) (rs1 rs2 : BitVec 5) (off : BitVec 16)
  /-- BRNE (R349): Branch if not equal. -/
  | brne (p : CoreId) (rs1 rs2 : BitVec 5) (off : BitVec 16)
  /-- BRLT (R349): Branch if signed less than. -/
  | brlt (p : CoreId) (rs1 rs2 : BitVec 5) (off : BitVec 16)
  /-- BRGE (R349): Branch if signed greater or equal. -/
  | brge (p : CoreId) (rs1 rs2 : BitVec 5) (off : BitVec 16)
  /-- BRLTU (R349): Branch if unsigned less than. -/
  | brltu (p : CoreId) (rs1 rs2 : BitVec 5) (off : BitVec 16)
  /-- BRGEU (R349): Branch if unsigned greater or equal. -/
  | brgeu (p : CoreId) (rs1 rs2 : BitVec 5) (off : BitVec 16)
  /-- JMP (R349): PC-relative jump. -/
  | jmp (p : CoreId) (off : BitVec 26)
  /-- CALL (R342): Calls a PC-relative target, moving the window up by 10. -/
  | call (p : CoreId) (off : BitVec 26)
  /-- CALLR (R342): Calls the address in a register. -/
  | callr (p : CoreId) (rs1 : BitVec 5)
  /-- RET (R342): Returns, moving the window down by 10. -/
  | ret (p : CoreId) (rs1 : BitVec 5)
  /-- JMPR (R349): Branches to a register with no window change. -/
  | jmpr (p : CoreId) (rs1 : BitVec 5)
  /-- BFX (R350): Extracts a bit field. -/
  | bfx (p : CoreId) (rd rs1 : BitVec 5) (pos wm1 : BitVec 6)
  /-- BFXS (R350): Extracts a sign-extended bit field. -/
  | bfxs (p : CoreId) (rd rs1 : BitVec 5) (pos wm1 : BitVec 6)
  /-- BFI (R350): Inserts a bit field. -/
  | bfi (p : CoreId) (rd rs1 : BitVec 5) (pos wm1 : BitVec 6)
  /-- CLZ (R351): Counts leading zeros of 64 bits. -/
  | clz (p : CoreId) (rd rs1 : BitVec 5)
  /-- CLZW (R351): Counts leading zeros of 32 bits. -/
  | clzw (p : CoreId) (rd rs1 : BitVec 5)
  /-- BPRM (R352): Permutes bytes by nibble selectors. -/
  | bprm (p : CoreId) (rd rs1 rs2 : BitVec 5)
  /-- WFE (R353): Clears EV or sleeps until an event or interrupt. -/
  | wfe (p : CoreId)
  /-- WFE_WAKE (R353): A sleeping WFE wakes on EV or a takeable interrupt. -/
  | wfeWake (p : CoreId)
  /-- SEV (R353): Sets EV on every core of the event set. -/
  | sev (p : CoreId)
  /-- WAITC (R354): Waits for a counter in memory to reach a target, within a timeout. -/
  | waitc (p : CoreId) (rd rs1 rs2 : BitVec 5)
  /-- WAITC_WAKE (R354): A sleeping WAITC wakes and reads its counter again. -/
  | waitcWake (p : CoreId)
  /-- SCALL (R355): Takes an SCALL exception to kernel. -/
  | scall (p : CoreId) (n : BitVec 12)
  /-- HCALL (R355): Takes an HCALL exception to the hypervisor. -/
  | hcall (p : CoreId)
  /-- TRET (R357): Returns from a trap, restoring PC, PSR and window. -/
  | tret (p : CoreId)
  /-- MFSR (R339): Reads a special register. -/
  | mfsr (p : CoreId) (rd : BitVec 5) (n : BitVec 12)
  /-- MTSR (R339): Writes a special register. -/
  | mtsr (p : CoreId) (n : BitVec 12) (rs1 : BitVec 5)
  /-- MFW (R356): Reads a register of the interrupted window. -/
  | mfw (p : CoreId) (rd : BitVec 5) (n : BitVec 12)
  /-- MTW (R356): Writes a register of the interrupted window. -/
  | mtw (p : CoreId) (n : BitVec 12) (rs1 : BitVec 5)
  /-- FENCE (R349): Orders earlier loads and stores before later ones. -/
  | fence (p : CoreId)
  /-- INTERRUPT_TAKEN (R355): An interrupt becomes takeable and is taken at its level. -/
  | interruptTaken (p : CoreId) (n : Interrupt)
  /-- HTCMP_TIMER (R355): CYC reaches HTCMP and a TIMER exception is raised to the hypervisor. -/
  | htcmpTimer (p : CoreId)
  /-- PIER_CORE_RESTART (R358): A write of RESTART clears DFAULT and starts the core at its reset vector. -/
  | pierCoreRestart (sp : SpanId) (m : Master) (core : Nat)
  /-- NOR_PROGRAM_DONE (R365): A page program completes and reads back. -/
  | norProgramDone (sp : SpanId) (ok : Bool)
  /-- NOR_ERASE_DONE (R368): A sector erase completes, is margin-read and its ERASE_DONE is committed. -/
  | norEraseDone (sp : SpanId) (bad : Nat)
  /-- FLUSH_LATE (R387): FLUSHED is not set within 2.5 ms of the warning. -/
  | flushLate (sp : SpanId)
  /-- SUPERSEDED_RECLAIM (R373): Live records are copied forward and a fully superseded sector is erased. -/
  | supersededReclaim (sp : SpanId) (area : NorArea) (sector : Nat)
  /-- FUSE_READ (R375): Reads one fuse word at normal and both margins. -/
  | fuseRead (sp : SpanId)
  /-- FUSE_SCAN (R375): Scans every fuse word at both margins. -/
  | fuseScan (sp : SpanId) (changed : List FuseWord)
  /-- FUSE_SCAN_PERIODIC (R375): A scan falls due after 24 h or a 10 degree temperature change. -/
  | fuseScanPeriodic (sp : SpanId) (changed : List FuseWord)
  /-- LC_CHALLENGE (R380): Returns a 32-byte life-cycle challenge. -/
  | lcChallenge (c : Caller)
  /-- LC_TRANSITION (R381): Advances the life cycle by one state under signature. -/
  | lcTransition (c : Caller) (req : List Byte)
  /-- DBG_PRESENT (R384): Presents a debug certificate to the monitor session. -/
  | dbgPresent (c : Caller) (cert : List Byte)
  /-- SYSREF_LOST (R388): SYSREF is lost and the PLLs switch to the internal oscillator. -/
  | sysrefLost (d : Die)
  /-- SYSREF_RESTORED (R388): SYSREF has been in limits for 100 ms and the PLLs return to it. -/
  | sysrefRestored (d : Die)
  /-- PCIE_REFCLK_LOST (R389): The PCIe reference is lost and the host link goes down. -/
  | pcieRefclkLost (sp : SpanId)
  /-- SERDES_LOCK_FAIL (R389): A SerDes PLL cannot lock and its stream port's link goes down. -/
  | serdesLockFail (sp : SpanId) (n : Nat)
  /-- QUEUE_POP (R397): A write of POP pops a register-read standard queue, with underrun or lap handling. -/
  | queuePop (sp : SpanId)
  /-- REPORT_INTAKE (R408): The hub queues one pending report per FCLK cycle within the source's quota. -/
  | reportIntake (sp : SpanId)
  /-- QUOTA_WINDOW_ROLL (R408): A 1 ms report window ends and every source's quota resets. -/
  | quotaWindowRoll (d : Die)
  /-- HUB_REPORT_ARRIVAL (R410): A report from a hub-die source arrives over the hub link. -/
  | hubReportArrival (sp : SpanId)
  /-- REPORT_DRAIN (R414): At least every 1 ms the secure world pops the report queue into its ring. -/
  | reportDrain (sp : SpanId)
  /-- ERR_READ (R414): Reads reports from the ring from the caller's E. -/
  | errRead (c : Caller) (sp : SpanId) (e count : Nat)
  /-- ERR_ACK (R415): Clears the named sticky class bits on both spans. -/
  | errAck (c : Caller) (mask : Nat)
  /-- POE_CLASSIFICATION (R421): At PSE detection the class straps are read and the class is assigned. -/
  | poeClassification (straps granted : Nat)
  /-- HOLD_CHARGED (R422): HOLD reaches 35.0 V and the converter starts. -/
  | holdCharged
  /-- UVLO (R422): HOLD falls below 28.0 V and the converter stops. -/
  | uvlo
  /-- INPUT_SOURCE_CHANGE (R423): The ideal diodes change the supplying input. -/
  | inputSourceChange (source : Nat)
  /-- PFW_ASSERT (R427): V_IN falls below the warning threshold and the power-fail warning is asserted. -/
  | pfwAssert
  /-- PFW_RELEASE (R427): V_IN has stayed above the release threshold for 100 ms and the warning is released. -/
  | pfwRelease
  /-- PWR_TELEMETRY (R425): A 1 ms telemetry update arrives and the available tier is evaluated. -/
  | pwrTelemetry (t : Telemetry)
  /-- SUPERVISOR_START (R435): The supervisor leaves reset, runs its ROM and loads its SUPERVISOR section. -/
  | supervisorStart (vbakOk : Bool)
  /-- SPAN_BOOT (R437): A span boots from ROM through replay, vault opening, join and port enable. -/
  | spanBoot (sp : SpanId) (half : Nat) (changed : List FuseWord)
  /-- JOIN_TIMEOUT (R442): No peer HELLO arrives within 2 s and the span requests the lease from the witness alone. -/
  | joinTimeout (sp : SpanId)
  /-- MODULE_RESET (R444): MOD_RESET_N held low flushes both spans and applies POR. -/
  | moduleReset
  /-- SPAN_RESET (R443): A span takes a SPAN reset. -/
  | spanReset (sp : SpanId)
  /-- BLOCK_RESET (R443): A write of HUB_BLOCK_RST resets the named blocks' register interfaces. -/
  | blockReset (sp : SpanId) (mask : Nat)
  /-- SB_SPAN_RESET (R443): Orders a span reset under producer quorum. -/
  | sbSpanReset (c : Caller) (sp : SpanId)
  /-- SB_FW_STAGE (R448): Checks a firmware image and writes it to both inactive banks. -/
  | sbFwStage (c : Caller) (image : List Byte)
  /-- FW_BANK_VERIFIED (R448): Both inactive banks are programmed and verified, and SB_FW_STAGE completes. -/
  | fwBankVerified (okA okB : Bool)
  /-- SB_FW_UPDATE (R449): Starts the hitless update of the follower's trial bank. -/
  | sbFwUpdate (c : Caller) (digest : List Byte)
  /-- FW_UPDATE_STEP_ADVANCE (R449): A span updated in turn reaches FOLLOWER and the update moves to its next step. -/
  | fwUpdateStepAdvance
  /-- FW_UPDATE_TIMEOUT (R450): A span has not reached FOLLOWER within 300 s and the update fails. -/
  | fwUpdateTimeout
  /-- MON_HELLO (R452): Opens a monitor session with a challenge. -/
  | monHello
  /-- MON_BYE (R453): Ends the monitor session. -/
  | monBye
  /-- MON_BAUD (R451): Selects a new UART rate. -/
  | monBaud (rate : Nat)
  /-- MON_BAUD_APPLY (R451): The new rate applies 10 ms after the OK. -/
  | monBaudApply
  /-- MON_BREAK (R451): A break or framing-error burst ends the session and restores 115,200 baud. -/
  | monBreak (framing : Bool)
  /-- MON_SESSION_EXPIRY (R453): The session ends after 600 s idle or at NOT_AFTER. -/
  | monSessionExpiry
  /-- MON_INFO (R455): Returns states, firmware versions, span modes and epoch. -/
  | monInfo
  /-- MON_SRC (R455): Returns a source's counter and information. -/
  | monSrc (sp : SpanId) (source : Nat)
  /-- MON_MEM (R456): Reads guest memory through stage-2 as world 0x3D. -/
  | monMem (sp : SpanId) (g ipa len : Nat)
  /-- MON_HALT (R457): Requests a halt of a guest's virtual core. -/
  | monHalt (sp : SpanId) (core : Nat)
  /-- MON_HALT_EFFECT (R457): The halt takes effect at an instruction boundary in the guest's take. -/
  | monHaltEffect (sp : SpanId) (core : Nat)
  /-- MON_STEP (R457): Retires n instructions of a halted virtual core. -/
  | monStep (sp : SpanId) (core n : Nat)
  /-- MON_GO (R457): Resumes a halted virtual core. -/
  | monGo (sp : SpanId) (core : Nat)
  /-- MON_REGS (R457): Returns the registers of a halted virtual core. -/
  | monRegs (sp : SpanId) (core : Nat)
  /-- MON_TRACE (R458): Reads a core's trace ring as a dual-clock standard queue. -/
  | monTrace (sp : SpanId) (core first count : Nat)
  /-- MON_FUSE (R455): Returns the three readings of a fuse word. -/
  | monFuse (sp : SpanId) (word : Nat)
  /-- MON_FPROG (R377): Programs a fuse word in BLANK or TESTED. -/
  | monFprog (sp : SpanId) (word v : Nat)
  /-- MON_RUSHES_ON (R294): Enters rushes mode on a span and starts the capture. -/
  | monRushesOn (sp : SpanId) (source : Nat)
  /-- MON_RUSHES_OFF (R295): Leaves rushes mode, wiping the capture and reinstantiating the DRBGs. -/
  | monRushesOff (sp : SpanId)
  /-- MON_RUSHES_READ (R455): Reads bytes of the rushes capture. -/
  | monRushesRead (sp : SpanId) (off len : Nat)
  /-- HUB_LINK_DOWN (R281): A span's hub link falls silent for 100 us; WITNESS_LOST is raised and TMP accesses return zero. -/
  | hubLinkDown (sp : SpanId)
  /-- HUB_LINK_UP (R462): A span's hub link returns; the witness becomes reachable directly and TMP accesses are forwarded again. -/
  | hubLinkUp (sp : SpanId)
  /-- AON_LOSS (R171): VBAK and the logic supplies are absent together; the always-on domain clears and the hub marks the anchor words invalid. -/
  | aonLoss
  /-- TLS_CONNECTION_RESET (R63): A management-service TLS connection closes or resets and every session bound to it ends with reason TRANSPORT. -/
  | tlsConnectionReset (conn : Nat)
  /-- FUSE_PROGRAM_DONE (R377): A fuse program and its margin read-back end, and a fuse scan that was waiting for it starts. -/
  | fuseProgramDone (sp : SpanId) (norm low high : Nat)
  /-- TAKE_SLOT_END (R317): The last take slot of a cycle ends and the core idles in WFE until the next cycle starts. -/
  | takeSlotEnd (sp : SpanId) (core : Nat)
  /-- INPUT_SAMPLE (R299): On each sample interval the case inputs and loop SNS lands are sampled, and an input re-arms after two samples at its normal level. -/
  | inputSample (cases sns : Nat) (mesh : Bool)
deriving DecidableEq, Repr

end Sys2Proof
end

