-- ==== Sys2Proof/Machine/Local.lean ====
section
/-!
DEFINITION. The plain data that each span, and the hub die, keeps for itself: the error hub, the slate-log replica,
the Continuity state, the host port, the NVS controller and the fuse array.
-/

namespace Sys2Proof.Machine

/-- A report of the error hub (R406). -/
structure Report where
  seq : Nat
  source : Nat
  cls : Nat
  code : Status
  die : Die
  suppressed : Bool
  time : Nat
  detail : List Byte
deriving DecidableEq, Repr

/-- What the error hub keeps for one source: its counter, the time of the last raise, the pending report, the reports
queued in the running 1 ms window, and whether a raise was suppressed since the last queued report (R407, R408). -/
structure SrcState where
  source : Nat
  count : Nat
  last : Nat
  pending : Option Report
  queued : Nat
  suppressed : Bool
deriving DecidableEq, Repr

/-- A standard queue (R394 to R397): the entries that can still be read, oldest first, with the sequence numbers of the next
entry to push (W) and to pop (E), both modulo 2^16. -/
structure StdQueue (α : Type) where
  entries : List α
  w : Nat
  e : Nat
deriving DecidableEq, Repr

/-- The error hub of a span (R406 to R415). -/
structure ErrHub where
  srcs : List SrcState
  queue : StdQueue Report
  ring : StdQueue Report
  /-- Hub reports that have arrived and wait for the intake (R410). -/
  hubWait : List Report
  /-- Start of the running 1 ms window, in milliseconds of the time base (R408). -/
  window : Nat
deriving DecidableEq, Repr

/-- A coalescing counter of FLOOR mode: kind group, count, first and last time (R80). -/
structure Coalesced where
  group : Nat
  count : Nat
  first : Nat
  last : Nat
deriving DecidableEq, Repr

/-- A slate at its position in the ring, and whether it is still without its commit word (R76); positions count on without wrapping, and
position p lies at p mod 524,288 (R466). -/
structure LogEntry where
  pos : Nat
  slate : Slate
  torn : Bool
deriving DecidableEq, Repr

/-- A span's replica of the slate log (R76 to R83, R466 to R468). -/
structure Log where
  entries : List LogEntry
  /-- SEQ of the next slate. -/
  nextSeq : Nat
  /-- The write point, as a count of positions consumed. -/
  wp : Nat
  /-- The oldest sector that is not erased, as a count of sectors erased behind the write point. -/
  tail : Nat
  /-- Sectors from `tail` on that are queued for erase. -/
  queued : Nat
  ackSeq : Nat
  coalesced : List Coalesced
  /-- Time and CHECKPOINT_S SEQ of the newest checkpoint pair, and the slates written since (R78). -/
  cpTime : Nat
  cpSeq : Option Nat
  sinceCp : Nat
  /-- Erase counts of the sectors that have been erased (R83). -/
  erases : List (Nat × Nat)
  /-- Sectors that an erase has left unusable: the ring goes on with the next (R368). -/
  bad : List Nat
  /-- SHA-256 of the newest slate's bytes 0 to 123. -/
  headHash : List Byte
deriving DecidableEq, Repr

/-- The configuration in force: the set of scenes (chapter Storyboard). -/
abbrev Storyboard := List Scene

/-- The replicated state a span holds (What is replicated), apart from the contexts, slots and classification. -/
structure Replica where
  config : Storyboard
  epoch : Nat
  /-- The configuration digest of the newest epoch record (R441). -/
  epochDigest : List Byte
  roles : List (Resource × Nat)
  staged : Option Staged
  /-- The last staged image was discarded when its window closed, and none has been staged since (R45, R48). -/
  lastExpired : Bool
  sessions : List Session
  props : List Proposal
  propSerials : List (Nat × Nat)
  locks : List Lock
  objs : List KeyObj
  ctrs : List CtrObj
  serials : List (Nat × Nat)
  /-- The owner KEKs in force, by owner (R169). -/
  orks : List (Nat × List Byte)
  pref : Option SpanId
  format : Nat
  log : Log
deriving DecidableEq, Repr

/-- A change that cannot be ordered or sent yet, and since when it waits (R22, R248). -/
structure Deferred where
  change : Change
  since : Nat
deriving DecidableEq, Repr

/-- The Continuity state of a span (R259 to R281). -/
structure Cont where
  mode : Mode
  term : Nat
  /-- End of the lease on the span's own time base (R266). -/
  leaseEnd : Nat
  lastRenewal : Nat
  /-- When the span last sent RENEW, in time since POR. -/
  renewSent : Nat
  /-- The promise this span made as a voter: the term and until when (R266). -/
  voteTerm : Nat
  promiseEnd : Nat
  deckUp0 : Bool
  deckUp1 : Bool
  /-- When each deck link last changed, in time since POR. -/
  deck0At : Nat
  deck1At : Nat
  attempts0 : Nat
  attempts1 : Nat
  peerLost : Bool
  /-- The hub link is up, so the witness is reached directly. -/
  hubLink : Bool
  /-- Highest applied CSN. -/
  csn : Nat
  /-- Highest CSN assigned or prepared. -/
  lastCsn : Nat
  peerAck : Nat
  /-- Records ordered (keystone) or prepared (follower) and not committed, oldest first. -/
  open_ : List Record
  /-- The change journal: the records of the last 16 MiB of changes, committed and applied, oldest first (R261). -/
  journal : List Record
  /-- Changes whose records have left the journal, oldest first: what the home areas hold (R371, R373). -/
  settled : List Record
  /-- Changes waiting to be ordered or sent. -/
  deferred : List Deferred
  /-- Changes forwarded to the keystone span, waiting for RESULT. -/
  forwarded : List Change
  nextId : Nat
  /-- Ordering is deferred for a handover or a digest comparison (R270, R275). -/
  holdOrder : Bool
  joinedAt : Nat
  side : List Slate
  sideChanges : List Effect
  sideCoalesced : List Coalesced
  /-- Rejoin: when it began, records replayed, buckets sent and digest mismatches so far (R275, R277). -/
  rejoinAt : Nat
  replayed : Nat
  buckets : Nat
  mismatches : Nat
  rejoinFailedAt : Option Nat
  /-- The decision this span holds for its prepared epoch: epoch, PREPARED digest, and COMMIT if decided (R49). -/
  prepared : Option (Nat × List Byte)
  decision : Option (Nat × Bool)
  /-- What PREPARE has built for the new epoch (R49): what the switch installs, and the places of the guests in the shadow stage-2 tables. -/
  banks : Option (Adoption × List (Nat × Nat))
  peerFw : Nat
  peerFormatMax : Nat
  peerState : Nat
deriving DecidableEq, Repr

/-- A queue pair of a host port (R239 to R241). -/
structure QueuePair where
  n : Nat
  sqBase : Nat
  cqBase : Nat
  sizeLog2 : Nat
  vector : Nat
  aggCount : Nat
  aggTime : Nat
  enabled : Bool
  draining : Bool
  error : Bool
  phase : Bool
  sqHead : Nat
  sqTail : Nat
  cqHead : Nat
  cqTail : Nat
  roleEpoch : Nat
  /-- Completions written since the last interrupt, and when the oldest of them was written (R250). -/
  unsignalled : Nat
  oldest : Nat
deriving DecidableEq, Repr

/-- How far a fetched descriptor has come (R251). -/
inductive CmdStage where
  | fetched
  | started
  | deferred
  | lane
  | sent
deriving DecidableEq, Repr

/-- A descriptor in flight (R242 to R248). -/
structure InFlight where
  queue : Nat
  fn : Nat
  slot : Nat
  cid : Nat
  opcode : Nat
  flags : Nat
  reserved : Bool
  epoch : Nat
  session : Nat
  inLen : Nat
  inAddr : Nat
  outAddr : Nat
  outLen : Nat
  /-- The input as read, or none if the read failed. -/
  input : Option (List Byte)
  stage : CmdStage
  since : Nat
  /-- An FLR or a disable drops its completion (R255). -/
  silent : Bool
  /-- Host memory refuses the writes of its output, or of its completion entry (R258). -/
  outFails : Bool
  cqFails : Bool
deriving DecidableEq, Repr

/-- An entry of a function's MSI-X table (R238): message address and data, and its mask bit. -/
structure MsixEntry where
  addr : Nat
  data : Nat
  masked : Bool
deriving DecidableEq, Repr

/-- What a port keeps for a PCIe function (R235 to R238, R255, R256): Bus Master Enable, D0, an FLR that still drains, Memory Space Enable, and
MSI-X Enable and Function Mask with the table and its pending bits. -/
structure FnState where
  n : Nat
  busMaster : Bool
  d0 : Bool
  flr : Bool
  memSpace : Bool
  msixEnable : Bool
  fnMask : Bool
  /-- Entries of the MSI-X table that software has written, by vector. -/
  vectors : List (Nat × MsixEntry)
  /-- Pending bits, one for each vector. -/
  pbits : Nat
  /-- Plain words of configuration space that software has written: the BARs. -/
  cfg : List (Nat × Nat)
  /-- `HOST_Q_SEL`, `HOST_EVT` and `HOST_IEN` of a VF's view (R237, R238); those of the PF are the registers themselves. -/
  qsel : Nat
  evt : Nat
  ien : Nat
deriving DecidableEq, Repr

/-- The host port of a span. Queue pairs and functions that are not listed stand at their reset values. -/
structure HostPort where
  queues : List QueuePair
  fns : List FnState
  inflight : List InFlight
  /-- Output, completion and interrupt writes held while a function may not master the bus (R256). -/
  held : List (Nat × Output)
  linkUp : Bool
  numVfs : Nat
  vfEnable : Bool
  /-- VF MSE of the SR-IOV capability: the VFs' BARs answer. -/
  vfMem : Bool
  /-- The queue pair that was served last and how many descriptors its fetch burst has given; 8 once the burst has ended (R242). -/
  turn : Nat × Nat
deriving DecidableEq, Repr

/-- A record in its home area (R371, R373): which location, the change that wrote it, its sector, and whether its commit word is
valid and it is voided, and its content where the spec seals it (R169, R178, R188). -/
structure HomeRec where
  area : NorArea
  key : Nat
  csn : Nat
  sector : Nat
  torn : Bool
  voided : Bool
  bytes : List Byte
deriving DecidableEq, Repr

/-- What an erase is for. -/
inductive ErasePurpose where
  | logRelease
  | zeroise (owner : Nat)
  | reclaim
  | bank
  | floor
deriving DecidableEq, Repr

/-- An erase queued or running: the sector's byte address, the repeats so far and the purpose (R368); for a sector found half-erased at boot the
bits that read 0 at the erase margin (R369). -/
structure EraseOp where
  area : NorArea
  addr : Nat
  repeats : Nat
  purpose : ErasePurpose
  suspended : Bool
  half : Option Nat
deriving DecidableEq, Repr

/-- A page program queued or running: its area, its change, or its page of the slate log (R76), whether it is the commit word, the attempts so
far (R365). For the overwrite of a SALT_n page (R306): the owner, and the keystone time of the zeroisation if it is a committed change. -/
structure ProgOp where
  area : NorArea
  csn : Nat
  commitWord : Bool
  attempts : Nat
  salt : Option (Nat × Option Nat)
deriving DecidableEq, Repr

/-- The kinds of a status record (R368 to R371). -/
inductive StatusKind where
  | eraseIntent
  | eraseDone
  | applied
  | committed
  | sectorOpen
deriving DecidableEq, Repr

/-- A status record (Erases and the status area). -/
structure StatusRec where
  seq : Nat
  kind : StatusKind
  area : Nat
  addr : Nat
  value : Nat
deriving DecidableEq, Repr

/-- The boot pointer of IDENT: active bank, trial bank if any, trial count (R438). -/
structure BootPointer where
  active : Nat
  trial : Option Nat
  trialCount : Nat
deriving DecidableEq, Repr

/-- A firmware bank: whether it verifies under R446, and what its header says. -/
structure FwBank where
  valid : Bool
  version : Nat
  floor : Nat
  formatMin : Nat
  formatMax : Nat
  digest : List Byte
  supervisor : List Byte
deriving DecidableEq, Repr

/-- The NVS controller and the NOR contents of a span (R363 to R374). -/
structure Nvs where
  progs : List ProgOp
  erases : List EraseOp
  status : List StatusRec
  statusSeq : Nat
  home : List HomeRec
  /-- Home records written so far in each area, by area code: the write points (R373). -/
  homePoint : List (Nat × Nat)
  unusable : List Nat
  /-- When the power-fail warning in force came, in time since POR (R367). -/
  pfwAt : Option Nat
  /-- Changes applied since the last APPLIED record (R371). -/
  sinceApplied : Nat
  /-- Keystone time of the change with the last APPLIED record. -/
  appliedAt : Nat
  boot : BootPointer
  bank0 : FwBank
  bank1 : FwBank
  storedFloor : Nat
  /-- The valid SALT_n pages, by owner (UNANCHORED, Protection). -/
  salts : List (Nat × List Byte)
  /-- The calibration records, by number: latencies of the ports and of 1PPS, and GAIN of the sensors (log entry 107). -/
  calib : List (Nat × Nat)
deriving DecidableEq, Repr

/-- A fuse program queued or running (R377): the word, the bits to be set, the attempts so far, and whether the monitor waits for it. -/
structure FuseProg where
  word : Nat
  bits : Nat
  attempts : Nat
  monitor : Bool
deriving DecidableEq, Repr

/-- The fuse array: words not listed read zero at all three references. -/
structure Fuses where
  words : List FuseWord
  /-- Die temperature (1/16 degree) and time since POR at the last scan, and the marginal words it found (R375). -/
  scanTemp : Int
  scanAt : Nat
  scanned : Bool
  marginal : List Nat
  /-- A scan waits for the program in progress to end. -/
  scanWaits : Bool
  /-- The programs in progress and waiting, in their order (R377). -/
  progs : List FuseProg
deriving DecidableEq, Repr

/-- A slew in progress: the total in nanoseconds, its ticks, the ticks gone and the nanoseconds applied (R157). -/
structure Slew where
  total : Int
  ticks : Nat
  gone : Nat
  applied : Nat
deriving DecidableEq, Repr

/-- The time base of a span (R156, R157): seconds, nanoseconds, the 28-bit fraction, a slew, and a step or a set that waits
for the next tick. -/
structure TimeBase where
  sec : Nat
  ns : Nat
  frac : Nat
  slew : Option Slew
  step : Option Int
  set : Option Nat
  /-- The 1PPS output is high until this time since POR (R164). -/
  ppsFall : Option Nat
  /-- When the offset from the master was last measured, in time since POR (R160). -/
  measuredAt : Option Nat
deriving DecidableEq, Repr

/-- A challenge that has been issued and not used (R62, R380): its bytes, the signer it is for, and when it was issued. -/
structure Challenge where
  bytes : List Byte
  signer : Option Signer
  issued : Nat
deriving DecidableEq, Repr

/-- Consecutive session failures of a signer, and until when OS_OPEN is refused to it (R62). -/
structure Lockout where
  signer : Signer
  fails : Nat
  until_ : Nat
deriving DecidableEq, Repr

/-- The work of an admitted vault command (R198): the inputs of a use, or a change whose decision needs big-number work. -/
inductive VaultWork where
  | sign (x : Scheme) (type : Nat) (material msg : List Byte)
  | verify (x : Scheme) (type : Nat) (key msg sig : List Byte)
  | agree (type : Nat) (material peer : List Byte)
  | encap (type : Nat) (key : List Byte)
  | decap (type : Nat) (material ct : List Byte)
  /-- A sealed export under a wrapping key (R179): it needs a nonce, and no lane. -/
  | seal (o : KeyObj) (unit wrap : List Byte)
  /-- A key of a type is made or imported; then the prepared change is submitted (R262). -/
  | change (c : Change) (type : Nat)
deriving DecidableEq, Repr

/-- A vault command admitted and not yet completed (R185), waiting for random bytes or a lane, or running on one: the objects that it uses, its
work, and the random bytes that it draws once (R206). -/
structure VaultJob where
  caller : Caller
  opcode : Nat
  handles : List Nat
  since : Nat
  work : VaultWork
  rnd : Option (List Byte)
deriving DecidableEq, Repr

/-- What a command of a span waits for random bytes for (R292): a session challenge for a signer, the ID of a session whose proof holds, of an
officer or producer with a key digest, a life-cycle challenge, or a guest's random bytes. -/
inductive WaitFor where
  | open_ (w : Signer)
  | prove (w : Signer) (digest : List Byte)
  | challenge
  | rng (n : Nat)
deriving DecidableEq, Repr

/-- What a span's vault keeps for itself (R166 to R187). -/
structure VaultLocal where
  /-- The unit root as reconstructed at boot. -/
  ur : List Byte
  urOk : Bool
  /-- Handles whose material is in the unsealed cache (R178), the least recently used first. -/
  cache : List Nat
  /-- m_n of each owner as the span holds it: anchor words delivered by the hub, or salts (R169, Protection). -/
  mn : List (Nat × List Byte)
  jobs : List VaultJob
  /-- Commands that wait for random bytes, oldest first. -/
  waits : List (Caller × WaitFor)
  challenges : List Challenge
  lockouts : List Lockout
  lcChallenge : Option Challenge
deriving DecidableEq, Repr

/-- The keystone witness of the hub die, in registers of the always-on domain (R268), with the decisions recorded at it (R49). -/
structure Witness where
  term : Nat
  holder : Option SpanId
  lastVote : Nat
  promiseEnd : Nat
  /-- The solo mark: term and highest CSN committed without the peer. -/
  soloTerm : Nat
  soloCsn : Nat
  decisions : List (Nat × Bool)
deriving DecidableEq, Repr

/-- The field controller and the power telemetry (R420 to R428). Voltages in units of 10 mV. -/
structure Power where
  requested : Nat
  assigned : Nat
  aux : Bool
  poe : Bool
  source : Nat
  vin : Nat
  vhold : Nat
  vaux : Nat
  vpoe : Nat
  power : Nat
  current : Nat
  converter : Bool
  pfw : Bool
  /-- Since when, in time since POR, V_IN has stayed above the release threshold (R427). -/
  above : Option Nat
  /-- 0 NONE, 1 FULL, 2 REDUCED (R424). -/
  tier : Nat
deriving DecidableEq, Repr

/-- A debug certificate in force for a monitor session (R383, R384). -/
structure Cert where
  rights : Nat
  guests : Nat
  notAfter : Nat
  digest : List Byte
deriving DecidableEq, Repr

/-- A monitor session (R452, R453, R459). -/
structure MonSession where
  id : Nat
  challenge : List Byte
  lastLine : Nat
  cert : Option Cert
  lines : Nat
  refused : Nat
  /-- Instructions stepped since the last MON_RUN slate. -/
  stepped : Nat
deriving DecidableEq, Repr

/-- A halt of a virtual core: the span, core and guest, whether it has taken effect (R457). -/
structure Halt where
  span : SpanId
  core : Nat
  /-- The guest whose virtual core is halted; 0 until the halt takes effect. -/
  guest : Nat
  effective : Bool
  /-- When the guest's watchdog stopped, in time since POR (R457). -/
  since : Nat
  /-- The HALT line, by its session, that is answered when the halt takes effect. -/
  caller : Option Nat
  /-- Instructions of a STEP that have not retired, and its line by its session. -/
  steps : Nat
  stepper : Option Nat
deriving DecidableEq, Repr

/-- The Leolo monitor (R451 to R459). -/
structure Monitor where
  session : Option MonSession
  baud : Nat
  /-- A rate that applies 10 ms after its OK, and when that OK was sent (R451). -/
  nextBaud : Option (Nat × Nat)
  halts : List Halt
deriving DecidableEq, Repr

/-- A life-cycle transition in progress (R381): FROM and TO, who asked, the signers counted and the challenge of the request, and the step:
0 preparation, 1 the code on Span A, 2 the code on Span B. -/
structure LcWork where
  src : Nat
  dst : Nat
  caller : Caller
  signers : Nat
  challenge : List Byte
  stage : Nat
deriving DecidableEq, Repr

/-- A hitless update (R448 to R450): the `HUB_UPDATE_STATE` code, the image, the step's span and when that span reset. -/
structure FwUpdate where
  state : Nat
  bank : FwBank
  caller : Option Caller
  target : SpanId
  since : Nat
  step : Nat
deriving DecidableEq, Repr

/-- The supervisor core's own state (R435, R436). -/
structure Supervisor where
  running : Bool
  romOnly : Bool
  section_ : List Byte
  spanRailsA : Bool
  spanRailsB : Bool
deriving DecidableEq, Repr

/-- How far a span's boot has come, and when its reset was released (R437). -/
structure BootState where
  stage : Nat
  released : Nat
  cause : Nat
  bank : Nat
  trial : Bool
  fallback : Bool
  /-- The secure world has been restarted and takes its boot up again from the vault (R327). -/
  restart : Bool
  /-- The scene list did not match the newest epoch record at step 7 (R441). -/
  mismatch : Bool
  helloAt : Option Nat
  /-- A SPAN reset that has been ordered and not yet taken: the bit number of its cause in `HUB_RESET_CAUSE` (R443). -/
  resetDue : Option Nat
  /-- Slates of a response that reset the span, which it writes itself after the reset (R413). -/
  slates : List SlateReq
  /-- The ceremonies and executions that the span found open at its boot (R75): owner and proposal. -/
  openLocks : List (Nat × Nat)
deriving DecidableEq, Repr

/-- The stream state of a context on one span (chapter Stream tag engine, Stream state); the nonce is 96 bits. -/
structure StreamRec where
  nonceHw : Nat
  replayMap : Nat
  eraSecond : Nat
  hwValid : Bool
  eraValid : Bool
  lastRx : Nat
  framesOk : Nat
  framesFail : Nat
deriving DecidableEq, Repr

/-- One bank of context and key-slot entries (R18); slot A of context n has key 2n, slot B 2n + 1. -/
structure Bank where
  ctxs : List (Nat × CtxEntry)
  slots : List (Nat × Slot)
deriving DecidableEq, Repr

/-- The context, key-slot and stream-state tables of a span (R18, R113, R114). -/
structure Stream where
  active : Bank
  shadow : Bank
  /-- Contexts with shadow writes that no commit has taken (R116). -/
  dirty : List Nat
  /-- Contexts whose shadow writes an epoch switch discarded, and that no later write has replaced (R56). -/
  discarded : List Nat
  states : List (Nat × StreamRec)
  /-- Contexts held after a POR (R149). -/
  held : List Nat
  /-- A POR with active contexts has been: RESUME_FLOOR counts from then on (R163). -/
  resumed : Bool
  /-- When each DRAINING context began to drain, in the 64-bit form of R10 (R139). -/
  drains : List (Nat × Nat)
deriving DecidableEq, Repr

end Sys2Proof.Machine
end

