-- ==== Sys2Proof/Config.lean ====
section
/-!
DEFINITION. What the spec leaves open, as constants without a body, and the fixed sizes it gives.
Nothing in Lean can evaluate an opaque constant, so a claim holds whatever its value is.
-/

namespace Sys2Proof

open Machine

/-- FREE VALUE: the k-th byte that the entropy unit and the DRBGs hand out (drawn keys, challenges, nonces, seeds).
`State.free` counts the bytes drawn. Log entry 3. -/
opaque Config.freeByte : Nat → Byte

/-- FREE VALUE: the code that a slate's DETAIL gives a proposal state; the spec names the states and gives no codes. Log entry 9. -/
opaque Config.propStateCode : PropState → Nat

/-- UNINTERPRETED: the primes and exponents of an RSA key that a search from random bytes finds (R174). Log entry 4. -/
opaque Config.rsaMaterial : Nat → List Byte → List Byte

/-- UNINTERPRETED: the public key that FIPS 204 or FIPS 203 derives from the seed of an ML-DSA or ML-KEM type. Log entry 4. -/
opaque Config.latticePublic : Nat → List Byte → List Byte

/-- UNINTERPRETED: the ML-DSA signature by type, seed, context string, message and rnd (FIPS 204). Log entry 4. -/
opaque Config.mldsaSign : Nat → List Byte → List Byte → List Byte → List Byte → List Byte

/-- UNINTERPRETED: ML-DSA verification by type, public key, context string, message and signature (FIPS 204). Log entry 4. -/
opaque Config.mldsaVerify : Nat → List Byte → List Byte → List Byte → List Byte → Bool

/-- UNINTERPRETED: ML-KEM encapsulation: the ciphertext and the secret, from type, public key and 32 random bytes (FIPS 203). Log entry 4. -/
opaque Config.mlkemEncap : Nat → List Byte → List Byte → List Byte × List Byte

/-- UNINTERPRETED: ML-KEM decapsulation of a ciphertext under a type and seed (FIPS 203). Log entry 4. -/
opaque Config.mlkemDecap : Nat → List Byte → List Byte → List Byte

/-- FREE VALUE: the digest of a ceremony's working set, whose byte form the spec does not give (R77). Log entry 10. -/
opaque Config.workingDigest : List Effect → List Byte

/-- FREE VALUE: the PUF response of a span's die, 256 words of it (R166). Log entry 57. -/
opaque Config.pufResponse : SpanId → Nat → BitVec 32

/-- FREE VALUE: the bytes of a change record's body, which the spec lays out only in part (R261). Log entry 10. -/
opaque Config.bodyBytes : Change → List Byte

/-- FREE VALUE: the replicated records of a state with its two context banks, each with its 16-byte identifier (R276); the spec lays these records out
only in part and gives no identifiers. Log entry 10. -/
opaque Config.replicated : Replica → Bank → Bank → List (List Byte × List Byte)

/-- UNINTERPRETED: which trim word, counted from word 96, holds a trim: C25 of the span's sensor (0), of the hub's (1), the supply trims of
the span (2) and of the hub (3). The spec names words 96 to 127 for all of them. Log entry 40. -/
opaque Config.trimWord : Nat → Nat

/-- FREE VALUE: KEY_ID and SALT of the slot B that a KEY_HANDOVER writes, from the context and the new epoch; a CONTEXT_MOVE names neither
(R38). Log entry 41. -/
opaque Config.handoverKeyId : Nat → Nat → BitVec 32
/-- FREE VALUE: the SALT that goes with `Config.handoverKeyId`. Log entry 41. -/
opaque Config.handoverSalt : Nat → Nat → BitVec 32

/-- FREE VALUE: the random or internal scaling of a projective result, from the inputs of the command; the spec gives none (R205, R225).
Log entry 51. -/
opaque Config.projScale : List Nat → Nat

/-- FREE VALUE: which representative below 2q (POLY_DSA) or 4q (POLY_KEM) a coefficient product of an open PMAC chain has (R231): the multiple
of q that is added. From kind and operands. Log entry 52. -/
opaque Config.pmacLift : Nat → Nat → Nat → Nat → Nat → Nat

/-- UNSTATED: the MODE value that marks MEXP's PUBLIC method. Log entry 53. -/
opaque Config.mexpPublicMode : Nat

/-- UNSTATED: which MODE values PCODE has, and which of them pack (Log entry 53). -/
opaque Config.pcodeMode : Nat → Bool
/-- UNSTATED: the PCODE modes that pack a polynomial. Log entry 53. -/
opaque Config.pcodePacks : Nat → Bool
/-- UNINTERPRETED: PCODE's result slot from MODE, group kind and source slot. Log entry 53. -/
opaque Config.pcode : Nat → Nat → Nat → Nat

/-- UNSTATED: which MODE values XOF and SAMPLE have. Log entry 53. -/
opaque Config.xofMode : Nat → Bool
/-- UNSTATED: which MODE values SAMPLE has. Log entry 53. -/
opaque Config.sampleMode : Nat → Bool
/-- UNINTERPRETED: one XOF command: the Keccak state, the destination slot and the permutations it runs, from MODE, COUNT, the state, the
source slot and the destination slot. Log entry 53. -/
opaque Config.xof : Nat → Nat → List (BitVec 64) → Nat → Nat → List (BitVec 64) × Nat × Nat
/-- UNINTERPRETED: one SAMPLE command: the polynomial, the Keccak state after it and its BCLK cycles, from MODE, group kind and state.
Log entry 53. -/
opaque Config.sample : Nat → Nat → List (BitVec 64) → Nat × List (BitVec 64) × Nat

/-- FREE VALUE: what a window register holds when it enters the window from the free state (R341). Log entry 45. -/
opaque Config.windowValue : Nat → BitVec 64

/-- FREE VALUE: the stage-2 root that the Keeper selects for a guest of a span (R318, R322). Log entry 46. -/
opaque Config.stage2Root : SpanId → Nat → BitVec 64

/-- FREE VALUE: SHA-256 of the lines of a monitor session, from the session ID and their number; the commands carry no characters (R459).
Log entry 58. -/
opaque Config.lineDigest : Nat → Nat → List Byte

/-- FREE VALUE: the speed and width to which a PCIe link trains, which `HOST_STATUS` shows while the link is up. Log entry 62. -/
opaque Config.linkSpeed : SpanId → Nat
/-- FREE VALUE: the width that goes with `Config.linkSpeed`. Log entry 62. -/
opaque Config.linkWidth : SpanId → Nat

/-- FREE VALUE: the byte lane, 0 to 9 within one TBCLK cycle, at which a frame crosses a 10 Gb/s port, from the span, the port, whether it is transmitted
and the time since POR (R110). Log entry 77. -/
opaque Config.byteLane : SpanId → Nat → Bool → Nat → Nat
/-- FREE VALUE: whether a port is receiving a frame at the instant it loses link, from the span, the port and the time since POR (R109). Log entry 103. -/
opaque Config.receiving : SpanId → Nat → Nat → Bool

/-- FREE VALUE: BCLK cycles of a command of a vault job, from the job's work and the command's index; the spec does not give the commands of which the
vault makes its jobs. Log entry 19. -/
opaque Config.vaultCycles : VaultWork → Nat → Nat

/-- Positions of the slate log, and slates in a sector (R466). -/
def logPositions : Nat := 524288
/-- Slates in a log sector (R466). -/
def sectorSlates : Nat := 32
/-- F at or below which the log is in RESERVE (R79). -/
def reserveF : Nat := 4096
/-- F at or below which the log is in FLOOR (R79). -/
def floorF : Nat := 64
/-- The in-flight pool of a span (R242). -/
def inflightMax : Nat := 32768
/-- Entries of the side segment (R273). -/
def sideMax : Nat := 4096
/-- Depth of the report queue (R409). -/
def reportDepth : Nat := 1024
/-- Depth of the report ring and of the trace rings (R414, R458). -/
def ringDepth : Nat := 16384

end Sys2Proof
end

