-- ==== Sys2Proof/Machine/Crypto.lean ====
section
/-!
DEFINITION. The published primitives that the spec names and that the device computes on plain data: CRC-32 and CRC-32C, SHA-256,
SHA-384, SHA-512, HMAC-SHA256, AES, GHASH, GMAC, GCM, CMAC, AES key unwrap (RFC 3394, RFC 5649) and the SP 800-108
counter-mode KDF of R182. The spec cites the standards and does not repeat them: log entry 4.
-/

namespace Sys2Proof

/-- One step of a reflected 32-bit CRC over one bit. -/
def crcBit (poly c : BitVec 32) : BitVec 32 :=
  if c.getLsbD 0 then (c >>> 1) ^^^ poly else c >>> 1

/-- A reflected 32-bit CRC with all-ones start and final complement. -/
def crcReflected (poly : BitVec 32) (bs : List Byte) : BitVec 32 :=
  let step (c : BitVec 32) (b : Byte) : BitVec 32 :=
    (List.range 8).foldl (fun c _ => crcBit poly c) (c ^^^ b.setWidth 32)
  ~~~ (bs.foldl step (BitVec.allOnes 32))

/-- CRC-32C (Castagnoli), used by the commit word (R364) and the first classification hash. -/
def crc32c (bs : List Byte) : BitVec 32 := crcReflected 0x82F63B78 bs

/-- CRC-32 of IEEE 802.3, used by the second classification hash and the frame check sequence. -/
def crc32 (bs : List Byte) : BitVec 32 := crcReflected 0xEDB88320 bs

/-- The big-endian word that begins a byte list, and the words after it. -/
def beWords (n : Nat) : Nat → List Byte → List Nat
  | 0, _ => []
  | k + 1, bs => beField bs 0 n :: beWords n k (bs.drop n)

/-- The padding of SHA-256 (block 64, length 8) and SHA-512 (block 128, length 16). -/
def shaPad (block lenBytes : Nat) (m : List Byte) : List Byte :=
  let used := (m.length + 1 + lenBytes) % block
  m ++ [0x80] ++ zeroBytes ((block - used) % block) ++ beBytes lenBytes (8 * m.length)

/-- The eight words of `w` bits that a number holds, the first one highest. -/
def unpack8 (w v : Nat) : List Nat := (List.range 8).map fun i => v >>> (w * (7 - i)) % 2 ^ w

/-- The round constants of SHA-512 (FIPS 180-4), eight to a number; SHA-256 takes the high halves of the first 64. -/
def shaK : List Nat :=
  [0x428a2f98d728ae227137449123ef65cdb5c0fbcfec4d3b2fe9b5dba58189dbbc3956c25bf348b53859f111f1b605d019923f82a4af194f9bab1c5ed5da6d8118,
   0xd807aa98a303024212835b0145706fbe243185be4ee4b28c550c7dc3d5ffb4e272be5d74f27b896f80deb1fe3b1696b19bdc06a725c71235c19bf174cf692694,
   0xe49b69c19ef14ad2efbe4786384f25e30fc19dc68b8cd5b5240ca1cc77ac9c652de92c6f592b02754a7484aa6ea6e4835cb0a9dcbd41fbd476f988da831153b5,
   0x983e5152ee66dfaba831c66d2db43210b00327c898fb213fbf597fc7beef0ee4c6e00bf33da88fc2d5a79147930aa72506ca6351e003826f142929670a0e6e70,
   0x27b70a8546d22ffc2e1b21385c26c9264d2c6dfc5ac42aed53380d139d95b3df650a73548baf63de766a0abb3c77b2a881c2c92e47edaee692722c851482353b] ++
  [0xa2bfe8a14cf10364a81a664bbc423001c24b8b70d0f89791c76c51a30654be30d192e819d6ef5218d69906245565a910f40e35855771202a106aa07032bbd1b8,
   0x19a4c116b8d2d0c81e376c085141ab532748774cdf8eeb9934b0bcb5e19b48a8391c0cb3c5c95a634ed8aa4ae3418acb5b9cca4f7763e373682e6ff3d6b2b8a3,
   0x748f82ee5defb2fc78a5636f43172f6084c87814a1f0ab728cc702081a6439ec90befffa23631e28a4506cebde82bde9bef9a3f7b2c67915c67178f2e372532b,
   0xca273eceea26619cd186b8c721c0c207eada7dd6cde0eb1ef57d4f7fee6ed17806f067aa72176fba0a637dc5a2c898a6113f9804bef90dae1b710b35131c471b,
   0x28db77f523047d8432caab7b40c724933c9ebe0a15c9bebc431d67c49c100d4c4cc5d4becb3e42b6597f299cfc657e2a5fcb6fab3ad6faec6c44198c4a475817]

/-- The rotation and shift amounts of one SHA-2 width: the two big and the two small sigma functions. -/
structure ShaSigmas where
  s0 : Nat × Nat × Nat
  s1 : Nat × Nat × Nat
  t0 : Nat × Nat × Nat
  t1 : Nat × Nat × Nat

/-- The amounts of SHA-256. -/
def sha256Sigmas : ShaSigmas := ⟨(2, 13, 22), (6, 11, 25), (7, 18, 3), (17, 19, 10)⟩
/-- The amounts of SHA-512 and SHA-384. -/
def sha512Sigmas : ShaSigmas := ⟨(28, 34, 39), (14, 18, 41), (1, 8, 7), (19, 61, 6)⟩

/-- A big sigma: three rotations. -/
def shaBig {w : Nat} (r : Nat × Nat × Nat) (x : BitVec w) : BitVec w :=
  x.rotateRight r.1 ^^^ x.rotateRight r.2.1 ^^^ x.rotateRight r.2.2

/-- A small sigma: two rotations and a shift. -/
def shaSmall {w : Nat} (r : Nat × Nat × Nat) (x : BitVec w) : BitVec w :=
  x.rotateRight r.1 ^^^ x.rotateRight r.2.1 ^^^ (x >>> r.2.2)

/-- The message schedule, newest word first. -/
def shaSchedule {w : Nat} (g : ShaSigmas) : Nat → List (BitVec w) → List (BitVec w)
  | 0, ws => ws
  | n + 1, ws =>
    shaSchedule g n
      ((shaSmall g.t1 (ws.getD 1 0) + ws.getD 6 0 + shaSmall g.t0 (ws.getD 14 0) + ws.getD 15 0) :: ws)

/-- One SHA-2 round on the eight working variables. -/
def shaRound {w : Nat} (g : ShaSigmas) (v : List (BitVec w)) (kw : BitVec w × BitVec w) : List (BitVec w) :=
  let a := v.getD 0 0
  let b := v.getD 1 0
  let c := v.getD 2 0
  let e := v.getD 4 0
  let f := v.getD 5 0
  let h := v.getD 6 0
  let t1 := v.getD 7 0 + shaBig g.s1 e + ((e &&& f) ^^^ (~~~ e &&& h)) + kw.1 + kw.2
  let t2 := shaBig g.s0 a + ((a &&& b) ^^^ (a &&& c) ^^^ (b &&& c))
  [t1 + t2, a, b, c, v.getD 3 0 + t1, e, f, h]

/-- One SHA-2 compression of a block of 16 words. -/
def shaCompress {w : Nat} (g : ShaSigmas) (ks : List (BitVec w)) (st blk : List (BitVec w)) : List (BitVec w) :=
  let sched := (shaSchedule g (ks.length - 16) blk.reverse).reverse
  let out := (ks.zip sched).foldl (shaRound g) st
  st.zipWith (· + ·) out

/-- The constants of SHA-256. -/
def sha256K : List (BitVec 32) := ((shaK.take 8).flatMap (unpack8 64)).map fun k => BitVec.ofNat 32 (k / 2 ^ 32)
/-- The constants of SHA-512. -/
def sha512K : List (BitVec 64) := (shaK.flatMap (unpack8 64)).map (BitVec.ofNat 64)

/-- The start value of SHA-256. -/
def sha256Init : List (BitVec 32) :=
  (unpack8 32 0x6a09e667bb67ae853c6ef372a54ff53a510e527f9b05688c1f83d9ab5be0cd19).map (BitVec.ofNat 32)

/-- One SHA-256 compression of a 64-byte block. -/
def sha256Block (st : List (BitVec 32)) (blk : List Byte) : List (BitVec 32) :=
  shaCompress sha256Sigmas sha256K st ((beWords 4 16 blk).map (BitVec.ofNat 32))

/-- The compressions of a padded message, `n` blocks. -/
def shaBlocks {α : Type} (f : α → List Byte → α) (size : Nat) : Nat → α → List Byte → α
  | 0, st, _ => st
  | n + 1, st, bs => shaBlocks f size n (f st (bs.take size)) (bs.drop size)

/-- The bytes of a chaining value. -/
def shaBytes {w : Nat} (st : List (BitVec w)) : List Byte := st.flatMap fun x => beBytes (w / 8) x.toNat

/-- SHA-256 (FIPS 180-4). -/
def sha256 (m : List Byte) : List Byte :=
  let p := shaPad 64 8 m
  shaBytes (shaBlocks sha256Block 64 (p.length / 64) sha256Init p)

/-- One SHA-512 compression of a 128-byte block. -/
def sha512Block (st : List (BitVec 64)) (blk : List Byte) : List (BitVec 64) :=
  shaCompress sha512Sigmas sha512K st ((beWords 8 16 blk).map (BitVec.ofNat 64))

/-- SHA-512 (FIPS 180-4). -/
def sha512 (m : List Byte) : List Byte :=
  let p := shaPad 128 16 m
  shaBytes (shaBlocks sha512Block 128 (p.length / 128)
    ((unpack8 64
      0x6a09e667f3bcc908bb67ae8584caa73b3c6ef372fe94f82ba54ff53a5f1d36f1510e527fade682d19b05688c2b3e6c1f1f83d9abfb41bd6b5be0cd19137e2179).map (BitVec.ofNat 64)) p)

/-- SHA-384 (FIPS 180-4). -/
def sha384 (m : List Byte) : List Byte :=
  let p := shaPad 128 16 m
  (shaBytes (shaBlocks sha512Block 128 (p.length / 128)
    ((unpack8 64
      0xcbbb9d5dc1059ed8629a292a367cd5079159015a3070dd17152fecd8f70e593967332667ffc00b318eb44a8768581511db0c2e0d64f98fa747b5481dbefa4fa4).map (BitVec.ofNat 64)) p)).take 48

/-- The bytewise exclusive or of two byte strings. -/
def xorBytes (x y : List Byte) : List Byte := x.zipWith (· ^^^ ·) y

/-- HMAC-SHA256 (RFC 2104): K' is the key padded with zeros to 64 bytes, or its hash if it is longer. -/
def hmacSha256 (key m : List Byte) : List Byte :=
  let k := padBytes 64 (if key.length > 64 then sha256 key else key)
  sha256 (k.map (· ^^^ 0x5c) ++ sha256 (k.map (· ^^^ 0x36) ++ m))

/-- Doubling in GF(2^8) of AES, on the number of a byte. -/
def aesDouble (x : Nat) : Nat := if x < 128 then 2 * x else 2 * x ^^^ 0x11B

/-- Multiplication in GF(2^8) of AES, over `n` bits of the second operand. -/
def aesMul : Nat → Nat → Nat → Nat
  | 0, _, _ => 0
  | n + 1, x, y => (if y % 2 = 1 then x else 0) ^^^ aesMul n (aesDouble x) (y / 2)

/-- The AES substitution box of FIPS 197, 32 bytes a row, the first byte of a row lowest. -/
def aesBox : List Nat :=
  [0xc072a49cafa2d4adf04759fa7dc982ca76abd7fe2b670130c56f6bf27b777c63,
   0x75b227ebe28012079a059618c323c7041531d871f1e5a534ccf73f362693fdb7,
   0xcf584c4a39becb6a5bb1fc20ed00d153842fe329b3d63b52a05a6e1b1a2c8309,
   0xd2f3ff1021dab6bcf5389d928f40a351a89f3c507f02f94585334d43fbaaefd0,
   0xdb0b5ede14b8ee4688902a22dc4f816073195d643d7ea7c41744975fec130ccd,
   0x08ae7a65eaf4566ca94ed58d6d37c8e779e4959162acd3c25c2406490a3a32e0,
   0x9e1dc186b95735610ef6034866b53e708a8bbd4b1f74dde8c6b4a61c2e2578ba,
   0x16bb54b00f2d99416842e6bf0d89a18cdf2855cee9871e9b948ed9691198f8e1]

/-- The inverse substitution box. -/
def aesInvBox : List Nat :=
  [0xcbe9dec444438e3487ff2f9b8239e37cfbd7f3819ea340bf38a53630d56a0952,
   0x25d18b6d49a25b76b224d92866a12e084ec3fa420b954cee3d23c2a632947b54,
   0x849d8da75746155edab9edfd5048706c92b6655dcc5ca4d41698688664f6f872,
   0x6b8a130103bdafc1020f3fca8f1e2cd00645b3b80558e4f70ad3bc8c00abd890,
   0x6edf751ce837f9e28535ade72274ac9673e6b4f0cecff297eadc674f4111913a,
   0xf45acd78fec0db9a2079d2c64b3e56fc1bbe18aa0e62b76f89c5291d711af147,
   0xef9cc9939f7ae52d0d4ab519a97f51605fec8027591012b131c7078833a8dd1f,
   0x7d0c2155631469e126d677ba7e042b17619953833cbbebc8b0f52aae4d3be0a0]

/-- The AES substitution. -/
def aesSub (b : Byte) : Byte := BitVec.ofNat 8 (aesBox.getD (b.toNat / 32) 0 >>> (8 * (b.toNat % 32)))

/-- The inverse AES substitution. -/
def aesInvSub (b : Byte) : Byte := BitVec.ofNat 8 (aesInvBox.getD (b.toNat / 32) 0 >>> (8 * (b.toNat % 32)))

/-- The AES key schedule in 4-byte words, newest first; `nk` is the key length in words. -/
def aesExpand (nk : Nat) : Nat → Nat → Byte → List (List Byte) → List (List Byte)
  | 0, _, _, ws => ws
  | n + 1, i, rcon, ws =>
    let t := ws.headD []
    let u :=
      if i % nk = 0 then xorBytes ((t.drop 1 ++ t.take 1).map aesSub) [rcon, 0, 0, 0]
      else if nk > 6 ∧ i % nk = 4 then t.map aesSub else t
    aesExpand nk n (i + 1) (if i % nk = 0 then BitVec.ofNat 8 (aesDouble rcon.toNat) else rcon) (xorBytes (ws.getD (nk - 1) []) u :: ws)

/-- The number of AES rounds for a key length in bytes. -/
def aesRounds (key : List Byte) : Nat := key.length / 4 + 6

/-- The AES round keys, first to last, 16 bytes each. -/
def aesRoundKeys (key : List Byte) : List (List Byte) :=
  let nk := key.length / 4
  let words := (List.range nk).map fun i => (key.drop (4 * i)).take 4
  let all := (aesExpand nk (4 * (aesRounds key + 1) - nk) nk 1 words.reverse).reverse
  (List.range (aesRounds key + 1)).map fun r => ((all.drop (4 * r)).take 4).flatten

/-- ShiftRows, or its inverse with `inv`. -/
def aesShift (inv : Bool) (b : List Byte) : List Byte :=
  (List.range 16).map fun i => b.getD (if inv then (i + 16 * 4 - 4 * (i % 4)) % 16 else (i + 4 * (i % 4)) % 16) 0

/-- MixColumns with the given first column of the matrix, each entry of four bits. -/
def aesMix (m : List Nat) (b : List Byte) : List Byte :=
  (List.range 16).map fun i => BitVec.ofNat 8
    ((List.range 4).foldl (fun acc j => acc ^^^ aesMul 4 (b.getD (4 * (i / 4) + j) 0).toNat (m.getD ((4 + j - i % 4) % 4) 0)) 0)

/-- AES encryption of one block under round keys, first to last (FIPS 197). -/
def aesWith (ks : List (List Byte)) (blk : List Byte) : List Byte :=
  let n := ks.length - 1
  let st := (List.range (n - 1)).foldl
    (fun st r => xorBytes (aesMix [2, 3, 1, 1] (aesShift false (st.map aesSub))) (ks.getD (r + 1) []))
    (xorBytes blk (ks.headD []))
  xorBytes (aesShift false (st.map aesSub)) (ks.getD n [])

/-- AES encryption of one block (FIPS 197). -/
def aesEncrypt (key blk : List Byte) : List Byte := aesWith (aesRoundKeys key) blk

/-- AES decryption of one block (FIPS 197). -/
def aesDecrypt (key blk : List Byte) : List Byte :=
  let ks := aesRoundKeys key
  let n := aesRounds key
  let st := (List.range (n - 1)).foldl
    (fun st r => aesMix [14, 11, 13, 9] (xorBytes ((aesShift true st).map aesInvSub) (ks.getD (n - 1 - r) [])))
    (xorBytes blk (ks.getD n []))
  xorBytes ((aesShift true st).map aesInvSub) (ks.headD [])

/-- Multiplication in GF(2^128) of GCM: operands as 128-bit numbers, the first byte most significant. -/
def gcmMul : Nat → BitVec 128 → BitVec 128 → BitVec 128
  | 0, _, _ => 0
  | n + 1, x, v =>
    (if x.getLsbD 127 then v else 0) ^^^
      gcmMul n (x <<< 1) (if v.getLsbD 0 then (v >>> 1) ^^^ (0xE1 : BitVec 128) <<< 120 else v >>> 1)

/-- A 16-byte block as a number. -/
def blockVal (bs : List Byte) : BitVec 128 := BitVec.ofNat 128 (beField bs 0 16)

/-- The bytes of a 128-bit value. -/
def blockBytes (x : BitVec 128) : List Byte := beBytes 16 x.toNat

/-- The 16-byte blocks of a string, the last padded with zeros. -/
def blocks16 : Nat → List Byte → List (List Byte)
  | 0, _ => []
  | n + 1, bs => if bs = [] then [] else padBytes 16 (bs.take 16) :: blocks16 n (bs.drop 16)

/-- GHASH over additional data and ciphertext with their length block (SP 800-38D). -/
def ghash (h : BitVec 128) (aad ct : List Byte) : BitVec 128 :=
  let bl := blocks16 (aad.length / 16 + 1) aad ++ blocks16 (ct.length / 16 + 1) ct ++
    [beBytes 8 (8 * aad.length) ++ beBytes 8 (8 * ct.length)]
  bl.foldl (fun y b => gcmMul 128 (y ^^^ blockVal b) h) 0

/-- AES in counter mode from counter 2 under a 96-bit nonce (SP 800-38D). -/
def gcmCtr (key nonce data : List Byte) : List Byte :=
  let n := data.length / 16 + 1
  let stream := (List.range n).flatMap fun i => aesEncrypt key (nonce ++ beBytes 4 (i + 2))
  xorBytes data stream

/-- The AES-GCM tag of additional data and ciphertext under a 96-bit nonce; with no ciphertext it is the GMAC. -/
def gcmTag (key nonce aad ct : List Byte) : List Byte :=
  let h := blockVal (aesEncrypt key (zeroBytes 16))
  blockBytes (ghash h aad ct ^^^ blockVal (aesEncrypt key (nonce ++ beBytes 4 1)))

/-- Doubling for the CMAC subkeys (SP 800-38B). -/
def cmacDouble (x : BitVec 128) : BitVec 128 := (x <<< 1) ^^^ (if x.getLsbD 127 then 0x87 else 0)

/-- CMAC over a block cipher with its two subkeys (SP 800-38B). -/
def cmacWith (enc : List Byte → List Byte) (k1 k2 : BitVec 128) (m : List Byte) : List Byte :=
  let n := if m.length = 0 then 1 else (m.length + 15) / 16
  let last := m.drop (16 * (n - 1))
  let lastVal := if last.length = 16 then blockVal last ^^^ k1 else blockVal (padBytes 16 (last ++ [0x80])) ^^^ k2
  let y := (List.range (n - 1)).foldl
    (fun y i => blockVal (enc (blockBytes (y ^^^ blockVal ((m.drop (16 * i)).take 16))))) (0 : BitVec 128)
  enc (blockBytes (y ^^^ lastVal))

/-- AES-CMAC (SP 800-38B). -/
def aesCmac (key m : List Byte) : List Byte :=
  let k1 := cmacDouble (blockVal (aesEncrypt key (zeroBytes 16)))
  cmacWith (aesEncrypt key) k1 (cmacDouble k1) m

/-- SHA-256 continued from a chaining value over a message, padded for a total length in bytes (R126). -/
def sha256From (st : List (BitVec 32)) (m : List Byte) (total : Nat) : List Byte :=
  let p := m ++ [0x80] ++ zeroBytes ((119 - total % 64) % 64) ++ beBytes 8 (8 * total)
  shaBytes (shaBlocks sha256Block 64 (p.length / 64) st p)

/-- The chaining value that 32 bytes hold. -/
def shaState (bs : List Byte) : List (BitVec 32) := (beWords 4 8 bs).map (BitVec.ofNat 32)

/-- One step of the RFC 3394 unwrap on A and the registers R, for t counting down. -/
def kwStep (key : List Byte) (n : Nat) (st : List Byte × List (List Byte)) (t : Nat) : List Byte × List (List Byte) :=
  let i := (t - 1) % n
  let b := aesDecrypt key (xorBytes st.1 (beBytes 8 t) ++ st.2.getD i [])
  (b.take 8, st.2.set i (b.drop 8))

/-- The unwrap of RFC 3394: the recovered integrity value and plaintext. -/
def kwUnwrap (key wrapped : List Byte) : List Byte × List Byte :=
  let n := wrapped.length / 8 - 1
  let rs := (List.range n).map fun i => (wrapped.drop (8 * (i + 1))).take 8
  let out := (List.range (6 * n)).foldl (fun st j => kwStep key n st (6 * n - j)) (wrapped.take 8, rs)
  (out.1, out.2.flatten)

/-- The KW unwrap with integrity value A6A6A6A6A6A6A6A6 (R181). -/
def kwOpen (key wrapped : List Byte) : Option (List Byte) :=
  if wrapped.length % 8 ≠ 0 ∨ wrapped.length < 24 then none
  else
    let r := kwUnwrap key wrapped
    if r.1 = List.replicate 8 0xA6 then some r.2 else none

/-- The KWP unwrap of RFC 5649 (R181). -/
def kwpOpen (key wrapped : List Byte) : Option (List Byte) :=
  if wrapped.length % 8 ≠ 0 ∨ wrapped.length < 16 then none
  else
    let r := if wrapped.length = 16 then
        let b := aesDecrypt key wrapped
        (b.take 8, b.drop 8)
      else kwUnwrap key wrapped
    let len := beField r.1 4 4
    if r.1.take 4 = [0xA6, 0x59, 0x59, 0xA6] ∧ len ≤ r.2.length ∧ r.2.length < len + 8 ∧ (r.2.drop len).all (· == 0) then
      some (r.2.take len)
    else none

/-- The counter-mode KDF with HMAC-SHA256: profile SP800108 or UMAUX of R182. -/
def kdfBlocks (profile : Nat) (root label context : List Byte) (bits : Nat) : Nat → List Byte
  | 0 => []
  | i + 1 =>
    kdfBlocks profile root label context bits i ++
      (if profile = 1 then
        hmacSha256 root (beBytes 4 (i + 1) ++ label ++ [0] ++ context ++ beBytes 4 bits)
      else
        hmacSha256 root (beBytes 1 (i + 1) ++ asciiBytes "UMX" ++ label ++ context ++ beBytes 2 bits))

/-- The leftmost `len` bytes that the KDF gives (R182). -/
def kdf (profile : Nat) (root label context : List Byte) (len : Nat) : List Byte :=
  (kdfBlocks profile root label context (8 * len) ((len + 31) / 32)).take len

end Sys2Proof
end

