-- ==== Sys2Proof/Machine/Curve.lean ====
section
/-!
DEFINITION. Exponentiation and the group laws of the curve kinds, on numbers: Weierstrass curves in projective form, Edwards curves in extended
form, and the ladder of RFC 7748. The lanes (R225) and the vault's schemes (R192) share them.
-/

namespace Sys2Proof.Machine

/-! ### Exponentiation -/

/-- base^e modulo p over the low `n` bits of e. -/
def powMod (p base e : Nat) : Nat → Nat
  | 0 => 1 % p
  | n + 1 =>
    let h := powMod p base (e / 2) n
    let h2 := h * h % p
    if e % 2 = 1 then h2 * base % p else h2

/-! ### Weierstrass curves -/

/-- A difference modulo p of values below p. -/
def subMod (p a b : Nat) : Nat := (a + p - b) % p

/-- A projective point X : Y : Z; the affine point is (X/Z, Y/Z), and Z = 0 is the identity. -/
structure PPoint where
  x : Nat
  y : Nat
  z : Nat
deriving DecidableEq, Repr

/-- The doubled point on y² = x³ + ax + b. -/
def PPoint.double (p a : Nat) (q : PPoint) : PPoint :=
  if q.z = 0 then q
  else
    let w := (a * q.z * q.z + 3 * q.x * q.x) % p
    let s := q.y * q.z % p
    let b := q.x * q.y * s % p
    let h := subMod p (w * w % p) (8 * b % p)
    ⟨2 * h * s % p, subMod p (w * subMod p (4 * b % p) h % p) (8 * q.y * q.y * s * s % p), 8 * s * s * s % p⟩

/-- The sum of two points. -/
def PPoint.add (p a : Nat) (q r : PPoint) : PPoint :=
  if q.z = 0 then r
  else if r.z = 0 then q
  else
    let u := subMod p (r.y * q.z % p) (q.y * r.z % p)
    let v := subMod p (r.x * q.z % p) (q.x * r.z % p)
    if v = 0 then (if u = 0 then q.double p a else ⟨0, 1, 0⟩)
    else
      let v2 := v * v % p
      let v3 := v2 * v % p
      let e := v2 * q.x * r.z % p
      let t := subMod p (subMod p (u * u * q.z * r.z % p) v3) (2 * e % p)
      ⟨v * t % p, subMod p (u * subMod p e t % p) (v3 * q.y * r.z % p), v3 * q.z * r.z % p⟩

/-- n·Q over the low `bits` bits of n. -/
def PPoint.mul (p a : Nat) (q : PPoint) (n : Nat) : Nat → PPoint
  | 0 => ⟨0, 1, 0⟩
  | b + 1 =>
    let h := (PPoint.mul p a q (n / 2) b).double p a
    if n % 2 = 1 then h.add p a q else h

/-- An affine point as a projective one; (0, 0) is the identity (Lane memory). -/
def PPoint.ofAffine (x y : Nat) : PPoint := if x = 0 ∧ y = 0 then ⟨0, 1, 0⟩ else ⟨x, y, 1⟩

/-! ### Edwards curves -/

/-- An extended point X : Y : Z : T. -/
structure EPoint where
  x : Nat
  y : Nat
  z : Nat
  t : Nat
deriving DecidableEq, Repr

/-- The sum of two points on ax² + y² = 1 + dx²y². -/
def EPoint.add (p a d : Nat) (q r : EPoint) : EPoint :=
  let m1 := q.x * r.x % p
  let m2 := q.y * r.y % p
  let c := d * q.t * r.t % p
  let e0 := q.z * r.z % p
  let e := subMod p ((q.x + q.y) * (r.x + r.y) % p) ((m1 + m2) % p)
  let f := subMod p e0 c
  let g := (e0 + c) % p
  let h := subMod p m2 (a * m1 % p)
  ⟨e * f % p, g * h % p, f * g % p, e * h % p⟩

/-- n·Q over the low `bits` bits of n. -/
def EPoint.mul (p a d : Nat) (q : EPoint) (n : Nat) : Nat → EPoint
  | 0 => ⟨0, 1, 1, 0⟩
  | b + 1 =>
    let h := EPoint.mul p a d q (n / 2) b
    let h2 := h.add p a d h
    if n % 2 = 1 then h2.add p a d q else h2

/-! ### Montgomery curves (RFC 7748) -/

/-- The ladder over `n` bits of a scalar, the highest first: (x2, z2, x3, z3) with a24. -/
def ladder (p a24 u k : Nat) : Nat → Nat × Nat × Nat × Nat → Nat × Nat × Nat × Nat
  | 0, r => r
  | n + 1, (x2, z2, x3, z3) =>
    let swap := k.testBit n
    let (x2, z2, x3, z3) := if swap then (x3, z3, x2, z2) else (x2, z2, x3, z3)
    let a := (x2 + z2) % p
    let aa := a * a % p
    let b := subMod p x2 z2
    let bb := b * b % p
    let e := subMod p aa bb
    let c := (x3 + z3) % p
    let d := subMod p x3 z3
    let da := d * a % p
    let cb := c * b % p
    let x3' := (da + cb) % p * ((da + cb) % p) % p
    let z3' := u * (subMod p da cb * subMod p da cb % p) % p
    let x2' := aa * bb % p
    let z2' := e * (aa + a24 * e) % p
    ladder p a24 u k n (if swap then (x3', z3', x2', z2') else (x2', z2', x3', z3'))

end Sys2Proof.Machine
end

