-- ==== Sys2Proof/Machine/Keccak.lean ====
section
/-!
DEFINITION. Keccak-f[1600] and SHAKE256 of FIPS 202, which Ed448 hashes with (RFC 8032). Lane (x, y) of the state is entry x + 5y. The rotation
amounts and round constants are computed as FIPS 202 defines them. Log entry 4.
-/

namespace Sys2Proof

/-- Lane (x, y), coordinates modulo 5. -/
def kecLane (a : List (BitVec 64)) (x y : Nat) : BitVec 64 := a.getD (x % 5 + 5 * (y % 5)) 0

/-- The lanes of a state by coordinates. -/
def kecMake (f : Nat → Nat → BitVec 64) : List (BitVec 64) := (List.range 25).map fun i => f (i % 5) (i / 5)

/-- Theta. -/
def kecTheta (a : List (BitVec 64)) : List (BitVec 64) :=
  let c := (List.range 5).map fun x => (List.range 5).foldl (fun v y => v ^^^ kecLane a x y) 0
  kecMake fun x y => kecLane a x y ^^^ c.getD ((x + 4) % 5) 0 ^^^ (c.getD ((x + 1) % 5) 0).rotateLeft 1

/-- The rotation amounts of rho: (t + 1)(t + 2)/2 on the walk (x, y) → (y, 2x + 3y) from (1, 0). -/
def kecWalk : Nat → Nat → Nat → Nat → List ((Nat × Nat) × Nat)
  | 0, _, _, _ => []
  | n + 1, t, x, y => ((x, y), (t + 1) * (t + 2) / 2 % 64) :: kecWalk n (t + 1) y ((2 * x + 3 * y) % 5)

/-- Rho and pi. -/
def kecRhoPi (a : List (BitVec 64)) : List (BitVec 64) :=
  let walk := kecWalk 24 0 1 0
  kecMake fun x y =>
    let u := (x + 3 * y) % 5
    (kecLane a u x).rotateLeft (((walk.find? fun w => w.1 == (u, x)).map (·.2)).getD 0)

/-- Chi. -/
def kecChi (a : List (BitVec 64)) : List (BitVec 64) := kecMake fun x y => kecLane a x y ^^^ (~~~ kecLane a (x + 1) y &&& kecLane a (x + 2) y)

/-- One step of the 8-bit feedback register of the round constants. -/
def kecLfsr (r : Nat) : Nat := if 128 ≤ r then (2 * r) ^^^ 0x171 else 2 * r

/-- The constant of a round, from the register at its start: bit 2^j − 1 is the register's bit 0 after j steps. -/
def kecConst : Nat → Nat → Nat → Nat
  | 0, _, _ => 0
  | n + 1, j, r => r % 2 * 2 ^ (2 ^ j - 1) + kecConst n (j + 1) (kecLfsr r)

/-- `n` rounds, with the register of the round constants. -/
def kecRounds : Nat → Nat → List (BitVec 64) → List (BitVec 64)
  | 0, _, a => a
  | n + 1, r, a =>
    let b := kecChi (kecRhoPi (kecTheta a))
    kecRounds n ((List.range 7).foldl (fun r _ => kecLfsr r) r) (b.set 0 (b.getD 0 0 ^^^ BitVec.ofNat 64 (kecConst 7 0 r)))

/-- Keccak-f[1600]. -/
def keccakF (a : List (BitVec 64)) : List (BitVec 64) := kecRounds 24 1 a

/-- Absorbs `n` blocks of `rate` bytes. -/
def kecAbsorb (rate : Nat) : Nat → List Byte → List (BitVec 64) → List (BitVec 64)
  | 0, _, a => a
  | n + 1, m, a =>
    kecAbsorb rate n (m.drop rate) (keccakF (a.zipIdx.map fun x => if x.2 < rate / 8 then x.1 ^^^ BitVec.ofNat 64 (leField m (8 * x.2) 8) else x.1))

/-- Squeezes `n` blocks of `rate` bytes. -/
def kecSqueeze (rate : Nat) : Nat → List (BitVec 64) → List Byte
  | 0, _ => []
  | n + 1, a => (a.take (rate / 8)).flatMap (fun x => leBytes 8 x.toNat) ++ kecSqueeze rate n (keccakF a)

/-- SHAKE256 of a message, `n` bytes (FIPS 202). -/
def shake256 (m : List Byte) (n : Nat) : List Byte :=
  let fill := 136 - m.length % 136
  let pad : List Byte := if fill = 1 then [0x9F] else [0x1F] ++ zeroBytes (fill - 2) ++ [0x80]
  (kecSqueeze 136 (n / 136 + 1) (kecAbsorb 136 ((m.length + fill) / 136) (m ++ pad) (List.replicate 25 0))).take n

end Sys2Proof
end

