-- ==== Sys2Proof/Machine/Ecc.lean ====
section
/-!
DEFINITION. The signature, key-agreement and key-encapsulation schemes of the vault's asymmetric types (R174, R192) on byte strings: encodings, key
and signature validation (R203), and the schemes of FIPS 186-5, RFC 8032, RFC 7748 and RFC 8017. ML-DSA and ML-KEM stay uninterpreted beyond
their encodings. The spec cites the standards and does not repeat them: log entry 4.
-/

namespace Sys2Proof.Machine

/-! ### ECDSA over the curves of FIPS 186-5 -/

/-- A curve y² = x³ − 3x + b of FIPS 186-5: bytes of a coordinate and of a scalar, bits of the order, p, b, base point and order n. -/
structure EcCurve where
  bytes : Nat
  bits : Nat
  p : Nat
  b : Nat
  gx : Nat
  gy : Nat
  n : Nat
deriving DecidableEq, Repr

/-- P-256. -/
def p256 : EcCurve :=
  { bytes := 32, bits := 256, p := 2 ^ 256 - 2 ^ 224 + 2 ^ 192 + 2 ^ 96 - 1
    b := 0x5ac635d8aa3a93e7b3ebbd55769886bc651d06b0cc53b0f63bce3c3e27d2604b
    gx := 0x6b17d1f2e12c4247f8bce6e563a440f277037d812deb33a0f4a13945d898c296
    gy := 0x4fe342e2fe1a7f9b8ee7eb4a7c0f9e162bce33576b315ececbb6406837bf51f5
    n := 0xffffffff00000000ffffffffffffffffbce6faada7179e84f3b9cac2fc632551 }

/-- The order of P-384. -/
def p384Order : Nat := 0xffffffffffffffffffffffffffffffffffffffffffffffffc7634d81f4372ddf581a0db248b0a77aecec196accc52973

/-- P-384. -/
def p384 : EcCurve :=
  { bytes := 48, bits := 384, p := 2 ^ 384 - 2 ^ 128 - 2 ^ 96 + 2 ^ 32 - 1
    b := 0xb3312fa7e23ee7e4988e056be3f82d19181d9c6efe8141120314088f5013875ac656398d8a2ed19d2a85c8edd3ec2aef
    gx := 0xaa87ca22be8b05378eb1c71ef320ad746e1d3b628ba79b9859f741e082542a385502f25dbf55296c3a545e3872760ab7
    gy := 0x3617de4a96262c6f5d9e98bf9292dc29f8f41dbd289a147ce9da3113b5f0b8c00a60b1ce1d7e819d7a431d7c90ea0e5f
    n := p384Order }

/-- P-521. -/
def p521 : EcCurve :=
  { bytes := 66, bits := 521, p := 2 ^ 521 - 1
    b := 0x51953eb9618e1c9a1f929a21a0b68540eea2da725b99b315f3b8b489918ef109e156193951ec7e937b1652c0bd3bb1bf073573df883d2c34f1ef451fd46b503f00
    gx := 0xc6858e06b70404e9cd9e3ecb662395b4429c648139053fb521f828af606b4d3dbaa14b5e77efe75928fe1dc127a2ffa8de3348b3c1856a429bf97e7e31c2e5bd66
    gy := 0x11839296a789a3bc0045c8a5fb42c7d1bd998f54449579b446817afbd17273e662c97ee72995ef42640c550b9013fad0761353c7086a272c24088be94769fd16650
    n := 2 ^ 521 - 2 ^ 264 + 0xfa51868783bf2f966b7fcc0148f709a5d03bb5c9b8899c47aebb6fb71e91386409 }

/-- The curve of an ECC type code. -/
def ecCurve (t : Nat) : EcCurve := if t = 0x10 then p256 else if t = 0x11 then p384 else p521

/-- n·(x, y) on a curve. -/
def EcCurve.times (c : EcCurve) (n x y : Nat) : PPoint := PPoint.mul c.p (c.p - 3) (PPoint.ofAffine x y) n c.bits

/-- The inverse modulo a prime below 2^bits. -/
def primeInv (p a bits : Nat) : Nat := powMod p (a % p) (p - 2) bits

/-- The affine coordinates of a point that is not the identity. -/
def EcCurve.affine (c : EcCurve) (q : PPoint) : Nat × Nat :=
  let i := primeInv c.p q.z c.bits
  (q.x * i % c.p, q.y * i % c.p)

/-- A point in SEC1 uncompressed form. -/
def EcCurve.encode (c : EcCurve) (q : Nat × Nat) : List Byte := [0x04] ++ beBytes c.bytes q.1 ++ beBytes c.bytes q.2

/-- The public key of a private scalar. -/
def EcCurve.public (c : EcCurve) (d : Nat) : List Byte := c.encode (c.affine (c.times d c.gx c.gy))

/-- The coordinates in a SEC1 uncompressed form. -/
def EcCurve.point (c : EcCurve) (key : List Byte) : Nat × Nat := (beField key 1 c.bytes, beField key (1 + c.bytes) c.bytes)

/-- The point satisfies the curve equation. -/
def EcCurve.holds (c : EcCurve) (x y : Nat) : Bool := y * y % c.p == (x * x * x + (c.p - 3) * x + c.b) % c.p

/-- The leftmost bits of a digest as a scalar (FIPS 186-5, 6.4). -/
def EcCurve.scalarOf (c : EcCurve) (digest : List Byte) : Nat := ofBe digest / 2 ^ (8 * digest.length - c.bits) % c.n

/-- The ECDSA signature r ‖ s of a digest with nonce k. -/
def EcCurve.sign (c : EcCurve) (d : Nat) (digest : List Byte) (k : Nat) : List Byte :=
  let r := (c.affine (c.times k c.gx c.gy)).1 % c.n
  let s := primeInv c.n k c.bits * (c.scalarOf digest + r * d) % c.n
  beBytes c.bytes r ++ beBytes c.bytes s

/-- ECDSA verification for a point on the curve and r, s in [1, n). -/
def EcCurve.verify (c : EcCurve) (q : Nat × Nat) (digest : List Byte) (r s : Nat) : Bool :=
  let w := primeInv c.n s c.bits
  let x := (c.times (c.scalarOf digest * w % c.n) c.gx c.gy).add c.p (c.p - 3) (c.times (r * w % c.n) q.1 q.2)
  x.z != 0 && (c.affine x).1 % c.n == r

/-- A nonce or private scalar in [1, n) from 8 bytes more than the order has (FIPS 186-5, A.2.1 and A.3.1). -/
def EcCurve.draw (c : EcCurve) (rnd : List Byte) : Nat := ofBe (rnd.take (c.bytes + 8)) % (c.n - 1) + 1

/-! ### EdDSA (RFC 8032) -/

/-- An Edwards curve ax² + y² = 1 + dx²y²: bytes of an encoding, bits of p, base point, order, log₂ of the cofactor. -/
structure EdCurve where
  bytes : Nat
  bits : Nat
  p : Nat
  a : Nat
  d : Nat
  gx : Nat
  gy : Nat
  order : Nat
  cofactor : Nat
deriving DecidableEq, Repr

/-- edwards25519. -/
def ed25519 : EdCurve :=
  { bytes := 32, bits := 255, p := 2 ^ 255 - 19, a := 2 ^ 255 - 20
    d := 0x52036cee2b6ffe738cc740797779e89800700a4d4141d8ab75eb4dca135978a3
    gx := 0x216936d3cd6e53fec0a4e231fdd6dc5c692cc7609525a7b2c9562d608f25d51a
    gy := 0x6666666666666666666666666666666666666666666666666666666666666658
    order := 2 ^ 252 + 27742317777372353535851937790883648493, cofactor := 3 }

/-- edwards448. -/
def ed448 : EdCurve :=
  { bytes := 57, bits := 448, p := 2 ^ 448 - 2 ^ 224 - 1, a := 1, d := 2 ^ 448 - 2 ^ 224 - 1 - 39081
    gx := 0x4f1970c66bed0ded221d15a622bf36da9e146570470f1767ea6de324a3d3a46412ae1af72ab66511433b80e18b00938e2626a82bc70cc05e
    gy := 0x693f46716eb6bc248876203756c9c7624bea73736ca3984087789c1e05a0c2d73ad3ff1ce67c39c4fdbd132c4ed7c8ad9808795bf230fa14
    order := 2 ^ 446 - 13818066809895115352007386748515426880336692474882178609894547503885, cofactor := 2 }

/-- The curve of an Ed25519 or Ed448 type code. -/
def edCurve (t : Nat) : EdCurve := if t = 0x18 then ed25519 else ed448

/-- The hash of RFC 8032 for a curve: SHA-512, or SHAKE256 behind dom4 with an empty context. -/
def EdCurve.hash (c : EdCurve) (m : List Byte) : List Byte :=
  if c.bytes = 32 then sha512 m else shake256 (asciiBytes "SigEd448" ++ [0, 0] ++ m) 114

/-- An affine point in extended form. -/
def EdCurve.ext (c : EdCurve) (q : Nat × Nat) : EPoint := ⟨q.1, q.2, 1, q.1 * q.2 % c.p⟩

/-- n·Q. -/
def EdCurve.times (c : EdCurve) (n : Nat) (q : EPoint) : EPoint := EPoint.mul c.p c.a c.d q n c.bits

/-- The encoding of a point: y, with the lowest bit of x as the highest bit. -/
def EdCurve.encode (c : EdCurve) (q : EPoint) : List Byte :=
  let i := primeInv c.p q.z c.bits
  leBytes c.bytes (q.y * i % c.p + q.x * i % c.p % 2 * 2 ^ (8 * c.bytes - 1))

/-- A square root of u/v modulo p, if there is one (RFC 8032, 5.1.3 and 5.2.3). -/
def EdCurve.root (c : EdCurve) (u v : Nat) : Option Nat :=
  let x := if c.bytes = 32 then u * powMod c.p v 3 2 % c.p * powMod c.p (u * powMod c.p v 7 3 % c.p) ((c.p - 5) / 8) c.bits % c.p
    else u * u % c.p * u % c.p * v % c.p * powMod c.p (powMod c.p u 5 3 * powMod c.p v 3 2 % c.p) ((c.p - 3) / 4) c.bits % c.p
  let w := v * x % c.p * x % c.p
  if w = u % c.p then some x
  else if c.bytes = 32 ∧ w = (c.p - u % c.p) % c.p then some (x * powMod c.p 2 ((c.p - 1) / 4) c.bits % c.p)
  else none

/-- The y coordinate in an encoding, and the sign bit of x. -/
def EdCurve.split (c : EdCurve) (b : List Byte) : Nat × Nat := (ofLe b % 2 ^ (8 * c.bytes - 1), ofLe b / 2 ^ (8 * c.bytes - 1))

/-- The point that an encoding names (RFC 8032, 5.1.3 and 5.2.3). -/
def EdCurve.decode (c : EdCurve) (b : List Byte) : Option (Nat × Nat) :=
  let y := (c.split b).1
  let sign := (c.split b).2
  if b.length ≠ c.bytes ∨ c.p ≤ y then none
  else
    match c.root (subMod c.p (y * y % c.p) 1) (subMod c.p (c.d * (y * y % c.p) % c.p) c.a) with
    | none => none
    | some x => if x = 0 ∧ sign = 1 then none else some (if x % 2 = sign then x else c.p - x, y)

/-- The secret scalar and the prefix of a seed. -/
def EdCurve.expand (c : EdCurve) (seed : List Byte) : Nat × List Byte :=
  let h := if c.bytes = 32 then sha512 seed else shake256 seed 114
  let v := ofLe (h.take c.bytes)
  let a := if c.bytes = 32 then v % 2 ^ 254 / 8 * 8 + 2 ^ 254 else v % 2 ^ 447 / 4 * 4 + 2 ^ 447
  (a, h.drop c.bytes)

/-- The public key of a seed. -/
def EdCurve.public (c : EdCurve) (seed : List Byte) : List Byte := c.encode (c.times (c.expand seed).1 (c.ext (c.gx, c.gy)))

/-- The pure EdDSA signature of a message. -/
def EdCurve.sign (c : EdCurve) (seed m : List Byte) : List Byte :=
  let e := c.expand seed
  let r := ofLe (c.hash (e.2 ++ m)) % c.order
  let rb := c.encode (c.times r (c.ext (c.gx, c.gy)))
  let k := ofLe (c.hash (rb ++ c.public seed ++ m)) % c.order
  rb ++ leBytes c.bytes ((r + k * e.1) % c.order)

/-- A point in extended form equals another. -/
def EPoint.same (p : Nat) (q r : EPoint) : Bool := q.x * r.z % p == r.x * q.z % p && q.y * r.z % p == r.y * q.z % p

/-- Pure EdDSA verification with the cofactor (RFC 8032, 5.1.7 and 5.2.7). -/
def EdCurve.verify (c : EdCurve) (key m sig : List Byte) : Bool :=
  let s := ofLe (sig.drop c.bytes)
  match c.decode key, c.decode (sig.take c.bytes) with
  | some a, some r =>
    let k := ofLe (c.hash (sig.take c.bytes ++ key ++ m)) % c.order
    let up (q : EPoint) : EPoint := c.times (2 ^ c.cofactor) q
    sig.length == 2 * c.bytes && decide (s < c.order) &&
      EPoint.same c.p (up (c.times s (c.ext (c.gx, c.gy)))) (up ((c.ext r).add c.p c.a c.d (c.times k (c.ext a))))
  | _, _ => false

/-! ### X25519 and X448 (RFC 7748) -/

/-- The function X25519 (type 0x1A) or X448 of a private scalar and a u-coordinate. -/
def xFunction (t : Nat) (k u : List Byte) : List Byte :=
  let small : Bool := t == 0x1A
  let p := if small then 2 ^ 255 - 19 else 2 ^ 448 - 2 ^ 224 - 1
  let bits := if small then 255 else 448
  let e := if small then ofLe k % 2 ^ 254 / 8 * 8 + 2 ^ 254 else ofLe k % 2 ^ 447 / 4 * 4 + 2 ^ 447
  let x := (if small then ofLe u % 2 ^ 255 else ofLe u) % p
  let r := ladder p (if small then 121665 else 39081) x e bits (1, 0, x, 1)
  leBytes (if small then 32 else 56) (r.1 * primeInv p r.2.1 bits % p)

/-- The u-coordinate of the base point. -/
def xBase (t : Nat) : List Byte := leBytes (if t = 0x1A then 32 else 56) (if t = 0x1A then 9 else 5)

/-! ### RSA (RFC 8017) -/

/-- The bytes of a modulus. -/
def rsaBytes (t : Nat) : Nat := if t = 0x20 then 256 else if t = 0x21 then 384 else 512

/-- The private values p, q, dP, dQ, qInv and e of stored material (R174). -/
def rsaPart (t i : Nat) (m : List Byte) : Nat :=
  let h := rsaBytes t / 2
  beField m (i * h) (if i = 5 then 4 else h)

/-- The length octets of DER. -/
def derLength (n : Nat) : List Byte := if n < 128 then [BitVec.ofNat 8 n] else if n < 256 then [0x81] ++ beBytes 1 n else [0x82] ++ beBytes 2 n

/-- A positive INTEGER in DER. -/
def derInt (v : Nat) : List Byte :=
  let b := beBytes (Nat.log2 v / 8 + 1) v
  let b := if (b.headD 0).toNat < 128 then b else 0 :: b
  [0x02] ++ derLength b.length ++ b

/-- The DER RSAPublicKey of a modulus and an exponent. -/
def rsaDer (n e : Nat) : List Byte :=
  let b := derInt n ++ derInt e
  [0x30] ++ derLength b.length ++ b

/-- The modulus and exponent in a DER RSAPublicKey of a type: a modulus of the type's size, an odd exponent above 1 of at most 32 bits. -/
def rsaDecode (t : Nat) (b : List Byte) : Option (Nat × Nat) :=
  let n := beField b 9 (rsaBytes t)
  let e := ofBe (b.drop (11 + rsaBytes t))
  if rsaDer n e = b ∧ n % 2 = 1 ∧ 2 ^ (8 * rsaBytes t - 1) ≤ n ∧ e % 2 = 1 ∧ 1 < e ∧ e < 2 ^ 32 then some (n, e) else none

/-- The private operation, by the Chinese remainder theorem. -/
def rsaPrivate (t : Nat) (m : List Byte) (v : Nat) : Nat :=
  let p := rsaPart t 0 m
  let q := rsaPart t 1 m
  let bits := 4 * rsaBytes t
  let m1 := powMod p (v % p) (rsaPart t 2 m) bits
  let m2 := powMod q (v % q) (rsaPart t 3 m) bits
  m2 + rsaPart t 4 m * (m1 + p - m2 % p) % p * q

/-- SHA-224 (FIPS 180-4). -/
def sha224 (m : List Byte) : List Byte :=
  let p := shaPad 64 8 m
  (shaBytes (shaBlocks sha256Block 64 (p.length / 64)
    ((unpack8 32 0xc1059ed8367cd5073070dd17f70e5939ffc00b316858151164f98fa7befa4fa4).map (BitVec.ofNat 32)) p)).take 28

/-- The SHA-2 function whose digest has a length. -/
def shaOf (n : Nat) (m : List Byte) : List Byte := if n = 28 then sha224 m else if n = 32 then sha256 m else if n = 48 then sha384 m else sha512 m

/-- EMSA-PKCS1-v1_5 of a SHA-2 digest. -/
def pkcs1Encode (t : Nat) (digest : List Byte) : List Byte :=
  let alg : Byte := if digest.length = 28 then 4 else if digest.length = 32 then 1 else if digest.length = 48 then 2 else 3
  let h := BitVec.ofNat 8 digest.length
  let info := [0x30, 17 + h, 0x30, 0x0d, 0x06, 0x09, 0x60, 0x86, 0x48, 0x01, 0x65, 0x03, 0x04, 0x02, alg, 0x05, 0x00, 0x04, h] ++ digest
  [0x00, 0x01] ++ List.replicate (rsaBytes t - 3 - info.length) 0xFF ++ [0x00] ++ info

/-- MGF1 with the SHA-2 function of a digest length, `len` bytes. -/
def mgf1 (hLen : Nat) (seed : List Byte) (len : Nat) : List Byte :=
  ((List.range (len / hLen + 1)).flatMap fun i => shaOf hLen (seed ++ beBytes 4 i)).take len

/-- EMSA-PSS-ENCODE of a digest with a salt; the modulus has a whole number of bytes, so one bit is cleared. -/
def pssEncode (t : Nat) (digest salt : List Byte) : List Byte :=
  let em := rsaBytes t
  let h := shaOf digest.length (zeroBytes 8 ++ digest ++ salt)
  let db := zeroBytes (em - salt.length - digest.length - 2) ++ [0x01] ++ salt
  let masked := xorBytes db (mgf1 digest.length h (em - digest.length - 1))
  (masked.headD 0 &&& 0x7F) :: (masked.drop 1 ++ h ++ [0xBC])

/-- EMSA-PSS-VERIFY with a salt length. -/
def pssVerify (t : Nat) (digest em : List Byte) (sLen : Nat) : Bool :=
  let n := rsaBytes t - digest.length - 1
  let h := (em.drop n).take digest.length
  let db := xorBytes (em.take n) (mgf1 digest.length h n)
  decide (digest.length + sLen + 2 ≤ rsaBytes t) && em.length == rsaBytes t && pssEncode t digest (db.drop (n - sLen)) == em

/-! ### ML-DSA and ML-KEM encodings (FIPS 204, FIPS 203) -/

/-- The bytes of an ML-DSA or ML-KEM public key. -/
def latticePublicLen (t : Nat) : Nat :=
  if t = 0x28 then 1312 else if t = 0x29 then 1952 else if t = 0x2A then 2592 else if t = 0x30 then 1184 else 1568

/-- The bytes of an ML-DSA signature. -/
def mldsaSigLen (t : Nat) : Nat := if t = 0x28 then 2420 else if t = 0x29 then 3309 else 4627

/-- The bytes of an ML-KEM ciphertext. -/
def mlkemCtLen (t : Nat) : Nat := if t = 0x30 then 1088 else 1568

/-- The modulus check of FIPS 203 (7.2): every 12-bit value of the encoded vector is below q. -/
def mlkemModulus (key : List Byte) : Bool :=
  (List.range ((key.length - 32) / 3)).all fun i =>
    let v := leField key (3 * i) 3
    decide (v % 4096 < 3329) && decide (v / 4096 < 3329)

/-! ### Keys of a type -/

/-- The public key of a private type's material, in the encoding that KEY_PUBLIC returns (R174, Attribute head). -/
def publicKey (t : Nat) (m : List Byte) : List Byte :=
  if t ≤ 0x12 then (ecCurve t).public (ofBe m)
  else if t ≤ 0x19 then (edCurve t).public m
  else if t ≤ 0x1B then xFunction t m (xBase t)
  else if t ≤ 0x22 then rsaDer (rsaPart t 0 m * rsaPart t 1 m) (rsaPart t 5 m)
  else padBytes (latticePublicLen t) (Config.latticePublic t m)

/-- The random bytes from which the material of a type is made (R174). -/
def generateBytes (t : Nat) : Nat :=
  if t = 1 then 16
  else if t ≤ 3 then 64
  else if t ≤ 0x12 then (ecCurve t).bytes + 8
  else if t = 0x19 then 57
  else if t = 0x1B then 56
  else if 0x20 ≤ t ∧ t ≤ 0x22 then 64
  else if t = 0x30 ∨ t = 0x31 then 64 else 32

/-- The material of a private type from random bytes: a scalar in [1, n), a seed, or the primes and exponents of an RSA key, whose search the model
leaves open (log entry 4). -/
def genMaterial (t : Nat) (rnd : List Byte) : List Byte :=
  if t ≤ 0x12 then beBytes (ecCurve t).bytes ((ecCurve t).draw rnd)
  else if 0x20 ≤ t ∧ t ≤ 0x22 then padBytes (5 * (rsaBytes t / 2) + 4) (Config.rsaMaterial t rnd)
  else padBytes (generateBytes t) rnd

/-- The byte string has the form of a public key of a private-type code: length and fixed bytes (KEY_VERIFY, malformed encoding). -/
def publicForm (t : Nat) (key : List Byte) : Bool :=
  if t ≤ 0x12 then key.length == 2 * (ecCurve t).bytes + 1 && key.headD 0 == 4
  else if t ≤ 0x19 then key.length == (edCurve t).bytes
  else if t ≤ 0x1B then key.length == (xBase t).length
  else if t ≤ 0x22 then (rsaDecode t key).isSome
  else key.length == latticePublicLen t

/-- What the fixed-time validation of a public key in its form gives (R203): RANGE, NOT_INFINITY and ON_CURVE for a curve point. -/
def publicCheck (t : Nat) (key : List Byte) : Status :=
  if t ≤ 0x12 then
    let c := ecCurve t
    let q := c.point key
    if c.p ≤ q.1 ∨ c.p ≤ q.2 then .inputRange else if q = (0, 0) then .pointAtInfinity else if c.holds q.1 q.2 then .ok else .notOnCurve
  else if t ≤ 0x19 then
    let c := edCurve t
    if c.p ≤ (c.split key).1 then .inputRange
    else
      match c.decode key with
      | none => .notOnCurve
      | some q =>
        if q = (0, 1) then .pointAtInfinity
        else if EPoint.same c.p (c.times c.order (c.ext q)) ⟨0, 1, 1, 0⟩ then .ok else .notOnCurve
  else .ok

/-! ### Schemes -/

/-- The random bytes that a scheme draws for each signature (R206): the ECDSA nonce, the RSA-PSS salt, the ML-DSA rnd. -/
def Scheme.randomBytes (x : Scheme) (t : Nat) : Nat :=
  match x with
  | .ecdsa => (ecCurve t).bytes + 8
  | .rsaPss n => n
  | .mlDsa _ => 32
  | .eddsa | .rsaPkcs1 => 0

/-- The signature of a scheme by a type and material over a digest or message, with its random bytes (R192). -/
def Scheme.sign (x : Scheme) (t : Nat) (m msg rnd : List Byte) : List Byte :=
  match x with
  | .ecdsa => (ecCurve t).sign (ofBe m) msg ((ecCurve t).draw rnd)
  | .eddsa => (edCurve t).sign m msg
  | .rsaPss n => beBytes (rsaBytes t) (rsaPrivate t m (ofBe (pssEncode t msg (padBytes n rnd))))
  | .rsaPkcs1 => beBytes (rsaBytes t) (rsaPrivate t m (ofBe (pkcs1Encode t msg)))
  | .mlDsa ctx => padBytes (mldsaSigLen t) (Config.mldsaSign t m ctx msg rnd)

/-- The byte string has the length of a signature of a scheme under a private-type code. -/
def Scheme.sigForm (x : Scheme) (t : Nat) (sig : List Byte) : Bool :=
  match x with
  | .ecdsa => sig.length == 2 * (ecCurve t).bytes
  | .eddsa => sig.length == 2 * (edCurve t).bytes
  | .rsaPss _ | .rsaPkcs1 => sig.length == rsaBytes t
  | .mlDsa _ => sig.length == mldsaSigLen t

/-- What the fixed-time validation of a signature gives (R203): ORDER and NONZERO of r, then of s. -/
def Scheme.sigCheck (x : Scheme) (t : Nat) (sig : List Byte) : Status :=
  match x with
  | .ecdsa =>
    let c := ecCurve t
    let r := beField sig 0 c.bytes
    let s := beField sig c.bytes c.bytes
    if c.n ≤ r then .inputRange else if r = 0 then .inputZero else if c.n ≤ s then .inputRange else if s = 0 then .inputZero else .ok
  | _ => .ok

/-- Verification under a scheme with a private-type code, a public key, the digest or message, and the signature (R192). -/
def Scheme.verify (x : Scheme) (t : Nat) (key msg sig : List Byte) : Bool :=
  let rsa (f : List Byte → Bool) : Bool := (rsaDecode t key).any fun k =>
    decide (ofBe sig < k.1) && f (beBytes (rsaBytes t) (powMod k.1 (ofBe sig) k.2 32))
  match x with
  | .ecdsa =>
    let c := ecCurve t
    c.verify (c.point key) msg (beField sig 0 c.bytes) (beField sig c.bytes c.bytes)
  | .eddsa => (edCurve t).verify key msg sig
  | .rsaPss n => rsa fun em => pssVerify t msg em n
  | .rsaPkcs1 => rsa fun em => em == pkcs1Encode t msg
  | .mlDsa ctx => Config.mldsaVerify t key ctx msg sig

/-- The validation of a verification job (R203, R204): the public key in slot A, then r and s. -/
def Scheme.validate (x : Scheme) (t : Nat) (key sig : List Byte) : Status := if publicCheck t key = .ok then x.sigCheck t sig else publicCheck t key

/-- A signature of a scheme in its whole: form, validation and verification. -/
def Scheme.accepts (x : Scheme) (t : Nat) (key msg sig : List Byte) : Bool :=
  publicForm t key && x.sigForm t sig && x.validate t key sig == .ok && x.verify t key msg sig

/-- The signatures over the messages of R464, by ALG (R41): ECDSA P-384 hashes m with SHA-384, Ed25519 is the pure mode over m, and
ML-DSA-65 has an empty context string. -/
def verifySig (alg : Nat) (key m sig : List Byte) : Bool :=
  if alg = 1 then Scheme.ecdsa.accepts 0x11 key (sha384 m) sig
  else if alg = 2 then Scheme.eddsa.accepts 0x18 key m sig
  else if alg = 3 then (Scheme.mlDsa []).accepts 0x29 key m sig
  else false

/-- ML-KEM encapsulation (FIPS 203): ciphertext and secret, from 32 random bytes. -/
def encap (t : Nat) (key rnd : List Byte) : List Byte × List Byte :=
  let e := Config.mlkemEncap t key rnd
  (padBytes (mlkemCtLen t) e.1, padBytes 32 e.2)

/-- ML-KEM decapsulation, with implicit rejection (FIPS 203). -/
def decap (t : Nat) (m ct : List Byte) : List Byte := padBytes 32 (Config.mlkemDecap t m ct)

end Sys2Proof.Machine
end

