-- ==== Sys2Proof/Machine/Regs.lean ====
section
/-!
DEFINITION. The control registers of the span-local register window (R5, R460, R461): each block's register table with the
offset, access code and reset value of every field, the address of every register, and a name for every field.
Offsets are relative to the window base 0x0_F000_0000. Bits that no field names are RSV: they read zero and ignore writes.
-/

namespace Sys2Proof.Machine

/-- The access codes of R5. RSV bits are the bits that no field names. -/
inductive Access where
  | ro
  | rw
  | wo
  | w1c
  | w1s
  | rc
deriving DecidableEq, Repr

/-- One field of a register: its bits, access code, reset value (plus `step` for each index of a family), and whether a
POR, a SPAN and a BLOCK reset give it that value (R8). -/
structure RegField where
  hi : Nat
  lo : Nat
  acc : Access
  reset : Nat
  step : Nat
  por : Bool
  span : Bool
  block : Bool
deriving DecidableEq, Repr

/-- A register, or a family of `count` registers `stride` bytes apart, at a window offset. -/
structure RegDef where
  name : String
  off : Nat
  stride : Nat
  count : Nat
  fields : List RegField
deriving DecidableEq, Repr

/-- A field that every reset domain resets. -/
def fld (hi lo : Nat) (acc : Access) (reset : Nat) : RegField := ⟨hi, lo, acc, reset, 0, true, true, true⟩

/-- A field whose Reset column lists the domains. -/
def fldK (hi lo : Nat) (acc : Access) (reset : Nat) (por span block : Bool) : RegField :=
  ⟨hi, lo, acc, reset, 0, por, span, block⟩

/-- A field of one register: the register's window offset and the field's bits. -/
structure FieldRef where
  reg : Nat
  hi : Nat
  lo : Nat
deriving DecidableEq, Repr

/-- The STE registers (05_stream_tag_engine.md). -/
def regSte : List RegDef :=
  [⟨"STE_CTRL", 0x0, 0x4, 1, [fld 0 0 .rw 0x0]⟩,
   ⟨"STE_STATUS", 0x4, 0x4, 1, [fld 4 0 .ro 0x0, fld 11 8 .ro 0x0]⟩,
   ⟨"STE_CTX_BASE", 0x8, 0x4, 1, [fld 11 0 .rw 0x0]⟩,
   ⟨"STE_CTX_OP", 0xc, 0x4, 1, [fld 2 0 .wo 0x0, fld 31 31 .ro 0x0]⟩,
   ⟨"STE_KS_SEL", 0x10, 0x4, 1, [fld 11 0 .rw 0x0, fld 12 12 .rw 0x0]⟩,
   ⟨"STE_KS_OP", 0x14, 0x4, 1, [fld 1 0 .wo 0x0, fld 31 31 .ro 0x0]⟩,
   ⟨"STE_EVT", 0x18, 0x4, 1, [fld 0 0 .w1c 0x0, fld 1 1 .w1c 0x0, fld 2 2 .w1c 0x0, fld 3 3 .w1c 0x0, fld 4 4 .w1c 0x0, fld 5 5 .w1c 0x0, fld 6 6 .w1c 0x0, fld 7 7 .w1c 0x0]⟩,
   ⟨"STE_IEN", 0x1c, 0x4, 1, [fld 7 0 .rw 0x0]⟩,
   ⟨"STE_CTX_ENTRYn", 0x100, 0x4, 24, [fld 31 0 .rw 0x0]⟩,
   ⟨"STE_CTX_STATEn", 0x180, 0x4, 12, [fld 31 0 .ro 0x0]⟩,
   ⟨"STE_KS_DATAn", 0x200, 0x4, 96, [fld 31 0 .wo 0x0]⟩,
   ⟨"STE_KS_HEADn", 0x400, 0x4, 8, [fld 31 0 .ro 0x0]⟩,
   ⟨"STE_SIGNED_LO", 0x800, 0x4, 1, [fld 31 0 .ro 0x0]⟩,
   ⟨"STE_SIGNED_HI", 0x804, 0x4, 1, [fld 31 0 .ro 0x0]⟩,
   ⟨"STE_VERIFIED_LO", 0x808, 0x4, 1, [fld 31 0 .ro 0x0]⟩,
   ⟨"STE_VERIFIED_HI", 0x80c, 0x4, 1, [fld 31 0 .ro 0x0]⟩,
   ⟨"STE_TAG_FAIL", 0x810, 0x4, 1, [fld 31 0 .rc 0x0]⟩,
   ⟨"STE_REPLAY", 0x814, 0x4, 1, [fld 31 0 .rc 0x0]⟩,
   ⟨"STE_STALE", 0x818, 0x4, 1, [fld 31 0 .rc 0x0]⟩,
   ⟨"STE_NONCE_ORDER", 0x81c, 0x4, 1, [fld 31 0 .rc 0x0]⟩,
   ⟨"STE_NO_KEY", 0x820, 0x4, 1, [fld 31 0 .rc 0x0]⟩,
   ⟨"STE_KEY_ID_UNKNOWN", 0x824, 0x4, 1, [fld 31 0 .rc 0x0]⟩,
   ⟨"STE_TEMPLATE_MISMATCH", 0x828, 0x4, 1, [fld 31 0 .rc 0x0]⟩]

/-- The CLS registers (04_stream_ports.md). -/
def regCls : List RegDef :=
  [⟨"CLS_HASH_SEED0", 0x10000, 0x4, 1, [fldK 31 0 .rw 0x0 true true false]⟩,
   ⟨"CLS_HASH_SEED1", 0x10004, 0x4, 1, [fldK 31 0 .rw 0x0 true true false]⟩,
   ⟨"CLS_EM_COUNT", 0x10008, 0x4, 1, [fld 13 0 .ro 0x0]⟩,
   ⟨"CLS_WC_COUNT", 0x1000c, 0x4, 1, [fld 8 0 .ro 0x0]⟩,
   ⟨"CLS_UDP_SI", 0x10010, 0x4, 1, [fld 7 0 .rw 0xa1, fld 15 8 .rw 0xa2, fld 31 16 .rw 0x66]⟩,
   ⟨"CLS_EM_INDEX", 0x10020, 0x4, 1, [fld 12 0 .rw 0x0]⟩,
   ⟨"CLS_EM_OP", 0x10024, 0x4, 1, [fld 1 0 .wo 0x0, fld 31 31 .ro 0x0]⟩,
   ⟨"CLS_EM_KEYn", 0x10040, 0x4, 8, [fld 31 0 .rw 0x0]⟩,
   ⟨"CLS_EM_RESULT", 0x10060, 0x4, 1, [fld 11 0 .rw 0x0, fld 31 31 .rw 0x0]⟩,
   ⟨"CLS_COMMIT", 0x10080, 0x4, 1, [fld 0 0 .wo 0x0, fld 8 8 .ro 0x0]⟩,
   ⟨"CLS_EVT", 0x10084, 0x4, 1, [fld 0 0 .w1c 0x0, fld 1 1 .w1c 0x0, fld 2 2 .w1c 0x0]⟩,
   ⟨"CLS_IEN", 0x10088, 0x4, 1, [fld 2 0 .rw 0x0]⟩,
   ⟨"CLS_WC_INDEX", 0x100a0, 0x4, 1, [fld 7 0 .rw 0x0]⟩,
   ⟨"CLS_WC_RESULT", 0x100a4, 0x4, 1, [fld 11 0 .ro 0x0, fld 13 12 .ro 0x0, fld 15 14 .ro 0x0, fld 17 16 .ro 0x0]⟩,
   ⟨"CLS_WC_VALUEn", 0x100c0, 0x4, 8, [fld 31 0 .ro 0x0]⟩,
   ⟨"CLS_WC_MASKn", 0x100e0, 0x4, 8, [fld 31 0 .ro 0x0]⟩,
   ⟨"CLS_PORTn_CFG", 0x11000, 0x400, 2, [fld 2 0 .ro 0x4, fld 5 4 .ro 0x0, fld 9 8 .ro 0x0, fld 10 10 .ro 0x0]⟩,
   ⟨"CLS_PORTn_CTRL", 0x11004, 0x400, 2, [fld 0 0 .rw 0x0, fld 1 1 .rw 0x0, fld 2 2 .w1s 0x0]⟩,
   ⟨"CLS_PORTn_SERDES", 0x11008, 0x400, 2, [fld 3 0 .rw 0x0, fld 9 4 .rw 0x30, fld 14 10 .rw 0x0, fld 19 16 .rw 0x8]⟩,
   ⟨"CLS_PORTn_STATUS", 0x1100c, 0x400, 2, [fld 0 0 .ro 0x0, fld 1 1 .ro 0x0, fld 2 2 .ro 0x0, fld 3 3 .ro 0x0, fld 4 4 .ro 0x0, fld 5 5 .ro 0x0, fld 6 6 .ro 0x0]⟩,
   ⟨"CLS_PORTn_EVT", 0x11010, 0x400, 2, [fld 6 0 .w1c 0x0]⟩,
   ⟨"CLS_PORTn_IEN", 0x11014, 0x400, 2, [fld 6 0 .rw 0x0]⟩,
   ⟨"CLS_PORTn_BUF_RSV", 0x11018, 0x400, 2, [fld 15 0 .rw 0x0]⟩,
   ⟨"CLS_PORTn_BUF_THR", 0x1101c, 0x400, 2, [fld 15 0 .rw 0x400, fld 31 16 .rw 0x800]⟩,
   ⟨"CLS_PORTn_BUF_OCC", 0x11020, 0x400, 2, [fld 15 0 .ro 0x0, fld 31 16 .rc 0x0]⟩] ++
  [⟨"CLS_PORTn_TS_RX_LAT", 0x11024, 0x400, 2, [fld 15 0 .rw 0x0]⟩,
   ⟨"CLS_PORTn_TS_TX_LAT", 0x11028, 0x400, 2, [fld 15 0 .rw 0x0]⟩,
   ⟨"CLS_PORTn_PTP_RXQ_LO", 0x11030, 0x400, 2, [fld 31 0 .rw 0x0]⟩,
   ⟨"CLS_PORTn_PTP_RXQ_HI", 0x11034, 0x400, 2, [fld 31 0 .rw 0x0]⟩,
   ⟨"CLS_PORTn_PTP_RXQ_SEQ", 0x11038, 0x400, 2, [fld 15 0 .ro 0x0]⟩,
   ⟨"CLS_PORTn_PTP_TX_DB", 0x1103c, 0x400, 2, [fld 2 0 .wo 0x0]⟩,
   ⟨"CLS_PORTn_PTP_TXQ_LO", 0x11040, 0x400, 2, [fld 31 0 .rw 0x0]⟩,
   ⟨"CLS_PORTn_PTP_TXQ_HI", 0x11044, 0x400, 2, [fld 31 0 .rw 0x0]⟩,
   ⟨"CLS_PORTn_RX_FRAMES_LO", 0x11100, 0x400, 2, [fld 31 0 .ro 0x0]⟩,
   ⟨"CLS_PORTn_RX_FRAMES_HI", 0x11104, 0x400, 2, [fld 31 0 .ro 0x0]⟩,
   ⟨"CLS_PORTn_RX_BYTES_LO", 0x11108, 0x400, 2, [fld 31 0 .ro 0x0]⟩,
   ⟨"CLS_PORTn_RX_BYTES_HI", 0x1110c, 0x400, 2, [fld 31 0 .ro 0x0]⟩,
   ⟨"CLS_PORTn_TX_FRAMES_LO", 0x11110, 0x400, 2, [fld 31 0 .ro 0x0]⟩,
   ⟨"CLS_PORTn_TX_FRAMES_HI", 0x11114, 0x400, 2, [fld 31 0 .ro 0x0]⟩,
   ⟨"CLS_PORTn_TX_BYTES_LO", 0x11118, 0x400, 2, [fld 31 0 .ro 0x0]⟩,
   ⟨"CLS_PORTn_TX_BYTES_HI", 0x1111c, 0x400, 2, [fld 31 0 .ro 0x0]⟩,
   ⟨"CLS_PORTn_MATCH_EXACT_LO", 0x11130, 0x400, 2, [fld 31 0 .ro 0x0]⟩,
   ⟨"CLS_PORTn_MATCH_EXACT_HI", 0x11134, 0x400, 2, [fld 31 0 .ro 0x0]⟩,
   ⟨"CLS_PORTn_MATCH_WILD_LO", 0x11138, 0x400, 2, [fld 31 0 .ro 0x0]⟩,
   ⟨"CLS_PORTn_MATCH_WILD_HI", 0x1113c, 0x400, 2, [fld 31 0 .ro 0x0]⟩,
   ⟨"CLS_PORTn_NOMATCH_LO", 0x11140, 0x400, 2, [fld 31 0 .ro 0x0]⟩,
   ⟨"CLS_PORTn_NOMATCH_HI", 0x11144, 0x400, 2, [fld 31 0 .ro 0x0]⟩,
   ⟨"CLS_PORTn_DISP_DROP_LO", 0x11148, 0x400, 2, [fld 31 0 .ro 0x0]⟩,
   ⟨"CLS_PORTn_DISP_DROP_HI", 0x1114c, 0x400, 2, [fld 31 0 .ro 0x0]⟩,
   ⟨"CLS_PORTn_RX_FCS_ERR", 0x11150, 0x400, 2, [fld 31 0 .rc 0x0]⟩] ++
  [⟨"CLS_PORTn_RX_RUNT", 0x11154, 0x400, 2, [fld 31 0 .rc 0x0]⟩,
   ⟨"CLS_PORTn_RX_OVERSIZE", 0x11158, 0x400, 2, [fld 31 0 .rc 0x0]⟩,
   ⟨"CLS_PORTn_RX_NOBUF", 0x1115c, 0x400, 2, [fld 31 0 .rc 0x0]⟩,
   ⟨"CLS_PORTn_LEN_LIMIT", 0x11160, 0x400, 2, [fld 31 0 .rc 0x0]⟩,
   ⟨"CLS_PORTn_LAN_MISMATCH", 0x11164, 0x400, 2, [fld 31 0 .rc 0x0]⟩,
   ⟨"CLS_PORTn_LINK_DISCARD", 0x11168, 0x400, 2, [fld 31 0 .rc 0x0]⟩,
   ⟨"CLS_PORTn_PAUSE_TX", 0x1116c, 0x400, 2, [fld 31 0 .rc 0x0]⟩,
   ⟨"CLS_PORTn_PAUSE_RX", 0x11170, 0x400, 2, [fld 31 0 .rc 0x0]⟩,
   ⟨"CLS_PORTn_PTP_RX", 0x11174, 0x400, 2, [fld 31 0 .rc 0x0]⟩,
   ⟨"CLS_PORTn_PTP_TX", 0x11178, 0x400, 2, [fld 31 0 .rc 0x0]⟩,
   ⟨"CLS_PORTn_PTP_RX_LOST", 0x1117c, 0x400, 2, [fld 31 0 .rc 0x0]⟩]

/-- The BNE registers (08_bignum_commands.md). -/
def regBne : List RegDef :=
  [⟨"BNE_CTRL", 0x20000, 0x4, 1, [fldK 7 0 .rw 0x0 true true false]⟩,
   ⟨"BNE_STATUS", 0x20004, 0x4, 1, [fld 7 0 .ro 0x0, fld 15 8 .ro 0x0, fld 23 16 .ro 0x0]⟩,
   ⟨"BNE_LANE_GUEST0", 0x20008, 0x4, 1, [fld 31 0 .ro 0x0]⟩,
   ⟨"BNE_LANE_GUEST1", 0x2000c, 0x4, 1, [fld 31 0 .ro 0x0]⟩,
   ⟨"BNE_EVT", 0x20010, 0x4, 1, [fld 7 0 .w1c 0x0, fld 15 8 .w1c 0x0, fld 23 16 .w1c 0x0, fld 31 24 .w1c 0x0]⟩,
   ⟨"BNE_IEN", 0x20014, 0x4, 1, [fld 31 0 .rw 0x0]⟩,
   ⟨"BNE_ECC_CORR", 0x20018, 0x4, 1, [fld 31 0 .rc 0x0]⟩,
   ⟨"BNE_LANEk_CMD0", 0x21000, 0x100, 8, [fld 31 0 .wo 0x0]⟩,
   ⟨"BNE_LANEk_CMD1", 0x21004, 0x100, 8, [fld 31 0 .wo 0x0]⟩,
   ⟨"BNE_LANEk_CMD2", 0x21008, 0x100, 8, [fld 31 0 .wo 0x0]⟩,
   ⟨"BNE_LANEk_CMD3", 0x2100c, 0x100, 8, [fld 31 0 .wo 0x0]⟩,
   ⟨"BNE_LANEk_ISSUE", 0x21010, 0x100, 8, [fld 15 0 .ro 0x0]⟩,
   ⟨"BNE_LANEk_QUEUE", 0x21014, 0x100, 8, [fld 9 0 .ro 0x0, fld 22 16 .ro 0x0]⟩,
   ⟨"BNE_LANEk_STATE", 0x21018, 0x100, 8, [fld 2 0 .ro 0x0, fld 15 8 .ro 0x0, fld 28 16 .ro 0x0]⟩,
   ⟨"BNE_LANEk_CTRL", 0x2101c, 0x100, 8, [fld 0 0 .w1s 0x0]⟩,
   ⟨"BNE_LANEk_CPL0", 0x21020, 0x100, 8, [fld 31 0 .ro 0x0]⟩,
   ⟨"BNE_LANEk_CPL1", 0x21024, 0x100, 8, [fld 31 0 .ro 0x0]⟩,
   ⟨"BNE_LANEk_CPL2", 0x21028, 0x100, 8, [fld 31 0 .ro 0x0]⟩,
   ⟨"BNE_LANEk_CPL3", 0x2102c, 0x100, 8, [fld 31 0 .rc 0x0]⟩,
   ⟨"BNE_LANEk_JOBS_LO", 0x21030, 0x100, 8, [fld 31 0 .ro 0x0]⟩,
   ⟨"BNE_LANEk_JOBS_HI", 0x21034, 0x100, 8, [fld 31 0 .ro 0x0]⟩,
   ⟨"BNE_LANEk_LAST_CYCLES", 0x21038, 0x100, 8, [fld 31 0 .ro 0x0]⟩,
   ⟨"BNE_LANEk_GUARD", 0x2103c, 0x100, 8, [fld 31 0 .rc 0x0]⟩,
   ⟨"BNE_LANEk_MISMATCH", 0x21040, 0x100, 8, [fld 31 0 .rc 0x0]⟩,
   ⟨"BNE_LANEk_REFUSED", 0x21044, 0x100, 8, [fld 31 0 .rc 0x0]⟩] ++
  [⟨"BNE_LANEk_WITHHELD", 0x21048, 0x100, 8, [fld 31 0 .rc 0x0]⟩]

/-- The VLT registers (03_owners_quorum_slate.md, 07_key_vault.md). -/
def regVlt : List RegDef :=
  [⟨"VLT_LOG_HEAD_LO", 0x30800, 0x4, 1, [fldK 31 0 .ro 0x0 true true false]⟩,
   ⟨"VLT_LOG_HEAD_HI", 0x30804, 0x4, 1, [fldK 31 0 .ro 0x0 true true false]⟩,
   ⟨"VLT_LOG_ACK_LO", 0x30808, 0x4, 1, [fldK 31 0 .ro 0x0 true true false]⟩,
   ⟨"VLT_LOG_ACK_HI", 0x3080c, 0x4, 1, [fldK 31 0 .ro 0x0 true true false]⟩,
   ⟨"VLT_LOG_FREE", 0x30810, 0x4, 1, [fldK 19 0 .ro 0x0 true true false]⟩,
   ⟨"VLT_LOG_STATE", 0x30814, 0x4, 1, [fld 1 0 .ro 0x0, fld 31 16 .ro 0x0]⟩,
   ⟨"VLT_LOG_EVT", 0x30818, 0x4, 1, [fld 0 0 .w1c 0x0, fld 1 1 .w1c 0x0, fld 2 2 .w1c 0x0, fld 3 3 .w1c 0x0, fld 4 4 .w1c 0x0, fld 5 5 .w1c 0x0]⟩,
   ⟨"VLT_LOG_IEN", 0x3081c, 0x4, 1, [fld 5 0 .rw 0x0]⟩,
   ⟨"VLT_LOG_WEAR", 0x30820, 0x4, 1, [fldK 16 0 .ro 0x0 true true false]⟩,
   ⟨"VLT_LOG_RATE", 0x30824, 0x4, 1, [fld 15 0 .ro 0x0]⟩,
   ⟨"VLT_LOG_HASHn", 0x30840, 0x4, 8, [fldK 31 0 .ro 0x0 true true false]⟩,
   ⟨"VLT_PROP_OPEN", 0x30860, 0x4, 1, [fld 10 0 .ro 0x0]⟩,
   ⟨"VLT_SESSION_COUNT", 0x30864, 0x4, 1, [fld 6 0 .ro 0x0]⟩,
   ⟨"VLT_LOCK_HELD_LO", 0x30868, 0x4, 1, [fld 31 0 .ro 0x0]⟩,
   ⟨"VLT_LOCK_HELD_HI", 0x3086c, 0x4, 1, [fld 0 0 .ro 0x0]⟩,
   ⟨"VLT_STATE", 0x30000, 0x4, 1, [fld 2 0 .ro 0x0, fld 3 3 .ro 0x0, fld 5 4 .ro 0x0]⟩,
   ⟨"VLT_OBJ_COUNT", 0x30004, 0x4, 1, [fldK 14 0 .ro 0x0 true true false]⟩,
   ⟨"VLT_CTR_COUNT", 0x30008, 0x4, 1, [fldK 10 0 .ro 0x0 true true false]⟩,
   ⟨"VLT_DRAINING", 0x3000c, 0x4, 1, [fld 14 0 .ro 0x0]⟩,
   ⟨"VLT_OWNER_SEL", 0x30010, 0x4, 1, [fld 5 0 .rw 0x0]⟩,
   ⟨"VLT_OWNER_OBJ", 0x30014, 0x4, 1, [fld 14 0 .ro 0x0, fld 30 16 .ro 0x0]⟩,
   ⟨"VLT_OWNER_CTR", 0x30018, 0x4, 1, [fld 10 0 .ro 0x0, fld 26 16 .ro 0x0]⟩,
   ⟨"VLT_KEK_LO", 0x30020, 0x4, 1, [fld 31 0 .ro 0x0]⟩,
   ⟨"VLT_KEK_HI", 0x30024, 0x4, 1, [fld 0 0 .ro 0x0]⟩,
   ⟨"VLT_ZEROISED_LO", 0x30028, 0x4, 1, [fldK 31 0 .ro 0x0 true true false]⟩] ++
  [⟨"VLT_ZEROISED_HI", 0x3002c, 0x4, 1, [fldK 0 0 .ro 0x0 true true false]⟩,
   ⟨"VLT_ZEROISE_TIME_LO", 0x30030, 0x4, 1, [fldK 31 0 .ro 0x0 true true false]⟩,
   ⟨"VLT_ZEROISE_TIME_HI", 0x30034, 0x4, 1, [fldK 31 0 .ro 0x0 true true false]⟩,
   ⟨"VLT_CACHE", 0x30038, 0x4, 1, [fld 10 0 .ro 0x0]⟩,
   ⟨"VLT_JOBS", 0x3003c, 0x4, 1, [fld 15 0 .ro 0x0]⟩,
   ⟨"VLT_EVT", 0x30040, 0x4, 1, [fld 0 0 .w1c 0x0, fld 1 1 .w1c 0x0, fld 2 2 .w1c 0x0, fld 3 3 .w1c 0x0, fld 4 4 .w1c 0x0, fld 5 5 .w1c 0x0, fld 6 6 .w1c 0x0, fld 7 7 .w1c 0x0]⟩,
   ⟨"VLT_IEN", 0x30044, 0x4, 1, [fld 7 0 .rw 0x0]⟩,
   ⟨"VLT_UNIT_IDn", 0x30050, 0x4, 4, [fld 31 0 .ro 0x0]⟩,
   ⟨"VLT_CPK_PUBn", 0x30060, 0x4, 24, [fldK 31 0 .ro 0x0 true true false]⟩]

/-- The HOST registers (10_host_ports.md). -/
def regHost : List RegDef :=
  [⟨"HOST_CTRL", 0x40000, 0x4, 1, [fld 0 0 .rw 0x0]⟩,
   ⟨"HOST_STATUS", 0x40004, 0x4, 1, [fld 0 0 .ro 0x0, fld 1 1 .ro 0x0, fld 4 2 .ro 0x0, fld 7 5 .ro 0x0, fld 13 8 .ro 0x0]⟩,
   ⟨"HOST_INFLIGHT", 0x40008, 0x4, 1, [fld 15 0 .ro 0x0]⟩,
   ⟨"HOST_DEFER", 0x4000c, 0x4, 1, [fld 13 0 .rw 0x3e8]⟩,
   ⟨"HOST_EPOCH_LO", 0x40010, 0x4, 1, [fld 31 0 .ro 0x0]⟩,
   ⟨"HOST_EPOCH_HI", 0x40014, 0x4, 1, [fld 31 0 .ro 0x0]⟩,
   ⟨"HOST_CANCEL", 0x40018, 0x4, 1, [fld 7 0 .wo 0x0, fld 31 16 .wo 0x0]⟩,
   ⟨"HOST_EVT", 0x4001c, 0x4, 1, [fld 0 0 .w1c 0x0, fld 1 1 .w1c 0x0, fld 2 2 .w1c 0x0, fld 3 3 .w1c 0x0, fld 4 4 .w1c 0x0, fld 5 5 .w1c 0x0]⟩,
   ⟨"HOST_IEN", 0x40020, 0x4, 1, [fld 5 0 .rw 0x0]⟩,
   ⟨"HOST_Q_SEL", 0x40040, 0x4, 1, [fld 7 0 .rw 0x0]⟩,
   ⟨"HOST_Q_SQ_BASE_LO", 0x40044, 0x4, 1, [fld 31 0 .rw 0x0]⟩,
   ⟨"HOST_Q_SQ_BASE_HI", 0x40048, 0x4, 1, [fld 31 0 .rw 0x0]⟩,
   ⟨"HOST_Q_CQ_BASE_LO", 0x4004c, 0x4, 1, [fld 31 0 .rw 0x0]⟩,
   ⟨"HOST_Q_CQ_BASE_HI", 0x40050, 0x4, 1, [fld 31 0 .rw 0x0]⟩,
   ⟨"HOST_Q_CFG", 0x40054, 0x4, 1, [fld 3 0 .rw 0x4, fld 12 8 .rw 0x0, fld 23 16 .rw 0x1, fld 31 24 .rw 0x0]⟩,
   ⟨"HOST_Q_CTRL", 0x40058, 0x4, 1, [fld 0 0 .rw 0x0, fld 1 1 .ro 0x0, fld 2 2 .ro 0x1]⟩,
   ⟨"HOST_Q_SQ_STATE", 0x4005c, 0x4, 1, [fld 11 0 .ro 0x0, fld 27 16 .ro 0x0]⟩,
   ⟨"HOST_Q_CQ_STATE", 0x40060, 0x4, 1, [fld 11 0 .ro 0x0, fld 27 16 .ro 0x0]⟩,
   ⟨"HOST_FN0_QUEUES", 0x40100, 4, 1, [fld 7 0 .rw 0, fld 24 16 .rw 0x40]⟩,
   ⟨"HOST_FNn_QUEUES", 0x40104, 4, 32, [⟨7, 0, .rw, 64, 6, true, true, true⟩, fld 24 16 .rw 6]⟩,
   ⟨"HOST_FN0_CREDITS", 0x40200, 4, 1, [fld 15 0 .rw 0x8000, fld 31 16 .ro 0x0]⟩,
   ⟨"HOST_FNn_CREDITS", 0x40204, 4, 32, [fld 15 0 .rw 0x400, fld 31 16 .ro 0x0]⟩,
   ⟨"HOST_CMDS_LO", 0x40400, 0x4, 1, [fldK 31 0 .ro 0x0 true true false]⟩,
   ⟨"HOST_CMDS_HI", 0x40404, 0x4, 1, [fldK 31 0 .ro 0x0 true true false]⟩,
   ⟨"HOST_STALE", 0x40408, 0x4, 1, [fld 31 0 .rc 0x0]⟩] ++
  [⟨"HOST_FORMAT_ERR", 0x4040c, 0x4, 1, [fld 31 0 .rc 0x0]⟩,
   ⟨"HOST_DMA_ERR", 0x40410, 0x4, 1, [fld 31 0 .rc 0x0]⟩,
   ⟨"HOST_DEFER_TIMEOUT", 0x40414, 0x4, 1, [fld 31 0 .rc 0x0]⟩,
   ⟨"HOST_SQn_DB", 0x41000, 0x8, 256, [fld 11 0 .wo 0x0]⟩,
   ⟨"HOST_CQn_DB", 0x41004, 0x8, 256, [fld 11 0 .wo 0x0]⟩]

/-- The CNT registers (02_storyboard.md, 11_continuity.md). -/
def regCnt : List RegDef :=
  [⟨"CNT_EPOCH_LO", 0x50100, 0x4, 1, [fldK 31 0 .ro 0x0 true true false]⟩,
   ⟨"CNT_EPOCH_HI", 0x50104, 0x4, 1, [fldK 31 0 .ro 0x0 true true false]⟩,
   ⟨"CNT_STAGE_EPOCH_LO", 0x50108, 0x4, 1, [fld 31 0 .ro 0x0]⟩,
   ⟨"CNT_STAGE_EPOCH_HI", 0x5010c, 0x4, 1, [fld 31 0 .ro 0x0]⟩,
   ⟨"CNT_STAGE_STATE", 0x50110, 0x4, 1, [fld 3 0 .ro 0x0, fld 15 8 .ro 0x0, fld 31 16 .ro 0x0]⟩,
   ⟨"CNT_SWITCH_TIME_LO", 0x50114, 0x4, 1, [fld 31 0 .ro 0x0]⟩,
   ⟨"CNT_SWITCH_TIME_HI", 0x50118, 0x4, 1, [fld 31 0 .ro 0x0]⟩,
   ⟨"CNT_EPOCH_EVT", 0x5011c, 0x4, 1, [fld 0 0 .w1c 0x0, fld 1 1 .w1c 0x0, fld 2 2 .w1c 0x0, fld 3 3 .w1c 0x0]⟩,
   ⟨"CNT_EPOCH_IEN", 0x50120, 0x4, 1, [fld 3 0 .rw 0x0]⟩,
   ⟨"CNT_CFG_DIGESTn", 0x50140, 0x4, 8, [fldK 31 0 .ro 0x0 true true false]⟩,
   ⟨"CNT_STATE", 0x50000, 0x4, 1, [fld 2 0 .ro 0x0, fld 3 3 .ro 0x0, fld 4 4 .ro 0x0, fld 5 5 .ro 0x0, fld 7 6 .ro 0x0]⟩,
   ⟨"CNT_TERM_LO", 0x50004, 0x4, 1, [fldK 31 0 .ro 0x0 true true false]⟩,
   ⟨"CNT_TERM_HI", 0x50008, 0x4, 1, [fldK 31 0 .ro 0x0 true true false]⟩,
   ⟨"CNT_CSN_LO", 0x5000c, 0x4, 1, [fldK 31 0 .ro 0x0 true true false]⟩,
   ⟨"CNT_CSN_HI", 0x50010, 0x4, 1, [fldK 31 0 .ro 0x0 true true false]⟩,
   ⟨"CNT_PEER_CSN_LO", 0x50014, 0x4, 1, [fld 31 0 .ro 0x0]⟩,
   ⟨"CNT_PEER_CSN_HI", 0x50018, 0x4, 1, [fld 31 0 .ro 0x0]⟩,
   ⟨"CNT_LEASE", 0x5001c, 0x4, 1, [fld 10 0 .ro 0x0]⟩,
   ⟨"CNT_SIDE", 0x50020, 0x4, 1, [fldK 12 0 .ro 0x0 true true false]⟩,
   ⟨"CNT_EVT", 0x50024, 0x4, 1, [fld 0 0 .w1c 0x0, fld 1 1 .w1c 0x0, fld 2 2 .w1c 0x0, fld 3 3 .w1c 0x0, fld 4 4 .w1c 0x0, fld 5 5 .w1c 0x0, fld 6 6 .w1c 0x0, fld 7 7 .w1c 0x0, fld 8 8 .w1c 0x0]⟩,
   ⟨"CNT_IEN", 0x50028, 0x4, 1, [fld 8 0 .rw 0x0]⟩,
   ⟨"CNT_DECK0_DOWNS", 0x50030, 0x4, 1, [fld 31 0 .rc 0x0]⟩,
   ⟨"CNT_DECK1_DOWNS", 0x50034, 0x4, 1, [fld 31 0 .rc 0x0]⟩,
   ⟨"CNT_SPLITS", 0x50038, 0x4, 1, [fld 31 0 .rc 0x0]⟩,
   ⟨"CNT_REPL_LAT", 0x5003c, 0x4, 1, [fld 15 0 .ro 0x0, fld 31 16 .rc 0x0]⟩] ++
  [⟨"CNT_STATE_DIGESTn", 0x50080, 0x4, 8, [fld 31 0 .ro 0x0]⟩,
   ⟨"CNT_DIGEST_CSN_LO", 0x500a0, 0x4, 1, [fld 31 0 .ro 0x0]⟩,
   ⟨"CNT_DIGEST_CSN_HI", 0x500a4, 0x4, 1, [fld 31 0 .ro 0x0]⟩]

/-- The RNG registers (12_entropy.md). -/
def regRng : List RegDef :=
  [⟨"RNG_CTRL", 0x60000, 0x4, 1, [fldK 0 0 .rw 0x0 true true false]⟩,
   ⟨"RNG_STATUS", 0x60004, 0x4, 1, [fld 3 0 .ro 0x0, fldK 7 4 .ro 0x0 true true false, fldK 8 8 .ro 0x0 true true false, fld 9 9 .ro 0x0, fld 14 10 .ro 0x0]⟩,
   ⟨"RNG_SRCn_FAILS", 0x60010, 0x4, 4, [fldK 15 0 .ro 0x0 true true false, fldK 17 16 .ro 0x0 true true false]⟩,
   ⟨"RNG_RCT_CUTOFF", 0x60020, 0x4, 1, [fld 7 0 .ro 0x29]⟩,
   ⟨"RNG_APT_CUTOFF", 0x60024, 0x4, 1, [fld 10 0 .ro 0x319]⟩,
   ⟨"RNG_EVT", 0x60030, 0x4, 1, [fld 3 0 .w1c 0x0, fld 7 4 .w1c 0x0, fld 8 8 .w1c 0x0, fld 9 9 .w1c 0x0, fld 10 10 .w1c 0x0]⟩,
   ⟨"RNG_IEN", 0x60034, 0x4, 1, [fld 10 0 .rw 0x0]⟩,
   ⟨"RNG_DRBGi_STATUS", 0x60040, 0x4, 3, [fld 20 0 .ro 0x0, fld 21 21 .ro 0x0, fld 22 22 .ro 0x0]⟩,
   ⟨"RNG_OUT_BITS_LO", 0x60050, 0x4, 1, [fld 31 0 .ro 0x0]⟩,
   ⟨"RNG_OUT_BITS_HI", 0x60054, 0x4, 1, [fld 31 0 .ro 0x0]⟩,
   ⟨"RNG_WAITS", 0x60058, 0x4, 1, [fld 31 0 .rc 0x0]⟩,
   ⟨"RNG_RUSHES_CTRL", 0x60060, 0x4, 1, [fld 1 0 .ro 0x0, fld 2 2 .ro 0x0]⟩,
   ⟨"RNG_RUSHES_COUNT", 0x60064, 0x4, 1, [fld 20 0 .ro 0x0]⟩]

/-- The TMP registers (13_tamper.md). -/
def regTmp : List RegDef :=
  [⟨"TMP_STATUS", 0x70000, 0x4, 1, [fld 0 0 .ro 0x0, fld 2 1 .ro 0x0, fld 3 3 .ro 0x0, fld 4 4 .ro 0x0, fldK 5 5 .ro 0x0 false false false]⟩,
   ⟨"TMP_ALARM", 0x70004, 0x4, 1, [fldK 30 0 .ro 0x0 false false false]⟩,
   ⟨"TMP_PENDING_LO", 0x70008, 0x4, 1, [fldK 31 0 .ro 0x0 false false false]⟩,
   ⟨"TMP_PENDING_HI", 0x7000c, 0x4, 1, [fldK 0 0 .ro 0x0 false false false]⟩,
   ⟨"TMP_LEVELS", 0x70010, 0x4, 1, [fld 7 0 .ro 0x0, fld 11 8 .ro 0x0]⟩,
   ⟨"TMP_TEST", 0x70014, 0x4, 1, [fld 4 0 .ro 0x0, fld 9 8 .ro 0x0]⟩,
   ⟨"TMP_EVT", 0x70018, 0x4, 1, [fld 0 0 .w1c 0x0, fld 1 1 .w1c 0x0, fld 2 2 .w1c 0x0, fld 3 3 .w1c 0x0, fld 4 4 .w1c 0x0, fld 5 5 .w1c 0x0]⟩,
   ⟨"TMP_IEN", 0x7001c, 0x4, 1, [fld 5 0 .rw 0x0]⟩,
   ⟨"TMP_GAP_START_LO", 0x70020, 0x4, 1, [fldK 31 0 .ro 0x0 false false false]⟩,
   ⟨"TMP_GAP_START_HI", 0x70024, 0x4, 1, [fldK 31 0 .ro 0x0 false false false]⟩,
   ⟨"TMP_GAP_END_LO", 0x70028, 0x4, 1, [fld 31 0 .ro 0x0]⟩,
   ⟨"TMP_GAP_END_HI", 0x7002c, 0x4, 1, [fld 31 0 .ro 0x0]⟩,
   ⟨"TMP_GAP_INFO", 0x70030, 0x4, 1, [fldK 7 0 .ro 0x0 false false false, fldK 15 8 .ro 0x0 false false false, fldK 16 16 .ro 0x0 false false false]⟩,
   ⟨"TMP_TEMPk_VALUE", 0x70040, 0x4, 3, [fld 11 0 .ro 0x0, fld 31 16 .ro 0x0]⟩,
   ⟨"TMP_TEMPk_LIMIT", 0x70050, 0x4, 3, [fld 11 0 .ro 0x0, fld 27 16 .ro 0xfff]⟩,
   ⟨"TMP_SRCn_FILTER", 0x70100, 0x4, 31, [fld 7 0 .ro 0x0, fld 9 8 .ro 0x0, fld 31 16 .ro 0x0]⟩,
   ⟨"TMP_SRCn_COUNT", 0x70200, 0x4, 31, [fld 7 0 .ro 0x0, fldK 31 8 .ro 0x0 false false false]⟩,
   ⟨"TMP_SRCn_ACTION", 0x70300, 0x4, 31, [fld 2 0 .ro 0x0]⟩,
   ⟨"TMP_SRCn_MASK", 0x70380, 0x4, 31, [fld 31 0 .ro 0x0]⟩,
   ⟨"TMP_LOOPn_CFG", 0x70400, 0x4, 4, [fld 1 0 .ro 0x0]⟩,
   ⟨"TMP_LOOPn_ERR", 0x70410, 0x4, 4, [fld 31 0 .rc 0x0]⟩]

/-- The ERR registers (17_clocks_queues.md, 18_error_reporting.md). -/
def regErr : List RegDef :=
  [⟨"ERR_Q_COUNT", 0x80100, 0x4, 1, [fld 15 0 .ro 0x0, fld 30 30 .w1c 0x0, fld 31 31 .w1c 0x0]⟩,
   ⟨"ERR_Q_LOST", 0x80104, 0x4, 1, [fld 31 0 .rc 0x0]⟩,
   ⟨"ERR_Q_SEQ", 0x80108, 0x4, 1, [fld 15 0 .ro 0x0, fld 31 16 .ro 0x0]⟩,
   ⟨"ERR_Q_POP", 0x8010c, 0x4, 1, [fld 0 0 .wo 0x0]⟩,
   ⟨"ERR_Q_ENTRYn", 0x80110, 0x4, 8, [fld 31 0 .ro 0x0]⟩,
   ⟨"ERR_CLASS_STICKY", 0x80000, 0x4, 1, [fldK 15 0 .w1c 0x0 true true false]⟩,
   ⟨"ERR_CLASS_IEN", 0x80004, 0x4, 1, [fld 15 0 .rw 0x0]⟩,
   ⟨"ERR_RAISED_LO", 0x80008, 0x4, 1, [fldK 31 0 .ro 0x0 true true false]⟩,
   ⟨"ERR_RAISED_HI", 0x8000c, 0x4, 1, [fldK 31 0 .ro 0x0 true true false]⟩,
   ⟨"ERR_SUPPRESSED", 0x80010, 0x4, 1, [fld 31 0 .rc 0x0]⟩,
   ⟨"ERR_SRC_SEL", 0x80020, 0x4, 1, [fld 11 0 .rw 0x0]⟩,
   ⟨"ERR_SRC_COUNT", 0x80024, 0x4, 1, [fldK 31 0 .rc 0x0 true true false]⟩,
   ⟨"ERR_SRC_INFO", 0x80028, 0x4, 1, [fld 3 0 .ro 0x0, fld 6 4 .ro 0x0, fld 7 7 .ro 0x0, fld 8 8 .ro 0x0]⟩,
   ⟨"ERR_SRC_LAST_LO", 0x8002c, 0x4, 1, [fld 31 0 .ro 0x0]⟩,
   ⟨"ERR_SRC_LAST_HI", 0x80030, 0x4, 1, [fld 31 0 .ro 0x0]⟩,
   ⟨"ERR_EVT", 0x80040, 0x4, 1, [fld 0 0 .w1c 0x0, fld 1 1 .w1c 0x0, fld 2 2 .w1c 0x0]⟩,
   ⟨"ERR_IEN", 0x80044, 0x4, 1, [fld 2 0 .rw 0x0]⟩]

/-- The TB registers (06_nonces_replay_time.md). -/
def regTb : List RegDef :=
  [⟨"TB_CTRL", 0x90000, 0x4, 1, [fldK 0 0 .w1s 0x0 true true false, fldK 1 1 .w1s 0x0 true true false, fldK 3 2 .rw 0x0 true true false, fldK 4 4 .rw 0x0 true true false, fldK 5 5 .rw 0x0 true true false]⟩,
   ⟨"TB_STATUS", 0x90004, 0x4, 1, [fldK 0 0 .ro 0x0 true true false, fldK 1 1 .ro 0x0 true true false, fldK 2 2 .ro 0x0 true true false, fldK 3 3 .ro 0x0 true true false, fldK 4 4 .ro 0x0 true true false]⟩,
   ⟨"TB_ADDEND", 0x90008, 0x4, 1, [fldK 31 0 .rw 0x80000000 true true false]⟩,
   ⟨"TB_TIME_NS", 0x90010, 0x4, 1, [fldK 29 0 .ro 0x0 true true false]⟩,
   ⟨"TB_TIME_SEC_LO", 0x90014, 0x4, 1, [fldK 31 0 .ro 0x0 true true false]⟩,
   ⟨"TB_TIME_SEC_HI", 0x90018, 0x4, 1, [fldK 15 0 .ro 0x0 true true false]⟩,
   ⟨"TB_SET_NS", 0x90020, 0x4, 1, [fldK 29 0 .rw 0x0 true true false]⟩,
   ⟨"TB_SET_SEC_LO", 0x90024, 0x4, 1, [fldK 31 0 .rw 0x0 true true false]⟩,
   ⟨"TB_SET_SEC_HI", 0x90028, 0x4, 1, [fldK 15 0 .rw 0x0 true true false]⟩,
   ⟨"TB_STEP", 0x90030, 0x4, 1, [fldK 31 0 .wo 0x0 true true false]⟩,
   ⟨"TB_SLEW_NS", 0x90034, 0x4, 1, [fldK 31 0 .rw 0x0 true true false]⟩,
   ⟨"TB_SLEW_TICKS", 0x90038, 0x4, 1, [fldK 31 0 .rw 0x0 true true false]⟩,
   ⟨"TB_UTC_OFFSET", 0x90040, 0x4, 1, [fldK 15 0 .rw 0x0 true false false]⟩,
   ⟨"TB_UTC_NEXT", 0x90044, 0x4, 1, [fldK 15 0 .rw 0x0 true false false]⟩,
   ⟨"TB_UTC_AT_SEC_LO", 0x90048, 0x4, 1, [fldK 31 0 .rw 0x0 true false false]⟩,
   ⟨"TB_RESUME_SEC_LO", 0x90050, 0x4, 1, [fldK 31 0 .ro 0x0 true false false]⟩,
   ⟨"TB_RESUME_SEC_HI", 0x90054, 0x4, 1, [fldK 15 0 .ro 0x0 true false false]⟩,
   ⟨"TB_PPS_IN_NS", 0x90060, 0x4, 1, [fld 29 0 .ro 0x0]⟩,
   ⟨"TB_PPS_IN_SEC_LO", 0x90064, 0x4, 1, [fld 31 0 .ro 0x0]⟩,
   ⟨"TB_PPS_IN_LAT", 0x90068, 0x4, 1, [fldK 15 0 .rw 0x0 true true false]⟩,
   ⟨"TB_PPS_OUT_LAT", 0x9006c, 0x4, 1, [fldK 15 0 .rw 0x0 true true false]⟩,
   ⟨"TB_PPS_OUT_WIDTH", 0x90070, 0x4, 1, [fldK 23 0 .rw 0xbebc20 true true false]⟩,
   ⟨"TB_PEER_OFFSET", 0x90080, 0x4, 1, [fldK 31 0 .ro 0x0 true true false]⟩,
   ⟨"TB_EVT", 0x90084, 0x4, 1, [fld 0 0 .w1c 0x0, fld 1 1 .w1c 0x0, fld 2 2 .w1c 0x0, fld 3 3 .w1c 0x0, fld 4 4 .w1c 0x0, fld 5 5 .w1c 0x0]⟩,
   ⟨"TB_IEN", 0x90088, 0x4, 1, [fld 5 0 .rw 0x0]⟩]

/-- The NVS registers (16_nvstore_fuses_lifecycle.md). -/
def regNvs : List RegDef :=
  [⟨"NVS_STATUS", 0xa0000, 0x4, 1, [fld 0 0 .ro 0x0, fld 1 1 .ro 0x0, fld 2 2 .ro 0x0, fld 3 3 .ro 0x0, fld 4 4 .ro 0x0, fld 5 5 .ro 0x0]⟩,
   ⟨"NVS_EVT", 0xa0004, 0x4, 1, [fld 0 0 .w1c 0x0, fld 1 1 .w1c 0x0, fld 2 2 .w1c 0x0, fld 3 3 .w1c 0x0, fld 4 4 .w1c 0x0, fld 5 5 .w1c 0x0]⟩,
   ⟨"NVS_IEN", 0xa0008, 0x4, 1, [fld 5 0 .rw 0x0]⟩,
   ⟨"NVS_TORN", 0xa000c, 0x4, 1, [fld 31 0 .rc 0x0]⟩,
   ⟨"NVS_HALF_ERASED", 0xa0010, 0x4, 1, [fld 31 0 .rc 0x0]⟩,
   ⟨"NVS_PROG_FAIL", 0xa0014, 0x4, 1, [fld 31 0 .rc 0x0]⟩,
   ⟨"NVS_ERASE_FAIL", 0xa0018, 0x4, 1, [fld 31 0 .rc 0x0]⟩,
   ⟨"NVS_APPLIED_LO", 0xa0020, 0x4, 1, [fldK 31 0 .ro 0x0 true true false]⟩,
   ⟨"NVS_APPLIED_HI", 0xa0024, 0x4, 1, [fldK 31 0 .ro 0x0 true true false]⟩,
   ⟨"NVS_COMMITTED_LO", 0xa0028, 0x4, 1, [fldK 31 0 .ro 0x0 true true false]⟩,
   ⟨"NVS_COMMITTED_HI", 0xa002c, 0x4, 1, [fldK 31 0 .ro 0x0 true true false]⟩,
   ⟨"NVS_FLUSH_US", 0xa0030, 0x4, 1, [fldK 11 0 .ro 0x0 true false false]⟩]

/-- The FUSE registers (16_nvstore_fuses_lifecycle.md). -/
def regFuse : List RegDef :=
  [⟨"FUSE_ADDR", 0xb0000, 0x4, 1, [fld 8 0 .rw 0x0]⟩,
   ⟨"FUSE_OP", 0xb0004, 0x4, 1, [fld 1 0 .wo 0x0, fld 31 31 .ro 0x0]⟩,
   ⟨"FUSE_DATA_NORM", 0xb0008, 0x4, 1, [fld 31 0 .ro 0x0]⟩,
   ⟨"FUSE_DATA_LOW", 0xb000c, 0x4, 1, [fld 31 0 .ro 0x0]⟩,
   ⟨"FUSE_DATA_HIGH", 0xb0010, 0x4, 1, [fld 31 0 .ro 0x0]⟩,
   ⟨"FUSE_STATUS", 0xb0014, 0x4, 1, [fld 9 0 .ro 0x0, fld 31 16 .ro 0x0]⟩,
   ⟨"FUSE_FIRST_MARGINAL", 0xb0018, 0x4, 1, [fld 8 0 .ro 0x0, fld 31 31 .ro 0x0]⟩,
   ⟨"FUSE_EVT", 0xb001c, 0x4, 1, [fld 0 0 .w1c 0x0, fld 1 1 .w1c 0x0, fld 2 2 .w1c 0x0]⟩,
   ⟨"FUSE_IEN", 0xb0020, 0x4, 1, [fld 2 0 .rw 0x0]⟩]

/-- The LCS registers (16_nvstore_fuses_lifecycle.md). -/
def regLcs : List RegDef :=
  [⟨"LCS_STATE", 0xc0000, 0x4, 1, [fld 2 0 .ro 0x0, fld 6 4 .ro 0x0, fld 8 8 .ro 0x0]⟩,
   ⟨"LCS_DEBUG", 0xc0004, 0x4, 1, [fld 0 0 .ro 0x0, fld 8 1 .ro 0x0]⟩,
   ⟨"LCS_DEBUG_GUESTS_LO", 0xc0008, 0x4, 1, [fld 31 0 .ro 0x0]⟩,
   ⟨"LCS_DEBUG_GUESTS_HI", 0xc000c, 0x4, 1, [fld 1 0 .ro 0x0]⟩,
   ⟨"LCS_EVT", 0xc0010, 0x4, 1, [fld 0 0 .w1c 0x0, fld 1 1 .w1c 0x0, fld 2 2 .w1c 0x0, fld 3 3 .w1c 0x0]⟩,
   ⟨"LCS_IEN", 0xc0014, 0x4, 1, [fld 3 0 .rw 0x0]⟩]

/-- The CLK registers (17_clocks_queues.md). -/
def regClk : List RegDef :=
  [⟨"CLK_STATUS", 0xd0000, 0x4, 1, [fld 0 0 .ro 0x0, fld 1 1 .ro 0x0, fld 2 2 .ro 0x0, fld 4 3 .ro 0x0]⟩,
   ⟨"CLK_EVT", 0xd0004, 0x4, 1, [fld 0 0 .w1c 0x0, fld 1 1 .w1c 0x0, fld 2 2 .w1c 0x0, fld 4 3 .w1c 0x0]⟩,
   ⟨"CLK_IEN", 0xd0008, 0x4, 1, [fld 4 0 .rw 0x0]⟩,
   ⟨"CLK_GATE", 0xd0010, 0x4, 1, [fldK 7 0 .rw 0x0 true true false, fldK 15 8 .rw 0x0 true true false, fldK 17 16 .rw 0x0 true true false]⟩,
   ⟨"CLK_MEASn", 0xd0020, 0x4, 6, [fld 20 0 .ro 0x0]⟩]

/-- The PWR registers (19_module_power.md). -/
def regPwr : List RegDef :=
  [⟨"PWR_STATUS", 0xe0000, 0x4, 1, [fld 1 0 .ro 0x0, fld 2 2 .ro 0x0, fld 3 3 .ro 0x0, fld 7 4 .ro 0x0, fld 11 8 .ro 0x0, fld 13 12 .ro 0x0, fld 15 14 .ro 0x0, fld 16 16 .ro 0x0, fld 17 17 .ro 0x0]⟩,
   ⟨"PWR_VOLTS", 0xe0004, 0x4, 1, [fld 13 0 .ro 0x0, fld 29 16 .ro 0x0]⟩,
   ⟨"PWR_INPUTS", 0xe0008, 0x4, 1, [fld 13 0 .ro 0x0, fld 29 16 .ro 0x0]⟩,
   ⟨"PWR_LOAD", 0xe000c, 0x4, 1, [fld 15 0 .ro 0x0, fld 31 16 .ro 0x0]⟩,
   ⟨"PWR_PEAK", 0xe0010, 0x4, 1, [fld 15 0 .rc 0x0]⟩,
   ⟨"PWR_FIELD_TEMP", 0xe0014, 0x4, 1, [fld 15 0 .ro 0x0]⟩,
   ⟨"PWR_EVT", 0xe0018, 0x4, 1, [fld 0 0 .w1c 0x0, fld 1 1 .w1c 0x0, fld 2 2 .w1c 0x0, fld 3 3 .w1c 0x0, fld 4 4 .w1c 0x0, fld 5 5 .w1c 0x0]⟩,
   ⟨"PWR_IEN", 0xe001c, 0x4, 1, [fld 5 0 .rw 0x0]⟩,
   ⟨"PWR_PFW_COUNT", 0xe0020, 0x4, 1, [fld 31 0 .rc 0x0]⟩]

/-- The HUB registers (20_bringup_reset.md). -/
def regHub : List RegDef :=
  [⟨"HUB_BOOT", 0xf0000, 0x4, 1, [fld 3 0 .ro 0x0, fld 4 4 .ro 0x0, fld 5 5 .ro 0x0, fld 6 6 .ro 0x0, fld 7 7 .ro 0x0, fld 8 8 .ro 0x0]⟩,
   ⟨"HUB_RESET_CAUSE", 0xf0004, 0x4, 1, [fldK 0 0 .ro 0x0 true true false, fldK 1 1 .ro 0x0 true true false, fldK 2 2 .ro 0x0 true true false, fldK 3 3 .ro 0x0 true true false, fldK 4 4 .ro 0x0 true true false]⟩,
   ⟨"HUB_BLOCK_RST", 0xf0008, 0x4, 1, [fld 7 0 .w1s 0x0]⟩,
   ⟨"HUB_FW_VERSION", 0xf000c, 0x4, 1, [fld 31 0 .ro 0x0]⟩,
   ⟨"HUB_FW_OTHER", 0xf0010, 0x4, 1, [fld 31 0 .ro 0x0]⟩,
   ⟨"HUB_FW_FLOOR", 0xf0014, 0x4, 1, [fld 7 0 .ro 0x0, fld 15 8 .ro 0x0, fld 23 16 .ro 0x0]⟩,
   ⟨"HUB_UPDATE_STATE", 0xf0018, 0x4, 1, [fldK 2 0 .ro 0x0 true false false]⟩,
   ⟨"HUB_READY_MS", 0xf001c, 0x4, 1, [fld 15 0 .ro 0x0]⟩,
   ⟨"HUB_EVT", 0xf0020, 0x4, 1, [fld 0 0 .w1c 0x0, fld 1 1 .w1c 0x0, fld 2 2 .w1c 0x0, fld 3 3 .w1c 0x0, fld 4 4 .w1c 0x0]⟩,
   ⟨"HUB_IEN", 0xf0024, 0x4, 1, [fld 4 0 .rw 0x0]⟩]

/-- The MON registers (21_leolo_monitor.md). -/
def regMon : List RegDef :=
  [⟨"MON_STATUS", 0x100000, 0x4, 1, [fld 0 0 .ro 0x0, fld 1 1 .ro 0x0, fld 5 2 .ro 0x0, fld 6 6 .ro 0x0]⟩,
   ⟨"MON_SESSION", 0x100004, 0x4, 1, [fld 31 0 .ro 0x0]⟩,
   ⟨"MON_EVT", 0x100008, 0x4, 1, [fld 0 0 .w1c 0x0, fld 1 1 .w1c 0x0, fld 2 2 .w1c 0x0, fld 3 3 .w1c 0x0]⟩,
   ⟨"MON_IEN", 0x10000c, 0x4, 1, [fld 3 0 .rw 0x0]⟩,
   ⟨"MON_LINES", 0x100010, 0x4, 1, [fld 31 0 .rc 0x0]⟩]

/-- The PIER registers (15_pier_isa.md). -/
def regPier : List RegDef :=
  [⟨"PIER_EVT", 0x110000, 0x4, 1, [fld 5 0 .w1c 0x0]⟩,
   ⟨"PIER_IEN", 0x110004, 0x4, 1, [fld 5 0 .rw 0x0]⟩,
   ⟨"PIER_COREc_STATUS", 0x110100, 0x40, 6, [fld 1 0 .ro 0x0, fld 2 2 .ro 0x0, fld 3 3 .ro 0x0, fld 4 4 .ro 0x0]⟩,
   ⟨"PIER_COREc_CTRL", 0x110104, 0x40, 6, [fld 0 0 .w1s 0x0]⟩,
   ⟨"PIER_COREc_RSTVEC_LO", 0x110108, 0x40, 6, [fld 31 0 .rw 0x0]⟩,
   ⟨"PIER_COREc_RSTVEC_HI", 0x11010c, 0x40, 6, [fld 31 0 .rw 0x0]⟩,
   ⟨"PIER_COREc_SPILLS", 0x110110, 0x40, 6, [fld 31 0 .rc 0x0]⟩,
   ⟨"PIER_COREc_FILLS", 0x110114, 0x40, 6, [fld 31 0 .rc 0x0]⟩,
   ⟨"PIER_COREc_EXCEPTIONS", 0x110118, 0x40, 6, [fld 31 0 .rc 0x0]⟩,
   ⟨"PIER_COREc_RETIRED_LO", 0x110120, 0x40, 6, [fld 31 0 .ro 0x0]⟩,
   ⟨"PIER_COREc_RETIRED_HI", 0x110124, 0x40, 6, [fld 31 0 .ro 0x0]⟩]

/-- The GATE registers (14_worlds_gates.md). -/
def regGate : List RegDef :=
  [⟨"GATE_CTRL", 0x120000, 0x4, 1, [fld 0 0 .w1s 0x0]⟩,
   ⟨"GATE_STATUS", 0x120004, 0x4, 1, [fld 6 0 .ro 0x1, fld 8 8 .ro 0x0]⟩,
   ⟨"GATE_EVT", 0x120008, 0x4, 1, [fld 0 0 .w1c 0x0, fld 1 1 .w1c 0x0]⟩,
   ⟨"GATE_IEN", 0x12000c, 0x4, 1, [fld 1 0 .rw 0x0]⟩,
   ⟨"GATE_VIOL_ADDR_LO", 0x120010, 0x4, 1, [fld 31 0 .ro 0x0]⟩,
   ⟨"GATE_VIOL_ADDR_HI", 0x120014, 0x4, 1, [fld 31 0 .ro 0x0]⟩,
   ⟨"GATE_VIOL_INFO", 0x120018, 0x4, 1, [fld 5 0 .ro 0x0, fld 7 6 .ro 0x0, fld 11 8 .ro 0x0, fld 19 12 .ro 0x0, fld 31 31 .w1c 0x0]⟩,
   ⟨"GATE_VIOL_COUNT", 0x12001c, 0x4, 1, [fld 31 0 .rc 0x0]⟩,
   ⟨"GATE_WR_INDEX", 0x120020, 0x4, 1, [fld 6 0 .rw 0x0]⟩,
   ⟨"GATE_WR_OP", 0x120024, 0x4, 1, [fld 1 0 .wo 0x0]⟩,
   ⟨"GATE_WR_DATAn", 0x120030, 0x4, 6, [fld 31 0 .wo 0x0]⟩,
   ⟨"GATE_SLOTs_RD_LO", 0x121000, 0x10, 33, [fld 31 0 .ro 0x0]⟩,
   ⟨"GATE_SLOTs_RD_HI", 0x121004, 0x10, 33, [fld 31 0 .ro 0x0]⟩,
   ⟨"GATE_SLOTs_WR_LO", 0x121008, 0x10, 33, [fld 31 0 .ro 0x0]⟩,
   ⟨"GATE_SLOTs_WR_HI", 0x12100c, 0x10, 33, [fld 31 0 .ro 0x0]⟩,
   ⟨"GATE_REGIONr_BASE", 0x122000, 0x10, 64, [fld 23 0 .ro 0x0]⟩,
   ⟨"GATE_REGIONr_CFG", 0x122004, 0x10, 64, [fld 4 0 .ro 0x0, fld 7 5 .ro 0x0]⟩,
   ⟨"GATE_REGIONr_WORLDS_LO", 0x122008, 0x10, 64, [fld 31 0 .ro 0x0]⟩,
   ⟨"GATE_REGIONr_WORLDS_HI", 0x12200c, 0x10, 64, [fld 31 0 .ro 0x0]⟩]

/-- The KPR registers (14_worlds_gates.md). -/
def regKpr : List RegDef :=
  [⟨"KPR_STATUS", 0x130000, 0x4, 1, [fld 0 0 .ro 0x0, fld 2 1 .ro 0x0]⟩,
   ⟨"KPR_SWDT_KICK", 0x130004, 0x4, 1, [fld 31 0 .wo 0x0]⟩,
   ⟨"KPR_SWDT_LEFT", 0x130008, 0x4, 1, [fld 9 0 .ro 0x3e8, fld 25 16 .ro 0x3e8]⟩,
   ⟨"KPR_EVT", 0x13000c, 0x4, 1, [fld 0 0 .w1c 0x0, fld 1 1 .w1c 0x0, fld 2 2 .w1c 0x0, fld 3 3 .w1c 0x0]⟩,
   ⟨"KPR_IEN", 0x130010, 0x4, 1, [fld 3 0 .rw 0x0]⟩,
   ⟨"KPR_RUNNING", 0x130020, 0x4, 1, [fld 31 0 .ro 0x0]⟩,
   ⟨"KPR_UNIT_STATE", 0x130030, 0x4, 1, [fld 15 0 .ro 0x0, fld 19 16 .ro 0x0]⟩,
   ⟨"KPR_GUESTg_STATE", 0x130110, 0x10, 33, [fld 2 0 .ro 0x0, fld 15 8 .ro 0x0, fld 31 16 .ro 0x0]⟩,
   ⟨"KPR_GUESTg_INFLIGHT", 0x130114, 0x10, 33, [fld 15 0 .ro 0x0, fld 31 16 .ro 0x0]⟩,
   ⟨"KPR_GUESTg_VIOL", 0x130118, 0x10, 33, [fld 31 0 .rc 0x0]⟩,
   ⟨"KPR_VC_DB", 0x138000, 0x4, 1, [fld 1 0 .wo 0x0, fld 2 2 .wo 0x0, fld 27 16 .wo 0x0]⟩]

/-- The register table of the window that holds an offset, by the block index of R461. -/
def blockTable : Nat → List RegDef
  | 0 => regSte
  | 1 => regCls
  | 2 => regBne
  | 3 => regVlt
  | 4 => regHost
  | 5 => regCnt
  | 6 => regRng
  | 7 => regTmp
  | 8 => regErr
  | 9 => regTb
  | 10 => regNvs
  | 11 => regFuse
  | 12 => regLcs
  | 13 => regClk
  | 14 => regPwr
  | 15 => regHub
  | 16 => regMon
  | 17 => regPier
  | 18 => regGate
  | 19 => regKpr
  | _ => []

/-- The window offset of `CNT_EPOCH_LO`. -/
def Reg.cntEpochLo : Nat := 0x50100
/-- The window offset of `CNT_EPOCH_HI`. -/
def Reg.cntEpochHi : Nat := 0x50104
/-- The window offset of `CNT_STAGE_EPOCH_LO`. -/
def Reg.cntStageEpochLo : Nat := 0x50108
/-- The window offset of `CNT_STAGE_EPOCH_HI`. -/
def Reg.cntStageEpochHi : Nat := 0x5010c
/-- The window offset of `CNT_STAGE_STATE`. -/
def Reg.cntStageState : Nat := 0x50110
/-- The window offset of `CNT_SWITCH_TIME_LO`. -/
def Reg.cntSwitchTimeLo : Nat := 0x50114
/-- The window offset of `CNT_SWITCH_TIME_HI`. -/
def Reg.cntSwitchTimeHi : Nat := 0x50118
/-- The window offset of `CNT_EPOCH_EVT`. -/
def Reg.cntEpochEvt : Nat := 0x5011c
/-- The window offset of `CNT_EPOCH_IEN`. -/
def Reg.cntEpochIen : Nat := 0x50120
/-- The window offset of `CNT_CFG_DIGESTn`. -/
def Reg.cntCfgDigestn (n : Nat) : Nat := 0x50140 + 0x4 * n
/-- The window offset of `VLT_LOG_HEAD_LO`. -/
def Reg.vltLogHeadLo : Nat := 0x30800
/-- The window offset of `VLT_LOG_HEAD_HI`. -/
def Reg.vltLogHeadHi : Nat := 0x30804
/-- The window offset of `VLT_LOG_ACK_LO`. -/
def Reg.vltLogAckLo : Nat := 0x30808
/-- The window offset of `VLT_LOG_ACK_HI`. -/
def Reg.vltLogAckHi : Nat := 0x3080c
/-- The window offset of `VLT_LOG_FREE`. -/
def Reg.vltLogFree : Nat := 0x30810
/-- The window offset of `VLT_LOG_STATE`. -/
def Reg.vltLogState : Nat := 0x30814
/-- The window offset of `VLT_LOG_EVT`. -/
def Reg.vltLogEvt : Nat := 0x30818
/-- The window offset of `VLT_LOG_IEN`. -/
def Reg.vltLogIen : Nat := 0x3081c
/-- The window offset of `VLT_LOG_WEAR`. -/
def Reg.vltLogWear : Nat := 0x30820
/-- The window offset of `VLT_LOG_RATE`. -/
def Reg.vltLogRate : Nat := 0x30824
/-- The window offset of `VLT_LOG_HASHn`. -/
def Reg.vltLogHashn (n : Nat) : Nat := 0x30840 + 0x4 * n
/-- The window offset of `VLT_PROP_OPEN`. -/
def Reg.vltPropOpen : Nat := 0x30860
/-- The window offset of `VLT_SESSION_COUNT`. -/
def Reg.vltSessionCount : Nat := 0x30864
/-- The window offset of `VLT_LOCK_HELD_LO`. -/
def Reg.vltLockHeldLo : Nat := 0x30868
/-- The window offset of `VLT_LOCK_HELD_HI`. -/
def Reg.vltLockHeldHi : Nat := 0x3086c
/-- The window offset of `CLS_HASH_SEED0`. -/
def Reg.clsHashSeed0 : Nat := 0x10000
/-- The window offset of `CLS_HASH_SEED1`. -/
def Reg.clsHashSeed1 : Nat := 0x10004
/-- The window offset of `CLS_EM_COUNT`. -/
def Reg.clsEmCount : Nat := 0x10008
/-- The window offset of `CLS_WC_COUNT`. -/
def Reg.clsWcCount : Nat := 0x1000c
/-- The window offset of `CLS_UDP_SI`. -/
def Reg.clsUdpSi : Nat := 0x10010
/-- The window offset of `CLS_EM_INDEX`. -/
def Reg.clsEmIndex : Nat := 0x10020
/-- The window offset of `CLS_EM_OP`. -/
def Reg.clsEmOp : Nat := 0x10024
/-- The window offset of `CLS_EM_KEYn`. -/
def Reg.clsEmKeyn (n : Nat) : Nat := 0x10040 + 0x4 * n
/-- The window offset of `CLS_EM_RESULT`. -/
def Reg.clsEmResult : Nat := 0x10060
/-- The window offset of `CLS_COMMIT`. -/
def Reg.clsCommit : Nat := 0x10080
/-- The window offset of `CLS_EVT`. -/
def Reg.clsEvt : Nat := 0x10084
/-- The window offset of `CLS_IEN`. -/
def Reg.clsIen : Nat := 0x10088
/-- The window offset of `CLS_WC_INDEX`. -/
def Reg.clsWcIndex : Nat := 0x100a0
/-- The window offset of `CLS_WC_RESULT`. -/
def Reg.clsWcResult : Nat := 0x100a4
/-- The window offset of `CLS_WC_VALUEn`. -/
def Reg.clsWcValuen (n : Nat) : Nat := 0x100c0 + 0x4 * n
/-- The window offset of `CLS_WC_MASKn`. -/
def Reg.clsWcMaskn (n : Nat) : Nat := 0x100e0 + 0x4 * n
/-- The window offset of `CLS_PORTn_CFG`. -/
def Reg.clsPortnCfg (n : Nat) : Nat := 0x11000 + 0x400 * n
/-- The window offset of `CLS_PORTn_CTRL`. -/
def Reg.clsPortnCtrl (n : Nat) : Nat := 0x11004 + 0x400 * n
/-- The window offset of `CLS_PORTn_SERDES`. -/
def Reg.clsPortnSerdes (n : Nat) : Nat := 0x11008 + 0x400 * n
/-- The window offset of `CLS_PORTn_STATUS`. -/
def Reg.clsPortnStatus (n : Nat) : Nat := 0x1100c + 0x400 * n
/-- The window offset of `CLS_PORTn_EVT`. -/
def Reg.clsPortnEvt (n : Nat) : Nat := 0x11010 + 0x400 * n
/-- The window offset of `CLS_PORTn_IEN`. -/
def Reg.clsPortnIen (n : Nat) : Nat := 0x11014 + 0x400 * n
/-- The window offset of `CLS_PORTn_BUF_RSV`. -/
def Reg.clsPortnBufRsv (n : Nat) : Nat := 0x11018 + 0x400 * n
/-- The window offset of `CLS_PORTn_BUF_THR`. -/
def Reg.clsPortnBufThr (n : Nat) : Nat := 0x1101c + 0x400 * n
/-- The window offset of `CLS_PORTn_BUF_OCC`. -/
def Reg.clsPortnBufOcc (n : Nat) : Nat := 0x11020 + 0x400 * n
/-- The window offset of `CLS_PORTn_TS_RX_LAT`. -/
def Reg.clsPortnTsRxLat (n : Nat) : Nat := 0x11024 + 0x400 * n
/-- The window offset of `CLS_PORTn_TS_TX_LAT`. -/
def Reg.clsPortnTsTxLat (n : Nat) : Nat := 0x11028 + 0x400 * n
/-- The window offset of `CLS_PORTn_PTP_RXQ_LO`. -/
def Reg.clsPortnPtpRxqLo (n : Nat) : Nat := 0x11030 + 0x400 * n
/-- The window offset of `CLS_PORTn_PTP_RXQ_HI`. -/
def Reg.clsPortnPtpRxqHi (n : Nat) : Nat := 0x11034 + 0x400 * n
/-- The window offset of `CLS_PORTn_PTP_RXQ_SEQ`. -/
def Reg.clsPortnPtpRxqSeq (n : Nat) : Nat := 0x11038 + 0x400 * n
/-- The window offset of `CLS_PORTn_PTP_TX_DB`. -/
def Reg.clsPortnPtpTxDb (n : Nat) : Nat := 0x1103c + 0x400 * n
/-- The window offset of `CLS_PORTn_PTP_TXQ_LO`. -/
def Reg.clsPortnPtpTxqLo (n : Nat) : Nat := 0x11040 + 0x400 * n
/-- The window offset of `CLS_PORTn_PTP_TXQ_HI`. -/
def Reg.clsPortnPtpTxqHi (n : Nat) : Nat := 0x11044 + 0x400 * n
/-- The window offset of `CLS_PORTn_RX_FRAMES_LO`. -/
def Reg.clsPortnRxFramesLo (n : Nat) : Nat := 0x11100 + 0x400 * n
/-- The window offset of `CLS_PORTn_RX_FRAMES_HI`. -/
def Reg.clsPortnRxFramesHi (n : Nat) : Nat := 0x11104 + 0x400 * n
/-- The window offset of `CLS_PORTn_RX_BYTES_LO`. -/
def Reg.clsPortnRxBytesLo (n : Nat) : Nat := 0x11108 + 0x400 * n
/-- The window offset of `CLS_PORTn_RX_BYTES_HI`. -/
def Reg.clsPortnRxBytesHi (n : Nat) : Nat := 0x1110c + 0x400 * n
/-- The window offset of `CLS_PORTn_TX_FRAMES_LO`. -/
def Reg.clsPortnTxFramesLo (n : Nat) : Nat := 0x11110 + 0x400 * n
/-- The window offset of `CLS_PORTn_TX_FRAMES_HI`. -/
def Reg.clsPortnTxFramesHi (n : Nat) : Nat := 0x11114 + 0x400 * n
/-- The window offset of `CLS_PORTn_TX_BYTES_LO`. -/
def Reg.clsPortnTxBytesLo (n : Nat) : Nat := 0x11118 + 0x400 * n
/-- The window offset of `CLS_PORTn_TX_BYTES_HI`. -/
def Reg.clsPortnTxBytesHi (n : Nat) : Nat := 0x1111c + 0x400 * n
/-- The window offset of `CLS_PORTn_MATCH_EXACT_LO`. -/
def Reg.clsPortnMatchExactLo (n : Nat) : Nat := 0x11130 + 0x400 * n
/-- The window offset of `CLS_PORTn_MATCH_EXACT_HI`. -/
def Reg.clsPortnMatchExactHi (n : Nat) : Nat := 0x11134 + 0x400 * n
/-- The window offset of `CLS_PORTn_MATCH_WILD_LO`. -/
def Reg.clsPortnMatchWildLo (n : Nat) : Nat := 0x11138 + 0x400 * n
/-- The window offset of `CLS_PORTn_MATCH_WILD_HI`. -/
def Reg.clsPortnMatchWildHi (n : Nat) : Nat := 0x1113c + 0x400 * n
/-- The window offset of `CLS_PORTn_NOMATCH_LO`. -/
def Reg.clsPortnNomatchLo (n : Nat) : Nat := 0x11140 + 0x400 * n
/-- The window offset of `CLS_PORTn_NOMATCH_HI`. -/
def Reg.clsPortnNomatchHi (n : Nat) : Nat := 0x11144 + 0x400 * n
/-- The window offset of `CLS_PORTn_DISP_DROP_LO`. -/
def Reg.clsPortnDispDropLo (n : Nat) : Nat := 0x11148 + 0x400 * n
/-- The window offset of `CLS_PORTn_DISP_DROP_HI`. -/
def Reg.clsPortnDispDropHi (n : Nat) : Nat := 0x1114c + 0x400 * n
/-- The window offset of `CLS_PORTn_RX_FCS_ERR`. -/
def Reg.clsPortnRxFcsErr (n : Nat) : Nat := 0x11150 + 0x400 * n
/-- The window offset of `CLS_PORTn_RX_RUNT`. -/
def Reg.clsPortnRxRunt (n : Nat) : Nat := 0x11154 + 0x400 * n
/-- The window offset of `CLS_PORTn_RX_OVERSIZE`. -/
def Reg.clsPortnRxOversize (n : Nat) : Nat := 0x11158 + 0x400 * n
/-- The window offset of `CLS_PORTn_RX_NOBUF`. -/
def Reg.clsPortnRxNobuf (n : Nat) : Nat := 0x1115c + 0x400 * n
/-- The window offset of `CLS_PORTn_LEN_LIMIT`. -/
def Reg.clsPortnLenLimit (n : Nat) : Nat := 0x11160 + 0x400 * n
/-- The window offset of `CLS_PORTn_LAN_MISMATCH`. -/
def Reg.clsPortnLanMismatch (n : Nat) : Nat := 0x11164 + 0x400 * n
/-- The window offset of `CLS_PORTn_LINK_DISCARD`. -/
def Reg.clsPortnLinkDiscard (n : Nat) : Nat := 0x11168 + 0x400 * n
/-- The window offset of `CLS_PORTn_PAUSE_TX`. -/
def Reg.clsPortnPauseTx (n : Nat) : Nat := 0x1116c + 0x400 * n
/-- The window offset of `CLS_PORTn_PAUSE_RX`. -/
def Reg.clsPortnPauseRx (n : Nat) : Nat := 0x11170 + 0x400 * n
/-- The window offset of `CLS_PORTn_PTP_RX`. -/
def Reg.clsPortnPtpRx (n : Nat) : Nat := 0x11174 + 0x400 * n
/-- The window offset of `CLS_PORTn_PTP_TX`. -/
def Reg.clsPortnPtpTx (n : Nat) : Nat := 0x11178 + 0x400 * n
/-- The window offset of `CLS_PORTn_PTP_RX_LOST`. -/
def Reg.clsPortnPtpRxLost (n : Nat) : Nat := 0x1117c + 0x400 * n
/-- The window offset of `STE_CTRL`. -/
def Reg.steCtrl : Nat := 0x0
/-- The window offset of `STE_STATUS`. -/
def Reg.steStatus : Nat := 0x4
/-- The window offset of `STE_CTX_BASE`. -/
def Reg.steCtxBase : Nat := 0x8
/-- The window offset of `STE_CTX_OP`. -/
def Reg.steCtxOp : Nat := 0xc
/-- The window offset of `STE_KS_SEL`. -/
def Reg.steKsSel : Nat := 0x10
/-- The window offset of `STE_KS_OP`. -/
def Reg.steKsOp : Nat := 0x14
/-- The window offset of `STE_EVT`. -/
def Reg.steEvt : Nat := 0x18
/-- The window offset of `STE_IEN`. -/
def Reg.steIen : Nat := 0x1c
/-- The window offset of `STE_CTX_ENTRYn`. -/
def Reg.steCtxEntryn (n : Nat) : Nat := 0x100 + 0x4 * n
/-- The window offset of `STE_CTX_STATEn`. -/
def Reg.steCtxStaten (n : Nat) : Nat := 0x180 + 0x4 * n
/-- The window offset of `STE_KS_DATAn`. -/
def Reg.steKsDatan (n : Nat) : Nat := 0x200 + 0x4 * n
/-- The window offset of `STE_KS_HEADn`. -/
def Reg.steKsHeadn (n : Nat) : Nat := 0x400 + 0x4 * n
/-- The window offset of `STE_SIGNED_LO`. -/
def Reg.steSignedLo : Nat := 0x800
/-- The window offset of `STE_SIGNED_HI`. -/
def Reg.steSignedHi : Nat := 0x804
/-- The window offset of `STE_VERIFIED_LO`. -/
def Reg.steVerifiedLo : Nat := 0x808
/-- The window offset of `STE_VERIFIED_HI`. -/
def Reg.steVerifiedHi : Nat := 0x80c
/-- The window offset of `STE_TAG_FAIL`. -/
def Reg.steTagFail : Nat := 0x810
/-- The window offset of `STE_REPLAY`. -/
def Reg.steReplay : Nat := 0x814
/-- The window offset of `STE_STALE`. -/
def Reg.steStale : Nat := 0x818
/-- The window offset of `STE_NONCE_ORDER`. -/
def Reg.steNonceOrder : Nat := 0x81c
/-- The window offset of `STE_NO_KEY`. -/
def Reg.steNoKey : Nat := 0x820
/-- The window offset of `STE_KEY_ID_UNKNOWN`. -/
def Reg.steKeyIdUnknown : Nat := 0x824
/-- The window offset of `STE_TEMPLATE_MISMATCH`. -/
def Reg.steTemplateMismatch : Nat := 0x828
/-- The window offset of `TB_CTRL`. -/
def Reg.tbCtrl : Nat := 0x90000
/-- The window offset of `TB_STATUS`. -/
def Reg.tbStatus : Nat := 0x90004
/-- The window offset of `TB_ADDEND`. -/
def Reg.tbAddend : Nat := 0x90008
/-- The window offset of `TB_TIME_NS`. -/
def Reg.tbTimeNs : Nat := 0x90010
/-- The window offset of `TB_TIME_SEC_LO`. -/
def Reg.tbTimeSecLo : Nat := 0x90014
/-- The window offset of `TB_TIME_SEC_HI`. -/
def Reg.tbTimeSecHi : Nat := 0x90018
/-- The window offset of `TB_SET_NS`. -/
def Reg.tbSetNs : Nat := 0x90020
/-- The window offset of `TB_SET_SEC_LO`. -/
def Reg.tbSetSecLo : Nat := 0x90024
/-- The window offset of `TB_SET_SEC_HI`. -/
def Reg.tbSetSecHi : Nat := 0x90028
/-- The window offset of `TB_STEP`. -/
def Reg.tbStep : Nat := 0x90030
/-- The window offset of `TB_SLEW_NS`. -/
def Reg.tbSlewNs : Nat := 0x90034
/-- The window offset of `TB_SLEW_TICKS`. -/
def Reg.tbSlewTicks : Nat := 0x90038
/-- The window offset of `TB_UTC_OFFSET`. -/
def Reg.tbUtcOffset : Nat := 0x90040
/-- The window offset of `TB_UTC_NEXT`. -/
def Reg.tbUtcNext : Nat := 0x90044
/-- The window offset of `TB_UTC_AT_SEC_LO`. -/
def Reg.tbUtcAtSecLo : Nat := 0x90048
/-- The window offset of `TB_RESUME_SEC_LO`. -/
def Reg.tbResumeSecLo : Nat := 0x90050
/-- The window offset of `TB_RESUME_SEC_HI`. -/
def Reg.tbResumeSecHi : Nat := 0x90054
/-- The window offset of `TB_PPS_IN_NS`. -/
def Reg.tbPpsInNs : Nat := 0x90060
/-- The window offset of `TB_PPS_IN_SEC_LO`. -/
def Reg.tbPpsInSecLo : Nat := 0x90064
/-- The window offset of `TB_PPS_IN_LAT`. -/
def Reg.tbPpsInLat : Nat := 0x90068
/-- The window offset of `TB_PPS_OUT_LAT`. -/
def Reg.tbPpsOutLat : Nat := 0x9006c
/-- The window offset of `TB_PPS_OUT_WIDTH`. -/
def Reg.tbPpsOutWidth : Nat := 0x90070
/-- The window offset of `TB_PEER_OFFSET`. -/
def Reg.tbPeerOffset : Nat := 0x90080
/-- The window offset of `TB_EVT`. -/
def Reg.tbEvt : Nat := 0x90084
/-- The window offset of `TB_IEN`. -/
def Reg.tbIen : Nat := 0x90088
/-- The window offset of `VLT_STATE`. -/
def Reg.vltState : Nat := 0x30000
/-- The window offset of `VLT_OBJ_COUNT`. -/
def Reg.vltObjCount : Nat := 0x30004
/-- The window offset of `VLT_CTR_COUNT`. -/
def Reg.vltCtrCount : Nat := 0x30008
/-- The window offset of `VLT_DRAINING`. -/
def Reg.vltDraining : Nat := 0x3000c
/-- The window offset of `VLT_OWNER_SEL`. -/
def Reg.vltOwnerSel : Nat := 0x30010
/-- The window offset of `VLT_OWNER_OBJ`. -/
def Reg.vltOwnerObj : Nat := 0x30014
/-- The window offset of `VLT_OWNER_CTR`. -/
def Reg.vltOwnerCtr : Nat := 0x30018
/-- The window offset of `VLT_KEK_LO`. -/
def Reg.vltKekLo : Nat := 0x30020
/-- The window offset of `VLT_KEK_HI`. -/
def Reg.vltKekHi : Nat := 0x30024
/-- The window offset of `VLT_ZEROISED_LO`. -/
def Reg.vltZeroisedLo : Nat := 0x30028
/-- The window offset of `VLT_ZEROISED_HI`. -/
def Reg.vltZeroisedHi : Nat := 0x3002c
/-- The window offset of `VLT_ZEROISE_TIME_LO`. -/
def Reg.vltZeroiseTimeLo : Nat := 0x30030
/-- The window offset of `VLT_ZEROISE_TIME_HI`. -/
def Reg.vltZeroiseTimeHi : Nat := 0x30034
/-- The window offset of `VLT_CACHE`. -/
def Reg.vltCache : Nat := 0x30038
/-- The window offset of `VLT_JOBS`. -/
def Reg.vltJobs : Nat := 0x3003c
/-- The window offset of `VLT_EVT`. -/
def Reg.vltEvt : Nat := 0x30040
/-- The window offset of `VLT_IEN`. -/
def Reg.vltIen : Nat := 0x30044
/-- The window offset of `VLT_UNIT_IDn`. -/
def Reg.vltUnitIdn (n : Nat) : Nat := 0x30050 + 0x4 * n
/-- The window offset of `VLT_CPK_PUBn`. -/
def Reg.vltCpkPubn (n : Nat) : Nat := 0x30060 + 0x4 * n
/-- The window offset of `BNE_CTRL`. -/
def Reg.bneCtrl : Nat := 0x20000
/-- The window offset of `BNE_STATUS`. -/
def Reg.bneStatus : Nat := 0x20004
/-- The window offset of `BNE_LANE_GUEST0`. -/
def Reg.bneLaneGuest0 : Nat := 0x20008
/-- The window offset of `BNE_LANE_GUEST1`. -/
def Reg.bneLaneGuest1 : Nat := 0x2000c
/-- The window offset of `BNE_EVT`. -/
def Reg.bneEvt : Nat := 0x20010
/-- The window offset of `BNE_IEN`. -/
def Reg.bneIen : Nat := 0x20014
/-- The window offset of `BNE_ECC_CORR`. -/
def Reg.bneEccCorr : Nat := 0x20018
/-- The window offset of `BNE_LANEk_CMD0`. -/
def Reg.bneLanekCmd0 (n : Nat) : Nat := 0x21000 + 0x100 * n
/-- The window offset of `BNE_LANEk_CMD1`. -/
def Reg.bneLanekCmd1 (n : Nat) : Nat := 0x21004 + 0x100 * n
/-- The window offset of `BNE_LANEk_CMD2`. -/
def Reg.bneLanekCmd2 (n : Nat) : Nat := 0x21008 + 0x100 * n
/-- The window offset of `BNE_LANEk_CMD3`. -/
def Reg.bneLanekCmd3 (n : Nat) : Nat := 0x2100c + 0x100 * n
/-- The window offset of `BNE_LANEk_ISSUE`. -/
def Reg.bneLanekIssue (n : Nat) : Nat := 0x21010 + 0x100 * n
/-- The window offset of `BNE_LANEk_QUEUE`. -/
def Reg.bneLanekQueue (n : Nat) : Nat := 0x21014 + 0x100 * n
/-- The window offset of `BNE_LANEk_STATE`. -/
def Reg.bneLanekState (n : Nat) : Nat := 0x21018 + 0x100 * n
/-- The window offset of `BNE_LANEk_CTRL`. -/
def Reg.bneLanekCtrl (n : Nat) : Nat := 0x2101c + 0x100 * n
/-- The window offset of `BNE_LANEk_CPL0`. -/
def Reg.bneLanekCpl0 (n : Nat) : Nat := 0x21020 + 0x100 * n
/-- The window offset of `BNE_LANEk_CPL1`. -/
def Reg.bneLanekCpl1 (n : Nat) : Nat := 0x21024 + 0x100 * n
/-- The window offset of `BNE_LANEk_CPL2`. -/
def Reg.bneLanekCpl2 (n : Nat) : Nat := 0x21028 + 0x100 * n
/-- The window offset of `BNE_LANEk_CPL3`. -/
def Reg.bneLanekCpl3 (n : Nat) : Nat := 0x2102c + 0x100 * n
/-- The window offset of `BNE_LANEk_JOBS_LO`. -/
def Reg.bneLanekJobsLo (n : Nat) : Nat := 0x21030 + 0x100 * n
/-- The window offset of `BNE_LANEk_JOBS_HI`. -/
def Reg.bneLanekJobsHi (n : Nat) : Nat := 0x21034 + 0x100 * n
/-- The window offset of `BNE_LANEk_LAST_CYCLES`. -/
def Reg.bneLanekLastCycles (n : Nat) : Nat := 0x21038 + 0x100 * n
/-- The window offset of `BNE_LANEk_GUARD`. -/
def Reg.bneLanekGuard (n : Nat) : Nat := 0x2103c + 0x100 * n
/-- The window offset of `BNE_LANEk_MISMATCH`. -/
def Reg.bneLanekMismatch (n : Nat) : Nat := 0x21040 + 0x100 * n
/-- The window offset of `BNE_LANEk_REFUSED`. -/
def Reg.bneLanekRefused (n : Nat) : Nat := 0x21044 + 0x100 * n
/-- The window offset of `BNE_LANEk_WITHHELD`. -/
def Reg.bneLanekWithheld (n : Nat) : Nat := 0x21048 + 0x100 * n
/-- The window offset of `HOST_CTRL`. -/
def Reg.hostCtrl : Nat := 0x40000
/-- The window offset of `HOST_STATUS`. -/
def Reg.hostStatus : Nat := 0x40004
/-- The window offset of `HOST_INFLIGHT`. -/
def Reg.hostInflight : Nat := 0x40008
/-- The window offset of `HOST_DEFER`. -/
def Reg.hostDefer : Nat := 0x4000c
/-- The window offset of `HOST_EPOCH_LO`. -/
def Reg.hostEpochLo : Nat := 0x40010
/-- The window offset of `HOST_EPOCH_HI`. -/
def Reg.hostEpochHi : Nat := 0x40014
/-- The window offset of `HOST_CANCEL`. -/
def Reg.hostCancel : Nat := 0x40018
/-- The window offset of `HOST_EVT`. -/
def Reg.hostEvt : Nat := 0x4001c
/-- The window offset of `HOST_IEN`. -/
def Reg.hostIen : Nat := 0x40020
/-- The window offset of `HOST_Q_SEL`. -/
def Reg.hostQSel : Nat := 0x40040
/-- The window offset of `HOST_Q_SQ_BASE_LO`. -/
def Reg.hostQSqBaseLo : Nat := 0x40044
/-- The window offset of `HOST_Q_SQ_BASE_HI`. -/
def Reg.hostQSqBaseHi : Nat := 0x40048
/-- The window offset of `HOST_Q_CQ_BASE_LO`. -/
def Reg.hostQCqBaseLo : Nat := 0x4004c
/-- The window offset of `HOST_Q_CQ_BASE_HI`. -/
def Reg.hostQCqBaseHi : Nat := 0x40050
/-- The window offset of `HOST_Q_CFG`. -/
def Reg.hostQCfg : Nat := 0x40054
/-- The window offset of `HOST_Q_CTRL`. -/
def Reg.hostQCtrl : Nat := 0x40058
/-- The window offset of `HOST_Q_SQ_STATE`. -/
def Reg.hostQSqState : Nat := 0x4005c
/-- The window offset of `HOST_Q_CQ_STATE`. -/
def Reg.hostQCqState : Nat := 0x40060
/-- The window offset of `HOST_FNn_QUEUES`. -/
def Reg.hostFnnQueues (n : Nat) : Nat := 0x40100 + 0x4 * n
/-- The window offset of `HOST_FNn_CREDITS`. -/
def Reg.hostFnnCredits (n : Nat) : Nat := 0x40200 + 0x4 * n
/-- The window offset of `HOST_CMDS_LO`. -/
def Reg.hostCmdsLo : Nat := 0x40400
/-- The window offset of `HOST_CMDS_HI`. -/
def Reg.hostCmdsHi : Nat := 0x40404
/-- The window offset of `HOST_STALE`. -/
def Reg.hostStale : Nat := 0x40408
/-- The window offset of `HOST_FORMAT_ERR`. -/
def Reg.hostFormatErr : Nat := 0x4040c
/-- The window offset of `HOST_DMA_ERR`. -/
def Reg.hostDmaErr : Nat := 0x40410
/-- The window offset of `HOST_DEFER_TIMEOUT`. -/
def Reg.hostDeferTimeout : Nat := 0x40414
/-- The window offset of `HOST_SQn_DB`. -/
def Reg.hostSqnDb (n : Nat) : Nat := 0x41000 + 0x8 * n
/-- The window offset of `HOST_CQn_DB`. -/
def Reg.hostCqnDb (n : Nat) : Nat := 0x41004 + 0x8 * n
/-- The window offset of `CNT_STATE`. -/
def Reg.cntState : Nat := 0x50000
/-- The window offset of `CNT_TERM_LO`. -/
def Reg.cntTermLo : Nat := 0x50004
/-- The window offset of `CNT_TERM_HI`. -/
def Reg.cntTermHi : Nat := 0x50008
/-- The window offset of `CNT_CSN_LO`. -/
def Reg.cntCsnLo : Nat := 0x5000c
/-- The window offset of `CNT_CSN_HI`. -/
def Reg.cntCsnHi : Nat := 0x50010
/-- The window offset of `CNT_PEER_CSN_LO`. -/
def Reg.cntPeerCsnLo : Nat := 0x50014
/-- The window offset of `CNT_PEER_CSN_HI`. -/
def Reg.cntPeerCsnHi : Nat := 0x50018
/-- The window offset of `CNT_LEASE`. -/
def Reg.cntLease : Nat := 0x5001c
/-- The window offset of `CNT_SIDE`. -/
def Reg.cntSide : Nat := 0x50020
/-- The window offset of `CNT_EVT`. -/
def Reg.cntEvt : Nat := 0x50024
/-- The window offset of `CNT_IEN`. -/
def Reg.cntIen : Nat := 0x50028
/-- The window offset of `CNT_DECK0_DOWNS`. -/
def Reg.cntDeck0Downs : Nat := 0x50030
/-- The window offset of `CNT_DECK1_DOWNS`. -/
def Reg.cntDeck1Downs : Nat := 0x50034
/-- The window offset of `CNT_SPLITS`. -/
def Reg.cntSplits : Nat := 0x50038
/-- The window offset of `CNT_REPL_LAT`. -/
def Reg.cntReplLat : Nat := 0x5003c
/-- The window offset of `CNT_STATE_DIGESTn`. -/
def Reg.cntStateDigestn (n : Nat) : Nat := 0x50080 + 0x4 * n
/-- The window offset of `CNT_DIGEST_CSN_LO`. -/
def Reg.cntDigestCsnLo : Nat := 0x500a0
/-- The window offset of `CNT_DIGEST_CSN_HI`. -/
def Reg.cntDigestCsnHi : Nat := 0x500a4
/-- The window offset of `RNG_CTRL`. -/
def Reg.rngCtrl : Nat := 0x60000
/-- The window offset of `RNG_STATUS`. -/
def Reg.rngStatus : Nat := 0x60004
/-- The window offset of `RNG_SRCn_FAILS`. -/
def Reg.rngSrcnFails (n : Nat) : Nat := 0x60010 + 0x4 * n
/-- The window offset of `RNG_RCT_CUTOFF`. -/
def Reg.rngRctCutoff : Nat := 0x60020
/-- The window offset of `RNG_APT_CUTOFF`. -/
def Reg.rngAptCutoff : Nat := 0x60024
/-- The window offset of `RNG_EVT`. -/
def Reg.rngEvt : Nat := 0x60030
/-- The window offset of `RNG_IEN`. -/
def Reg.rngIen : Nat := 0x60034
/-- The window offset of `RNG_DRBGi_STATUS`. -/
def Reg.rngDrbgiStatus (n : Nat) : Nat := 0x60040 + 0x4 * n
/-- The window offset of `RNG_OUT_BITS_LO`. -/
def Reg.rngOutBitsLo : Nat := 0x60050
/-- The window offset of `RNG_OUT_BITS_HI`. -/
def Reg.rngOutBitsHi : Nat := 0x60054
/-- The window offset of `RNG_WAITS`. -/
def Reg.rngWaits : Nat := 0x60058
/-- The window offset of `RNG_RUSHES_CTRL`. -/
def Reg.rngRushesCtrl : Nat := 0x60060
/-- The window offset of `RNG_RUSHES_COUNT`. -/
def Reg.rngRushesCount : Nat := 0x60064
/-- The window offset of `TMP_STATUS`. -/
def Reg.tmpStatus : Nat := 0x70000
/-- The window offset of `TMP_ALARM`. -/
def Reg.tmpAlarm : Nat := 0x70004
/-- The window offset of `TMP_PENDING_LO`. -/
def Reg.tmpPendingLo : Nat := 0x70008
/-- The window offset of `TMP_PENDING_HI`. -/
def Reg.tmpPendingHi : Nat := 0x7000c
/-- The window offset of `TMP_LEVELS`. -/
def Reg.tmpLevels : Nat := 0x70010
/-- The window offset of `TMP_TEST`. -/
def Reg.tmpTest : Nat := 0x70014
/-- The window offset of `TMP_EVT`. -/
def Reg.tmpEvt : Nat := 0x70018
/-- The window offset of `TMP_IEN`. -/
def Reg.tmpIen : Nat := 0x7001c
/-- The window offset of `TMP_GAP_START_LO`. -/
def Reg.tmpGapStartLo : Nat := 0x70020
/-- The window offset of `TMP_GAP_START_HI`. -/
def Reg.tmpGapStartHi : Nat := 0x70024
/-- The window offset of `TMP_GAP_END_LO`. -/
def Reg.tmpGapEndLo : Nat := 0x70028
/-- The window offset of `TMP_GAP_END_HI`. -/
def Reg.tmpGapEndHi : Nat := 0x7002c
/-- The window offset of `TMP_GAP_INFO`. -/
def Reg.tmpGapInfo : Nat := 0x70030
/-- The window offset of `TMP_TEMPk_VALUE`. -/
def Reg.tmpTempkValue (n : Nat) : Nat := 0x70040 + 0x4 * n
/-- The window offset of `TMP_TEMPk_LIMIT`. -/
def Reg.tmpTempkLimit (n : Nat) : Nat := 0x70050 + 0x4 * n
/-- The window offset of `TMP_SRCn_FILTER`. -/
def Reg.tmpSrcnFilter (n : Nat) : Nat := 0x70100 + 0x4 * n
/-- The window offset of `TMP_SRCn_COUNT`. -/
def Reg.tmpSrcnCount (n : Nat) : Nat := 0x70200 + 0x4 * n
/-- The window offset of `TMP_SRCn_ACTION`. -/
def Reg.tmpSrcnAction (n : Nat) : Nat := 0x70300 + 0x4 * n
/-- The window offset of `TMP_SRCn_MASK`. -/
def Reg.tmpSrcnMask (n : Nat) : Nat := 0x70380 + 0x4 * n
/-- The window offset of `TMP_LOOPn_CFG`. -/
def Reg.tmpLoopnCfg (n : Nat) : Nat := 0x70400 + 0x4 * n
/-- The window offset of `TMP_LOOPn_ERR`. -/
def Reg.tmpLoopnErr (n : Nat) : Nat := 0x70410 + 0x4 * n
/-- The window offset of `GATE_CTRL`. -/
def Reg.gateCtrl : Nat := 0x120000
/-- The window offset of `GATE_STATUS`. -/
def Reg.gateStatus : Nat := 0x120004
/-- The window offset of `GATE_EVT`. -/
def Reg.gateEvt : Nat := 0x120008
/-- The window offset of `GATE_IEN`. -/
def Reg.gateIen : Nat := 0x12000c
/-- The window offset of `GATE_VIOL_ADDR_LO`. -/
def Reg.gateViolAddrLo : Nat := 0x120010
/-- The window offset of `GATE_VIOL_ADDR_HI`. -/
def Reg.gateViolAddrHi : Nat := 0x120014
/-- The window offset of `GATE_VIOL_INFO`. -/
def Reg.gateViolInfo : Nat := 0x120018
/-- The window offset of `GATE_VIOL_COUNT`. -/
def Reg.gateViolCount : Nat := 0x12001c
/-- The window offset of `GATE_WR_INDEX`. -/
def Reg.gateWrIndex : Nat := 0x120020
/-- The window offset of `GATE_WR_OP`. -/
def Reg.gateWrOp : Nat := 0x120024
/-- The window offset of `GATE_WR_DATAn`. -/
def Reg.gateWrDatan (n : Nat) : Nat := 0x120030 + 0x4 * n
/-- The window offset of `GATE_SLOTs_RD_LO`. -/
def Reg.gateSlotsRdLo (n : Nat) : Nat := 0x121000 + 0x10 * n
/-- The window offset of `GATE_SLOTs_RD_HI`. -/
def Reg.gateSlotsRdHi (n : Nat) : Nat := 0x121004 + 0x10 * n
/-- The window offset of `GATE_SLOTs_WR_LO`. -/
def Reg.gateSlotsWrLo (n : Nat) : Nat := 0x121008 + 0x10 * n
/-- The window offset of `GATE_SLOTs_WR_HI`. -/
def Reg.gateSlotsWrHi (n : Nat) : Nat := 0x12100c + 0x10 * n
/-- The window offset of `GATE_REGIONr_BASE`. -/
def Reg.gateRegionrBase (n : Nat) : Nat := 0x122000 + 0x10 * n
/-- The window offset of `GATE_REGIONr_CFG`. -/
def Reg.gateRegionrCfg (n : Nat) : Nat := 0x122004 + 0x10 * n
/-- The window offset of `GATE_REGIONr_WORLDS_LO`. -/
def Reg.gateRegionrWorldsLo (n : Nat) : Nat := 0x122008 + 0x10 * n
/-- The window offset of `GATE_REGIONr_WORLDS_HI`. -/
def Reg.gateRegionrWorldsHi (n : Nat) : Nat := 0x12200c + 0x10 * n
/-- The window offset of `KPR_STATUS`. -/
def Reg.kprStatus : Nat := 0x130000
/-- The window offset of `KPR_SWDT_KICK`. -/
def Reg.kprSwdtKick : Nat := 0x130004
/-- The window offset of `KPR_SWDT_LEFT`. -/
def Reg.kprSwdtLeft : Nat := 0x130008
/-- The window offset of `KPR_EVT`. -/
def Reg.kprEvt : Nat := 0x13000c
/-- The window offset of `KPR_IEN`. -/
def Reg.kprIen : Nat := 0x130010
/-- The window offset of `KPR_RUNNING`. -/
def Reg.kprRunning : Nat := 0x130020
/-- The window offset of `KPR_UNIT_STATE`. -/
def Reg.kprUnitState : Nat := 0x130030
/-- The window offset of `KPR_GUESTg_STATE`. -/
def Reg.kprGuestgState (g : Nat) : Nat := 0x130100 + 16 * g
/-- The window offset of `KPR_GUESTg_INFLIGHT`. -/
def Reg.kprGuestgInflight (g : Nat) : Nat := 0x130104 + 16 * g
/-- The window offset of `KPR_GUESTg_VIOL`. -/
def Reg.kprGuestgViol (g : Nat) : Nat := 0x130108 + 16 * g
/-- The window offset of `KPR_VC_DB`. -/
def Reg.kprVcDb : Nat := 0x138000
/-- The window offset of `PIER_EVT`. -/
def Reg.pierEvt : Nat := 0x110000
/-- The window offset of `PIER_IEN`. -/
def Reg.pierIen : Nat := 0x110004
/-- The window offset of `PIER_COREc_STATUS`. -/
def Reg.pierCorecStatus (n : Nat) : Nat := 0x110100 + 0x40 * n
/-- The window offset of `PIER_COREc_CTRL`. -/
def Reg.pierCorecCtrl (n : Nat) : Nat := 0x110104 + 0x40 * n
/-- The window offset of `PIER_COREc_RSTVEC_LO`. -/
def Reg.pierCorecRstvecLo (n : Nat) : Nat := 0x110108 + 0x40 * n
/-- The window offset of `PIER_COREc_RSTVEC_HI`. -/
def Reg.pierCorecRstvecHi (n : Nat) : Nat := 0x11010c + 0x40 * n
/-- The window offset of `PIER_COREc_SPILLS`. -/
def Reg.pierCorecSpills (n : Nat) : Nat := 0x110110 + 0x40 * n
/-- The window offset of `PIER_COREc_FILLS`. -/
def Reg.pierCorecFills (n : Nat) : Nat := 0x110114 + 0x40 * n
/-- The window offset of `PIER_COREc_EXCEPTIONS`. -/
def Reg.pierCorecExceptions (n : Nat) : Nat := 0x110118 + 0x40 * n
/-- The window offset of `PIER_COREc_RETIRED_LO`. -/
def Reg.pierCorecRetiredLo (n : Nat) : Nat := 0x110120 + 0x40 * n
/-- The window offset of `PIER_COREc_RETIRED_HI`. -/
def Reg.pierCorecRetiredHi (n : Nat) : Nat := 0x110124 + 0x40 * n
/-- The window offset of `NVS_STATUS`. -/
def Reg.nvsStatus : Nat := 0xa0000
/-- The window offset of `NVS_EVT`. -/
def Reg.nvsEvt : Nat := 0xa0004
/-- The window offset of `NVS_IEN`. -/
def Reg.nvsIen : Nat := 0xa0008
/-- The window offset of `NVS_TORN`. -/
def Reg.nvsTorn : Nat := 0xa000c
/-- The window offset of `NVS_HALF_ERASED`. -/
def Reg.nvsHalfErased : Nat := 0xa0010
/-- The window offset of `NVS_PROG_FAIL`. -/
def Reg.nvsProgFail : Nat := 0xa0014
/-- The window offset of `NVS_ERASE_FAIL`. -/
def Reg.nvsEraseFail : Nat := 0xa0018
/-- The window offset of `NVS_APPLIED_LO`. -/
def Reg.nvsAppliedLo : Nat := 0xa0020
/-- The window offset of `NVS_APPLIED_HI`. -/
def Reg.nvsAppliedHi : Nat := 0xa0024
/-- The window offset of `NVS_COMMITTED_LO`. -/
def Reg.nvsCommittedLo : Nat := 0xa0028
/-- The window offset of `NVS_COMMITTED_HI`. -/
def Reg.nvsCommittedHi : Nat := 0xa002c
/-- The window offset of `NVS_FLUSH_US`. -/
def Reg.nvsFlushUs : Nat := 0xa0030
/-- The window offset of `FUSE_ADDR`. -/
def Reg.fuseAddr : Nat := 0xb0000
/-- The window offset of `FUSE_OP`. -/
def Reg.fuseOp : Nat := 0xb0004
/-- The window offset of `FUSE_DATA_NORM`. -/
def Reg.fuseDataNorm : Nat := 0xb0008
/-- The window offset of `FUSE_DATA_LOW`. -/
def Reg.fuseDataLow : Nat := 0xb000c
/-- The window offset of `FUSE_DATA_HIGH`. -/
def Reg.fuseDataHigh : Nat := 0xb0010
/-- The window offset of `FUSE_STATUS`. -/
def Reg.fuseStatus : Nat := 0xb0014
/-- The window offset of `FUSE_FIRST_MARGINAL`. -/
def Reg.fuseFirstMarginal : Nat := 0xb0018
/-- The window offset of `FUSE_EVT`. -/
def Reg.fuseEvt : Nat := 0xb001c
/-- The window offset of `FUSE_IEN`. -/
def Reg.fuseIen : Nat := 0xb0020
/-- The window offset of `LCS_STATE`. -/
def Reg.lcsState : Nat := 0xc0000
/-- The window offset of `LCS_DEBUG`. -/
def Reg.lcsDebug : Nat := 0xc0004
/-- The window offset of `LCS_DEBUG_GUESTS_LO`. -/
def Reg.lcsDebugGuestsLo : Nat := 0xc0008
/-- The window offset of `LCS_DEBUG_GUESTS_HI`. -/
def Reg.lcsDebugGuestsHi : Nat := 0xc000c
/-- The window offset of `LCS_EVT`. -/
def Reg.lcsEvt : Nat := 0xc0010
/-- The window offset of `LCS_IEN`. -/
def Reg.lcsIen : Nat := 0xc0014
/-- The window offset of `ERR_Q_COUNT`. -/
def Reg.errQCount : Nat := 0x80100
/-- The window offset of `ERR_Q_LOST`. -/
def Reg.errQLost : Nat := 0x80104
/-- The window offset of `ERR_Q_SEQ`. -/
def Reg.errQSeq : Nat := 0x80108
/-- The window offset of `ERR_Q_POP`. -/
def Reg.errQPop : Nat := 0x8010c
/-- The window offset of `ERR_Q_ENTRYn`. -/
def Reg.errQEntryn (n : Nat) : Nat := 0x80110 + 0x4 * n
/-- The window offset of `CLK_STATUS`. -/
def Reg.clkStatus : Nat := 0xd0000
/-- The window offset of `CLK_EVT`. -/
def Reg.clkEvt : Nat := 0xd0004
/-- The window offset of `CLK_IEN`. -/
def Reg.clkIen : Nat := 0xd0008
/-- The window offset of `CLK_GATE`. -/
def Reg.clkGate : Nat := 0xd0010
/-- The window offset of `CLK_MEASn`. -/
def Reg.clkMeasn (n : Nat) : Nat := 0xd0020 + 0x4 * n
/-- The window offset of `ERR_CLASS_STICKY`. -/
def Reg.errClassSticky : Nat := 0x80000
/-- The window offset of `ERR_CLASS_IEN`. -/
def Reg.errClassIen : Nat := 0x80004
/-- The window offset of `ERR_RAISED_LO`. -/
def Reg.errRaisedLo : Nat := 0x80008
/-- The window offset of `ERR_RAISED_HI`. -/
def Reg.errRaisedHi : Nat := 0x8000c
/-- The window offset of `ERR_SUPPRESSED`. -/
def Reg.errSuppressed : Nat := 0x80010
/-- The window offset of `ERR_SRC_SEL`. -/
def Reg.errSrcSel : Nat := 0x80020
/-- The window offset of `ERR_SRC_COUNT`. -/
def Reg.errSrcCount : Nat := 0x80024
/-- The window offset of `ERR_SRC_INFO`. -/
def Reg.errSrcInfo : Nat := 0x80028
/-- The window offset of `ERR_SRC_LAST_LO`. -/
def Reg.errSrcLastLo : Nat := 0x8002c
/-- The window offset of `ERR_SRC_LAST_HI`. -/
def Reg.errSrcLastHi : Nat := 0x80030
/-- The window offset of `ERR_EVT`. -/
def Reg.errEvt : Nat := 0x80040
/-- The window offset of `ERR_IEN`. -/
def Reg.errIen : Nat := 0x80044
/-- The window offset of `PWR_STATUS`. -/
def Reg.pwrStatus : Nat := 0xe0000
/-- The window offset of `PWR_VOLTS`. -/
def Reg.pwrVolts : Nat := 0xe0004
/-- The window offset of `PWR_INPUTS`. -/
def Reg.pwrInputs : Nat := 0xe0008
/-- The window offset of `PWR_LOAD`. -/
def Reg.pwrLoad : Nat := 0xe000c
/-- The window offset of `PWR_PEAK`. -/
def Reg.pwrPeak : Nat := 0xe0010
/-- The window offset of `PWR_FIELD_TEMP`. -/
def Reg.pwrFieldTemp : Nat := 0xe0014
/-- The window offset of `PWR_EVT`. -/
def Reg.pwrEvt : Nat := 0xe0018
/-- The window offset of `PWR_IEN`. -/
def Reg.pwrIen : Nat := 0xe001c
/-- The window offset of `PWR_PFW_COUNT`. -/
def Reg.pwrPfwCount : Nat := 0xe0020
/-- The window offset of `HUB_BOOT`. -/
def Reg.hubBoot : Nat := 0xf0000
/-- The window offset of `HUB_RESET_CAUSE`. -/
def Reg.hubResetCause : Nat := 0xf0004
/-- The window offset of `HUB_BLOCK_RST`. -/
def Reg.hubBlockRst : Nat := 0xf0008
/-- The window offset of `HUB_FW_VERSION`. -/
def Reg.hubFwVersion : Nat := 0xf000c
/-- The window offset of `HUB_FW_OTHER`. -/
def Reg.hubFwOther : Nat := 0xf0010
/-- The window offset of `HUB_FW_FLOOR`. -/
def Reg.hubFwFloor : Nat := 0xf0014
/-- The window offset of `HUB_UPDATE_STATE`. -/
def Reg.hubUpdateState : Nat := 0xf0018
/-- The window offset of `HUB_READY_MS`. -/
def Reg.hubReadyMs : Nat := 0xf001c
/-- The window offset of `HUB_EVT`. -/
def Reg.hubEvt : Nat := 0xf0020
/-- The window offset of `HUB_IEN`. -/
def Reg.hubIen : Nat := 0xf0024
/-- The window offset of `MON_STATUS`. -/
def Reg.monStatus : Nat := 0x100000
/-- The window offset of `MON_SESSION`. -/
def Reg.monSession : Nat := 0x100004
/-- The window offset of `MON_EVT`. -/
def Reg.monEvt : Nat := 0x100008
/-- The window offset of `MON_IEN`. -/
def Reg.monIen : Nat := 0x10000c
/-- The window offset of `MON_LINES`. -/
def Reg.monLines : Nat := 0x100010

/-- EPOCH_LO of `CNT_EPOCH_LO`. -/
def Fld.cntEpochLoEpochLo : FieldRef := ⟨Reg.cntEpochLo, 31, 0⟩
/-- EPOCH_HI of `CNT_EPOCH_HI`. -/
def Fld.cntEpochHiEpochHi : FieldRef := ⟨Reg.cntEpochHi, 31, 0⟩
/-- STAGE_LO of `CNT_STAGE_EPOCH_LO`. -/
def Fld.cntStageEpochLoStageLo : FieldRef := ⟨Reg.cntStageEpochLo, 31, 0⟩
/-- STAGE_HI of `CNT_STAGE_EPOCH_HI`. -/
def Fld.cntStageEpochHiStageHi : FieldRef := ⟨Reg.cntStageEpochHi, 31, 0⟩
/-- STATE of `CNT_STAGE_STATE`. -/
def Fld.cntStageStateState : FieldRef := ⟨Reg.cntStageState, 3, 0⟩
/-- LAST_CHECK of `CNT_STAGE_STATE`. -/
def Fld.cntStageStateLastCheck : FieldRef := ⟨Reg.cntStageState, 15, 8⟩
/-- LAST_STATUS of `CNT_STAGE_STATE`. -/
def Fld.cntStageStateLastStatus : FieldRef := ⟨Reg.cntStageState, 31, 16⟩
/-- NS of `CNT_SWITCH_TIME_LO`. -/
def Fld.cntSwitchTimeLoNs : FieldRef := ⟨Reg.cntSwitchTimeLo, 31, 0⟩
/-- SEC of `CNT_SWITCH_TIME_HI`. -/
def Fld.cntSwitchTimeHiSec : FieldRef := ⟨Reg.cntSwitchTimeHi, 31, 0⟩
/-- SWITCHED of `CNT_EPOCH_EVT`. -/
def Fld.cntEpochEvtSwitched : FieldRef := ⟨Reg.cntEpochEvt, 0, 0⟩
/-- REFUSED of `CNT_EPOCH_EVT`. -/
def Fld.cntEpochEvtRefused : FieldRef := ⟨Reg.cntEpochEvt, 1, 1⟩
/-- EXPIRED of `CNT_EPOCH_EVT`. -/
def Fld.cntEpochEvtExpired : FieldRef := ⟨Reg.cntEpochEvt, 2, 2⟩
/-- ABORTED of `CNT_EPOCH_EVT`. -/
def Fld.cntEpochEvtAborted : FieldRef := ⟨Reg.cntEpochEvt, 3, 3⟩
/-- IEN of `CNT_EPOCH_IEN`. -/
def Fld.cntEpochIenIen : FieldRef := ⟨Reg.cntEpochIen, 3, 0⟩
/-- DIGEST of `CNT_CFG_DIGESTn`. -/
def Fld.cntCfgDigestnDigest (n : Nat) : FieldRef := ⟨Reg.cntCfgDigestn n, 31, 0⟩
/-- HEAD_LO of `VLT_LOG_HEAD_LO`. -/
def Fld.vltLogHeadLoHeadLo : FieldRef := ⟨Reg.vltLogHeadLo, 31, 0⟩
/-- HEAD_HI of `VLT_LOG_HEAD_HI`. -/
def Fld.vltLogHeadHiHeadHi : FieldRef := ⟨Reg.vltLogHeadHi, 31, 0⟩
/-- ACK_LO of `VLT_LOG_ACK_LO`. -/
def Fld.vltLogAckLoAckLo : FieldRef := ⟨Reg.vltLogAckLo, 31, 0⟩
/-- ACK_HI of `VLT_LOG_ACK_HI`. -/
def Fld.vltLogAckHiAckHi : FieldRef := ⟨Reg.vltLogAckHi, 31, 0⟩
/-- FREE of `VLT_LOG_FREE`. -/
def Fld.vltLogFreeFree : FieldRef := ⟨Reg.vltLogFree, 19, 0⟩
/-- MODE of `VLT_LOG_STATE`. -/
def Fld.vltLogStateMode : FieldRef := ⟨Reg.vltLogState, 1, 0⟩
/-- COALESCED of `VLT_LOG_STATE`. -/
def Fld.vltLogStateCoalesced : FieldRef := ⟨Reg.vltLogState, 31, 16⟩
/-- RESERVE_ENTERED of `VLT_LOG_EVT`. -/
def Fld.vltLogEvtReserveEntered : FieldRef := ⟨Reg.vltLogEvt, 0, 0⟩
/-- FLOOR_ENTERED of `VLT_LOG_EVT`. -/
def Fld.vltLogEvtFloorEntered : FieldRef := ⟨Reg.vltLogEvt, 1, 1⟩
/-- REFUSED of `VLT_LOG_EVT`. -/
def Fld.vltLogEvtRefused : FieldRef := ⟨Reg.vltLogEvt, 2, 2⟩
/-- CHECKPOINT of `VLT_LOG_EVT`. -/
def Fld.vltLogEvtCheckpoint : FieldRef := ⟨Reg.vltLogEvt, 3, 3⟩
/-- WEAR of `VLT_LOG_EVT`. -/
def Fld.vltLogEvtWear : FieldRef := ⟨Reg.vltLogEvt, 4, 4⟩
/-- ABANDONED of `VLT_LOG_EVT`. -/
def Fld.vltLogEvtAbandoned : FieldRef := ⟨Reg.vltLogEvt, 5, 5⟩
/-- IEN of `VLT_LOG_IEN`. -/
def Fld.vltLogIenIen : FieldRef := ⟨Reg.vltLogIen, 5, 0⟩
/-- MAX_ERASE of `VLT_LOG_WEAR`. -/
def Fld.vltLogWearMaxErase : FieldRef := ⟨Reg.vltLogWear, 16, 0⟩
/-- RATE_24H of `VLT_LOG_RATE`. -/
def Fld.vltLogRateRate24h : FieldRef := ⟨Reg.vltLogRate, 15, 0⟩
/-- HASH of `VLT_LOG_HASHn`. -/
def Fld.vltLogHashnHash (n : Nat) : FieldRef := ⟨Reg.vltLogHashn n, 31, 0⟩
/-- OPEN of `VLT_PROP_OPEN`. -/
def Fld.vltPropOpenOpen : FieldRef := ⟨Reg.vltPropOpen, 10, 0⟩
/-- SESSIONS of `VLT_SESSION_COUNT`. -/
def Fld.vltSessionCountSessions : FieldRef := ⟨Reg.vltSessionCount, 6, 0⟩
/-- HELD_LO of `VLT_LOCK_HELD_LO`. -/
def Fld.vltLockHeldLoHeldLo : FieldRef := ⟨Reg.vltLockHeldLo, 31, 0⟩
/-- HELD_32 of `VLT_LOCK_HELD_HI`. -/
def Fld.vltLockHeldHiHeld32 : FieldRef := ⟨Reg.vltLockHeldHi, 0, 0⟩
/-- SEED of `CLS_HASH_SEED0`. -/
def Fld.clsHashSeed0Seed : FieldRef := ⟨Reg.clsHashSeed0, 31, 0⟩
/-- SEED of `CLS_HASH_SEED1`. -/
def Fld.clsHashSeed1Seed : FieldRef := ⟨Reg.clsHashSeed1, 31, 0⟩
/-- COUNT of `CLS_EM_COUNT`. -/
def Fld.clsEmCountCount : FieldRef := ⟨Reg.clsEmCount, 13, 0⟩
/-- COUNT of `CLS_WC_COUNT`. -/
def Fld.clsWcCountCount : FieldRef := ⟨Reg.clsWcCount, 8, 0⟩
/-- SI_GOOSE of `CLS_UDP_SI`. -/
def Fld.clsUdpSiSiGoose : FieldRef := ⟨Reg.clsUdpSi, 7, 0⟩
/-- SI_SV of `CLS_UDP_SI`. -/
def Fld.clsUdpSiSiSv : FieldRef := ⟨Reg.clsUdpSi, 15, 8⟩
/-- UDP_PORT of `CLS_UDP_SI`. -/
def Fld.clsUdpSiUdpPort : FieldRef := ⟨Reg.clsUdpSi, 31, 16⟩
/-- INDEX of `CLS_EM_INDEX`. -/
def Fld.clsEmIndexIndex : FieldRef := ⟨Reg.clsEmIndex, 12, 0⟩
/-- OP of `CLS_EM_OP`. -/
def Fld.clsEmOpOp : FieldRef := ⟨Reg.clsEmOp, 1, 0⟩
/-- BUSY of `CLS_EM_OP`. -/
def Fld.clsEmOpBusy : FieldRef := ⟨Reg.clsEmOp, 31, 31⟩
/-- KEY of `CLS_EM_KEYn`. -/
def Fld.clsEmKeynKey (n : Nat) : FieldRef := ⟨Reg.clsEmKeyn n, 31, 0⟩
/-- CONTEXT of `CLS_EM_RESULT`. -/
def Fld.clsEmResultContext : FieldRef := ⟨Reg.clsEmResult, 11, 0⟩
/-- VALID of `CLS_EM_RESULT`. -/
def Fld.clsEmResultValid : FieldRef := ⟨Reg.clsEmResult, 31, 31⟩
/-- GO of `CLS_COMMIT`. -/
def Fld.clsCommitGo : FieldRef := ⟨Reg.clsCommit, 0, 0⟩
/-- PENDING of `CLS_COMMIT`. -/
def Fld.clsCommitPending : FieldRef := ⟨Reg.clsCommit, 8, 8⟩
/-- COMMITTED of `CLS_EVT`. -/
def Fld.clsEvtCommitted : FieldRef := ⟨Reg.clsEvt, 0, 0⟩
/-- DUP_HIT of `CLS_EVT`. -/
def Fld.clsEvtDupHit : FieldRef := ⟨Reg.clsEvt, 1, 1⟩
/-- COMMIT_DISCARDED of `CLS_EVT`. -/
def Fld.clsEvtCommitDiscarded : FieldRef := ⟨Reg.clsEvt, 2, 2⟩
/-- IEN of `CLS_IEN`. -/
def Fld.clsIenIen : FieldRef := ⟨Reg.clsIen, 2, 0⟩
/-- INDEX of `CLS_WC_INDEX`. -/
def Fld.clsWcIndexIndex : FieldRef := ⟨Reg.clsWcIndex, 7, 0⟩
/-- CONTEXT of `CLS_WC_RESULT`. -/
def Fld.clsWcResultContext : FieldRef := ⟨Reg.clsWcResult, 11, 0⟩
/-- DISP of `CLS_WC_RESULT`. -/
def Fld.clsWcResultDisp : FieldRef := ⟨Reg.clsWcResult, 13, 12⟩
/-- ACTION of `CLS_WC_RESULT`. -/
def Fld.clsWcResultAction : FieldRef := ⟨Reg.clsWcResult, 15, 14⟩
/-- PORT_MASK of `CLS_WC_RESULT`. -/
def Fld.clsWcResultPortMask : FieldRef := ⟨Reg.clsWcResult, 17, 16⟩
/-- VALUE of `CLS_WC_VALUEn`. -/
def Fld.clsWcValuenValue (n : Nat) : FieldRef := ⟨Reg.clsWcValuen n, 31, 0⟩
/-- MASK of `CLS_WC_MASKn`. -/
def Fld.clsWcMasknMask (n : Nat) : FieldRef := ⟨Reg.clsWcMaskn n, 31, 0⟩
/-- MODE of `CLS_PORTn_CFG`. -/
def Fld.clsPortnCfgMode (n : Nat) : FieldRef := ⟨Reg.clsPortnCfg n, 2, 0⟩
/-- LAN_ROLE of `CLS_PORTn_CFG`. -/
def Fld.clsPortnCfgLanRole (n : Nat) : FieldRef := ⟨Reg.clsPortnCfg n, 5, 4⟩
/-- NOMATCH_DISP of `CLS_PORTn_CFG`. -/
def Fld.clsPortnCfgNomatchDisp (n : Nat) : FieldRef := ⟨Reg.clsPortnCfg n, 9, 8⟩
/-- PTP of `CLS_PORTn_CFG`. -/
def Fld.clsPortnCfgPtp (n : Nat) : FieldRef := ⟨Reg.clsPortnCfg n, 10, 10⟩
/-- PAUSE_TX_EN of `CLS_PORTn_CTRL`. -/
def Fld.clsPortnCtrlPauseTxEn (n : Nat) : FieldRef := ⟨Reg.clsPortnCtrl n, 0, 0⟩
/-- PAUSE_RX_EN of `CLS_PORTn_CTRL`. -/
def Fld.clsPortnCtrlPauseRxEn (n : Nat) : FieldRef := ⟨Reg.clsPortnCtrl n, 1, 1⟩
/-- RETRAIN of `CLS_PORTn_CTRL`. -/
def Fld.clsPortnCtrlRetrain (n : Nat) : FieldRef := ⟨Reg.clsPortnCtrl n, 2, 2⟩
/-- TX_PRE of `CLS_PORTn_SERDES`. -/
def Fld.clsPortnSerdesTxPre (n : Nat) : FieldRef := ⟨Reg.clsPortnSerdes n, 3, 0⟩
/-- TX_MAIN of `CLS_PORTn_SERDES`. -/
def Fld.clsPortnSerdesTxMain (n : Nat) : FieldRef := ⟨Reg.clsPortnSerdes n, 9, 4⟩
/-- TX_POST of `CLS_PORTn_SERDES`. -/
def Fld.clsPortnSerdesTxPost (n : Nat) : FieldRef := ⟨Reg.clsPortnSerdes n, 14, 10⟩
/-- RX_CTLE of `CLS_PORTn_SERDES`. -/
def Fld.clsPortnSerdesRxCtle (n : Nat) : FieldRef := ⟨Reg.clsPortnSerdes n, 19, 16⟩
/-- LINK of `CLS_PORTn_STATUS`. -/
def Fld.clsPortnStatusLink (n : Nat) : FieldRef := ⟨Reg.clsPortnStatus n, 0, 0⟩
/-- BLOCK_LOCK of `CLS_PORTn_STATUS`. -/
def Fld.clsPortnStatusBlockLock (n : Nat) : FieldRef := ⟨Reg.clsPortnStatus n, 1, 1⟩
/-- HI_BER of `CLS_PORTn_STATUS`. -/
def Fld.clsPortnStatusHiBer (n : Nat) : FieldRef := ⟨Reg.clsPortnStatus n, 2, 2⟩
/-- TRAIN_DONE of `CLS_PORTn_STATUS`. -/
def Fld.clsPortnStatusTrainDone (n : Nat) : FieldRef := ⟨Reg.clsPortnStatus n, 3, 3⟩
/-- TRAIN_FAIL of `CLS_PORTn_STATUS`. -/
def Fld.clsPortnStatusTrainFail (n : Nat) : FieldRef := ⟨Reg.clsPortnStatus n, 4, 4⟩
/-- PARTNER_PAUSE of `CLS_PORTn_STATUS`. -/
def Fld.clsPortnStatusPartnerPause (n : Nat) : FieldRef := ⟨Reg.clsPortnStatus n, 5, 5⟩
/-- XOFF of `CLS_PORTn_STATUS`. -/
def Fld.clsPortnStatusXoff (n : Nat) : FieldRef := ⟨Reg.clsPortnStatus n, 6, 6⟩
/-- EVT of `CLS_PORTn_EVT`. -/
def Fld.clsPortnEvtEvt (n : Nat) : FieldRef := ⟨Reg.clsPortnEvt n, 6, 0⟩
/-- IEN of `CLS_PORTn_IEN`. -/
def Fld.clsPortnIenIen (n : Nat) : FieldRef := ⟨Reg.clsPortnIen n, 6, 0⟩
/-- RSV_CELLS of `CLS_PORTn_BUF_RSV`. -/
def Fld.clsPortnBufRsvRsvCells (n : Nat) : FieldRef := ⟨Reg.clsPortnBufRsv n, 15, 0⟩
/-- XOFF of `CLS_PORTn_BUF_THR`. -/
def Fld.clsPortnBufThrXoff (n : Nat) : FieldRef := ⟨Reg.clsPortnBufThr n, 15, 0⟩
/-- XON of `CLS_PORTn_BUF_THR`. -/
def Fld.clsPortnBufThrXon (n : Nat) : FieldRef := ⟨Reg.clsPortnBufThr n, 31, 16⟩
/-- OCC of `CLS_PORTn_BUF_OCC`. -/
def Fld.clsPortnBufOccOcc (n : Nat) : FieldRef := ⟨Reg.clsPortnBufOcc n, 15, 0⟩
/-- PEAK of `CLS_PORTn_BUF_OCC`. -/
def Fld.clsPortnBufOccPeak (n : Nat) : FieldRef := ⟨Reg.clsPortnBufOcc n, 31, 16⟩
/-- LAT of `CLS_PORTn_TS_RX_LAT`. -/
def Fld.clsPortnTsRxLatLat (n : Nat) : FieldRef := ⟨Reg.clsPortnTsRxLat n, 15, 0⟩
/-- LAT of `CLS_PORTn_TS_TX_LAT`. -/
def Fld.clsPortnTsTxLatLat (n : Nat) : FieldRef := ⟨Reg.clsPortnTsTxLat n, 15, 0⟩
/-- ADDR_LO of `CLS_PORTn_PTP_RXQ_LO`. -/
def Fld.clsPortnPtpRxqLoAddrLo (n : Nat) : FieldRef := ⟨Reg.clsPortnPtpRxqLo n, 31, 0⟩
/-- ADDR_HI of `CLS_PORTn_PTP_RXQ_HI`. -/
def Fld.clsPortnPtpRxqHiAddrHi (n : Nat) : FieldRef := ⟨Reg.clsPortnPtpRxqHi n, 31, 0⟩
/-- NEXT of `CLS_PORTn_PTP_RXQ_SEQ`. -/
def Fld.clsPortnPtpRxqSeqNext (n : Nat) : FieldRef := ⟨Reg.clsPortnPtpRxqSeq n, 15, 0⟩
/-- SLOT of `CLS_PORTn_PTP_TX_DB`. -/
def Fld.clsPortnPtpTxDbSlot (n : Nat) : FieldRef := ⟨Reg.clsPortnPtpTxDb n, 2, 0⟩
/-- ADDR_LO of `CLS_PORTn_PTP_TXQ_LO`. -/
def Fld.clsPortnPtpTxqLoAddrLo (n : Nat) : FieldRef := ⟨Reg.clsPortnPtpTxqLo n, 31, 0⟩
/-- ADDR_HI of `CLS_PORTn_PTP_TXQ_HI`. -/
def Fld.clsPortnPtpTxqHiAddrHi (n : Nat) : FieldRef := ⟨Reg.clsPortnPtpTxqHi n, 31, 0⟩
/-- COUNT of `CLS_PORTn_RX_FRAMES_LO`. -/
def Fld.clsPortnRxFramesLoCount (n : Nat) : FieldRef := ⟨Reg.clsPortnRxFramesLo n, 31, 0⟩
/-- COUNT of `CLS_PORTn_RX_FRAMES_HI`. -/
def Fld.clsPortnRxFramesHiCount (n : Nat) : FieldRef := ⟨Reg.clsPortnRxFramesHi n, 31, 0⟩
/-- COUNT of `CLS_PORTn_RX_BYTES_LO`. -/
def Fld.clsPortnRxBytesLoCount (n : Nat) : FieldRef := ⟨Reg.clsPortnRxBytesLo n, 31, 0⟩
/-- COUNT of `CLS_PORTn_RX_BYTES_HI`. -/
def Fld.clsPortnRxBytesHiCount (n : Nat) : FieldRef := ⟨Reg.clsPortnRxBytesHi n, 31, 0⟩
/-- COUNT of `CLS_PORTn_TX_FRAMES_LO`. -/
def Fld.clsPortnTxFramesLoCount (n : Nat) : FieldRef := ⟨Reg.clsPortnTxFramesLo n, 31, 0⟩
/-- COUNT of `CLS_PORTn_TX_FRAMES_HI`. -/
def Fld.clsPortnTxFramesHiCount (n : Nat) : FieldRef := ⟨Reg.clsPortnTxFramesHi n, 31, 0⟩
/-- COUNT of `CLS_PORTn_TX_BYTES_LO`. -/
def Fld.clsPortnTxBytesLoCount (n : Nat) : FieldRef := ⟨Reg.clsPortnTxBytesLo n, 31, 0⟩
/-- COUNT of `CLS_PORTn_TX_BYTES_HI`. -/
def Fld.clsPortnTxBytesHiCount (n : Nat) : FieldRef := ⟨Reg.clsPortnTxBytesHi n, 31, 0⟩
/-- COUNT of `CLS_PORTn_MATCH_EXACT_LO`. -/
def Fld.clsPortnMatchExactLoCount (n : Nat) : FieldRef := ⟨Reg.clsPortnMatchExactLo n, 31, 0⟩
/-- COUNT of `CLS_PORTn_MATCH_EXACT_HI`. -/
def Fld.clsPortnMatchExactHiCount (n : Nat) : FieldRef := ⟨Reg.clsPortnMatchExactHi n, 31, 0⟩
/-- COUNT of `CLS_PORTn_MATCH_WILD_LO`. -/
def Fld.clsPortnMatchWildLoCount (n : Nat) : FieldRef := ⟨Reg.clsPortnMatchWildLo n, 31, 0⟩
/-- COUNT of `CLS_PORTn_MATCH_WILD_HI`. -/
def Fld.clsPortnMatchWildHiCount (n : Nat) : FieldRef := ⟨Reg.clsPortnMatchWildHi n, 31, 0⟩
/-- COUNT of `CLS_PORTn_NOMATCH_LO`. -/
def Fld.clsPortnNomatchLoCount (n : Nat) : FieldRef := ⟨Reg.clsPortnNomatchLo n, 31, 0⟩
/-- COUNT of `CLS_PORTn_NOMATCH_HI`. -/
def Fld.clsPortnNomatchHiCount (n : Nat) : FieldRef := ⟨Reg.clsPortnNomatchHi n, 31, 0⟩
/-- COUNT of `CLS_PORTn_DISP_DROP_LO`. -/
def Fld.clsPortnDispDropLoCount (n : Nat) : FieldRef := ⟨Reg.clsPortnDispDropLo n, 31, 0⟩
/-- COUNT of `CLS_PORTn_DISP_DROP_HI`. -/
def Fld.clsPortnDispDropHiCount (n : Nat) : FieldRef := ⟨Reg.clsPortnDispDropHi n, 31, 0⟩
/-- COUNT of `CLS_PORTn_RX_FCS_ERR`. -/
def Fld.clsPortnRxFcsErrCount (n : Nat) : FieldRef := ⟨Reg.clsPortnRxFcsErr n, 31, 0⟩
/-- COUNT of `CLS_PORTn_RX_RUNT`. -/
def Fld.clsPortnRxRuntCount (n : Nat) : FieldRef := ⟨Reg.clsPortnRxRunt n, 31, 0⟩
/-- COUNT of `CLS_PORTn_RX_OVERSIZE`. -/
def Fld.clsPortnRxOversizeCount (n : Nat) : FieldRef := ⟨Reg.clsPortnRxOversize n, 31, 0⟩
/-- COUNT of `CLS_PORTn_RX_NOBUF`. -/
def Fld.clsPortnRxNobufCount (n : Nat) : FieldRef := ⟨Reg.clsPortnRxNobuf n, 31, 0⟩
/-- COUNT of `CLS_PORTn_LEN_LIMIT`. -/
def Fld.clsPortnLenLimitCount (n : Nat) : FieldRef := ⟨Reg.clsPortnLenLimit n, 31, 0⟩
/-- COUNT of `CLS_PORTn_LAN_MISMATCH`. -/
def Fld.clsPortnLanMismatchCount (n : Nat) : FieldRef := ⟨Reg.clsPortnLanMismatch n, 31, 0⟩
/-- COUNT of `CLS_PORTn_LINK_DISCARD`. -/
def Fld.clsPortnLinkDiscardCount (n : Nat) : FieldRef := ⟨Reg.clsPortnLinkDiscard n, 31, 0⟩
/-- COUNT of `CLS_PORTn_PAUSE_TX`. -/
def Fld.clsPortnPauseTxCount (n : Nat) : FieldRef := ⟨Reg.clsPortnPauseTx n, 31, 0⟩
/-- COUNT of `CLS_PORTn_PAUSE_RX`. -/
def Fld.clsPortnPauseRxCount (n : Nat) : FieldRef := ⟨Reg.clsPortnPauseRx n, 31, 0⟩
/-- COUNT of `CLS_PORTn_PTP_RX`. -/
def Fld.clsPortnPtpRxCount (n : Nat) : FieldRef := ⟨Reg.clsPortnPtpRx n, 31, 0⟩
/-- COUNT of `CLS_PORTn_PTP_TX`. -/
def Fld.clsPortnPtpTxCount (n : Nat) : FieldRef := ⟨Reg.clsPortnPtpTx n, 31, 0⟩
/-- COUNT of `CLS_PORTn_PTP_RX_LOST`. -/
def Fld.clsPortnPtpRxLostCount (n : Nat) : FieldRef := ⟨Reg.clsPortnPtpRxLost n, 31, 0⟩
/-- ENABLE of `STE_CTRL`. -/
def Fld.steCtrlEnable : FieldRef := ⟨Reg.steCtrl, 0, 0⟩
/-- SHA_BUSY of `STE_STATUS`. -/
def Fld.steStatusShaBusy : FieldRef := ⟨Reg.steStatus, 4, 0⟩
/-- AES_CHAINS of `STE_STATUS`. -/
def Fld.steStatusAesChains : FieldRef := ⟨Reg.steStatus, 11, 8⟩
/-- CONTEXT of `STE_CTX_BASE`. -/
def Fld.steCtxBaseContext : FieldRef := ⟨Reg.steCtxBase, 11, 0⟩
/-- OP of `STE_CTX_OP`. -/
def Fld.steCtxOpOp : FieldRef := ⟨Reg.steCtxOp, 2, 0⟩
/-- BUSY of `STE_CTX_OP`. -/
def Fld.steCtxOpBusy : FieldRef := ⟨Reg.steCtxOp, 31, 31⟩
/-- CONTEXT of `STE_KS_SEL`. -/
def Fld.steKsSelContext : FieldRef := ⟨Reg.steKsSel, 11, 0⟩
/-- SLOT of `STE_KS_SEL`. -/
def Fld.steKsSelSlot : FieldRef := ⟨Reg.steKsSel, 12, 12⟩
/-- OP of `STE_KS_OP`. -/
def Fld.steKsOpOp : FieldRef := ⟨Reg.steKsOp, 1, 0⟩
/-- BUSY of `STE_KS_OP`. -/
def Fld.steKsOpBusy : FieldRef := ⟨Reg.steKsOp, 31, 31⟩
/-- COMMITTED of `STE_EVT`. -/
def Fld.steEvtCommitted : FieldRef := ⟨Reg.steEvt, 0, 0⟩
/-- COMMIT_DISCARDED of `STE_EVT`. -/
def Fld.steEvtCommitDiscarded : FieldRef := ⟨Reg.steEvt, 1, 1⟩
/-- NONCE_ORDER of `STE_EVT`. -/
def Fld.steEvtNonceOrder : FieldRef := ⟨Reg.steEvt, 2, 2⟩
/-- TAG_FAIL of `STE_EVT`. -/
def Fld.steEvtTagFail : FieldRef := ⟨Reg.steEvt, 3, 3⟩
/-- TEMPLATE_MISMATCH of `STE_EVT`. -/
def Fld.steEvtTemplateMismatch : FieldRef := ⟨Reg.steEvt, 4, 4⟩
/-- KEY_ID_UNKNOWN of `STE_EVT`. -/
def Fld.steEvtKeyIdUnknown : FieldRef := ⟨Reg.steEvt, 5, 5⟩
/-- DRAINED of `STE_EVT`. -/
def Fld.steEvtDrained : FieldRef := ⟨Reg.steEvt, 6, 6⟩
/-- FENCED of `STE_EVT`. -/
def Fld.steEvtFenced : FieldRef := ⟨Reg.steEvt, 7, 7⟩
/-- IEN of `STE_IEN`. -/
def Fld.steIenIen : FieldRef := ⟨Reg.steIen, 7, 0⟩
/-- DATA of `STE_CTX_ENTRYn`. -/
def Fld.steCtxEntrynData (n : Nat) : FieldRef := ⟨Reg.steCtxEntryn n, 31, 0⟩
/-- DATA of `STE_CTX_STATEn`. -/
def Fld.steCtxStatenData (n : Nat) : FieldRef := ⟨Reg.steCtxStaten n, 31, 0⟩
/-- DATA of `STE_KS_DATAn`. -/
def Fld.steKsDatanData (n : Nat) : FieldRef := ⟨Reg.steKsDatan n, 31, 0⟩
/-- DATA of `STE_KS_HEADn`. -/
def Fld.steKsHeadnData (n : Nat) : FieldRef := ⟨Reg.steKsHeadn n, 31, 0⟩
/-- COUNT of `STE_SIGNED_LO`. -/
def Fld.steSignedLoCount : FieldRef := ⟨Reg.steSignedLo, 31, 0⟩
/-- COUNT of `STE_SIGNED_HI`. -/
def Fld.steSignedHiCount : FieldRef := ⟨Reg.steSignedHi, 31, 0⟩
/-- COUNT of `STE_VERIFIED_LO`. -/
def Fld.steVerifiedLoCount : FieldRef := ⟨Reg.steVerifiedLo, 31, 0⟩
/-- COUNT of `STE_VERIFIED_HI`. -/
def Fld.steVerifiedHiCount : FieldRef := ⟨Reg.steVerifiedHi, 31, 0⟩
/-- COUNT of `STE_TAG_FAIL`. -/
def Fld.steTagFailCount : FieldRef := ⟨Reg.steTagFail, 31, 0⟩
/-- COUNT of `STE_REPLAY`. -/
def Fld.steReplayCount : FieldRef := ⟨Reg.steReplay, 31, 0⟩
/-- COUNT of `STE_STALE`. -/
def Fld.steStaleCount : FieldRef := ⟨Reg.steStale, 31, 0⟩
/-- COUNT of `STE_NONCE_ORDER`. -/
def Fld.steNonceOrderCount : FieldRef := ⟨Reg.steNonceOrder, 31, 0⟩
/-- COUNT of `STE_NO_KEY`. -/
def Fld.steNoKeyCount : FieldRef := ⟨Reg.steNoKey, 31, 0⟩
/-- COUNT of `STE_KEY_ID_UNKNOWN`. -/
def Fld.steKeyIdUnknownCount : FieldRef := ⟨Reg.steKeyIdUnknown, 31, 0⟩
/-- COUNT of `STE_TEMPLATE_MISMATCH`. -/
def Fld.steTemplateMismatchCount : FieldRef := ⟨Reg.steTemplateMismatch, 31, 0⟩
/-- QUALIFY of `TB_CTRL`. -/
def Fld.tbCtrlQualify : FieldRef := ⟨Reg.tbCtrl, 0, 0⟩
/-- UNQUALIFY of `TB_CTRL`. -/
def Fld.tbCtrlUnqualify : FieldRef := ⟨Reg.tbCtrl, 1, 1⟩
/-- REF_SEL of `TB_CTRL`. -/
def Fld.tbCtrlRefSel : FieldRef := ⟨Reg.tbCtrl, 3, 2⟩
/-- PPS_OUT_EN of `TB_CTRL`. -/
def Fld.tbCtrlPpsOutEn : FieldRef := ⟨Reg.tbCtrl, 4, 4⟩
/-- PPS_IN_EN of `TB_CTRL`. -/
def Fld.tbCtrlPpsInEn : FieldRef := ⟨Reg.tbCtrl, 5, 5⟩
/-- QUALIFIED of `TB_STATUS`. -/
def Fld.tbStatusQualified : FieldRef := ⟨Reg.tbStatus, 0, 0⟩
/-- REF_LOCK of `TB_STATUS`. -/
def Fld.tbStatusRefLock : FieldRef := ⟨Reg.tbStatus, 1, 1⟩
/-- SLEWING of `TB_STATUS`. -/
def Fld.tbStatusSlewing : FieldRef := ⟨Reg.tbStatus, 2, 2⟩
/-- TIME_MASTER of `TB_STATUS`. -/
def Fld.tbStatusTimeMaster : FieldRef := ⟨Reg.tbStatus, 3, 3⟩
/-- ALIGNED of `TB_STATUS`. -/
def Fld.tbStatusAligned : FieldRef := ⟨Reg.tbStatus, 4, 4⟩
/-- ADDEND of `TB_ADDEND`. -/
def Fld.tbAddendAddend : FieldRef := ⟨Reg.tbAddend, 31, 0⟩
/-- NS of `TB_TIME_NS`. -/
def Fld.tbTimeNsNs : FieldRef := ⟨Reg.tbTimeNs, 29, 0⟩
/-- SEC of `TB_TIME_SEC_LO`. -/
def Fld.tbTimeSecLoSec : FieldRef := ⟨Reg.tbTimeSecLo, 31, 0⟩
/-- SEC of `TB_TIME_SEC_HI`. -/
def Fld.tbTimeSecHiSec : FieldRef := ⟨Reg.tbTimeSecHi, 15, 0⟩
/-- NS of `TB_SET_NS`. -/
def Fld.tbSetNsNs : FieldRef := ⟨Reg.tbSetNs, 29, 0⟩
/-- SEC of `TB_SET_SEC_LO`. -/
def Fld.tbSetSecLoSec : FieldRef := ⟨Reg.tbSetSecLo, 31, 0⟩
/-- SEC of `TB_SET_SEC_HI`. -/
def Fld.tbSetSecHiSec : FieldRef := ⟨Reg.tbSetSecHi, 15, 0⟩
/-- NS of `TB_STEP`. -/
def Fld.tbStepNs : FieldRef := ⟨Reg.tbStep, 31, 0⟩
/-- NS of `TB_SLEW_NS`. -/
def Fld.tbSlewNsNs : FieldRef := ⟨Reg.tbSlewNs, 31, 0⟩
/-- TICKS of `TB_SLEW_TICKS`. -/
def Fld.tbSlewTicksTicks : FieldRef := ⟨Reg.tbSlewTicks, 31, 0⟩
/-- OFFSET of `TB_UTC_OFFSET`. -/
def Fld.tbUtcOffsetOffset : FieldRef := ⟨Reg.tbUtcOffset, 15, 0⟩
/-- OFFSET of `TB_UTC_NEXT`. -/
def Fld.tbUtcNextOffset : FieldRef := ⟨Reg.tbUtcNext, 15, 0⟩
/-- SEC of `TB_UTC_AT_SEC_LO`. -/
def Fld.tbUtcAtSecLoSec : FieldRef := ⟨Reg.tbUtcAtSecLo, 31, 0⟩
/-- SEC of `TB_RESUME_SEC_LO`. -/
def Fld.tbResumeSecLoSec : FieldRef := ⟨Reg.tbResumeSecLo, 31, 0⟩
/-- SEC of `TB_RESUME_SEC_HI`. -/
def Fld.tbResumeSecHiSec : FieldRef := ⟨Reg.tbResumeSecHi, 15, 0⟩
/-- NS of `TB_PPS_IN_NS`. -/
def Fld.tbPpsInNsNs : FieldRef := ⟨Reg.tbPpsInNs, 29, 0⟩
/-- SEC of `TB_PPS_IN_SEC_LO`. -/
def Fld.tbPpsInSecLoSec : FieldRef := ⟨Reg.tbPpsInSecLo, 31, 0⟩
/-- LAT of `TB_PPS_IN_LAT`. -/
def Fld.tbPpsInLatLat : FieldRef := ⟨Reg.tbPpsInLat, 15, 0⟩
/-- LAT of `TB_PPS_OUT_LAT`. -/
def Fld.tbPpsOutLatLat : FieldRef := ⟨Reg.tbPpsOutLat, 15, 0⟩
/-- TICKS of `TB_PPS_OUT_WIDTH`. -/
def Fld.tbPpsOutWidthTicks : FieldRef := ⟨Reg.tbPpsOutWidth, 23, 0⟩
/-- NS of `TB_PEER_OFFSET`. -/
def Fld.tbPeerOffsetNs : FieldRef := ⟨Reg.tbPeerOffset, 31, 0⟩
/-- QUAL_LOST of `TB_EVT`. -/
def Fld.tbEvtQualLost : FieldRef := ⟨Reg.tbEvt, 0, 0⟩
/-- REF_LOST of `TB_EVT`. -/
def Fld.tbEvtRefLost : FieldRef := ⟨Reg.tbEvt, 1, 1⟩
/-- STEP_APPLIED of `TB_EVT`. -/
def Fld.tbEvtStepApplied : FieldRef := ⟨Reg.tbEvt, 2, 2⟩
/-- PPS_IN of `TB_EVT`. -/
def Fld.tbEvtPpsIn : FieldRef := ⟨Reg.tbEvt, 3, 3⟩
/-- ALIGN_LOST of `TB_EVT`. -/
def Fld.tbEvtAlignLost : FieldRef := ⟨Reg.tbEvt, 4, 4⟩
/-- UTC_CHANGED of `TB_EVT`. -/
def Fld.tbEvtUtcChanged : FieldRef := ⟨Reg.tbEvt, 5, 5⟩
/-- IEN of `TB_IEN`. -/
def Fld.tbIenIen : FieldRef := ⟨Reg.tbIen, 5, 0⟩
/-- VAULT_STATE of `VLT_STATE`. -/
def Fld.vltStateVaultState : FieldRef := ⟨Reg.vltState, 2, 0⟩
/-- ANCHOR_LOST of `VLT_STATE`. -/
def Fld.vltStateAnchorLost : FieldRef := ⟨Reg.vltState, 3, 3⟩
/-- PROTECTION of `VLT_STATE`. -/
def Fld.vltStateProtection : FieldRef := ⟨Reg.vltState, 5, 4⟩
/-- COUNT of `VLT_OBJ_COUNT`. -/
def Fld.vltObjCountCount : FieldRef := ⟨Reg.vltObjCount, 14, 0⟩
/-- COUNT of `VLT_CTR_COUNT`. -/
def Fld.vltCtrCountCount : FieldRef := ⟨Reg.vltCtrCount, 10, 0⟩
/-- COUNT of `VLT_DRAINING`. -/
def Fld.vltDrainingCount : FieldRef := ⟨Reg.vltDraining, 14, 0⟩
/-- OWNER of `VLT_OWNER_SEL`. -/
def Fld.vltOwnerSelOwner : FieldRef := ⟨Reg.vltOwnerSel, 5, 0⟩
/-- HELD of `VLT_OWNER_OBJ`. -/
def Fld.vltOwnerObjHeld : FieldRef := ⟨Reg.vltOwnerObj, 14, 0⟩
/-- QUOTA of `VLT_OWNER_OBJ`. -/
def Fld.vltOwnerObjQuota : FieldRef := ⟨Reg.vltOwnerObj, 30, 16⟩
/-- HELD of `VLT_OWNER_CTR`. -/
def Fld.vltOwnerCtrHeld : FieldRef := ⟨Reg.vltOwnerCtr, 10, 0⟩
/-- QUOTA of `VLT_OWNER_CTR`. -/
def Fld.vltOwnerCtrQuota : FieldRef := ⟨Reg.vltOwnerCtr, 26, 16⟩
/-- KEK_LO of `VLT_KEK_LO`. -/
def Fld.vltKekLoKekLo : FieldRef := ⟨Reg.vltKekLo, 31, 0⟩
/-- KEK_32 of `VLT_KEK_HI`. -/
def Fld.vltKekHiKek32 : FieldRef := ⟨Reg.vltKekHi, 0, 0⟩
/-- ZERO_LO of `VLT_ZEROISED_LO`. -/
def Fld.vltZeroisedLoZeroLo : FieldRef := ⟨Reg.vltZeroisedLo, 31, 0⟩
/-- ZERO_32 of `VLT_ZEROISED_HI`. -/
def Fld.vltZeroisedHiZero32 : FieldRef := ⟨Reg.vltZeroisedHi, 0, 0⟩
/-- NS of `VLT_ZEROISE_TIME_LO`. -/
def Fld.vltZeroiseTimeLoNs : FieldRef := ⟨Reg.vltZeroiseTimeLo, 31, 0⟩
/-- SEC of `VLT_ZEROISE_TIME_HI`. -/
def Fld.vltZeroiseTimeHiSec : FieldRef := ⟨Reg.vltZeroiseTimeHi, 31, 0⟩
/-- KIB of `VLT_CACHE`. -/
def Fld.vltCacheKib : FieldRef := ⟨Reg.vltCache, 10, 0⟩
/-- JOBS of `VLT_JOBS`. -/
def Fld.vltJobsJobs : FieldRef := ⟨Reg.vltJobs, 15, 0⟩
/-- ROOT_FAIL of `VLT_EVT`. -/
def Fld.vltEvtRootFail : FieldRef := ⟨Reg.vltEvt, 0, 0⟩
/-- ANCHOR_LOST of `VLT_EVT`. -/
def Fld.vltEvtAnchorLost : FieldRef := ⟨Reg.vltEvt, 1, 1⟩
/-- ZEROISED of `VLT_EVT`. -/
def Fld.vltEvtZeroised : FieldRef := ⟨Reg.vltEvt, 2, 2⟩
/-- FENCED of `VLT_EVT`. -/
def Fld.vltEvtFenced : FieldRef := ⟨Reg.vltEvt, 3, 3⟩
/-- DESTROYED of `VLT_EVT`. -/
def Fld.vltEvtDestroyed : FieldRef := ⟨Reg.vltEvt, 4, 4⟩
/-- DRAIN_TIMEOUT of `VLT_EVT`. -/
def Fld.vltEvtDrainTimeout : FieldRef := ⟨Reg.vltEvt, 5, 5⟩
/-- CTR_EXHAUSTED of `VLT_EVT`. -/
def Fld.vltEvtCtrExhausted : FieldRef := ⟨Reg.vltEvt, 6, 6⟩
/-- QUOTA of `VLT_EVT`. -/
def Fld.vltEvtQuota : FieldRef := ⟨Reg.vltEvt, 7, 7⟩
/-- IEN of `VLT_IEN`. -/
def Fld.vltIenIen : FieldRef := ⟨Reg.vltIen, 7, 0⟩
/-- ID of `VLT_UNIT_IDn`. -/
def Fld.vltUnitIdnId (n : Nat) : FieldRef := ⟨Reg.vltUnitIdn n, 31, 0⟩
/-- PUB of `VLT_CPK_PUBn`. -/
def Fld.vltCpkPubnPub (n : Nat) : FieldRef := ⟨Reg.vltCpkPubn n, 31, 0⟩
/-- LANE_EN of `BNE_CTRL`. -/
def Fld.bneCtrlLaneEn : FieldRef := ⟨Reg.bneCtrl, 7, 0⟩
/-- BUSY of `BNE_STATUS`. -/
def Fld.bneStatusBusy : FieldRef := ⟨Reg.bneStatus, 7, 0⟩
/-- WIPING of `BNE_STATUS`. -/
def Fld.bneStatusWiping : FieldRef := ⟨Reg.bneStatus, 15, 8⟩
/-- HELD of `BNE_STATUS`. -/
def Fld.bneStatusHeld : FieldRef := ⟨Reg.bneStatus, 23, 16⟩
/-- GUEST of `BNE_LANE_GUEST0`. -/
def Fld.bneLaneGuest0Guest : FieldRef := ⟨Reg.bneLaneGuest0, 31, 0⟩
/-- GUEST of `BNE_LANE_GUEST1`. -/
def Fld.bneLaneGuest1Guest : FieldRef := ⟨Reg.bneLaneGuest1, 31, 0⟩
/-- GUARD of `BNE_EVT`. -/
def Fld.bneEvtGuard : FieldRef := ⟨Reg.bneEvt, 7, 0⟩
/-- MISMATCH of `BNE_EVT`. -/
def Fld.bneEvtMismatch : FieldRef := ⟨Reg.bneEvt, 15, 8⟩
/-- MEM_ECC of `BNE_EVT`. -/
def Fld.bneEvtMemEcc : FieldRef := ⟨Reg.bneEvt, 23, 16⟩
/-- ISSUE_REFUSED of `BNE_EVT`. -/
def Fld.bneEvtIssueRefused : FieldRef := ⟨Reg.bneEvt, 31, 24⟩
/-- IEN of `BNE_IEN`. -/
def Fld.bneIenIen : FieldRef := ⟨Reg.bneIen, 31, 0⟩
/-- COUNT of `BNE_ECC_CORR`. -/
def Fld.bneEccCorrCount : FieldRef := ⟨Reg.bneEccCorr, 31, 0⟩
/-- WORD of `BNE_LANEk_CMD0`. -/
def Fld.bneLanekCmd0Word (n : Nat) : FieldRef := ⟨Reg.bneLanekCmd0 n, 31, 0⟩
/-- WORD of `BNE_LANEk_CMD1`. -/
def Fld.bneLanekCmd1Word (n : Nat) : FieldRef := ⟨Reg.bneLanekCmd1 n, 31, 0⟩
/-- WORD of `BNE_LANEk_CMD2`. -/
def Fld.bneLanekCmd2Word (n : Nat) : FieldRef := ⟨Reg.bneLanekCmd2 n, 31, 0⟩
/-- WORD of `BNE_LANEk_CMD3`. -/
def Fld.bneLanekCmd3Word (n : Nat) : FieldRef := ⟨Reg.bneLanekCmd3 n, 31, 0⟩
/-- STATUS of `BNE_LANEk_ISSUE`. -/
def Fld.bneLanekIssueStatus (n : Nat) : FieldRef := ⟨Reg.bneLanekIssue n, 15, 0⟩
/-- CMD_DEPTH of `BNE_LANEk_QUEUE`. -/
def Fld.bneLanekQueueCmdDepth (n : Nat) : FieldRef := ⟨Reg.bneLanekQueue n, 9, 0⟩
/-- CPL_DEPTH of `BNE_LANEk_QUEUE`. -/
def Fld.bneLanekQueueCplDepth (n : Nat) : FieldRef := ⟨Reg.bneLanekQueue n, 22, 16⟩
/-- STATE of `BNE_LANEk_STATE`. -/
def Fld.bneLanekStateState (n : Nat) : FieldRef := ⟨Reg.bneLanekState n, 2, 0⟩
/-- INDEX of `BNE_LANEk_STATE`. -/
def Fld.bneLanekStateIndex (n : Nat) : FieldRef := ⟨Reg.bneLanekState n, 15, 8⟩
/-- CHAIN of `BNE_LANEk_STATE`. -/
def Fld.bneLanekStateChain (n : Nat) : FieldRef := ⟨Reg.bneLanekState n, 28, 16⟩
/-- ABORT of `BNE_LANEk_CTRL`. -/
def Fld.bneLanekCtrlAbort (n : Nat) : FieldRef := ⟨Reg.bneLanekCtrl n, 0, 0⟩
/-- WORD of `BNE_LANEk_CPL0`. -/
def Fld.bneLanekCpl0Word (n : Nat) : FieldRef := ⟨Reg.bneLanekCpl0 n, 31, 0⟩
/-- WORD of `BNE_LANEk_CPL1`. -/
def Fld.bneLanekCpl1Word (n : Nat) : FieldRef := ⟨Reg.bneLanekCpl1 n, 31, 0⟩
/-- WORD of `BNE_LANEk_CPL2`. -/
def Fld.bneLanekCpl2Word (n : Nat) : FieldRef := ⟨Reg.bneLanekCpl2 n, 31, 0⟩
/-- WORD of `BNE_LANEk_CPL3`. -/
def Fld.bneLanekCpl3Word (n : Nat) : FieldRef := ⟨Reg.bneLanekCpl3 n, 31, 0⟩
/-- COUNT of `BNE_LANEk_JOBS_LO`. -/
def Fld.bneLanekJobsLoCount (n : Nat) : FieldRef := ⟨Reg.bneLanekJobsLo n, 31, 0⟩
/-- COUNT of `BNE_LANEk_JOBS_HI`. -/
def Fld.bneLanekJobsHiCount (n : Nat) : FieldRef := ⟨Reg.bneLanekJobsHi n, 31, 0⟩
/-- CYCLES of `BNE_LANEk_LAST_CYCLES`. -/
def Fld.bneLanekLastCyclesCycles (n : Nat) : FieldRef := ⟨Reg.bneLanekLastCycles n, 31, 0⟩
/-- COUNT of `BNE_LANEk_GUARD`. -/
def Fld.bneLanekGuardCount (n : Nat) : FieldRef := ⟨Reg.bneLanekGuard n, 31, 0⟩
/-- COUNT of `BNE_LANEk_MISMATCH`. -/
def Fld.bneLanekMismatchCount (n : Nat) : FieldRef := ⟨Reg.bneLanekMismatch n, 31, 0⟩
/-- COUNT of `BNE_LANEk_REFUSED`. -/
def Fld.bneLanekRefusedCount (n : Nat) : FieldRef := ⟨Reg.bneLanekRefused n, 31, 0⟩
/-- COUNT of `BNE_LANEk_WITHHELD`. -/
def Fld.bneLanekWithheldCount (n : Nat) : FieldRef := ⟨Reg.bneLanekWithheld n, 31, 0⟩
/-- FETCH_EN of `HOST_CTRL`. -/
def Fld.hostCtrlFetchEn : FieldRef := ⟨Reg.hostCtrl, 0, 0⟩
/-- READY of `HOST_STATUS`. -/
def Fld.hostStatusReady : FieldRef := ⟨Reg.hostStatus, 0, 0⟩
/-- ISOLATED of `HOST_STATUS`. -/
def Fld.hostStatusIsolated : FieldRef := ⟨Reg.hostStatus, 1, 1⟩
/-- SPEED of `HOST_STATUS`. -/
def Fld.hostStatusSpeed : FieldRef := ⟨Reg.hostStatus, 4, 2⟩
/-- WIDTH of `HOST_STATUS`. -/
def Fld.hostStatusWidth : FieldRef := ⟨Reg.hostStatus, 7, 5⟩
/-- NUM_VFS of `HOST_STATUS`. -/
def Fld.hostStatusNumVfs : FieldRef := ⟨Reg.hostStatus, 13, 8⟩
/-- SPAN_TOTAL of `HOST_INFLIGHT`. -/
def Fld.hostInflightSpanTotal : FieldRef := ⟨Reg.hostInflight, 15, 0⟩
/-- DEFER_MS of `HOST_DEFER`. -/
def Fld.hostDeferDeferMs : FieldRef := ⟨Reg.hostDefer, 13, 0⟩
/-- EPOCH_LO of `HOST_EPOCH_LO`. -/
def Fld.hostEpochLoEpochLo : FieldRef := ⟨Reg.hostEpochLo, 31, 0⟩
/-- EPOCH_HI of `HOST_EPOCH_HI`. -/
def Fld.hostEpochHiEpochHi : FieldRef := ⟨Reg.hostEpochHi, 31, 0⟩
/-- QUEUE of `HOST_CANCEL`. -/
def Fld.hostCancelQueue : FieldRef := ⟨Reg.hostCancel, 7, 0⟩
/-- CID of `HOST_CANCEL`. -/
def Fld.hostCancelCid : FieldRef := ⟨Reg.hostCancel, 31, 16⟩
/-- EPOCH of `HOST_EVT`. -/
def Fld.hostEvtEpoch : FieldRef := ⟨Reg.hostEvt, 0, 0⟩
/-- ISOLATED of `HOST_EVT`. -/
def Fld.hostEvtIsolated : FieldRef := ⟨Reg.hostEvt, 1, 1⟩
/-- DB_RANGE of `HOST_EVT`. -/
def Fld.hostEvtDbRange : FieldRef := ⟨Reg.hostEvt, 2, 2⟩
/-- CFG_REFUSED of `HOST_EVT`. -/
def Fld.hostEvtCfgRefused : FieldRef := ⟨Reg.hostEvt, 3, 3⟩
/-- QERR of `HOST_EVT`. -/
def Fld.hostEvtQerr : FieldRef := ⟨Reg.hostEvt, 4, 4⟩
/-- CANCEL_MISS of `HOST_EVT`. -/
def Fld.hostEvtCancelMiss : FieldRef := ⟨Reg.hostEvt, 5, 5⟩
/-- IEN of `HOST_IEN`. -/
def Fld.hostIenIen : FieldRef := ⟨Reg.hostIen, 5, 0⟩
/-- QUEUE of `HOST_Q_SEL`. -/
def Fld.hostQSelQueue : FieldRef := ⟨Reg.hostQSel, 7, 0⟩
/-- ADDR_LO of `HOST_Q_SQ_BASE_LO`. -/
def Fld.hostQSqBaseLoAddrLo : FieldRef := ⟨Reg.hostQSqBaseLo, 31, 0⟩
/-- ADDR_HI of `HOST_Q_SQ_BASE_HI`. -/
def Fld.hostQSqBaseHiAddrHi : FieldRef := ⟨Reg.hostQSqBaseHi, 31, 0⟩
/-- ADDR_LO of `HOST_Q_CQ_BASE_LO`. -/
def Fld.hostQCqBaseLoAddrLo : FieldRef := ⟨Reg.hostQCqBaseLo, 31, 0⟩
/-- ADDR_HI of `HOST_Q_CQ_BASE_HI`. -/
def Fld.hostQCqBaseHiAddrHi : FieldRef := ⟨Reg.hostQCqBaseHi, 31, 0⟩
/-- SIZE_LOG2 of `HOST_Q_CFG`. -/
def Fld.hostQCfgSizeLog2 : FieldRef := ⟨Reg.hostQCfg, 3, 0⟩
/-- VECTOR of `HOST_Q_CFG`. -/
def Fld.hostQCfgVector : FieldRef := ⟨Reg.hostQCfg, 12, 8⟩
/-- AGG_COUNT of `HOST_Q_CFG`. -/
def Fld.hostQCfgAggCount : FieldRef := ⟨Reg.hostQCfg, 23, 16⟩
/-- AGG_TIME of `HOST_Q_CFG`. -/
def Fld.hostQCfgAggTime : FieldRef := ⟨Reg.hostQCfg, 31, 24⟩
/-- ENABLE of `HOST_Q_CTRL`. -/
def Fld.hostQCtrlEnable : FieldRef := ⟨Reg.hostQCtrl, 0, 0⟩
/-- ERROR of `HOST_Q_CTRL`. -/
def Fld.hostQCtrlError : FieldRef := ⟨Reg.hostQCtrl, 1, 1⟩
/-- PHASE of `HOST_Q_CTRL`. -/
def Fld.hostQCtrlPhase : FieldRef := ⟨Reg.hostQCtrl, 2, 2⟩
/-- HEAD of `HOST_Q_SQ_STATE`. -/
def Fld.hostQSqStateHead : FieldRef := ⟨Reg.hostQSqState, 11, 0⟩
/-- INFLIGHT of `HOST_Q_SQ_STATE`. -/
def Fld.hostQSqStateInflight : FieldRef := ⟨Reg.hostQSqState, 27, 16⟩
/-- TAIL of `HOST_Q_CQ_STATE`. -/
def Fld.hostQCqStateTail : FieldRef := ⟨Reg.hostQCqState, 11, 0⟩
/-- HEAD of `HOST_Q_CQ_STATE`. -/
def Fld.hostQCqStateHead : FieldRef := ⟨Reg.hostQCqState, 27, 16⟩
/-- QFIRST of `HOST_FNn_QUEUES`. -/
def Fld.hostFnnQueuesQfirst (n : Nat) : FieldRef := ⟨Reg.hostFnnQueues n, 7, 0⟩
/-- QCOUNT of `HOST_FNn_QUEUES`. -/
def Fld.hostFnnQueuesQcount (n : Nat) : FieldRef := ⟨Reg.hostFnnQueues n, 24, 16⟩
/-- CAP of `HOST_FNn_CREDITS`. -/
def Fld.hostFnnCreditsCap (n : Nat) : FieldRef := ⟨Reg.hostFnnCredits n, 15, 0⟩
/-- IN_FLIGHT of `HOST_FNn_CREDITS`. -/
def Fld.hostFnnCreditsInFlight (n : Nat) : FieldRef := ⟨Reg.hostFnnCredits n, 31, 16⟩
/-- COUNT of `HOST_CMDS_LO`. -/
def Fld.hostCmdsLoCount : FieldRef := ⟨Reg.hostCmdsLo, 31, 0⟩
/-- COUNT of `HOST_CMDS_HI`. -/
def Fld.hostCmdsHiCount : FieldRef := ⟨Reg.hostCmdsHi, 31, 0⟩
/-- COUNT of `HOST_STALE`. -/
def Fld.hostStaleCount : FieldRef := ⟨Reg.hostStale, 31, 0⟩
/-- COUNT of `HOST_FORMAT_ERR`. -/
def Fld.hostFormatErrCount : FieldRef := ⟨Reg.hostFormatErr, 31, 0⟩
/-- COUNT of `HOST_DMA_ERR`. -/
def Fld.hostDmaErrCount : FieldRef := ⟨Reg.hostDmaErr, 31, 0⟩
/-- COUNT of `HOST_DEFER_TIMEOUT`. -/
def Fld.hostDeferTimeoutCount : FieldRef := ⟨Reg.hostDeferTimeout, 31, 0⟩
/-- TAIL of `HOST_SQn_DB`. -/
def Fld.hostSqnDbTail (n : Nat) : FieldRef := ⟨Reg.hostSqnDb n, 11, 0⟩
/-- HEAD of `HOST_CQn_DB`. -/
def Fld.hostCqnDbHead (n : Nat) : FieldRef := ⟨Reg.hostCqnDb n, 11, 0⟩
/-- MODE of `CNT_STATE`. -/
def Fld.cntStateMode : FieldRef := ⟨Reg.cntState, 2, 0⟩
/-- DECK0_UP of `CNT_STATE`. -/
def Fld.cntStateDeck0Up : FieldRef := ⟨Reg.cntState, 3, 3⟩
/-- DECK1_UP of `CNT_STATE`. -/
def Fld.cntStateDeck1Up : FieldRef := ⟨Reg.cntState, 4, 4⟩
/-- WITNESS_REACH of `CNT_STATE`. -/
def Fld.cntStateWitnessReach : FieldRef := ⟨Reg.cntState, 5, 5⟩
/-- PREF of `CNT_STATE`. -/
def Fld.cntStatePref : FieldRef := ⟨Reg.cntState, 7, 6⟩
/-- TERM_LO of `CNT_TERM_LO`. -/
def Fld.cntTermLoTermLo : FieldRef := ⟨Reg.cntTermLo, 31, 0⟩
/-- TERM_HI of `CNT_TERM_HI`. -/
def Fld.cntTermHiTermHi : FieldRef := ⟨Reg.cntTermHi, 31, 0⟩
/-- CSN_LO of `CNT_CSN_LO`. -/
def Fld.cntCsnLoCsnLo : FieldRef := ⟨Reg.cntCsnLo, 31, 0⟩
/-- CSN_HI of `CNT_CSN_HI`. -/
def Fld.cntCsnHiCsnHi : FieldRef := ⟨Reg.cntCsnHi, 31, 0⟩
/-- CSN_LO of `CNT_PEER_CSN_LO`. -/
def Fld.cntPeerCsnLoCsnLo : FieldRef := ⟨Reg.cntPeerCsnLo, 31, 0⟩
/-- CSN_HI of `CNT_PEER_CSN_HI`. -/
def Fld.cntPeerCsnHiCsnHi : FieldRef := ⟨Reg.cntPeerCsnHi, 31, 0⟩
/-- LEFT_MS of `CNT_LEASE`. -/
def Fld.cntLeaseLeftMs : FieldRef := ⟨Reg.cntLease, 10, 0⟩
/-- COUNT of `CNT_SIDE`. -/
def Fld.cntSideCount : FieldRef := ⟨Reg.cntSide, 12, 0⟩
/-- MODE_CHANGE of `CNT_EVT`. -/
def Fld.cntEvtModeChange : FieldRef := ⟨Reg.cntEvt, 0, 0⟩
/-- DECK_DOWN of `CNT_EVT`. -/
def Fld.cntEvtDeckDown : FieldRef := ⟨Reg.cntEvt, 1, 1⟩
/-- DECK_UP of `CNT_EVT`. -/
def Fld.cntEvtDeckUp : FieldRef := ⟨Reg.cntEvt, 2, 2⟩
/-- SPLIT of `CNT_EVT`. -/
def Fld.cntEvtSplit : FieldRef := ⟨Reg.cntEvt, 3, 3⟩
/-- REJOINED of `CNT_EVT`. -/
def Fld.cntEvtRejoined : FieldRef := ⟨Reg.cntEvt, 4, 4⟩
/-- KEYSTONE_MOVED of `CNT_EVT`. -/
def Fld.cntEvtKeystoneMoved : FieldRef := ⟨Reg.cntEvt, 5, 5⟩
/-- DIGEST_MISMATCH of `CNT_EVT`. -/
def Fld.cntEvtDigestMismatch : FieldRef := ⟨Reg.cntEvt, 6, 6⟩
/-- REJOIN_FAIL of `CNT_EVT`. -/
def Fld.cntEvtRejoinFail : FieldRef := ⟨Reg.cntEvt, 7, 7⟩
/-- SIDE_FULL of `CNT_EVT`. -/
def Fld.cntEvtSideFull : FieldRef := ⟨Reg.cntEvt, 8, 8⟩
/-- IEN of `CNT_IEN`. -/
def Fld.cntIenIen : FieldRef := ⟨Reg.cntIen, 8, 0⟩
/-- COUNT of `CNT_DECK0_DOWNS`. -/
def Fld.cntDeck0DownsCount : FieldRef := ⟨Reg.cntDeck0Downs, 31, 0⟩
/-- COUNT of `CNT_DECK1_DOWNS`. -/
def Fld.cntDeck1DownsCount : FieldRef := ⟨Reg.cntDeck1Downs, 31, 0⟩
/-- COUNT of `CNT_SPLITS`. -/
def Fld.cntSplitsCount : FieldRef := ⟨Reg.cntSplits, 31, 0⟩
/-- LAST_US of `CNT_REPL_LAT`. -/
def Fld.cntReplLatLastUs : FieldRef := ⟨Reg.cntReplLat, 15, 0⟩
/-- MAX_US of `CNT_REPL_LAT`. -/
def Fld.cntReplLatMaxUs : FieldRef := ⟨Reg.cntReplLat, 31, 16⟩
/-- DIGEST of `CNT_STATE_DIGESTn`. -/
def Fld.cntStateDigestnDigest (n : Nat) : FieldRef := ⟨Reg.cntStateDigestn n, 31, 0⟩
/-- CSN_LO of `CNT_DIGEST_CSN_LO`. -/
def Fld.cntDigestCsnLoCsnLo : FieldRef := ⟨Reg.cntDigestCsnLo, 31, 0⟩
/-- CSN_HI of `CNT_DIGEST_CSN_HI`. -/
def Fld.cntDigestCsnHiCsnHi : FieldRef := ⟨Reg.cntDigestCsnHi, 31, 0⟩
/-- ENABLE of `RNG_CTRL`. -/
def Fld.rngCtrlEnable : FieldRef := ⟨Reg.rngCtrl, 0, 0⟩
/-- RUNNING of `RNG_STATUS`. -/
def Fld.rngStatusRunning : FieldRef := ⟨Reg.rngStatus, 3, 0⟩
/-- RETIRED of `RNG_STATUS`. -/
def Fld.rngStatusRetired : FieldRef := ⟨Reg.rngStatus, 7, 4⟩
/-- FATAL of `RNG_STATUS`. -/
def Fld.rngStatusFatal : FieldRef := ⟨Reg.rngStatus, 8, 8⟩
/-- RUSHES of `RNG_STATUS`. -/
def Fld.rngStatusRushes : FieldRef := ⟨Reg.rngStatus, 9, 9⟩
/-- POOL of `RNG_STATUS`. -/
def Fld.rngStatusPool : FieldRef := ⟨Reg.rngStatus, 14, 10⟩
/-- TOTAL of `RNG_SRCn_FAILS`. -/
def Fld.rngSrcnFailsTotal (n : Nat) : FieldRef := ⟨Reg.rngSrcnFails n, 15, 0⟩
/-- RECENT of `RNG_SRCn_FAILS`. -/
def Fld.rngSrcnFailsRecent (n : Nat) : FieldRef := ⟨Reg.rngSrcnFails n, 17, 16⟩
/-- CUTOFF of `RNG_RCT_CUTOFF`. -/
def Fld.rngRctCutoffCutoff : FieldRef := ⟨Reg.rngRctCutoff, 7, 0⟩
/-- CUTOFF of `RNG_APT_CUTOFF`. -/
def Fld.rngAptCutoffCutoff : FieldRef := ⟨Reg.rngAptCutoff, 10, 0⟩
/-- SRC_FAIL of `RNG_EVT`. -/
def Fld.rngEvtSrcFail : FieldRef := ⟨Reg.rngEvt, 3, 0⟩
/-- SRC_RETIRED of `RNG_EVT`. -/
def Fld.rngEvtSrcRetired : FieldRef := ⟨Reg.rngEvt, 7, 4⟩
/-- FATAL of `RNG_EVT`. -/
def Fld.rngEvtFatal : FieldRef := ⟨Reg.rngEvt, 8, 8⟩
/-- RUSHES_CHANGE of `RNG_EVT`. -/
def Fld.rngEvtRushesChange : FieldRef := ⟨Reg.rngEvt, 9, 9⟩
/-- STARVED of `RNG_EVT`. -/
def Fld.rngEvtStarved : FieldRef := ⟨Reg.rngEvt, 10, 10⟩
/-- IEN of `RNG_IEN`. -/
def Fld.rngIenIen : FieldRef := ⟨Reg.rngIen, 10, 0⟩
/-- REQS of `RNG_DRBGi_STATUS`. -/
def Fld.rngDrbgiStatusReqs (n : Nat) : FieldRef := ⟨Reg.rngDrbgiStatus n, 20, 0⟩
/-- INSTANTIATED of `RNG_DRBGi_STATUS`. -/
def Fld.rngDrbgiStatusInstantiated (n : Nat) : FieldRef := ⟨Reg.rngDrbgiStatus n, 21, 21⟩
/-- WAITING of `RNG_DRBGi_STATUS`. -/
def Fld.rngDrbgiStatusWaiting (n : Nat) : FieldRef := ⟨Reg.rngDrbgiStatus n, 22, 22⟩
/-- COUNT of `RNG_OUT_BITS_LO`. -/
def Fld.rngOutBitsLoCount : FieldRef := ⟨Reg.rngOutBitsLo, 31, 0⟩
/-- COUNT of `RNG_OUT_BITS_HI`. -/
def Fld.rngOutBitsHiCount : FieldRef := ⟨Reg.rngOutBitsHi, 31, 0⟩
/-- COUNT of `RNG_WAITS`. -/
def Fld.rngWaitsCount : FieldRef := ⟨Reg.rngWaits, 31, 0⟩
/-- SOURCE of `RNG_RUSHES_CTRL`. -/
def Fld.rngRushesCtrlSource : FieldRef := ⟨Reg.rngRushesCtrl, 1, 0⟩
/-- ACTIVE of `RNG_RUSHES_CTRL`. -/
def Fld.rngRushesCtrlActive : FieldRef := ⟨Reg.rngRushesCtrl, 2, 2⟩
/-- BITS of `RNG_RUSHES_COUNT`. -/
def Fld.rngRushesCountBits : FieldRef := ⟨Reg.rngRushesCount, 20, 0⟩
/-- ARMED of `TMP_STATUS`. -/
def Fld.tmpStatusArmed : FieldRef := ⟨Reg.tmpStatus, 0, 0⟩
/-- PROTECTION of `TMP_STATUS`. -/
def Fld.tmpStatusProtection : FieldRef := ⟨Reg.tmpStatus, 2, 1⟩
/-- VBAK_OK of `TMP_STATUS`. -/
def Fld.tmpStatusVbakOk : FieldRef := ⟨Reg.tmpStatus, 3, 3⟩
/-- TESTING of `TMP_STATUS`. -/
def Fld.tmpStatusTesting : FieldRef := ⟨Reg.tmpStatus, 4, 4⟩
/-- PENDING of `TMP_STATUS`. -/
def Fld.tmpStatusPending : FieldRef := ⟨Reg.tmpStatus, 5, 5⟩
/-- ALARM of `TMP_ALARM`. -/
def Fld.tmpAlarmAlarm : FieldRef := ⟨Reg.tmpAlarm, 30, 0⟩
/-- MASK_LO of `TMP_PENDING_LO`. -/
def Fld.tmpPendingLoMaskLo : FieldRef := ⟨Reg.tmpPendingLo, 31, 0⟩
/-- MASK_32 of `TMP_PENDING_HI`. -/
def Fld.tmpPendingHiMask32 : FieldRef := ⟨Reg.tmpPendingHi, 0, 0⟩
/-- CASE of `TMP_LEVELS`. -/
def Fld.tmpLevelsCase : FieldRef := ⟨Reg.tmpLevels, 7, 0⟩
/-- LOOP_SNS of `TMP_LEVELS`. -/
def Fld.tmpLevelsLoopSns : FieldRef := ⟨Reg.tmpLevels, 11, 8⟩
/-- SOURCE of `TMP_TEST`. -/
def Fld.tmpTestSource : FieldRef := ⟨Reg.tmpTest, 4, 0⟩
/-- RESULT of `TMP_TEST`. -/
def Fld.tmpTestResult : FieldRef := ⟨Reg.tmpTest, 9, 8⟩
/-- FIRED of `TMP_EVT`. -/
def Fld.tmpEvtFired : FieldRef := ⟨Reg.tmpEvt, 0, 0⟩
/-- EVENT of `TMP_EVT`. -/
def Fld.tmpEvtEvent : FieldRef := ⟨Reg.tmpEvt, 1, 1⟩
/-- VBAK_LOSS of `TMP_EVT`. -/
def Fld.tmpEvtVbakLoss : FieldRef := ⟨Reg.tmpEvt, 2, 2⟩
/-- GAP of `TMP_EVT`. -/
def Fld.tmpEvtGap : FieldRef := ⟨Reg.tmpEvt, 3, 3⟩
/-- TEST_DONE of `TMP_EVT`. -/
def Fld.tmpEvtTestDone : FieldRef := ⟨Reg.tmpEvt, 4, 4⟩
/-- CAL_MISSING of `TMP_EVT`. -/
def Fld.tmpEvtCalMissing : FieldRef := ⟨Reg.tmpEvt, 5, 5⟩
/-- IEN of `TMP_IEN`. -/
def Fld.tmpIenIen : FieldRef := ⟨Reg.tmpIen, 5, 0⟩
/-- NS of `TMP_GAP_START_LO`. -/
def Fld.tmpGapStartLoNs : FieldRef := ⟨Reg.tmpGapStartLo, 31, 0⟩
/-- SEC of `TMP_GAP_START_HI`. -/
def Fld.tmpGapStartHiSec : FieldRef := ⟨Reg.tmpGapStartHi, 31, 0⟩
/-- NS of `TMP_GAP_END_LO`. -/
def Fld.tmpGapEndLoNs : FieldRef := ⟨Reg.tmpGapEndLo, 31, 0⟩
/-- SEC of `TMP_GAP_END_HI`. -/
def Fld.tmpGapEndHiSec : FieldRef := ⟨Reg.tmpGapEndHi, 31, 0⟩
/-- EVENTS of `TMP_GAP_INFO`. -/
def Fld.tmpGapInfoEvents : FieldRef := ⟨Reg.tmpGapInfo, 7, 0⟩
/-- OVERFLOW of `TMP_GAP_INFO`. -/
def Fld.tmpGapInfoOverflow : FieldRef := ⟨Reg.tmpGapInfo, 15, 8⟩
/-- VBAK_LOST of `TMP_GAP_INFO`. -/
def Fld.tmpGapInfoVbakLost : FieldRef := ⟨Reg.tmpGapInfo, 16, 16⟩
/-- CODE of `TMP_TEMPk_VALUE`. -/
def Fld.tmpTempkValueCode (n : Nat) : FieldRef := ⟨Reg.tmpTempkValue n, 11, 0⟩
/-- TEMP of `TMP_TEMPk_VALUE`. -/
def Fld.tmpTempkValueTemp (n : Nat) : FieldRef := ⟨Reg.tmpTempkValue n, 31, 16⟩
/-- LOW_CODE of `TMP_TEMPk_LIMIT`. -/
def Fld.tmpTempkLimitLowCode (n : Nat) : FieldRef := ⟨Reg.tmpTempkLimit n, 11, 0⟩
/-- HIGH_CODE of `TMP_TEMPk_LIMIT`. -/
def Fld.tmpTempkLimitHighCode (n : Nat) : FieldRef := ⟨Reg.tmpTempkLimit n, 27, 16⟩
/-- THRESHOLD of `TMP_SRCn_FILTER`. -/
def Fld.tmpSrcnFilterThreshold (n : Nat) : FieldRef := ⟨Reg.tmpSrcnFilter n, 7, 0⟩
/-- MODE of `TMP_SRCn_FILTER`. -/
def Fld.tmpSrcnFilterMode (n : Nat) : FieldRef := ⟨Reg.tmpSrcnFilter n, 9, 8⟩
/-- WINDOW_MS of `TMP_SRCn_FILTER`. -/
def Fld.tmpSrcnFilterWindowMs (n : Nat) : FieldRef := ⟨Reg.tmpSrcnFilter n, 31, 16⟩
/-- IN_WINDOW of `TMP_SRCn_COUNT`. -/
def Fld.tmpSrcnCountInWindow (n : Nat) : FieldRef := ⟨Reg.tmpSrcnCount n, 7, 0⟩
/-- TOTAL of `TMP_SRCn_COUNT`. -/
def Fld.tmpSrcnCountTotal (n : Nat) : FieldRef := ⟨Reg.tmpSrcnCount n, 31, 8⟩
/-- ACTION of `TMP_SRCn_ACTION`. -/
def Fld.tmpSrcnActionAction (n : Nat) : FieldRef := ⟨Reg.tmpSrcnAction n, 2, 0⟩
/-- OWNER_MASK of `TMP_SRCn_MASK`. -/
def Fld.tmpSrcnMaskOwnerMask (n : Nat) : FieldRef := ⟨Reg.tmpSrcnMask n, 31, 0⟩
/-- MODE of `TMP_LOOPn_CFG`. -/
def Fld.tmpLoopnCfgMode (n : Nat) : FieldRef := ⟨Reg.tmpLoopnCfg n, 1, 0⟩
/-- COUNT of `TMP_LOOPn_ERR`. -/
def Fld.tmpLoopnErrCount (n : Nat) : FieldRef := ⟨Reg.tmpLoopnErr n, 31, 0⟩
/-- FLIP of `GATE_CTRL`. -/
def Fld.gateCtrlFlip : FieldRef := ⟨Reg.gateCtrl, 0, 0⟩
/-- REGIONS of `GATE_STATUS`. -/
def Fld.gateStatusRegions : FieldRef := ⟨Reg.gateStatus, 6, 0⟩
/-- SHADOW_READY of `GATE_STATUS`. -/
def Fld.gateStatusShadowReady : FieldRef := ⟨Reg.gateStatus, 8, 8⟩
/-- VIOLATION of `GATE_EVT`. -/
def Fld.gateEvtViolation : FieldRef := ⟨Reg.gateEvt, 0, 0⟩
/-- FLIPPED of `GATE_EVT`. -/
def Fld.gateEvtFlipped : FieldRef := ⟨Reg.gateEvt, 1, 1⟩
/-- IEN of `GATE_IEN`. -/
def Fld.gateIenIen : FieldRef := ⟨Reg.gateIen, 1, 0⟩
/-- ADDR_LO of `GATE_VIOL_ADDR_LO`. -/
def Fld.gateViolAddrLoAddrLo : FieldRef := ⟨Reg.gateViolAddrLo, 31, 0⟩
/-- ADDR_HI of `GATE_VIOL_ADDR_HI`. -/
def Fld.gateViolAddrHiAddrHi : FieldRef := ⟨Reg.gateViolAddrHi, 31, 0⟩
/-- WORLD of `GATE_VIOL_INFO`. -/
def Fld.gateViolInfoWorld : FieldRef := ⟨Reg.gateViolInfo, 5, 0⟩
/-- KIND of `GATE_VIOL_INFO`. -/
def Fld.gateViolInfoKind : FieldRef := ⟨Reg.gateViolInfo, 7, 6⟩
/-- MASTER of `GATE_VIOL_INFO`. -/
def Fld.gateViolInfoMaster : FieldRef := ⟨Reg.gateViolInfo, 11, 8⟩
/-- SLOT of `GATE_VIOL_INFO`. -/
def Fld.gateViolInfoSlot : FieldRef := ⟨Reg.gateViolInfo, 19, 12⟩
/-- VALID of `GATE_VIOL_INFO`. -/
def Fld.gateViolInfoValid : FieldRef := ⟨Reg.gateViolInfo, 31, 31⟩
/-- COUNT of `GATE_VIOL_COUNT`. -/
def Fld.gateViolCountCount : FieldRef := ⟨Reg.gateViolCount, 31, 0⟩
/-- INDEX of `GATE_WR_INDEX`. -/
def Fld.gateWrIndexIndex : FieldRef := ⟨Reg.gateWrIndex, 6, 0⟩
/-- OP of `GATE_WR_OP`. -/
def Fld.gateWrOpOp : FieldRef := ⟨Reg.gateWrOp, 1, 0⟩
/-- DATA of `GATE_WR_DATAn`. -/
def Fld.gateWrDatanData (n : Nat) : FieldRef := ⟨Reg.gateWrDatan n, 31, 0⟩
/-- MASK of `GATE_SLOTs_RD_LO`. -/
def Fld.gateSlotsRdLoMask (n : Nat) : FieldRef := ⟨Reg.gateSlotsRdLo n, 31, 0⟩
/-- MASK of `GATE_SLOTs_RD_HI`. -/
def Fld.gateSlotsRdHiMask (n : Nat) : FieldRef := ⟨Reg.gateSlotsRdHi n, 31, 0⟩
/-- MASK of `GATE_SLOTs_WR_LO`. -/
def Fld.gateSlotsWrLoMask (n : Nat) : FieldRef := ⟨Reg.gateSlotsWrLo n, 31, 0⟩
/-- MASK of `GATE_SLOTs_WR_HI`. -/
def Fld.gateSlotsWrHiMask (n : Nat) : FieldRef := ⟨Reg.gateSlotsWrHi n, 31, 0⟩
/-- BASE of `GATE_REGIONr_BASE`. -/
def Fld.gateRegionrBaseBase (n : Nat) : FieldRef := ⟨Reg.gateRegionrBase n, 23, 0⟩
/-- SIZE_LOG2 of `GATE_REGIONr_CFG`. -/
def Fld.gateRegionrCfgSizeLog2 (n : Nat) : FieldRef := ⟨Reg.gateRegionrCfg n, 4, 0⟩
/-- PERM of `GATE_REGIONr_CFG`. -/
def Fld.gateRegionrCfgPerm (n : Nat) : FieldRef := ⟨Reg.gateRegionrCfg n, 7, 5⟩
/-- MASK of `GATE_REGIONr_WORLDS_LO`. -/
def Fld.gateRegionrWorldsLoMask (n : Nat) : FieldRef := ⟨Reg.gateRegionrWorldsLo n, 31, 0⟩
/-- MASK of `GATE_REGIONr_WORLDS_HI`. -/
def Fld.gateRegionrWorldsHiMask (n : Nat) : FieldRef := ⟨Reg.gateRegionrWorldsHi n, 31, 0⟩
/-- KEEPER_UP of `KPR_STATUS`. -/
def Fld.kprStatusKeeperUp : FieldRef := ⟨Reg.kprStatus, 0, 0⟩
/-- SWDT_ARMED of `KPR_STATUS`. -/
def Fld.kprStatusSwdtArmed : FieldRef := ⟨Reg.kprStatus, 2, 1⟩
/-- KICK of `KPR_SWDT_KICK`. -/
def Fld.kprSwdtKickKick : FieldRef := ⟨Reg.kprSwdtKick, 31, 0⟩
/-- CORE0_MS of `KPR_SWDT_LEFT`. -/
def Fld.kprSwdtLeftCore0Ms : FieldRef := ⟨Reg.kprSwdtLeft, 9, 0⟩
/-- CORE1_MS of `KPR_SWDT_LEFT`. -/
def Fld.kprSwdtLeftCore1Ms : FieldRef := ⟨Reg.kprSwdtLeft, 25, 16⟩
/-- SWDT_EXPIRED of `KPR_EVT`. -/
def Fld.kprEvtSwdtExpired : FieldRef := ⟨Reg.kprEvt, 0, 0⟩
/-- GUEST_FAULT of `KPR_EVT`. -/
def Fld.kprEvtGuestFault : FieldRef := ⟨Reg.kprEvt, 1, 1⟩
/-- RESTART of `KPR_EVT`. -/
def Fld.kprEvtRestart : FieldRef := ⟨Reg.kprEvt, 2, 2⟩
/-- UNIT_TIMEOUT of `KPR_EVT`. -/
def Fld.kprEvtUnitTimeout : FieldRef := ⟨Reg.kprEvt, 3, 3⟩
/-- IEN of `KPR_IEN`. -/
def Fld.kprIenIen : FieldRef := ⟨Reg.kprIen, 3, 0⟩
/-- GUEST of `KPR_RUNNING`. -/
def Fld.kprRunningGuest : FieldRef := ⟨Reg.kprRunning, 31, 0⟩
/-- LANES of `KPR_UNIT_STATE`. -/
def Fld.kprUnitStateLanes : FieldRef := ⟨Reg.kprUnitState, 15, 0⟩
/-- PORTS of `KPR_UNIT_STATE`. -/
def Fld.kprUnitStatePorts : FieldRef := ⟨Reg.kprUnitState, 19, 16⟩
/-- STATE of `KPR_GUESTg_STATE`. -/
def Fld.kprGuestgStateState (g : Nat) : FieldRef := ⟨Reg.kprGuestgState g, 2, 0⟩
/-- RESTARTS of `KPR_GUESTg_STATE`. -/
def Fld.kprGuestgStateRestarts (g : Nat) : FieldRef := ⟨Reg.kprGuestgState g, 15, 8⟩
/-- WDT_LEFT of `KPR_GUESTg_STATE`. -/
def Fld.kprGuestgStateWdtLeft (g : Nat) : FieldRef := ⟨Reg.kprGuestgState g, 31, 16⟩
/-- IN_FLIGHT of `KPR_GUESTg_INFLIGHT`. -/
def Fld.kprGuestgInflightInFlight (g : Nat) : FieldRef := ⟨Reg.kprGuestgInflight g, 15, 0⟩
/-- CAP of `KPR_GUESTg_INFLIGHT`. -/
def Fld.kprGuestgInflightCap (g : Nat) : FieldRef := ⟨Reg.kprGuestgInflight g, 31, 16⟩
/-- COUNT of `KPR_GUESTg_VIOL`. -/
def Fld.kprGuestgViolCount (g : Nat) : FieldRef := ⟨Reg.kprGuestgViol g, 31, 0⟩
/-- QUEUE of `KPR_VC_DB`. -/
def Fld.kprVcDbQueue : FieldRef := ⟨Reg.kprVcDb, 1, 0⟩
/-- KIND of `KPR_VC_DB`. -/
def Fld.kprVcDbKind : FieldRef := ⟨Reg.kprVcDb, 2, 2⟩
/-- VALUE of `KPR_VC_DB`. -/
def Fld.kprVcDbValue : FieldRef := ⟨Reg.kprVcDb, 27, 16⟩
/-- DFAULT of `PIER_EVT`. -/
def Fld.pierEvtDfault : FieldRef := ⟨Reg.pierEvt, 5, 0⟩
/-- IEN of `PIER_IEN`. -/
def Fld.pierIenIen : FieldRef := ⟨Reg.pierIen, 5, 0⟩
/-- LEVEL of `PIER_COREc_STATUS`. -/
def Fld.pierCorecStatusLevel (n : Nat) : FieldRef := ⟨Reg.pierCorecStatus n, 1, 0⟩
/-- SLEEP of `PIER_COREc_STATUS`. -/
def Fld.pierCorecStatusSleep (n : Nat) : FieldRef := ⟨Reg.pierCorecStatus n, 2, 2⟩
/-- DFAULT of `PIER_COREc_STATUS`. -/
def Fld.pierCorecStatusDfault (n : Nat) : FieldRef := ⟨Reg.pierCorecStatus n, 3, 3⟩
/-- HALTED of `PIER_COREc_STATUS`. -/
def Fld.pierCorecStatusHalted (n : Nat) : FieldRef := ⟨Reg.pierCorecStatus n, 4, 4⟩
/-- RESTART of `PIER_COREc_CTRL`. -/
def Fld.pierCorecCtrlRestart (n : Nat) : FieldRef := ⟨Reg.pierCorecCtrl n, 0, 0⟩
/-- ADDR_LO of `PIER_COREc_RSTVEC_LO`. -/
def Fld.pierCorecRstvecLoAddrLo (n : Nat) : FieldRef := ⟨Reg.pierCorecRstvecLo n, 31, 0⟩
/-- ADDR_HI of `PIER_COREc_RSTVEC_HI`. -/
def Fld.pierCorecRstvecHiAddrHi (n : Nat) : FieldRef := ⟨Reg.pierCorecRstvecHi n, 31, 0⟩
/-- COUNT of `PIER_COREc_SPILLS`. -/
def Fld.pierCorecSpillsCount (n : Nat) : FieldRef := ⟨Reg.pierCorecSpills n, 31, 0⟩
/-- COUNT of `PIER_COREc_FILLS`. -/
def Fld.pierCorecFillsCount (n : Nat) : FieldRef := ⟨Reg.pierCorecFills n, 31, 0⟩
/-- COUNT of `PIER_COREc_EXCEPTIONS`. -/
def Fld.pierCorecExceptionsCount (n : Nat) : FieldRef := ⟨Reg.pierCorecExceptions n, 31, 0⟩
/-- COUNT_LO of `PIER_COREc_RETIRED_LO`. -/
def Fld.pierCorecRetiredLoCountLo (n : Nat) : FieldRef := ⟨Reg.pierCorecRetiredLo n, 31, 0⟩
/-- COUNT_HI of `PIER_COREc_RETIRED_HI`. -/
def Fld.pierCorecRetiredHiCountHi (n : Nat) : FieldRef := ⟨Reg.pierCorecRetiredHi n, 31, 0⟩
/-- BUSY of `NVS_STATUS`. -/
def Fld.nvsStatusBusy : FieldRef := ⟨Reg.nvsStatus, 0, 0⟩
/-- ERASING of `NVS_STATUS`. -/
def Fld.nvsStatusErasing : FieldRef := ⟨Reg.nvsStatus, 1, 1⟩
/-- SUSPENDED of `NVS_STATUS`. -/
def Fld.nvsStatusSuspended : FieldRef := ⟨Reg.nvsStatus, 2, 2⟩
/-- PFW of `NVS_STATUS`. -/
def Fld.nvsStatusPfw : FieldRef := ⟨Reg.nvsStatus, 3, 3⟩
/-- FLUSHED of `NVS_STATUS`. -/
def Fld.nvsStatusFlushed : FieldRef := ⟨Reg.nvsStatus, 4, 4⟩
/-- REPLAYING of `NVS_STATUS`. -/
def Fld.nvsStatusReplaying : FieldRef := ⟨Reg.nvsStatus, 5, 5⟩
/-- TORN of `NVS_EVT`. -/
def Fld.nvsEvtTorn : FieldRef := ⟨Reg.nvsEvt, 0, 0⟩
/-- HALF_ERASED of `NVS_EVT`. -/
def Fld.nvsEvtHalfErased : FieldRef := ⟨Reg.nvsEvt, 1, 1⟩
/-- PROG_FAIL of `NVS_EVT`. -/
def Fld.nvsEvtProgFail : FieldRef := ⟨Reg.nvsEvt, 2, 2⟩
/-- ERASE_FAIL of `NVS_EVT`. -/
def Fld.nvsEvtEraseFail : FieldRef := ⟨Reg.nvsEvt, 3, 3⟩
/-- FLUSH_LATE of `NVS_EVT`. -/
def Fld.nvsEvtFlushLate : FieldRef := ⟨Reg.nvsEvt, 4, 4⟩
/-- REPLAYED of `NVS_EVT`. -/
def Fld.nvsEvtReplayed : FieldRef := ⟨Reg.nvsEvt, 5, 5⟩
/-- IEN of `NVS_IEN`. -/
def Fld.nvsIenIen : FieldRef := ⟨Reg.nvsIen, 5, 0⟩
/-- COUNT of `NVS_TORN`. -/
def Fld.nvsTornCount : FieldRef := ⟨Reg.nvsTorn, 31, 0⟩
/-- COUNT of `NVS_HALF_ERASED`. -/
def Fld.nvsHalfErasedCount : FieldRef := ⟨Reg.nvsHalfErased, 31, 0⟩
/-- COUNT of `NVS_PROG_FAIL`. -/
def Fld.nvsProgFailCount : FieldRef := ⟨Reg.nvsProgFail, 31, 0⟩
/-- COUNT of `NVS_ERASE_FAIL`. -/
def Fld.nvsEraseFailCount : FieldRef := ⟨Reg.nvsEraseFail, 31, 0⟩
/-- CSN_LO of `NVS_APPLIED_LO`. -/
def Fld.nvsAppliedLoCsnLo : FieldRef := ⟨Reg.nvsAppliedLo, 31, 0⟩
/-- CSN_HI of `NVS_APPLIED_HI`. -/
def Fld.nvsAppliedHiCsnHi : FieldRef := ⟨Reg.nvsAppliedHi, 31, 0⟩
/-- CSN_LO of `NVS_COMMITTED_LO`. -/
def Fld.nvsCommittedLoCsnLo : FieldRef := ⟨Reg.nvsCommittedLo, 31, 0⟩
/-- CSN_HI of `NVS_COMMITTED_HI`. -/
def Fld.nvsCommittedHiCsnHi : FieldRef := ⟨Reg.nvsCommittedHi, 31, 0⟩
/-- US of `NVS_FLUSH_US`. -/
def Fld.nvsFlushUsUs : FieldRef := ⟨Reg.nvsFlushUs, 11, 0⟩
/-- WORD of `FUSE_ADDR`. -/
def Fld.fuseAddrWord : FieldRef := ⟨Reg.fuseAddr, 8, 0⟩
/-- OP of `FUSE_OP`. -/
def Fld.fuseOpOp : FieldRef := ⟨Reg.fuseOp, 1, 0⟩
/-- BUSY of `FUSE_OP`. -/
def Fld.fuseOpBusy : FieldRef := ⟨Reg.fuseOp, 31, 31⟩
/-- DATA of `FUSE_DATA_NORM`. -/
def Fld.fuseDataNormData : FieldRef := ⟨Reg.fuseDataNorm, 31, 0⟩
/-- DATA of `FUSE_DATA_LOW`. -/
def Fld.fuseDataLowData : FieldRef := ⟨Reg.fuseDataLow, 31, 0⟩
/-- DATA of `FUSE_DATA_HIGH`. -/
def Fld.fuseDataHighData : FieldRef := ⟨Reg.fuseDataHigh, 31, 0⟩
/-- MARGINAL of `FUSE_STATUS`. -/
def Fld.fuseStatusMarginal : FieldRef := ⟨Reg.fuseStatus, 9, 0⟩
/-- SCAN_TEMP of `FUSE_STATUS`. -/
def Fld.fuseStatusScanTemp : FieldRef := ⟨Reg.fuseStatus, 31, 16⟩
/-- WORD of `FUSE_FIRST_MARGINAL`. -/
def Fld.fuseFirstMarginalWord : FieldRef := ⟨Reg.fuseFirstMarginal, 8, 0⟩
/-- VALID of `FUSE_FIRST_MARGINAL`. -/
def Fld.fuseFirstMarginalValid : FieldRef := ⟨Reg.fuseFirstMarginal, 31, 31⟩
/-- MARGINAL of `FUSE_EVT`. -/
def Fld.fuseEvtMarginal : FieldRef := ⟨Reg.fuseEvt, 0, 0⟩
/-- SCAN_DONE of `FUSE_EVT`. -/
def Fld.fuseEvtScanDone : FieldRef := ⟨Reg.fuseEvt, 1, 1⟩
/-- UNREADABLE of `FUSE_EVT`. -/
def Fld.fuseEvtUnreadable : FieldRef := ⟨Reg.fuseEvt, 2, 2⟩
/-- IEN of `FUSE_IEN`. -/
def Fld.fuseIenIen : FieldRef := ⟨Reg.fuseIen, 2, 0⟩
/-- STATE of `LCS_STATE`. -/
def Fld.lcsStateState : FieldRef := ⟨Reg.lcsState, 2, 0⟩
/-- PEER_STATE of `LCS_STATE`. -/
def Fld.lcsStatePeerState : FieldRef := ⟨Reg.lcsState, 6, 4⟩
/-- FLOOR_PENDING of `LCS_STATE`. -/
def Fld.lcsStateFloorPending : FieldRef := ⟨Reg.lcsState, 8, 8⟩
/-- SESSION of `LCS_DEBUG`. -/
def Fld.lcsDebugSession : FieldRef := ⟨Reg.lcsDebug, 0, 0⟩
/-- RIGHTS of `LCS_DEBUG`. -/
def Fld.lcsDebugRights : FieldRef := ⟨Reg.lcsDebug, 8, 1⟩
/-- GUESTS_LO of `LCS_DEBUG_GUESTS_LO`. -/
def Fld.lcsDebugGuestsLoGuestsLo : FieldRef := ⟨Reg.lcsDebugGuestsLo, 31, 0⟩
/-- GUESTS_HI of `LCS_DEBUG_GUESTS_HI`. -/
def Fld.lcsDebugGuestsHiGuestsHi : FieldRef := ⟨Reg.lcsDebugGuestsHi, 1, 0⟩
/-- TRANSITION of `LCS_EVT`. -/
def Fld.lcsEvtTransition : FieldRef := ⟨Reg.lcsEvt, 0, 0⟩
/-- DEBUG_START of `LCS_EVT`. -/
def Fld.lcsEvtDebugStart : FieldRef := ⟨Reg.lcsEvt, 1, 1⟩
/-- DEBUG_END of `LCS_EVT`. -/
def Fld.lcsEvtDebugEnd : FieldRef := ⟨Reg.lcsEvt, 2, 2⟩
/-- PEER_MISMATCH of `LCS_EVT`. -/
def Fld.lcsEvtPeerMismatch : FieldRef := ⟨Reg.lcsEvt, 3, 3⟩
/-- IEN of `LCS_IEN`. -/
def Fld.lcsIenIen : FieldRef := ⟨Reg.lcsIen, 3, 0⟩
/-- COUNT of `ERR_Q_COUNT`. -/
def Fld.errQCountCount : FieldRef := ⟨Reg.errQCount, 15, 0⟩
/-- LAPPED of `ERR_Q_COUNT`. -/
def Fld.errQCountLapped : FieldRef := ⟨Reg.errQCount, 30, 30⟩
/-- UNDERRUN of `ERR_Q_COUNT`. -/
def Fld.errQCountUnderrun : FieldRef := ⟨Reg.errQCount, 31, 31⟩
/-- LOST_CNT of `ERR_Q_LOST`. -/
def Fld.errQLostLostCnt : FieldRef := ⟨Reg.errQLost, 31, 0⟩
/-- E of `ERR_Q_SEQ`. -/
def Fld.errQSeqE : FieldRef := ⟨Reg.errQSeq, 15, 0⟩
/-- W of `ERR_Q_SEQ`. -/
def Fld.errQSeqW : FieldRef := ⟨Reg.errQSeq, 31, 16⟩
/-- POP of `ERR_Q_POP`. -/
def Fld.errQPopPop : FieldRef := ⟨Reg.errQPop, 0, 0⟩
/-- DATA of `ERR_Q_ENTRYn`. -/
def Fld.errQEntrynData (n : Nat) : FieldRef := ⟨Reg.errQEntryn n, 31, 0⟩
/-- SYS_LOCK of `CLK_STATUS`. -/
def Fld.clkStatusSysLock : FieldRef := ⟨Reg.clkStatus, 0, 0⟩
/-- SYS_FALLBACK of `CLK_STATUS`. -/
def Fld.clkStatusSysFallback : FieldRef := ⟨Reg.clkStatus, 1, 1⟩
/-- PCIE_LOCK of `CLK_STATUS`. -/
def Fld.clkStatusPcieLock : FieldRef := ⟨Reg.clkStatus, 2, 2⟩
/-- SERDES_LOCK of `CLK_STATUS`. -/
def Fld.clkStatusSerdesLock : FieldRef := ⟨Reg.clkStatus, 4, 3⟩
/-- SYS_LOST of `CLK_EVT`. -/
def Fld.clkEvtSysLost : FieldRef := ⟨Reg.clkEvt, 0, 0⟩
/-- SYS_RESTORED of `CLK_EVT`. -/
def Fld.clkEvtSysRestored : FieldRef := ⟨Reg.clkEvt, 1, 1⟩
/-- PCIE_LOST of `CLK_EVT`. -/
def Fld.clkEvtPcieLost : FieldRef := ⟨Reg.clkEvt, 2, 2⟩
/-- SERDES_LOST of `CLK_EVT`. -/
def Fld.clkEvtSerdesLost : FieldRef := ⟨Reg.clkEvt, 4, 3⟩
/-- IEN of `CLK_IEN`. -/
def Fld.clkIenIen : FieldRef := ⟨Reg.clkIen, 4, 0⟩
/-- LANE_CLK_OFF of `CLK_GATE`. -/
def Fld.clkGateLaneClkOff : FieldRef := ⟨Reg.clkGate, 7, 0⟩
/-- LANE_PWR_OFF of `CLK_GATE`. -/
def Fld.clkGateLanePwrOff : FieldRef := ⟨Reg.clkGate, 15, 8⟩
/-- SERDES_OFF of `CLK_GATE`. -/
def Fld.clkGateSerdesOff : FieldRef := ⟨Reg.clkGate, 17, 16⟩
/-- KHZ of `CLK_MEASn`. -/
def Fld.clkMeasnKhz (n : Nat) : FieldRef := ⟨Reg.clkMeasn n, 20, 0⟩
/-- STICKY of `ERR_CLASS_STICKY`. -/
def Fld.errClassStickySticky : FieldRef := ⟨Reg.errClassSticky, 15, 0⟩
/-- IEN of `ERR_CLASS_IEN`. -/
def Fld.errClassIenIen : FieldRef := ⟨Reg.errClassIen, 15, 0⟩
/-- COUNT of `ERR_RAISED_LO`. -/
def Fld.errRaisedLoCount : FieldRef := ⟨Reg.errRaisedLo, 31, 0⟩
/-- COUNT of `ERR_RAISED_HI`. -/
def Fld.errRaisedHiCount : FieldRef := ⟨Reg.errRaisedHi, 31, 0⟩
/-- COUNT of `ERR_SUPPRESSED`. -/
def Fld.errSuppressedCount : FieldRef := ⟨Reg.errSuppressed, 31, 0⟩
/-- SOURCE of `ERR_SRC_SEL`. -/
def Fld.errSrcSelSource : FieldRef := ⟨Reg.errSrcSel, 11, 0⟩
/-- COUNT of `ERR_SRC_COUNT`. -/
def Fld.errSrcCountCount : FieldRef := ⟨Reg.errSrcCount, 31, 0⟩
/-- CLASS of `ERR_SRC_INFO`. -/
def Fld.errSrcInfoClass : FieldRef := ⟨Reg.errSrcInfo, 3, 0⟩
/-- ACTION of `ERR_SRC_INFO`. -/
def Fld.errSrcInfoAction : FieldRef := ⟨Reg.errSrcInfo, 6, 4⟩
/-- DEFINED of `ERR_SRC_INFO`. -/
def Fld.errSrcInfoDefined : FieldRef := ⟨Reg.errSrcInfo, 7, 7⟩
/-- PENDING of `ERR_SRC_INFO`. -/
def Fld.errSrcInfoPending : FieldRef := ⟨Reg.errSrcInfo, 8, 8⟩
/-- NS of `ERR_SRC_LAST_LO`. -/
def Fld.errSrcLastLoNs : FieldRef := ⟨Reg.errSrcLastLo, 31, 0⟩
/-- SEC of `ERR_SRC_LAST_HI`. -/
def Fld.errSrcLastHiSec : FieldRef := ⟨Reg.errSrcLastHi, 31, 0⟩
/-- QUEUED of `ERR_EVT`. -/
def Fld.errEvtQueued : FieldRef := ⟨Reg.errEvt, 0, 0⟩
/-- RESPONSE of `ERR_EVT`. -/
def Fld.errEvtResponse : FieldRef := ⟨Reg.errEvt, 1, 1⟩
/-- LOST of `ERR_EVT`. -/
def Fld.errEvtLost : FieldRef := ⟨Reg.errEvt, 2, 2⟩
/-- IEN of `ERR_IEN`. -/
def Fld.errIenIen : FieldRef := ⟨Reg.errIen, 2, 0⟩
/-- SOURCE of `PWR_STATUS`. -/
def Fld.pwrStatusSource : FieldRef := ⟨Reg.pwrStatus, 1, 0⟩
/-- AUX_PRESENT of `PWR_STATUS`. -/
def Fld.pwrStatusAuxPresent : FieldRef := ⟨Reg.pwrStatus, 2, 2⟩
/-- POE_PRESENT of `PWR_STATUS`. -/
def Fld.pwrStatusPoePresent : FieldRef := ⟨Reg.pwrStatus, 3, 3⟩
/-- CLASS_ASSIGNED of `PWR_STATUS`. -/
def Fld.pwrStatusClassAssigned : FieldRef := ⟨Reg.pwrStatus, 7, 4⟩
/-- CLASS_REQUESTED of `PWR_STATUS`. -/
def Fld.pwrStatusClassRequested : FieldRef := ⟨Reg.pwrStatus, 11, 8⟩
/-- TIER_AVAIL of `PWR_STATUS`. -/
def Fld.pwrStatusTierAvail : FieldRef := ⟨Reg.pwrStatus, 13, 12⟩
/-- TIER_DECLARED of `PWR_STATUS`. -/
def Fld.pwrStatusTierDeclared : FieldRef := ⟨Reg.pwrStatus, 15, 14⟩
/-- PFW of `PWR_STATUS`. -/
def Fld.pwrStatusPfw : FieldRef := ⟨Reg.pwrStatus, 16, 16⟩
/-- CAPPED of `PWR_STATUS`. -/
def Fld.pwrStatusCapped : FieldRef := ⟨Reg.pwrStatus, 17, 17⟩
/-- VIN of `PWR_VOLTS`. -/
def Fld.pwrVoltsVin : FieldRef := ⟨Reg.pwrVolts, 13, 0⟩
/-- VHOLD of `PWR_VOLTS`. -/
def Fld.pwrVoltsVhold : FieldRef := ⟨Reg.pwrVolts, 29, 16⟩
/-- VAUX of `PWR_INPUTS`. -/
def Fld.pwrInputsVaux : FieldRef := ⟨Reg.pwrInputs, 13, 0⟩
/-- VPOE of `PWR_INPUTS`. -/
def Fld.pwrInputsVpoe : FieldRef := ⟨Reg.pwrInputs, 29, 16⟩
/-- POWER of `PWR_LOAD`. -/
def Fld.pwrLoadPower : FieldRef := ⟨Reg.pwrLoad, 15, 0⟩
/-- CURRENT of `PWR_LOAD`. -/
def Fld.pwrLoadCurrent : FieldRef := ⟨Reg.pwrLoad, 31, 16⟩
/-- POWER of `PWR_PEAK`. -/
def Fld.pwrPeakPower : FieldRef := ⟨Reg.pwrPeak, 15, 0⟩
/-- TEMP of `PWR_FIELD_TEMP`. -/
def Fld.pwrFieldTempTemp : FieldRef := ⟨Reg.pwrFieldTemp, 15, 0⟩
/-- PFW_ASSERT of `PWR_EVT`. -/
def Fld.pwrEvtPfwAssert : FieldRef := ⟨Reg.pwrEvt, 0, 0⟩
/-- PFW_RELEASE of `PWR_EVT`. -/
def Fld.pwrEvtPfwRelease : FieldRef := ⟨Reg.pwrEvt, 1, 1⟩
/-- SOURCE_CHANGE of `PWR_EVT`. -/
def Fld.pwrEvtSourceChange : FieldRef := ⟨Reg.pwrEvt, 2, 2⟩
/-- TIER_LOW of `PWR_EVT`. -/
def Fld.pwrEvtTierLow : FieldRef := ⟨Reg.pwrEvt, 3, 3⟩
/-- TIER_OK of `PWR_EVT`. -/
def Fld.pwrEvtTierOk : FieldRef := ⟨Reg.pwrEvt, 4, 4⟩
/-- CLASS_CHANGE of `PWR_EVT`. -/
def Fld.pwrEvtClassChange : FieldRef := ⟨Reg.pwrEvt, 5, 5⟩
/-- IEN of `PWR_IEN`. -/
def Fld.pwrIenIen : FieldRef := ⟨Reg.pwrIen, 5, 0⟩
/-- COUNT of `PWR_PFW_COUNT`. -/
def Fld.pwrPfwCountCount : FieldRef := ⟨Reg.pwrPfwCount, 31, 0⟩
/-- STAGE of `HUB_BOOT`. -/
def Fld.hubBootStage : FieldRef := ⟨Reg.hubBoot, 3, 0⟩
/-- BANK of `HUB_BOOT`. -/
def Fld.hubBootBank : FieldRef := ⟨Reg.hubBoot, 4, 4⟩
/-- TRIAL of `HUB_BOOT`. -/
def Fld.hubBootTrial : FieldRef := ⟨Reg.hubBoot, 5, 5⟩
/-- FALLBACK of `HUB_BOOT`. -/
def Fld.hubBootFallback : FieldRef := ⟨Reg.hubBoot, 6, 6⟩
/-- EPOCH0 of `HUB_BOOT`. -/
def Fld.hubBootEpoch0 : FieldRef := ⟨Reg.hubBoot, 7, 7⟩
/-- SUP_ROM of `HUB_BOOT`. -/
def Fld.hubBootSupRom : FieldRef := ⟨Reg.hubBoot, 8, 8⟩
/-- POWER_ON of `HUB_RESET_CAUSE`. -/
def Fld.hubResetCausePowerOn : FieldRef := ⟨Reg.hubResetCause, 0, 0⟩
/-- MOD_RESET of `HUB_RESET_CAUSE`. -/
def Fld.hubResetCauseModReset : FieldRef := ⟨Reg.hubResetCause, 1, 1⟩
/-- SPAN_POLICY of `HUB_RESET_CAUSE`. -/
def Fld.hubResetCauseSpanPolicy : FieldRef := ⟨Reg.hubResetCause, 2, 2⟩
/-- SPAN_COMMAND of `HUB_RESET_CAUSE`. -/
def Fld.hubResetCauseSpanCommand : FieldRef := ⟨Reg.hubResetCause, 3, 3⟩
/-- FW_UPDATE of `HUB_RESET_CAUSE`. -/
def Fld.hubResetCauseFwUpdate : FieldRef := ⟨Reg.hubResetCause, 4, 4⟩
/-- BLOCK of `HUB_BLOCK_RST`. -/
def Fld.hubBlockRstBlock : FieldRef := ⟨Reg.hubBlockRst, 7, 0⟩
/-- VERSION of `HUB_FW_VERSION`. -/
def Fld.hubFwVersionVersion : FieldRef := ⟨Reg.hubFwVersion, 31, 0⟩
/-- VERSION of `HUB_FW_OTHER`. -/
def Fld.hubFwOtherVersion : FieldRef := ⟨Reg.hubFwOther, 31, 0⟩
/-- FUSED of `HUB_FW_FLOOR`. -/
def Fld.hubFwFloorFused : FieldRef := ⟨Reg.hubFwFloor, 7, 0⟩
/-- STORED of `HUB_FW_FLOOR`. -/
def Fld.hubFwFloorStored : FieldRef := ⟨Reg.hubFwFloor, 15, 8⟩
/-- IMAGE of `HUB_FW_FLOOR`. -/
def Fld.hubFwFloorImage : FieldRef := ⟨Reg.hubFwFloor, 23, 16⟩
/-- STATE of `HUB_UPDATE_STATE`. -/
def Fld.hubUpdateStateState : FieldRef := ⟨Reg.hubUpdateState, 2, 0⟩
/-- MS of `HUB_READY_MS`. -/
def Fld.hubReadyMsMs : FieldRef := ⟨Reg.hubReadyMs, 15, 0⟩
/-- BOOT_DONE of `HUB_EVT`. -/
def Fld.hubEvtBootDone : FieldRef := ⟨Reg.hubEvt, 0, 0⟩
/-- FALLBACK of `HUB_EVT`. -/
def Fld.hubEvtFallback : FieldRef := ⟨Reg.hubEvt, 1, 1⟩
/-- FW_STAGED of `HUB_EVT`. -/
def Fld.hubEvtFwStaged : FieldRef := ⟨Reg.hubEvt, 2, 2⟩
/-- UPDATE_DONE of `HUB_EVT`. -/
def Fld.hubEvtUpdateDone : FieldRef := ⟨Reg.hubEvt, 3, 3⟩
/-- UPDATE_FAILED of `HUB_EVT`. -/
def Fld.hubEvtUpdateFailed : FieldRef := ⟨Reg.hubEvt, 4, 4⟩
/-- IEN of `HUB_IEN`. -/
def Fld.hubIenIen : FieldRef := ⟨Reg.hubIen, 4, 0⟩
/-- SESSION of `MON_STATUS`. -/
def Fld.monStatusSession : FieldRef := ⟨Reg.monStatus, 0, 0⟩
/-- CERT of `MON_STATUS`. -/
def Fld.monStatusCert : FieldRef := ⟨Reg.monStatus, 1, 1⟩
/-- HALTED of `MON_STATUS`. -/
def Fld.monStatusHalted : FieldRef := ⟨Reg.monStatus, 5, 2⟩
/-- RUSHES of `MON_STATUS`. -/
def Fld.monStatusRushes : FieldRef := ⟨Reg.monStatus, 6, 6⟩
/-- ID of `MON_SESSION`. -/
def Fld.monSessionId : FieldRef := ⟨Reg.monSession, 31, 0⟩
/-- SESSION_START of `MON_EVT`. -/
def Fld.monEvtSessionStart : FieldRef := ⟨Reg.monEvt, 0, 0⟩
/-- SESSION_END of `MON_EVT`. -/
def Fld.monEvtSessionEnd : FieldRef := ⟨Reg.monEvt, 1, 1⟩
/-- HALT of `MON_EVT`. -/
def Fld.monEvtHalt : FieldRef := ⟨Reg.monEvt, 2, 2⟩
/-- RESUME of `MON_EVT`. -/
def Fld.monEvtResume : FieldRef := ⟨Reg.monEvt, 3, 3⟩
/-- IEN of `MON_IEN`. -/
def Fld.monIenIen : FieldRef := ⟨Reg.monIen, 3, 0⟩
/-- COUNT of `MON_LINES`. -/
def Fld.monLinesCount : FieldRef := ⟨Reg.monLines, 31, 0⟩

end Sys2Proof.Machine
end

