-- ==== Sys2Proof/Machine/Units.lean ====
section
/-!
DEFINITION. The plain data of the units that work beside the vault: classification and stream ports, big-number lanes, the
entropy unit, Pier cores, guests, and the tamper monitors.
-/

namespace Sys2Proof.Machine

/-! ### Stream ports and classification -/

/-- An exact-match entry: its key and its result word (R92). -/
structure EmEntry where
  key : Nat
  ctx : Nat
  valid : Bool
deriving DecidableEq, Repr

/-- The empty exact-match entry. -/
def EmEntry.empty : EmEntry := ⟨0, 0, false⟩

/-- A wildcard entry (WILDCARD scene). -/
structure WcEntry where
  value : Nat
  mask : Nat
  portMask : Nat
  action : Nat
  disp : Nat
  ctx : Nat
deriving DecidableEq, Repr

/-- What a local port that has not reached a frame boundary since a commit or an epoch switch still uses (R53, R95, R97): the exact-match table with
its seeds, the wildcard table, the configuration, its NOMATCH_DISP, and, after an epoch switch, the context and key-slot entries (R55); a commit of a
context entry alone acts on the next frame (R19). -/
structure PortView where
  table : List (Nat × EmEntry)
  seed0 : Word32
  seed1 : Word32
  wc : List WcEntry
  bank : Option Bank
  config : List Scene
  disp : Nat
deriving DecidableEq, Repr

/-- The classification tables of a span (R92 to R97). -/
structure Cls where
  active : List (Nat × EmEntry)
  shadow : List (Nat × EmEntry)
  /-- The shadow bank holds writes that no commit has taken. -/
  dirty : Bool
  /-- What each local port still uses; none for a port that has adopted the active bank. -/
  old0 : Option PortView
  old1 : Option PortView
  wc : List WcEntry
deriving DecidableEq, Repr

/-- A frame held for return (R106): the bytes that will be transmitted, with its FCS, its context if classified, the handle of the
key it was processed under (0 for none, R57), and its cells. -/
structure Frame where
  out : List Byte
  ctx : Option Nat
  handle : Nat
  cells : Nat
deriving DecidableEq, Repr

/-- What a stream port keeps beside its registers. -/
structure StreamPort where
  /-- Frames waiting for return, oldest first. -/
  frames : List Frame
  /-- A raise of RSV_CELLS that waits for the pool (R104). -/
  heldRsv : Option Nat
  /-- The end of the partner's pause, in time since POR (R108). -/
  pausedUntil : Option Nat
  /-- When the port last sent a PAUSE (R107). -/
  lastPause : Nat
  /-- Start of the training in progress, and when the last one timed out (R85). -/
  trainStart : Option Nat
  trainFailed : Option Nat
  /-- PTP transmit slots that are busy, in the order of their doorbells (R112), and those whose DMA was blocked, which stay busy without DONE. -/
  txBusy : List Nat
  txStuck : List Nat
  /-- The last frame sent was an inserted one, with a returned frame waiting (R112). -/
  inserted : Bool
  /-- Retired by a RETIRE_PORT response (R411). -/
  retired : Bool
  /-- Entries pushed into the PTP receive queue, as far as the ring is deep (R401). -/
  rxPushed : Nat
deriving DecidableEq, Repr

/-! ### Big-number lanes -/

/-- A lane command as its four words (Command word). -/
structure LaneCmd where
  w0 : Nat
  w1 : Nat
  w2 : Nat
  w3 : Nat
deriving DecidableEq, Repr

/-- The states of a lane (R209). -/
inductive LaneMode where
  | idle
  | validating
  | runFirst
  | runSecond
  | comparing
  | wiping
  | held
deriving DecidableEq, Repr

/-- The STATE code of `BNE_LANEk_STATE`. -/
def LaneMode.code : LaneMode → Nat
  | .idle => 0
  | .validating => 1
  | .runFirst => 2
  | .runSecond => 3
  | .comparing => 4
  | .wiping => 5
  | .held => 6

/-- A group descriptor (Group descriptors): head fields, and the arrays as numbers. -/
structure Group where
  kind : Nat
  limbs : Nat
  modBits : Nat
  orderBits : Nat
  pInv : Nat
  nInv : Nat
  cofactor : Nat
  arrays : List Nat
  bytes : Nat
deriving DecidableEq, Repr

/-- A completion entry of a lane (R211). -/
structure Completion where
  tag : Nat
  status : Status
  opcode : Nat
  index : Nat
  result : Bool
  cycles : Nat
  seq : Nat
deriving DecidableEq, Repr

/-- A staged STORE: address, limbs, value (R207). -/
structure Staging where
  addr : Nat
  limbs : Nat
  value : Nat
deriving DecidableEq, Repr

/-- A big-number lane. Slots are numbers of up to 129 limbs; a slot that is not listed is zero. -/
structure Lane where
  mode : LaneMode
  slots : List (Nat × Nat)
  groups : List (Nat × Group)
  acc : Nat
  /-- The product count, `BNE_LANEk_STATE.CHAIN` (R219). -/
  chain : Nat
  /-- Open PMAC chains: chain length of each slot (R231). -/
  polyChain : List (Nat × Nat)
  staging : List Staging
  /-- Stores of the second run compared so far, and whether all were equal (R207). -/
  compared : Nat
  equal : Bool
  /-- Commands queued and not yet executed, oldest first. -/
  queue : List LaneCmd
  /-- The commands of the running job. -/
  job : List LaneCmd
  index : Nat
  cycles : Nat
  result : Bool
  reject : Bool
  mark : Nat
  /-- LOOP_BACK returns of this run, by command index, and of the first run (R207). -/
  loops : List (Nat × Nat)
  firstLoops : List (Nat × Nat)
  /-- Keccak state of XOF, and how many bytes of the rate are absorbed or squeezed. -/
  xof : List Word64
  /-- The random values drawn for the job (R205). -/
  random : List Byte
  /-- The descriptor that a LOADG has read and that replaces G when the job passes (R202). -/
  newGroup : Option (Nat × Group)
  /-- Status with which the job ends, and the command that ended it. -/
  endStatus : Status
  endOpcode : Nat
  endIndex : Nat
  /-- An uncorrectable error of lane memory ended the job (R208). -/
  memErr : Bool
  /-- The job passed, and its stores were released (R209). -/
  release : Bool
  cpls : List Completion
  seq : Nat
  /-- The job being pushed is closed to further commands until the next JOB (R201). -/
  refusing : Bool
  /-- The vault job that runs on the lane (R198). -/
  vault : Option VaultJob
  /-- The guest that gets the lane when its job ends (R197). -/
  nextGuest : Option Nat
deriving DecidableEq, Repr

/-- A lane after a wipe that clears the group descriptors as well. -/
def Lane.empty : Lane :=
  ⟨.idle, [], [], 0, 0, [], [], 0, true, [], [], 0, 0, false, false, 0, [], [], [], [], none, .ok, 0, 0, false, false, [], 0, false, none, none⟩

/-! ### Entropy -/

/-- A noise source (R283 to R287). -/
structure EntSource where
  /-- It produces bits. -/
  running : Bool
  /-- It runs its start-up test. -/
  startup : Bool
  retired : Bool
  /-- Times of its failures on the time base of the span, newest first, and when it was retired (64-bit form of R10). -/
  fails : List Nat
  retiredAt : Nat
  /-- The last raw bit seen and the length of the run that it ends (R282). -/
  lastBit : Bool
  run : Nat
deriving DecidableEq, Repr

/-- An HMAC_DRBG instance (R289, R290). -/
structure Drbg where
  seeded : Bool
  key : List Byte
  v : List Byte
  reqs : Nat
  reseeded : Nat
deriving DecidableEq, Repr

/-- A request for random bytes that waits (R292): that of a command, or of a lane's job. -/
inductive Waiter where
  | cmd (c : Caller)
  | lane (k : Nat)
deriving DecidableEq, Repr

/-- Rushes mode on a span (R294): source, the time of entry, capture complete, captured bits as bytes, test failures counted. -/
structure Rushes where
  source : Nat
  start : Nat
  done : Bool
  bits : List Byte
  failures : Nat
deriving DecidableEq, Repr

/-- The entropy unit of a span. -/
structure Entropy where
  s0 : EntSource
  s1 : EntSource
  s2 : EntSource
  s3 : EntSource
  /-- Conditioned blocks, oldest first (R285). -/
  pool : List (List Byte)
  d0 : Drbg
  d1 : Drbg
  d2 : Drbg
  rushes : Option Rushes
  /-- The requests that wait, with their instances; each has been counted once (R292). -/
  waiting : List (Nat × Waiter)
deriving DecidableEq, Repr

/-! ### Pier cores -/

/-- The trap registers of one level (Special registers). -/
structure Trap where
  vec : Word64
  psr : Word64
  pc : Word64
  cwp : Word64
  cause : Word64
  addr : Word64
deriving DecidableEq, Repr

/-- Whether a core sleeps (R353). A WAITC keeps its destination, target, address and deadline, and when it last read. -/
inductive Sleep where
  | awake
  | wfe
  | waitc (rd addr target deadline readAt seen : Nat)
  /-- It waits in a hypercall (R330). -/
  | hyper
  /-- It leaves the rest of its take idle (HC_YIELD, R317). -/
  | yield
deriving DecidableEq, Repr

/-- The registers of a world on a core (Programmer's model): what a take switch saves and restores (R318). -/
structure VCore where
  /-- g1 to g6, those that are not zero. -/
  globals : List (Nat × Word64)
  lk : Word64
  pc : Word64
  /-- P[0] to P[95], those that are not zero. -/
  phys : List (Nat × Word64)
  level : Nat
  ie : Bool
  ev : Bool
  k : Trap
  spU : Word64
  spK : Word64
  wcwp : Nat
  wrb : Nat
  wres : Nat
  wown : Nat
  wspU : Word64
  wspK : Word64
  vip : Nat
  /-- Writes of WCWP, WRB, WRES and WOWN that take effect at the next TRET. -/
  newWcwp : Option Nat
  newWrb : Option Nat
  newWres : Option Nat
  newWown : Option Nat
  sleep : Sleep
deriving DecidableEq, Repr

/-- A Pier core. -/
structure PierCore where
  v : VCore
  /-- Hypervisor trap registers. -/
  h : Trap
  spH : Word64
  wspH : Word64
  s2root : Word64
  wid : Nat
  l2mask : Nat
  htcmp : Word64
  /-- When the core left reset, in time since POR; CYC counts from there. -/
  start : Nat
  dfault : Bool
  /-- The guest in the take now running. -/
  guest : Option Nat
  /-- Start and end of the take slot that the core is in, on the time base (R317). -/
  take : Option (Nat × Nat)
deriving DecidableEq, Repr

/-- The trap registers after reset. -/
def Trap.reset : Trap := ⟨0, 0, 0, 0, 0, 0⟩

/-- The registers of a world after reset, at a level and PC (Special registers, Reset column). -/
def VCore.reset (level : Nat) (pc : Word64) : VCore :=
  ⟨[], 0, pc, [], level, false, false, Trap.reset, 0, 0, 0, 0, 16, 0, 0, 0, 0, none, none, none, none, .awake⟩

/-- A core after reset: its highest level, its reset vector, its world, and the time; its L2 ways are the fixed grants of R319. -/
def PierCore.reset (level : Nat) (pc : Word64) (wid now : Nat) : PierCore :=
  ⟨VCore.reset level pc, Trap.reset, 0, 0, 0, wid, if wid = 0x3C then 0x8000 else 0xF, 0, now, false, none, none⟩

/-! ### Worlds -/

/-- A wait for a clock or power grant (R330): unit, action, the guest and its core, and the deadline. -/
structure UnitReq where
  guest : Nat
  core : Nat
  unit : Nat
  action : Nat
  deadline : Nat
deriving DecidableEq, Repr

/-- What the Keeper keeps for one guest beside the KPR registers. -/
structure Guest where
  g : Nat
  /-- DRAM offset of its memory (R321). -/
  base : Nat
  /-- Deadline of HC_TIMER. -/
  timer : Option Nat
  /-- Masked virtual interrupts, one bit each. -/
  masked : Nat
  /-- Virtual interrupts pending, one bit each. -/
  pending : Nat
  /-- Last watchdog kick, in time since POR, and whether the half period has been signalled since (R328). -/
  kicked : Nat
  half : Bool
  /-- Vault-call queue pairs and calls in flight (R324). -/
  queues : List QueuePair
  inflight : List InFlight
  restartedAt : Nat
deriving DecidableEq, Repr

/-- The memory of a span by physical address: listed cells differ from zero, addresses rise (R460). -/
abbrev Memory := List Host.Cell

/-- The worlds of a span. -/
structure Worlds where
  cores : List PierCore
  /-- Saved registers of guests: core, guest, registers (R318). -/
  saved : List (Nat × Nat × VCore)
  guests : List Guest
  /-- Shadow bank of the gates, by GATE register offset (R335). -/
  gateShadow : List (Nat × Word32)
  requests : List UnitReq
  /-- Units that are gated or powered down, with the guest that asked (R331). -/
  gated : List (Nat × Nat)
  /-- Units whose power is returning, and since when (R330). -/
  restoring : List (Nat × Nat)
  /-- Last kick of the secure watchdogs of cores 0 and 1. -/
  kick0 : Nat
  kick1 : Nat
  /-- The cores of the secure world whose watchdog has expired and that have not kicked since (R327). -/
  hung : List Nat
  mem : Memory
  /-- Instruction trace rings of cores 2 to 5 (R458). -/
  trace : List (Nat × StdQueue (List Byte))
deriving DecidableEq, Repr

/-! ### Tamper -/

/-- The filter of a counting source (R301): the current bucket and the fifteen before it, newest first, when the current bucket
began, whether the detector may yield a further event, and when it last showed one. -/
structure TmpFilter where
  n : Nat
  buckets : List Nat
  started : Nat
  /-- Consecutive samples at the alarm level, and at the normal level. -/
  alarmRun : Nat
  normalRun : Nat
  armed : Bool
  lastEvent : Option Nat
  /-- The entry that it carries out: THRESHOLD, MODE, WINDOW_MS. -/
  entry : Nat × Nat × Nat
deriving DecidableEq, Repr

/-- A self-test that runs (R310): source index, caller, start, events seen. -/
structure TmpTest where
  n : Nat
  caller : Caller
  started : Nat
  seen : Nat
deriving DecidableEq, Repr

/-- The always-on domain and the tamper monitors (R298 to R312). -/
structure Tamper where
  filters : List TmpFilter
  test : Option TmpTest
  /-- Times of the tests of the last second, with their sources (R311). -/
  tests : List (Nat × Nat)
  /-- A policy that waits for the first epoch tick (R305). -/
  newPolicy : Option (List Byte)
  /-- The gap buffer: tick and source (R309). -/
  gap : List (Nat × Nat)
  gapOpen : Bool
  /-- AON tick at the power-fail warning that opened the gap, and whether the logic supplies have been absent since. -/
  gapTick : Nat
  outage : Bool
  aonLost : Bool
  /-- Owners zeroised by a firing on VBAK alone, to be carried out at the next boot. -/
  pendingOwners : Nat
  /-- The firings on VBAK alone whose slates wait for the next boot, with their ACTION (log entry 111). -/
  dark : List (Nat × SlateReq)
  /-- The PRBS31 registers of LOOP0 to LOOP3 and the lid mesh; none before their seeds are drawn (R299). -/
  prbs : List Nat
deriving DecidableEq, Repr

end Sys2Proof.Machine
end

