-- ==== Sys2Proof/Machine/State.lean ====
section
/-!
DEFINITION. The state of the module: each span, the hub die, what has left the ports, and the queue of waiting commands.
-/

namespace Sys2Proof.Machine

/-- What stops the module. -/
inductive Fault where
  /-- No meaning raises this: every condition that the spec names is a status, a report or a state of its own. Safe. -/
  | none
deriving DecidableEq, Repr

/-- Why a command has no effect in this model. -/
inductive Refusal where
  /-- Raised by `exec` for a command that has no meaning yet, by mnemonic. Safe. -/
  | notModelled (mnemonic : String)
deriving DecidableEq, Repr

/-- One span die. -/
structure SpanState where
  /-- Control registers that differ from their reset value, by window offset (R5, R461). -/
  regs : List (Nat × Word32)
  /-- The shadow of R7 of each master: the offset of the `_HI` half and the copied value. -/
  shadows : List (Master × Nat × Word32)
  /-- The held `_LO` write of R7 of each master: the offset of the `_LO` half and the value. -/
  holds : List (Master × Nat × Word32)
  tb : TimeBase
  rep : Replica
  cont : Cont
  err : ErrHub
  host : HostPort
  nvs : Nvs
  fuses : Fuses
  vault : VaultLocal
  stream : Stream
  boot : BootState
  cls : Cls
  /-- Local stream ports 0 and 1. -/
  port0 : StreamPort
  port1 : StreamPort
  /-- Lanes 0 to 7. -/
  lanes : List Lane
  entropy : Entropy
  worlds : Worlds
deriving DecidableEq, Repr

/-- The hub die and the field side. -/
structure HubState where
  /-- TMP registers that differ from their reset value (R461: one block that both windows show). -/
  regs : List (Nat × Word32)
  witness : Witness
  /-- RENEW messages under way to the witness: sender, term, keystone time sent (R266). -/
  renews : List (SpanId × Nat × Nat)
  /-- VOTE answers of the witness under way: to whom, term, keystone time of the RENEW (R266). -/
  votes : List (SpanId × Nat × Nat)
  /-- The anchor words AK_n that are held, by owner (R169). -/
  anchors : List (Nat × List Byte)
  anchorsValid : Bool
  srcs : List SrcState
  window : Nat
  /-- Reports under way to each span (R410). -/
  toA : List Report
  toB : List Report
  power : Power
  monitor : Monitor
  sup : Supervisor
  update : FwUpdate
  /-- The life-cycle transition in progress on the module. -/
  transition : Option LcWork
  tamper : Tamper
  /-- The hub PLL runs from the internal oscillator of its die (R388). -/
  fallback : Bool
  /-- The supervisor core. -/
  core : PierCore
  /-- The memory of the supervisor core, in its internal map. -/
  supMem : Memory
deriving DecidableEq, Repr

/-- The module. -/
structure State where
  a : SpanState
  b : SpanState
  hub : HubState
  /-- Deck messages under way: the receiving span and the message, oldest first (R259). -/
  deck : List (SpanId × DeckMsg)
  /-- What has left the ports, newest first. -/
  outputs : List Output
  /-- Nanoseconds since the module was made, the model's own measure of intervals (log entry 2). -/
  elapsed : Nat
  /-- How many free bytes have been drawn, the model's own (log entry 3). -/
  free : Nat
  /-- The commands that wait, first in first out. -/
  pending : List Instr
deriving DecidableEq, Repr

/-! ### Reset -/

/-- An empty slate log, before GENESIS (R76, R466). -/
def Log.reset : Log := ⟨[], 0, 0, 0, 0, 0, [], 0, none, 0, [], [], []⟩

/-- The replicated state before the first image: epoch 0 and nothing else. -/
def Replica.reset : Replica := ⟨[], 0, [], [], none, false, [], [], [], [], [], [], [], [], none, 1, Log.reset⟩

/-- Continuity right after a POR: mode JOINING with no link (R271). -/
def Cont.reset : Cont :=
  { mode := .joining, term := 0, leaseEnd := 0, lastRenewal := 0, renewSent := 0, voteTerm := 0, promiseEnd := 0, deckUp0 := false
    deckUp1 := false, deck0At := 0, deck1At := 0, attempts0 := 0, attempts1 := 0, peerLost := false, hubLink := false, csn := 0
    lastCsn := 0, peerAck := 0, open_ := [], journal := [], settled := [], deferred := [], forwarded := [], nextId := 1, holdOrder := false
    joinedAt := 0, side := [], sideChanges := [], sideCoalesced := [], rejoinAt := 0, replayed := 0, buckets := 0
    mismatches := 0, rejoinFailedAt := none, prepared := none, decision := none, banks := none, peerFw := 0, peerFormatMax := 0, peerState := 0 }

/-- A standard queue that is empty. -/
def StdQueue.empty {α : Type} : StdQueue α := ⟨[], 0, 0⟩

/-- The error hub after reset. -/
def ErrHub.reset : ErrHub := ⟨[], StdQueue.empty, StdQueue.empty, [], 0⟩

/-- The host port after reset: the link is down. -/
def HostPort.reset : HostPort := ⟨[], [], [], [], false, 0, false, false, (0, 0)⟩

/-- A firmware bank that does not verify. -/
def FwBank.none : FwBank := ⟨false, 0, 0, 0, 0, [], []⟩

/-- Blank NOR. -/
def Nvs.reset : Nvs :=
  { progs := [], erases := [], status := [], statusSeq := 0, home := [], homePoint := [], unusable := [], pfwAt := Option.none
    sinceApplied := 0, appliedAt := 0, boot := ⟨0, Option.none, 0⟩, bank0 := FwBank.none, bank1 := FwBank.none, storedFloor := 0, salts := []
    calib := [] }

/-- Blank fuses. -/
def Fuses.reset : Fuses := ⟨[], 0, 0, false, [], false, []⟩

/-- The time base after a POR: TAI zero. -/
def TimeBase.reset : TimeBase := ⟨0, 0, 0, none, none, none, none, none⟩

/-- A vault that is not open. -/
def VaultLocal.reset : VaultLocal := ⟨[], false, [], [], [], [], [], [], none⟩

/-- No context and no key slot. -/
def Stream.reset : Stream := ⟨⟨[], []⟩, ⟨[], []⟩, [], [], [], [], false, []⟩

/-- A span that has not booted. -/
def BootState.reset : BootState := ⟨0, 0, 0, 0, false, false, false, false, none, none, [], []⟩

/-- Empty classification tables. -/
def Cls.reset : Cls := ⟨[], [], false, none, none, []⟩

/-- A stream port that holds nothing. -/
def StreamPort.reset : StreamPort := ⟨[], none, none, 0, none, none, [], [], false, false, 0⟩

/-- A noise source that does not run. -/
def EntSource.reset : EntSource := ⟨false, false, false, [], 0, false, 0⟩

/-- A DRBG instance that is not instantiated. -/
def Drbg.reset : Drbg := ⟨false, [], [], 0, 0⟩

/-- The entropy unit before ENABLE. -/
def Entropy.reset : Entropy :=
  ⟨.reset, .reset, .reset, .reset, [], .reset, .reset, .reset, none, []⟩

/-- The worlds of a span: six cores at their highest level and the secure watchdogs just kicked. -/
def Worlds.reset : Worlds :=
  { cores := [PierCore.reset 1 0 0 0, PierCore.reset 1 0 0 0, PierCore.reset 2 0 0x3C 0, PierCore.reset 2 0 0x3C 0,
      PierCore.reset 2 0 0x3C 0, PierCore.reset 2 0 0x3C 0]
    saved := [], guests := [], gateShadow := [], requests := [], gated := [], restoring := [], kick0 := 0, kick1 := 0, hung := [], mem := [], trace := [] }

/-- A span right after a POR. -/
def SpanState.reset : SpanState :=
  { regs := [], shadows := [], holds := [], tb := TimeBase.reset, rep := Replica.reset, cont := Cont.reset, err := ErrHub.reset
    host := HostPort.reset, nvs := Nvs.reset, fuses := Fuses.reset, vault := VaultLocal.reset, stream := Stream.reset
    boot := BootState.reset, cls := Cls.reset, port0 := StreamPort.reset, port1 := StreamPort.reset
    lanes := List.replicate 8 Lane.empty, entropy := Entropy.reset, worlds := Worlds.reset }

/-- The hub die right after a POR, the always-on domain included. -/
def HubState.reset : HubState :=
  { regs := [], witness := ⟨0, none, 0, 0, 0, 0, []⟩, renews := [], votes := [], anchors := [], anchorsValid := true, srcs := [], window := 0
    toA := [], toB := [], power := ⟨0, 0, false, false, 0, 0, 0, 0, 0, 0, 0, true, true, none, 0⟩
    monitor := ⟨none, 115200, none, []⟩, sup := ⟨false, false, [], false, false⟩
    update := ⟨0, FwBank.none, none, .a, 0, 0⟩, transition := none, tamper := ⟨[], none, [], none, [], false, 0, false, false, 0, [], []⟩
    fallback := false
    core := PierCore.reset 1 0 0 0, supMem := [] }

/-- The module right after a POR that no image has preceded: every register at its reset value (a register that is not listed reads
it), empty queues, blank NOR, blank fuses, no link. -/
def State.reset : State :=
  { a := SpanState.reset, b := SpanState.reset, hub := HubState.reset, deck := [], outputs := [], elapsed := 0, free := 0
    pending := [] }

end Sys2Proof.Machine
end

