-- ==== Sys2Proof/Machine/Ops.lean ====
section
/-!
DEFINITION. The named operations on the state: spans, control registers, free values, time, outputs, error counters,
sparse memory, and standard queues.
-/

namespace Sys2Proof.Machine

/-! ### Sparse lists in canonical form -/

/-- The value a key has in a sparse list, or the value that an unlisted key has. -/
def sparseGet {α : Type} (d : α) (k : Nat) : List (Nat × α) → α
  | [] => d
  | (k', v) :: t => if k' = k then v else sparseGet d k t

/-- Writes a key of a sparse list; `listed` is false if the value is the one an unlisted key has. Keys stay in rising order. -/
def sparseSet {α : Type} (k : Nat) (v : α) (listed : Bool) : List (Nat × α) → List (Nat × α)
  | [] => if listed then [(k, v)] else []
  | (k', v') :: t =>
    if k < k' then (if listed then (k, v) :: (k', v') :: t else (k', v') :: t)
    else if k = k' then (if listed then (k, v) :: t else t)
    else (k', v') :: sparseSet k v listed t

/-- The keys of a sparse list rise strictly from above `lo`, and no entry holds what its key reads as when unlisted. -/
def sparseWf {α : Type} [DecidableEq α] (dflt : Nat → α) : Option Nat → List (Nat × α) → Bool
  | _, [] => true
  | lo, (k, v) :: t => (match lo with | none => true | some l => decide (l < k)) && decide (v ≠ dflt k) && sparseWf dflt (some k) t

/-! ### Sorted lists -/

/-- Puts an element into a sorted list, before the first that it may stand before. -/
def insertBy {α : Type} (le : α → α → Bool) (x : α) : List α → List α
  | [] => [x]
  | y :: t => if le x y then x :: y :: t else y :: insertBy le x t

/-- A list sorted by an order; equal elements keep their order. -/
def sortBy {α : Type} (le : α → α → Bool) (l : List α) : List α := l.foldr (insertBy le) []

/-! ### Spans -/

/-- A span of the module. -/
def State.span (s : State) : SpanId → SpanState
  | .a => s.a
  | .b => s.b

/-- Replaces a span. -/
def State.setSpan (s : State) (sp : SpanId) (x : SpanState) : State :=
  match sp with
  | .a => { s with a := x }
  | .b => { s with b := x }

/-- Changes a span by a function. -/
def State.upd (s : State) (sp : SpanId) (f : SpanState → SpanState) : State := s.setSpan sp (f (s.span sp))

/-- Changes the hub die by a function. -/
def State.updHub (s : State) (f : HubState → HubState) : State := { s with hub := f s.hub }

/-- Changes the replicated state of a span by a function. -/
def State.updRep (s : State) (sp : SpanId) (f : Replica → Replica) : State := s.upd sp fun x => { x with rep := f x.rep }

/-- Changes the Continuity state of a span by a function. -/
def State.updCont (s : State) (sp : SpanId) (f : Cont → Cont) : State := s.upd sp fun x => { x with cont := f x.cont }

/-! ### Control registers -/

/-- The index of an offset in a register family, if the offset is one of its registers. -/
def RegDef.index (d : RegDef) (off : Nat) : Option Nat :=
  if d.off ≤ off ∧ (off - d.off) % d.stride = 0 ∧ (off - d.off) / d.stride < d.count then some ((off - d.off) / d.stride) else none

/-- The register at an offset of the window, with its index in its family. -/
def findReg (off : Nat) : Option (RegDef × Nat) :=
  (blockTable (off / 0x10000)).findSome? fun d => (d.index off).map fun i => (d, i)

/-- A word with the bits `hi` to `lo` replaced. -/
def putBits (w : Word32) (hi lo v : Nat) : Word32 :=
  let mask : Word32 := ((BitVec.allOnes 32) >>> (31 - (hi - lo))) <<< lo
  (w &&& ~~~ mask) ||| ((BitVec.ofNat 32 v <<< lo) &&& mask)

/-- The bits `hi` to `lo` of a word. -/
def getBits (w : Word32) (hi lo : Nat) : Nat := w.toNat / 2 ^ lo % 2 ^ (hi + 1 - lo)

/-- The fixed grants of the gates and region 0, which both banks hold at reset (R333, GATE registers). -/
def gateFixed (off : Nat) : Option Word32 :=
  if off = Reg.gateSlotsRdLo 29 ∨ off = Reg.gateSlotsWrLo 29 ∨ off = Reg.gateSlotsRdLo 30 ∨ off = Reg.gateSlotsWrLo 30 ∨
      off = Reg.gateSlotsRdLo 31 ∨ off = Reg.gateSlotsWrLo 31 then some 1
  else if off = Reg.gateSlotsRdHi 29 ∨ off = Reg.gateSlotsWrHi 29 ∨ off = Reg.gateSlotsRdHi 30 ∨ off = Reg.gateSlotsWrHi 30 ∨
      off = Reg.gateSlotsRdHi 31 ∨ off = Reg.gateSlotsWrHi 31 then some 0x10000000
  else if off = Reg.gateSlotsWrLo 32 then some 0xFFFFFFFE
  else if off = Reg.gateSlotsWrHi 32 then some 0x3
  else if off = Reg.gateRegionrCfg 0 then some 0xF9
  else if off = Reg.gateRegionrWorldsLo 0 then some 1
  else none

/-- The reset value of the register at an offset (the Reset column). -/
def resetWord (off : Nat) : Word32 :=
  match gateFixed off, findReg off with
  | some v, _ => v
  | none, none => 0
  | none, some (d, i) => d.fields.foldl (fun w f => putBits w f.hi f.lo (f.reset + f.step * i)) 0

/-- Whether an offset lies in the TMP window, which is one block on the hub die that both spans show (R461). -/
def inTmp (off : Nat) : Bool := off / 0x10000 == 7

/-- What a control register holds. -/
def State.reg (s : State) (sp : SpanId) (off : Nat) : Word32 :=
  sparseGet (resetWord off) off (if inTmp off then s.hub.regs else (s.span sp).regs)

/-- Puts a value into a control register. -/
def State.setReg (s : State) (sp : SpanId) (off : Nat) (v : Word32) : State :=
  let listed := decide (v ≠ resetWord off)
  if inTmp off then s.updHub fun h => { h with regs := sparseSet off v listed h.regs }
  else s.upd sp fun x => { x with regs := sparseSet off v listed x.regs }

/-- The value of a field. -/
def State.fld (s : State) (sp : SpanId) (f : FieldRef) : Nat := getBits (s.reg sp f.reg) f.hi f.lo

/-- Sets a field by hardware. -/
def State.setFld (s : State) (sp : SpanId) (f : FieldRef) (v : Nat) : State :=
  s.setReg sp f.reg (putBits (s.reg sp f.reg) f.hi f.lo v)

/-- Sets one bit of a register. -/
def State.setBit (s : State) (sp : SpanId) (off bit : Nat) (v : Bool) : State := s.setReg sp off (putBits (s.reg sp off) bit bit (boolNat v))

/-- Adds to a saturating field. -/
def State.bump (s : State) (sp : SpanId) (f : FieldRef) (n : Nat) : State :=
  s.setFld sp f (min (s.fld sp f + n) (2 ^ (f.hi + 1 - f.lo) - 1))

/-- Adds to a 64-bit counter held in two registers, modulo 2^64. -/
def State.bump64 (s : State) (sp : SpanId) (lo hi n : Nat) : State :=
  let v := (s.reg sp lo).toNat + 2 ^ 32 * (s.reg sp hi).toNat + n
  (s.setReg sp lo (BitVec.ofNat 32 v)).setReg sp hi (BitVec.ofNat 32 (v / 2 ^ 32))

/-- Puts a 64-bit value into a pair of registers. -/
def State.set64 (s : State) (sp : SpanId) (lo hi v : Nat) : State :=
  (s.setReg sp lo (BitVec.ofNat 32 v)).setReg sp hi (BitVec.ofNat 32 (v / 2 ^ 32))

/-! ### Free values, outputs, time -/

/-- Draws `n` free bytes (log entry 3). -/
def State.draw (s : State) (n : Nat) : List Byte × State :=
  ((List.range n).map fun i => Config.freeByte (s.free + i), { s with free := s.free + n })

/-- Sends something out of the module. -/
def State.emit (s : State) (o : Output) : State := { s with outputs := o :: s.outputs }

/-- A span's time base as TAI nanoseconds (R156, R9). -/
def State.now (s : State) (sp : SpanId) : Nat := (s.span sp).tb.sec * 1000000000 + (s.span sp).tb.ns

/-! ### Standard queues -/

/-- Entries that can be popped (R395, R397). -/
def StdQueue.count {α : Type} (q : StdQueue α) : Nat := q.entries.length

/-- Pushes onto a queue of depth `d`: at a full queue the oldest entry is overwritten; the second result says so (R395). -/
def StdQueue.push {α : Type} (d : Nat) (q : StdQueue α) (x : α) : StdQueue α × Bool :=
  if q.entries.length < d then (⟨q.entries ++ [x], (q.w + 1) % 65536, q.e⟩, false)
  else (⟨q.entries.drop 1 ++ [x], (q.w + 1) % 65536, (q.e + 1) % 65536⟩, true)

/-- Pops the oldest entry, if there is one (R395). -/
def StdQueue.pop {α : Type} (q : StdQueue α) : Option α × StdQueue α :=
  match q.entries with
  | [] => (none, q)
  | x :: t => (some x, ⟨t, q.w, (q.e + 1) % 65536⟩)

/-! ### Error reporting (R405 to R410) -/

/-- The class of a source, for the sources of R405. -/
def srcClass (n : Nat) : Option Nat :=
  if n = 0x100 ∨ n = 0x101 then some 1
  else if n = 0x102 ∨ n = 0x103 then some 2
  else if n = 0x104 then some 8
  else if 0x140 ≤ n ∧ n ≤ 0x143 then some 2
  else if n = 0x180 ∨ n = 0x181 then some 3
  else if 0x1C0 ≤ n ∧ n ≤ 0x1C2 then some 4
  else if n = 0x200 ∨ n = 0x201 then some 5
  else if n = 0x202 ∨ n = 0x203 then some 6
  else if 0x300 ≤ n ∧ n ≤ 0x30F then some 7
  else if 0x310 ≤ n ∧ n ≤ 0x317 then some 8
  else if n = 0x380 ∨ n = 0x381 then some 1
  else if 0x382 ≤ n ∧ n ≤ 0x386 then some 9
  else if 0x3A0 ≤ n ∧ n ≤ 0x3A9 then some 10
  else if 0x400 ≤ n ∧ n ≤ 0x41E then some 11
  else if (0x440 ≤ n ∧ n ≤ 0x461) ∨ n = 0x47C ∨ n = 0x47D then some 12
  else if n = 0x470 ∨ (0x481 ≤ n ∧ n ≤ 0x4A1) ∨ (0x4C0 ≤ n ∧ n ≤ 0x4C5) then some 13
  else if 0x500 ≤ n ∧ n ≤ 0x504 then some 8
  else if n = 0x505 ∨ n = 0x540 ∨ n = 0x541 then some 14
  else if 0x520 ≤ n ∧ n ≤ 0x524 then some 4
  else none

/-- The state of a source; a source that is not listed has never been raised. -/
def srcGet (n : Nat) (l : List SrcState) : SrcState :=
  (l.find? fun x => x.source == n).getD ⟨n, 0, 0, none, 0, false⟩

/-- Replaces the state of a source, in rising source order. -/
def srcPut (x : SrcState) : List SrcState → List SrcState
  | [] => [x]
  | y :: t => if x.source < y.source then x :: y :: t else if x.source = y.source then x :: t else y :: srcPut x t

/-- R408 for one raise: the source's report becomes pending, or the raise is suppressed; the second result says that. -/
def srcRaise (code : Status) (die : Die) (time : Nat) (detail : List Byte) (x : SrcState) : SrcState × Bool :=
  let x := { x with count := satInc32 x.count 1, last := time }
  if x.pending.isSome ∨ 8 ≤ x.queued then ({ x with suppressed := true }, true)
  else
    ({ x with
        pending := some ⟨0, x.source, (srcClass x.source).getD 0, code, die, false, time, padBytes 16 detail⟩ }, false)

/-- The source queues its pending report (R408): it counts towards the quota, and the mark SUPPRESSED of the raises before it goes with it. -/
def SrcState.queue (x : SrcState) : SrcState := { x with pending := none, queued := x.queued + 1, suppressed := false }

/-- A raise on a span, without its response: counter, class bit, pending report (R407 steps 1, 2 and 4). -/
def State.raiseQuiet (s : State) (sp : SpanId) (src : Nat) (code : Status) (detail : List Byte) : State :=
  let r := srcRaise code (.span sp) (s.now sp) detail (srcGet src (s.span sp).err.srcs)
  let s := s.upd sp fun x => { x with err := { x.err with srcs := srcPut r.1 x.err.srcs } }
  let s := s.bump64 sp Reg.errRaisedLo Reg.errRaisedHi 1
  let s := if r.2 then s.bump sp Fld.errSuppressedCount 1 else s
  let sticky := s.reg sp Reg.errClassSticky ||| (1 <<< (srcClass src).getD 0)
  s.setReg sp Reg.errClassSticky sticky

/-- A raise at a source of the hub die (R410): the hub applies R408 and sends what it queues to both spans. -/
def State.raiseHub (s : State) (src : Nat) (code : Status) (detail : List Byte) : State :=
  let r := srcRaise code .hub 0 detail (srcGet src s.hub.srcs)
  let x := r.1
  match x.pending, r.2 with
  | some rep, false =>
    s.updHub fun h => { h with
      srcs := srcPut x.queue h.srcs
      toA := h.toA ++ [{ rep with suppressed := x.suppressed }]
      toB := h.toB ++ [{ rep with suppressed := x.suppressed }] }
  | _, _ => s.updHub fun h => { h with srcs := srcPut x h.srcs }

/-- A signed change of a time, not below zero. -/
def addSigned (t : Nat) (d : Int) : Nat := ((t : Int) + d).toNat

/-- TAI minus UTC in force, signed (R165). -/
def State.utcOffset (s : State) (sp : SpanId) : Int := (BitVec.ofNat 16 (s.fld sp Fld.tbUtcOffsetOffset)).toInt

end Sys2Proof.Machine
end

