-- ==== Sys2Proof/Machine/Scenes.lean ====
section
/-!
DEFINITION. Reading the configuration in force: its scenes and their fields (chapters Storyboard, Owners, Stream ports, Stream tag
engine, Worlds), and the unit's critical fuse words.
-/

namespace Sys2Proof.Machine

/-! ### Scenes -/

/-- The payload of a scene in force. -/
def Storyboard.scene (c : Storyboard) (type inst : Nat) : Option (List Byte) :=
  (c.find? fun x => x.type == type && x.inst == inst).map (·.payload)

/-- The scenes of a type. -/
def Storyboard.ofType (c : Storyboard) (type : Nat) : List Scene := c.filter fun x => x.type == type

/-- The canonical scene list (R34): scenes by TYPE, then INSTANCE, each payload after its table entry with OP and OFFSET zero. -/
def canonical (c : Storyboard) : List Byte :=
  (sortBy (fun x y => decide (x.type < y.type ∨ (x.type = y.type ∧ x.inst ≤ y.inst))) c).flatMap fun x =>
    leBytes 2 x.type ++ leBytes 1 x.owner ++ [0] ++ leBytes 4 x.inst ++ leBytes 4 0 ++ leBytes 4 x.payload.length ++ x.payload

/-- The configuration digest (R34). -/
def Storyboard.digest (c : Storyboard) : List Byte := sha256 (canonical c)

/-- The SITE payload in force; none at epoch 0. -/
def Storyboard.site (c : Storyboard) : Option (List Byte) := c.scene 1 0

/-- A SITE field. -/
def Storyboard.siteNat (c : Storyboard) (off n : Nat) : Nat := ((c.site).map fun p => leField p off n).getD 0

/-- PRODUCER_COUNT, PRODUCER_QUORUM, APPROVAL_WINDOW in nanoseconds. -/
def Storyboard.producers (c : Storyboard) : Nat := c.siteNat 2 1
/-- PRODUCER_QUORUM. -/
def Storyboard.producerQuorum (c : Storyboard) : Nat := c.siteNat 3 1
/-- APPROVAL_WINDOW in nanoseconds. -/
def Storyboard.window (c : Storyboard) : Nat := c.siteNat 8 2 * sec
/-- Whether PROTECTION is ANCHORED. -/
def Storyboard.anchored (c : Storyboard) : Bool := c.siteNat 4 1 == 1

/-- An officer record: index, algorithm, public key (R59). -/
structure Officer where
  index : Nat
  alg : Nat
  key : List Byte
deriving DecidableEq, Repr

/-- The officer records of an OWNER payload, `n` of them from an offset on. -/
def officersFrom (p : List Byte) : Nat → Nat → List Officer
  | 0, _ => []
  | n + 1, off =>
    let len := leField p (off + 2) 2
    ⟨leField p off 1, leField p (off + 1) 1, sliceBytes p (off + 8) len⟩ :: officersFrom p n (off + 8 + (len + 7) / 8 * 8)

/-- The officers of an owner; the producers for owner 0 (R60). -/
def Storyboard.officers (c : Storyboard) (owner : Nat) : List Officer :=
  if owner = 0 then
    match c.site with
    | none => []
    | some p => (List.range (leField p 2 1)).map fun i => ⟨i, 1, sliceBytes p (64 + 104 * i) 97⟩
  else
    match c.scene 2 owner with
    | none => []
    | some p => officersFrom p (leField p 3 1) 32

/-- M of an owner: QUORUM of its OWNER scene, PRODUCER_QUORUM for owner 0. -/
def Storyboard.quorum (c : Storyboard) (owner : Nat) : Nat :=
  if owner = 0 then c.producerQuorum else ((c.scene 2 owner).map fun p => leField p 4 1).getD 0

/-- The officer with an index. -/
def Storyboard.officer (c : Storyboard) (owner index : Nat) : Option Officer := (c.officers owner).find? fun o => o.index == index

/-- A signer's key in force, with its algorithm. -/
def Storyboard.signerKey (c : Storyboard) (w : Signer) : Option Officer :=
  match w.role with
  | .producer => if w.owner = 0 then c.officer 0 w.index else none
  | .officer => if 0 < w.owner then c.officer w.owner w.index else none
  | _ => none

/-- The CONTEXT_RANGE payload whose range holds a context. -/
def Storyboard.range (c : Storyboard) (n : Nat) : Option (List Byte) :=
  ((c.ofType 4).find? fun x => decide (leField x.payload 0 2 ≤ n ∧ n < leField x.payload 0 2 + leField x.payload 2 2)).map (·.payload)

/-- The owner whose range holds a context; none outside every range. -/
def Storyboard.ctxOwner (c : Storyboard) (n : Nat) : Option Nat := (c.range n).map fun p => leField p 4 1

/-- The KEY_QUOTA of an owner: objects and counters. -/
def Storyboard.quota (c : Storyboard) (owner : Nat) : Nat × Nat :=
  ((c.scene 6 owner).map fun p => (leField p 4 4, leField p 8 4)).getD (0, 0)

/-- A coverage template, as the payload of its scene (Coverage templates). -/
abbrev Template := List Byte

/-- FRAME_CLASS. -/
def Template.frameClass (t : Template) : Nat := leField t 2 1
/-- NONCE_MODE: 1 SV, 2 GOOSE, 3 ROUTABLE. -/
def Template.mode (t : Template) : Nat := leField t 3 1
/-- NONCE_PREFIX. -/
def Template.prefixed (t : Template) : Bool := (leField t 4 1).testBit 0
/-- EXCLUDE_VLAN. -/
def Template.noVlan (t : Template) : Bool := (leField t 4 1).testBit 1
/-- EXCLUDE_HSR. -/
def Template.noHsr (t : Template) : Bool := (leField t 4 1).testBit 2
/-- PLACE is INSERT. -/
def Template.insert (t : Template) : Bool := leField t 5 1 == 1
/-- RANGE_COUNT. -/
def Template.ranges (t : Template) : Nat := leField t 6 1
/-- KEYID_BYTES. -/
def Template.keyIdBytes (t : Template) : Nat := leField t 7 1
/-- TAG_BYTES. -/
def Template.tagBytes (t : Template) : Nat := leField t 8 1
/-- PREFIX_LEN. -/
def Template.prefixLen (t : Template) : Nat := leField t 9 1
/-- PREFIX, cut to its length. -/
def Template.prefix_ (t : Template) : List Byte := sliceBytes t 10 t.prefixLen
/-- B, the length of the tag block. -/
def Template.block (t : Template) : Nat := t.prefixLen + t.keyIdBytes + t.tagBytes

/-- The TEMPLATE payload of a template number. -/
def Storyboard.template (c : Storyboard) (n : Nat) : Option Template := c.scene 10 n

/-- The PORT payload of a stream port P0 to P3. -/
def Storyboard.port (c : Storyboard) (p : Nat) : Option (List Byte) := c.scene 3 p

/-- A field of a guest's WORLD scene; zero for a guest without one. -/
def Storyboard.world (c : Storyboard) (g off n : Nat) : Nat := ((c.scene 8 g).map fun p => leField p off n).getD 0

/-- CORES of a guest on a span. -/
def Storyboard.cores (c : Storyboard) (sp : SpanId) (g : Nat) : Nat := c.world g (match sp with | .a => 4 | .b => 5) 1

/-- The response entry of a source in a policy payload: ACTION and OWNER_MASK. -/
def responseIn (p : List Byte) (src : Nat) : Option (Nat × Nat) :=
  ((List.range (p.length / 8)).find? fun i => leField p (8 * i) 2 == src).map fun i => (leField p (8 * i + 2) 1, leField p (8 * i + 4) 4)

/-- The ERROR_POLICY entry of a source: REPORT before the first policy (R411). -/
def Storyboard.errorPolicy (c : Storyboard) (src : Nat) : Nat × Nat :=
  ((c.scene 13 0).bind fun p => responseIn p src).getD (1, 0)

/-! ### Fuses -/

/-- A fuse word as read at the three references. -/
def Fuses.word (f : Fuses) (n : Nat) : FuseWord := (f.words.find? fun w => w.n == n).getD ⟨n, 0, 0, 0⟩

/-- A word is clean when the three readings agree (R375, R376). -/
def FuseWord.clean (w : FuseWord) : Bool := w.norm == w.low && w.norm == w.high

/-- The value of a critical word held in three copies: that of two clean copies that agree (R376). -/
def Fuses.critical (f : Fuses) (c0 c1 c2 : Nat) : Option Nat :=
  let a := f.word c0; let b := f.word c1; let c := f.word c2
  if a.clean ∧ b.clean ∧ a.norm = b.norm then some a.norm
  else if a.clean ∧ c.clean ∧ a.norm = c.norm then some a.norm
  else if b.clean ∧ c.clean ∧ b.norm = c.norm then some b.norm else none

/-- The code of a life-cycle state after BLANK. -/
def lifeCode (n : Nat) : Nat :=
  if n = 1 then 0x96C35A3C else if n = 2 then 0xA5F00F5A else if n = 3 then 0x5AC33CA5 else if n = 4 then 0xC35AA53C else 0x0FF0F00F

/-- A state counts as reached if its code reads exactly, at both margins, in two of its three copies (R378). -/
def Fuses.reached (f : Fuses) (n : Nat) : Bool :=
  decide (2 ≤ ((List.range 3).filter fun j => let w := f.word (9 + 3 * n + j); w.low == lifeCode n && w.high == lifeCode n).length)

/-- The life-cycle state of a span: the highest state reached, 0 BLANK to 5 SCRAP (R378). -/
def Fuses.life (f : Fuses) : Nat :=
  if f.reached 5 then 5 else if f.reached 4 then 4 else if f.reached 3 then 3 else if f.reached 2 then 2 else if f.reached 1 then 1 else 0

/-- The life-cycle state of the module: the lower of the two spans' (R378). -/
def State.lcState (s : State) : Nat := min s.a.fuses.life s.b.fuses.life

/-- The limits of the REDUCED tier apply on a span (R424, R425): the declared tier is REDUCED, or the available tier is while FULL is declared. -/
def State.reducedLimits (s : State) (sp : SpanId) : Bool :=
  let declared := (s.span sp).rep.config.siteNat 5 1
  declared == 2 || (declared == 1 && s.hub.power.tier == 2)

/-- A further lane of a span may run a job: in the REDUCED tier at most two do at once (R424, R425). -/
def State.laneRoom (s : State) (sp : SpanId) : Bool :=
  !s.reducedLimits sp || decide (((s.span sp).lanes.filter fun l => l.mode != .idle && l.mode != .held).length < 2)

end Sys2Proof.Machine
end

