-- ==== Sys2Proof/Machine/Tag.lean ====
section
/-!
DEFINITION. MATERIAL of a key slot and the check values of the stream tag engine (R126, R135).
-/

namespace Sys2Proof.Machine

/-- MATERIAL, the 352 bytes that the secure world expands from a key (Key-slot entry). -/
def expandMaterial (alg : Nat) (key : List Byte) : List Byte :=
  if alg = 1 then
    let k := padBytes 64 key
    padBytes 352 (shaBytes (sha256Block sha256Init (k.map (· ^^^ 0x36))) ++ shaBytes (sha256Block sha256Init (k.map (· ^^^ 0x5c))))
  else
    let rks := padBytes 240 (aesRoundKeys key).flatten
    let h := blockVal (aesEncrypt key (zeroBytes 16))
    let tail := if alg = 4 then
        let k1 := cmacDouble h
        blockBytes k1 ++ blockBytes (cmacDouble k1)
      else
        let h2 := gcmMul 128 h h
        let h3 := gcmMul 128 h2 h
        blockBytes h ++ blockBytes h2 ++ blockBytes h3 ++ blockBytes (gcmMul 128 h3 h)
    padBytes 352 (rks ++ tail)

/-- The AES round keys of a slot. -/
def Slot.roundKeys (sl : Slot) : List (List Byte) :=
  (List.range (if sl.alg = 3 then 15 else 11)).map fun i => sliceBytes sl.material (16 * i) 16

/-- The check value of covered bytes `a` under a slot and a nonce, cut to `tagBytes` (R126). -/
def Slot.tag (sl : Slot) (n a : List Byte) (prefixed : Bool) (tagBytes : Nat) : List Byte :=
  let m := if prefixed then n ++ a else a
  let full :=
    if sl.alg = 1 then
      let ih := sha256From (shaState (sliceBytes sl.material 0 32)) m (64 + m.length)
      sha256From (shaState (sliceBytes sl.material 32 32)) ih 96
    else if sl.alg = 4 then
      cmacWith (aesWith sl.roundKeys) (blockVal (sliceBytes sl.material 240 16)) (blockVal (sliceBytes sl.material 256 16)) m
    else
      let h := blockVal (sliceBytes sl.material 240 16)
      blockBytes (ghash h a [] ^^^ blockVal (aesWith sl.roundKeys (n ++ beBytes 4 1)))
  full.take tagBytes

end Sys2Proof.Machine
end

