-- ==== Sys2Proof/Machine/Frames.lean ====
section
/-!
DEFINITION. Frames as byte strings: the header and its class (R89, R90), the classification key, coverage templates with their anchors,
locators, ranges and placement (R119 to R124), and nonces (R140 to R145). A frame here ends with its four FCS bytes.
-/

namespace Sys2Proof.Machine

/-! ### Header -/

/-- The classes of a frame (Frame recognition). -/
inductive FrameClass where
  | other
  | svEth
  | gooseEth
  | svUdp
  | gooseUdp
  | ptp
deriving DecidableEq, Repr

/-- The KCLASS code. -/
def FrameClass.code : FrameClass → Nat
  | .other => 0
  | .svEth => 1
  | .gooseEth => 2
  | .svUdp => 3
  | .gooseUdp => 4
  | .ptp => 5

/-- What the parser records of a frame: where its tags start, the byte after the last EtherType, that EtherType, its class, the start of
the UDP header, the IP version, and the LanId of a recognised PRP trailer. -/
structure Header where
  stag : Option Nat
  ctag : Option Nat
  hsr : Option Nat
  etypeEnd : Nat
  etype : Nat
  cls : FrameClass
  ipVersion : Nat
  udp : Nat
  trailer : Option Nat
deriving DecidableEq, Repr

/-- A byte of a frame. -/
def byteAt (f : List Byte) (i : Nat) : Nat := (f.getD i 0).toNat

/-- The start of the UDP header of an IP frame that R89 accepts, with its IP version. -/
def udpStart (f : List Byte) (etype e port : Nat) : Option (Nat × Nat) :=
  let v := byteAt f e / 16
  let r : Option (Nat × Nat) :=
    if etype = 0x0800 ∧ v = 4 ∧ 5 ≤ byteAt f e % 16 ∧ beField f (e + 6) 2 % 0x2000 = 0 ∧ byteAt f (e + 6) / 32 % 2 = 0 ∧
        byteAt f (e + 9) = 17 then
      some (e + 4 * (byteAt f e % 16), 4)
    else if etype = 0x86DD ∧ v = 6 ∧ byteAt f (e + 6) = 17 then some (e + 40, 6)
    else none
  match r with
  | some (u, n) => if beField f (u + 2) 2 = port then some (u, n) else none
  | none => none

/-- The parser (R89, R90): `port` is UDP_PORT, `siSv` and `siGo` the session identifiers, `ptp` the port's PTP field. -/
def parseFrame (f : List Byte) (port siSv siGo : Nat) (ptp : Bool) : Header :=
  let dataEnd := f.length - 4
  let lim := min 128 dataEnd
  let o0 := 12
  let hasS := beField f o0 2 == 0x88A8
  let o1 := if hasS then o0 + 4 else o0
  let hasC := beField f o1 2 == 0x8100
  let o2 := if hasC then o1 + 4 else o1
  let hasH := beField f o2 2 == 0x892F
  let o3 := if hasH then o2 + 6 else o2
  let etype := beField f o3 2
  let e := o3 + 2
  let size := bitsOf (beField f (f.length - 8) 2) 11 0
  let lan := bitsOf (beField f (f.length - 8) 2) 15 12
  let trailer := if 10 ≤ f.length ∧ beField f (f.length - 6) 2 = 0x88FB ∧ e ≤ dataEnd ∧ size = dataEnd - e then some lan else none
  let u := udpStart f etype e port
  let r : FrameClass × Nat × Nat :=
    if lim < e then (.other, 0, 0)
    else if etype = 0x88F7 ∧ ptp then (.ptp, 0, 0)
    else if etype = 0x88BA then (if e + 2 ≤ lim then .svEth else .other, 0, 0)
    else if etype = 0x88B8 then (if e + 2 ≤ lim then .gooseEth else .other, 0, 0)
    else
      match u with
      | some (p, v) =>
        if p + 9 ≤ lim then
          (if byteAt f (p + 8) = siSv then (.svUdp, v, p) else if byteAt f (p + 8) = siGo then (.gooseUdp, v, p) else (.other, 0, 0))
        else (.other, 0, 0)
      | none => (.other, 0, 0)
  ⟨if hasS then some o0 else none, if hasC then some o1 else none, if hasH then some o2 else none, e, etype, r.1, r.2.1, r.2.2, trailer⟩

/-- The 256-bit classification key (Classification key). -/
def classKey (f : List Byte) (h : Header) : Nat :=
  let vid (o : Option Nat) : Nat := (o.map fun i => beField f (i + 2) 2 % 0x1000).getD 0
  let top := h.cls.code * 2 ^ 252 + boolNat h.ctag.isSome * 2 ^ 249 + boolNat h.stag.isSome * 2 ^ 248 + vid h.ctag * 2 ^ 236 +
    vid h.stag * 2 ^ 224
  let addr (off4 off6 : Nat) : Nat :=
    let e := h.etypeEnd
    if h.ipVersion = 4 then 0xFFFF * 2 ^ 32 + beField f (e + off4) 4 else beField f (e + off6) 16
  match h.cls with
  | .svUdp | .gooseUdp =>
    top + beField f (h.udp + 2) 2 * 2 ^ 208 + h.ipVersion * 2 ^ 200 + addr 16 24 * 2 ^ 64 + addr 12 8 % 2 ^ 64
  | .svEth | .gooseEth => top + beField f h.etypeEnd 2 * 2 ^ 208 + beField f 0 6 * 2 ^ 160 + beField f 6 6 * 2 ^ 112
  | _ => top + h.etype * 2 ^ 208 + beField f 0 6 * 2 ^ 160 + beField f 6 6 * 2 ^ 112

/-- The FCS of frame bytes, as transmitted (IEEE 802.3). -/
def fcs (body : List Byte) : List Byte := leBytes 4 (crc32 body).toNat

/-- Whether a frame's FCS is valid. -/
def fcsValid (f : List Byte) : Bool := f.drop (f.length - 4) == fcs (f.take (f.length - 4))

/-! ### Templates -/

/-- A signed 16-bit field. -/
def signed16 (v : Nat) : Int := if v < 0x8000 then (v : Int) else (v : Int) - 0x10000

/-- The anchors of a frame: ETYPE_END, L4, PDU_END, TAIL, and the end of its data before the FCS. -/
structure Anchors where
  etypeEnd : Nat
  l4 : Option Nat
  pduEnd : Nat
  tail : Nat
  dataEnd : Nat
deriving DecidableEq, Repr

/-- The anchors of a frame whose TAIL and data end are given (Anchors). -/
def anchors (f : List Byte) (h : Header) (tail dataEnd : Nat) : Anchors :=
  match h.cls with
  | .svUdp | .gooseUdp => ⟨h.etypeEnd, some (h.udp + 8), h.udp + beField f (h.udp + 4) 2, tail, dataEnd⟩
  | _ => ⟨h.etypeEnd, none, h.etypeEnd + beField f (h.etypeEnd + 2) 2, tail, dataEnd⟩

/-- The position of an anchor by its code. -/
def Anchors.at_ (a : Anchors) (code : Nat) : Option Int :=
  match code with
  | 0 => some 0
  | 1 => some a.etypeEnd
  | 2 => a.l4.map fun x => (x : Int)
  | 3 => some a.pduEnd
  | 4 => some a.tail
  | _ => none

/-- An element of a BER sequence at a position within a parent's end: its identifier, content start and length (R119). -/
def berElement (f : List Byte) (pos fin : Nat) : Option (Nat × Nat × Nat) :=
  let id := byteAt f pos
  let l := byteAt f (pos + 1)
  let r : Option (Nat × Nat) :=
    if l < 0x80 then some (pos + 2, l)
    else if l = 0x81 then some (pos + 3, byteAt f (pos + 2))
    else if l = 0x82 then some (pos + 4, beField f (pos + 2) 2)
    else none
  match r with
  | some (c, n) => if id % 32 = 31 ∨ fin < c + n then none else some (id, c, n)
  | none => none

/-- The first sibling element with an identifier: content start and length (R119). -/
def berFind (f : List Byte) (tag : Nat) : Nat → Nat → Nat → Option (Nat × Nat)
  | 0, _, _ => none
  | k + 1, pos, fin =>
    if fin ≤ pos then none
    else
      match berElement f pos fin with
      | some (id, c, n) => if id = tag then some (c, n) else berFind f tag k (c + n) fin
      | none => none

/-- Where a locator's field lies: start and length, or none where it does not resolve (R119). The locator's 12 bytes lie at `off` of the
template. -/
def Template.locate (t : Template) (off : Nat) (f : List Byte) (a : Anchors) : Option (Nat × Nat) :=
  let width := leField t (off + 2) 1
  match a.at_ (leField t off 1) with
  | none => none
  | some p =>
    let start := p + signed16 (leField t (off + 4) 2)
    if start < 0 then none
    else
      let pos := start.toNat
      match leField t (off + 1) 1 with
      | 1 => if pos + width ≤ a.dataEnd then some (pos, width) else none
      | 2 =>
        let path := (List.range (leField t (off + 3) 1)).map fun i => leField t (off + 8 + i) 1
        let r := path.foldl (fun (acc : Option (Nat × Nat)) tag =>
          acc.bind fun x => berFind f tag f.length x.1 (x.1 + x.2)) (some (pos, a.dataEnd - pos))
        match r with
        | some (c, n) => if 1 ≤ n ∧ (n ≤ width ∨ (n = width + 1 ∧ byteAt f c = 0)) then some (c, n) else none
        | none => none
      | _ => none

/-- The covered bytes of a final frame whose tag block starts at `block` (R121); none where a range reaches outside the frame. -/
def Template.covered (t : Template) (f : List Byte) (h : Header) (a : Anchors) (block : Nat) : Option (List Byte) :=
  let tag := block + t.prefixLen + t.keyIdBytes
  let within (i : Nat) (o : Option Nat) (n : Nat) : Bool := match o with | some x => decide (x ≤ i ∧ i < x + n) | none => false
  let skip (i : Nat) : Bool :=
    decide (tag ≤ i ∧ i < tag + t.tagBytes) || (t.noVlan && (within i h.stag 4 || within i h.ctag 4)) || (t.noHsr && within i h.hsr 6) ||
      ((h.cls == .svUdp || h.cls == .gooseUdp) && within i (some (h.udp + 6)) 2)
  (List.range t.ranges).foldl (fun acc r =>
    let o := 96 + 8 * r
    match acc, a.at_ (leField t o 1), a.at_ (leField t (o + 1) 1) with
    | some l, some x, some y =>
      let s := x + signed16 (leField t (o + 4) 2)
      let e := y + signed16 (leField t (o + 6) 2)
      if e < s ∨ s < 0 ∨ (a.dataEnd : Int) < e then none
      else some (l ++ ((List.range (e - s).toNat).filterMap fun i =>
        if skip (s.toNat + i) then none else some (f.getD (s.toNat + i) 0)))
    | _, _, _ => none) (some [])

/-- The frame counters that the template's locators read (R140, R141): the two counters, the cut value in the frame (GOOSE), and the era
field (ROUTABLE). -/
structure Counters where
  a : Nat
  b : Nat
  cut : Nat
  era : Nat
deriving DecidableEq, Repr

/-- Reads the counters; none where a locator does not resolve, or the frame is too short for the era field (R119, R120, R141). -/
def Template.counters (t : Template) (f : List Byte) (a : Anchors) : Option Counters :=
  match t.locate 20 f a with
  | none => none
  | some (pa, na) =>
    let va := beField f pa na
    match t.mode with
    | 2 =>
      match t.locate 32 f a, t.locate 44 f a with
      | some (pb, nb), some (pc, nc) => if 4 ≤ nc then some ⟨va, beField f pb nb, beField f pc 4, 0⟩ else none
      | _, _ => none
    | 3 => if pa + na + 6 ≤ a.dataEnd then some ⟨va, 0, 0, beField f (pa + na + 2) 4⟩ else none
    | _ => some ⟨va, 0, 0, 0⟩

/-- Writes bytes over a frame at a position. -/
def overwrite (f : List Byte) (pos : Nat) (bs : List Byte) : List Byte := f.take pos ++ bs ++ f.drop (pos + bs.length)

/-- Adds B to the 16-bit length field that a locator names, if it names one; none where it does not resolve or would pass 0xFFFF
(R122, R123). -/
def Template.lenFix (t : Template) (off : Nat) (a : Anchors) (orig f : List Byte) : Option (List Byte) :=
  if leField t (off + 1) 1 = 0 then some f
  else
    match t.locate off orig a with
    | some (p, _) =>
      let v := beField orig p 2 + t.block
      if a.dataEnd < p + 2 ∨ 0xFFFF < v then none else some (overwrite f p (beBytes 2 v))
    | none => none

/-- A final frame of the sign direction before its tag is written: data bytes without FCS, header anchors on it, and where the tag block
starts; none for TEMPLATE_MISMATCH (R122, R123). -/
def Template.place (t : Template) (f : List Byte) (h : Header) (a : Anchors) : Option (List Byte × Anchors × Nat) :=
  let data := f.take a.dataEnd
  if t.insert then
    if h.trailer.isSome ∨ h.hsr.isSome then none
    else
      match (t.lenFix 68 a f data).bind fun d => t.lenFix 80 a f d with
      | some d =>
        let d := d.take a.tail ++ zeroBytes t.block ++ d.drop a.tail
        some (d, anchors d h (a.tail + t.block) (a.dataEnd + t.block), a.tail)
      | none => none
  else
    match t.locate 56 f a with
    | some (p, _) => if p + t.block ≤ a.dataEnd then some (data, a, p) else none
    | none => none

/-- Where the tag block of a received frame starts in the verify direction (R122). -/
def Template.blockAt (t : Template) (f : List Byte) (a : Anchors) : Option Nat :=
  if t.insert then (if t.block ≤ a.tail then some (a.tail - t.block) else none)
  else
    match t.locate 56 f a with
    | some (p, _) => if p + t.block ≤ a.dataEnd then some p else none
    | none => none

/-- The sum of 16-bit words in one's complement. -/
def onesAdd (x y : Nat) : Nat := (x + y) % 0x10000 + (x + y) / 0x10000

/-- The UDP checksum after a change from `old` to `new`, updated word by word (R124, RFC 1624). -/
def udpFix (old new : List Byte) (h : Header) : List Byte :=
  let c := beField old (h.udp + 6) 2
  if h.cls ≠ .svUdp ∧ h.cls ≠ .gooseUdp ∨ (h.ipVersion = 4 ∧ c = 0) then new
  else
    let len := beField old (h.udp + 4) 2
    let word (f : List Byte) (i : Nat) : Nat :=
      256 * byteAt f (h.udp + 2 * i) + (if 2 * i + 1 < len then byteAt f (h.udp + 2 * i + 1) else 0)
    let s := (List.range ((len + 1) / 2)).foldl (fun acc i =>
      if i = 3 ∨ word old i = word new i then acc else onesAdd (onesAdd acc (0xFFFF - word old i)) (word new i)) (0xFFFF - c)
    let r := 0xFFFF - s
    overwrite new (h.udp + 6) (beBytes 2 (if r = 0 then 0xFFFF else r))

/-! ### Nonces -/

/-- The nonce of a frame in network order (R140): salt, counters, era second, frame class. -/
def nonceBytes (t : Template) (salt era : Nat) (c : Counters) : List Byte :=
  match t.mode with
  | 1 => beBytes 4 salt ++ beBytes 5 era ++ beBytes 2 c.a ++ beBytes 1 t.frameClass
  | 2 => beBytes 4 salt ++ beBytes 4 c.a ++ beBytes 4 c.b
  | _ => beBytes 4 salt ++ beBytes 4 c.a ++ beBytes 4 c.era

/-- The sequence index I of a nonce (R140, R143). -/
def nonceIndex (mode rate : Nat) (n : Nat) : Nat :=
  match mode with
  | 1 => bitsOf n 63 24 * rate + bitsOf n 23 8
  | 2 => bitsOf n 63 32 * 2 ^ 32 + bitsOf n 31 0
  | _ => bitsOf n 31 0 * 2 ^ 32 + bitsOf n 63 32

/-- The era second of an SV frame, or the reason code of a refusal (R145): `t` is the receive time, `c` smpCnt, `r` RATE. -/
def eraSecond (x : StreamRec) (qualified : Bool) (t c r : Nat) : Except Nat Nat :=
  if x.eraValid = false ∨ x.lastRx + 500000000 < t then
    if qualified = false then .error 4
    else
      let y : Int := (t : Int) - ((c * 1000000000 / r : Nat) : Int)
      let e := (y + 500000000) / 1000000000
      if 250000000 < (y - e * 1000000000).natAbs then .error 3 else .ok e.toNat
  else
    let hw := bitsOf x.nonceHw 23 8
    let d := (c + r - hw) % r
    if 1 ≤ d ∧ d ≤ r / 2 then .ok (x.eraSecond + (if c < hw then 1 else 0))
    else .ok (x.eraSecond - (if hw < c then 1 else 0))

end Sys2Proof.Machine
end

