-- ==== Sys2Proof/Machine/DrbgOps.lean ====
section
/-!
DEFINITION. The entropy unit's pool and its three HMAC_DRBG instances (SP 800-90A with SHA-256, R284 to R291): allocation of pool
blocks, instantiation, reseeding, and a request.
-/

namespace Sys2Proof.Machine

/-! ### HMAC_DRBG -/

/-- The update function of HMAC_DRBG with some data: the new K and V. -/
def drbgUpdate (key v data : List Byte) : List Byte × List Byte :=
  let k1 := hmacSha256 key (v ++ [0] ++ data)
  let v1 := hmacSha256 k1 v
  if data = [] then (k1, v1)
  else
    let k2 := hmacSha256 k1 (v1 ++ [1] ++ data)
    (k2, hmacSha256 k2 v1)

/-- `n` output blocks of 32 bytes, and the V after them. -/
def drbgBlocks (key : List Byte) : Nat → List Byte → List Byte × List Byte
  | 0, v => ([], v)
  | n + 1, v =>
    let v := hmacSha256 key v
    let r := drbgBlocks key n v
    (v ++ r.1, r.2)

/-- Instantiates from entropy input, nonce and personalisation string. -/
def Drbg.instantiate (seed : List Byte) (now : Nat) : Drbg :=
  let r := drbgUpdate (zeroBytes 32) (List.replicate 32 1) seed
  ⟨true, r.1, r.2, 0, now⟩

/-- Reseeds from one block. -/
def Drbg.reseed (d : Drbg) (entropy : List Byte) (now : Nat) : Drbg :=
  let r := drbgUpdate d.key d.v entropy
  ⟨true, r.1, r.2, 0, now⟩

/-- Generates `n` bytes. -/
def Drbg.generate (d : Drbg) (n : Nat) : List Byte × Drbg :=
  let r := drbgBlocks d.key ((n + 31) / 32) d.v
  let u := drbgUpdate d.key r.2 []
  (r.1.take n, { d with key := u.1, v := u.2, reqs := d.reqs + 1 })

/-! ### The unit -/

/-- An instance by number. -/
def Entropy.drbg (e : Entropy) (i : Nat) : Drbg := if i = 0 then e.d0 else if i = 1 then e.d1 else e.d2

/-- Replaces an instance. -/
def Entropy.setDrbg (e : Entropy) (i : Nat) (d : Drbg) : Entropy :=
  if i = 0 then { e with d0 := d } else if i = 1 then { e with d1 := d } else { e with d2 := d }

/-- A source by number. -/
def Entropy.src (e : Entropy) (i : Nat) : EntSource :=
  if i = 0 then e.s0 else if i = 1 then e.s1 else if i = 2 then e.s2 else e.s3

/-- Replaces a source. -/
def Entropy.setSrc (e : Entropy) (i : Nat) (x : EntSource) : Entropy :=
  if i = 0 then { e with s0 := x } else if i = 1 then { e with s1 := x } else if i = 2 then { e with s2 := x } else { e with s3 := x }

/-- Changes the entropy unit of a span. -/
def State.updEnt (s : State) (sp : SpanId) (f : Entropy → Entropy) : State := s.upd sp fun x => { x with entropy := f x.entropy }

/-- The 128-bit unit ID from the fuses, in byte order (R376); zero while it is unreadable. -/
def State.unitId (s : State) (sp : SpanId) : List Byte :=
  (List.range 4).flatMap fun i => leBytes 4 (((s.span sp).fuses.critical i (4 + i) (8 + i)).getD 0)

/-- The personalisation string of an instance (R290). -/
def State.drbgPers (s : State) (sp : SpanId) (i : Nat) : List Byte :=
  asciiBytes "AKN-DRBG" ++ s.unitId sp ++ leBytes 1 sp.code ++ leBytes 1 i

/-- Shows the unit in its registers. -/
def State.showEnt (s : State) (sp : SpanId) : State :=
  let e := (s.span sp).entropy
  let s := (List.range 4).foldl (fun s i =>
    (s.setBit sp Reg.rngStatus i (e.src i).running).setBit sp Reg.rngStatus (4 + i) (e.src i).retired) s
  let s := s.setFld sp Fld.rngStatusPool e.pool.length
  let s := s.setFld sp Fld.rngStatusRushes (boolNat e.rushes.isSome)
  (List.range 3).foldl (fun s i =>
    let d := e.drbg i
    let s := (s.setFld sp (Fld.rngDrbgiStatusReqs i) d.reqs).setFld sp (Fld.rngDrbgiStatusInstantiated i) (boolNat d.seeded)
    s.setFld sp (Fld.rngDrbgiStatusWaiting i) (boolNat (e.waiting.any fun w => w.1 == i))) s

/-- The unit treats every caller as in the fatal state: FATAL, or rushes mode (R288, R294). -/
def State.entFatal (s : State) (sp : SpanId) : Bool := s.fld sp Fld.rngStatusFatal == 1 || (s.span sp).entropy.rushes.isSome

/-- Takes the oldest pool block. -/
def Entropy.take (e : Entropy) : Option (List Byte × Entropy) :=
  match e.pool with
  | [] => none
  | b :: t => some (b, { e with pool := t })

/-- Instantiates the instances that are not, in their order, each from two pool blocks (R290, R291). -/
def State.instantiateAll (s : State) (sp : SpanId) : State :=
  if s.entFatal sp ∨ s.fld sp Fld.rngCtrlEnable = 0 then s
  else
    (List.range 3).foldl (fun s i =>
      let e := (s.span sp).entropy
      if (e.drbg i).seeded then s
      else
        match e.pool with
        | a :: b :: t => (s.updEnt sp fun e => ({ e with pool := t }).setDrbg i (Drbg.instantiate (a ++ b ++ s.drbgPers sp i) s.elapsed)).showEnt sp
        | _ => s) s

/-- A request of `n` bytes to an instance, with or without prediction resistance (R290): none while it must wait. A reseed that is
due after 65,536 requests or 1 s happens if the pool has a block; at 1,048,576 requests the instance waits for one. -/
def State.random (s : State) (sp : SpanId) (i n : Nat) (pr : Bool) : Option (List Byte × State) :=
  let e := (s.span sp).entropy
  let d := e.drbg i
  if s.entFatal sp ∨ d.seeded = false ∨ s.fld sp Fld.rngCtrlEnable = 0 then none
  else
    let due := decide (65536 ≤ d.reqs ∨ d.reseeded + sec ≤ s.elapsed)
    let must := pr || decide (1048576 ≤ d.reqs)
    match e.pool, must with
    | [], true => none
    | _, _ =>
      let r : Drbg × Entropy := match e.pool with
        | b :: t => if must || due then (d.reseed b s.elapsed, { e with pool := t }) else (d, e)
        | [] => (d, e)
      let g := r.1.generate n
      let s := s.updEnt sp fun _ => r.2.setDrbg i g.2
      let s := s.bump64 sp Reg.rngOutBitsLo Reg.rngOutBitsHi (8 * n)
      some (g.1, s.showEnt sp)

/-- A request that cannot be served at once waits: STARVED, `RNG_WAITS`, WAITING (R292). One that waits already is not counted again. -/
def State.starved (s : State) (sp : SpanId) (i : Nat) (w : Waiter) : State :=
  if (s.span sp).entropy.waiting.contains (i, w) then s
  else
    let s := s.updEnt sp fun e => { e with waiting := e.waiting ++ [(i, w)] }
    ((s.setFld sp Fld.rngEvtStarved 1).bump sp Fld.rngWaitsCount 1).showEnt sp

/-- A request waits no more: it has been served, refused or given up. -/
def State.waitOver (s : State) (sp : SpanId) (w : Waiter) : State :=
  if (s.span sp).entropy.waiting.any (fun x => x.2 == w) then
    (s.updEnt sp fun e => { e with waiting := e.waiting.filter fun x => x.2 ≠ w }).showEnt sp
  else s

/-- Random bytes for the device's own use on a span (seeds, challenges, salts): from instance 0, or free bytes where the unit does not
serve (log entry 3). -/
def State.drawSpan (s : State) (sp : SpanId) (n : Nat) : List Byte × State := (s.random sp 0 n false).getD (s.draw n)

end Sys2Proof.Machine
end

