-- ==== Sys2Proof/Machine/Ctx.lean ====
section
/-!
DEFINITION. The two banks of context entries and key slots of a span, and what replicated changes do to them (R18, R113 to R116); the classification tables (R92 to R97, R469).
-/

namespace Sys2Proof.Machine

/-- A context entry of a bank. -/
def Bank.ctx (b : Bank) (n : Nat) : CtxEntry := sparseGet CtxEntry.empty n b.ctxs

/-- A key slot of a bank. -/
def Bank.slot (b : Bank) (n : Nat) (slotB : Bool) : Slot := sparseGet Slot.empty (2 * n + boolNat slotB) b.slots

/-- Replaces a context entry. -/
def Bank.setCtx (b : Bank) (n : Nat) (e : CtxEntry) : Bank :=
  { b with ctxs := sparseSet n e (decide (e ≠ CtxEntry.empty)) b.ctxs }

/-- Replaces a key slot. -/
def Bank.setSlot (b : Bank) (n : Nat) (slotB : Bool) (sl : Slot) : Bank :=
  { b with slots := sparseSet (2 * n + boolNat slotB) sl (decide (sl ≠ Slot.empty)) b.slots }

/-- The slots of a bank without those that a test picks. -/
def Bank.clear (b : Bank) (p : Slot → Bool) : Bank := { b with slots := b.slots.filter fun x => !p x.2 }

/-- Sets LOAD to EMPTY in every slot, in both banks, that a test picks (R172 step 3). -/
def Stream.clearSlots (x : Stream) (p : Slot → Bool) : Stream := { x with active := x.active.clear p, shadow := x.shadow.clear p }

/-- Fences every slot of a bank that holds an object. -/
def Bank.fence (handle : Nat) (b : Bank) : Bank :=
  { b with slots := b.slots.map fun y => if y.2.handle = handle ∧ y.2.load = .loaded then (y.1, { y.2 with load := .fenced }) else y }

/-- Changes the banks that ports still use after an epoch switch. -/
def Cls.mapBanks (c : Cls) (f : Bank → Bank) : Cls :=
  let g (v : PortView) : PortView := { v with bank := v.bank.map f }
  { c with old0 := c.old0.map g, old1 := c.old1.map g }

/-- Sets LOAD to EMPTY in every slot of a span that a test picks (R172 step 3). -/
def SpanState.clearSlots (x : SpanState) (p : Slot → Bool) : SpanState :=
  { x with stream := x.stream.clearSlots p, cls := x.cls.mapBanks fun b => b.clear p }

/-- Fences every slot of a span that holds an object (R134). -/
def SpanState.fenceSlots (x : SpanState) (handle : Nat) : SpanState :=
  { x with
    stream := { x.stream with active := x.stream.active.fence handle, shadow := x.stream.shadow.fence handle }
    cls := x.cls.mapBanks (Bank.fence handle) }

/-- SLOT_REFS of an object: the key-slot entries, in either bank, that hold it (R185). -/
def Stream.slotRefs (x : Stream) (handle : Nat) : Nat :=
  (x.active.slots.filter fun y => y.2.handle == handle).length + (x.shadow.slots.filter fun y => y.2.handle == handle).length

/-- The stream state of a context. -/
def Stream.rec_ (x : Stream) (n : Nat) : StreamRec := sparseGet ⟨0, 0, 0, false, false, 0, 0, 0⟩ n x.states

/-- Replaces the stream state of a context. -/
def Stream.setRec (x : Stream) (n : Nat) (r : StreamRec) : Stream :=
  { x with states := sparseSet n r (decide (r ≠ ⟨0, 0, 0, false, false, 0, 0, 0⟩)) x.states }

/-- Changes the stream tables of a span. -/
def State.updStream (s : State) (sp : SpanId) (f : Stream → Stream) : State := s.upd sp fun x => { x with stream := f x.stream }

/-- Shadow-bank write of a context entry (R116). -/
def State.shadowCtx (s : State) (sp : SpanId) (n : Nat) (e : CtxEntry) : State :=
  s.updStream sp fun x => { x with shadow := x.shadow.setCtx n e, dirty := n :: x.dirty.erase n, discarded := x.discarded.erase n }

/-- On a span whose unit root has failed its check every key slot stays EMPTY (R167). -/
def State.keepEmpty (s : State) (sp : SpanId) : State :=
  if s.fld sp Fld.vltStateVaultState = 3 then
    s.updStream sp fun x => { x with active := x.active.clear fun _ => true, shadow := x.shadow.clear fun _ => true }
  else s

/-- Shadow-bank write of a key slot (R116). -/
def State.shadowSlot (s : State) (sp : SpanId) (n : Nat) (slotB : Bool) (sl : Slot) : State :=
  (s.updStream sp fun x => { x with
    shadow := x.shadow.setSlot n slotB sl, dirty := n :: x.dirty.erase n, discarded := x.discarded.erase n }).keepEmpty sp

/-! ### Exact-match tables (R92 to R95, R469) -/

/-- The bucket of a key in a way under a seed (R92). -/
def emBucket (seed : Word32) (way key : Nat) : Nat :=
  let bs := beBytes 4 seed.toNat ++ beBytes 32 key
  (if way = 0 then crc32c bs else crc32 bs).toNat % 1024

/-- The index of a slot of a bucket: way [12], bucket [11:2], slot [1:0]. -/
def emIndex (way bucket slot : Nat) : Nat := way * 4096 + bucket * 4 + slot

/-- The four indices of a key's bucket in a way. -/
def emSlots (seed : Word32) (way key : Nat) : List Nat := (List.range 4).map (emIndex way (emBucket seed way key))

/-- A classification table. -/
abbrev EmTable := List (Nat × EmEntry)

/-- An entry of a table. -/
def EmTable.get (t : EmTable) (i : Nat) : EmEntry := sparseGet EmEntry.empty i t

/-- Replaces an entry. -/
def EmTable.put (t : EmTable) (i : Nat) (e : EmEntry) : EmTable := sparseSet i e (decide (e ≠ EmEntry.empty)) t

/-- The valid entries that hold a key, in its two buckets, way 0 and the lowest slot first (R93). -/
def EmTable.hits (t : EmTable) (s0 s1 : Word32) (key : Nat) : List EmEntry :=
  ((emSlots s0 0 key ++ emSlots s1 1 key).map t.get).filter fun e => e.valid && e.key == key

/-- The indices of the alternate bucket of the entry at an index (R94). -/
def EmTable.alternate (t : EmTable) (s0 s1 : Word32) (i : Nat) : List Nat :=
  let k := (t.get i).key
  if i / 4096 = 0 then emSlots s1 1 k else emSlots s0 0 k

/-- The first free slot of some indices. -/
def EmTable.free (t : EmTable) (is : List Nat) : Option Nat := is.find? fun i => !(t.get i).valid

/-- Breadth-first search for a relocation path: `paths` are chains of indices, the entry to move first at the head; `seen` are the
buckets already reached; the fuel is the number of moves still allowed (R94). The answer is the chain with its free slot at the head. -/
def EmTable.search (t : EmTable) (s0 s1 : Word32) : Nat → List (List Nat) → List Nat → Option (List Nat)
  | 0, _, _ => none
  | n + 1, paths, seen =>
    match paths.findSome? fun p => (t.free (t.alternate s0 s1 (p.headD 0))).map fun j => j :: p with
    | some p => some p
    | none =>
      let r := paths.foldl (fun (acc : List (List Nat) × List Nat) p =>
        let alt := t.alternate s0 s1 (p.headD 0)
        let b := (alt.headD 0) / 4
        if acc.2.contains b then acc else (acc.1 ++ alt.map fun j => j :: p, b :: acc.2)) ([], seen)
      if r.1 = [] then none else t.search s0 s1 n r.1 r.2

/-- Carries out a relocation path: each entry of the chain moves to the index before it. -/
def EmTable.relocate (t : EmTable) : List Nat → EmTable
  | j :: i :: rest => ((t.put j (t.get i)).put i EmEntry.empty).relocate (i :: rest)
  | _ => t

/-- Places a key for a context, relocating up to 64 residents; none if no path is found (R94). A key that the context holds already
stays where it is. -/
def EmTable.insert (t : EmTable) (s0 s1 : Word32) (key ctx : Nat) : Option EmTable :=
  if (t.hits s0 s1 key).any fun e => e.ctx == ctx then some t
  else
    let both := emSlots s0 0 key ++ emSlots s1 1 key
    match t.free both with
    | some i => some (t.put i ⟨key, ctx, true⟩)
    | none =>
      (t.search s0 s1 64 (both.map fun i => [i]) [emBucket s0 0 key, 1024 + emBucket s1 1 key]).map fun p =>
        (t.relocate p).put (p.getLastD 0) ⟨key, ctx, true⟩

/-- The table without the entries of a context. -/
def EmTable.remove (t : EmTable) (ctx : Nat) : EmTable := t.filter fun x => !(x.2.valid && x.2.ctx == ctx)

/-- The classification key of a context entry as a number: KEY0 to KEY7 as little-endian words. -/
def CtxEntry.key (e : CtxEntry) : Nat := ofLe (padBytes 32 e.classKey)

/-- Whether a context in this state has its classification entry installed (R115, R469). -/
def CtxState.installed : CtxState → Bool
  | .ready | .active | .suspended => true
  | _ => false

/-- Places the keys of some contexts, in order, in an empty table; none if a key finds no path. -/
def emBuild (s0 s1 : Word32) (xs : List (Nat × CtxEntry)) : Option EmTable :=
  xs.foldl (fun t x => t.bind fun t => if x.2.state.installed then t.insert s0 s1 x.2.key x.1 else some t) (some [])

/-- Changes the classification tables of a span. -/
def State.updCls (s : State) (sp : SpanId) (f : Cls → Cls) : State := s.upd sp fun x => { x with cls := f x.cls }

/-- The seeds of a span. -/
def State.seed0 (s : State) (sp : SpanId) : Word32 := s.reg sp Reg.clsHashSeed0
/-- The second seed. -/
def State.seed1 (s : State) (sp : SpanId) : Word32 := s.reg sp Reg.clsHashSeed1

/-- Draws new seeds and builds the shadow table anew from the contexts of a bank, again and again until every key is placed (R469);
the number of draws is bounded (log entry 21). -/
def State.rebuildCls (s : State) (sp : SpanId) (b : Bank) : Nat → State
  | 0 => s
  | n + 1 =>
    let d := s.drawSpan sp 8
    let s0 := BitVec.ofNat 32 (leField d.1 0 4)
    let s1 := BitVec.ofNat 32 (leField d.1 4 4)
    match emBuild s0 s1 b.ctxs with
    | some t => ((d.2.setReg sp Reg.clsHashSeed0 s0).setReg sp Reg.clsHashSeed1 s1).updCls sp fun c => { c with shadow := t }
    | none => d.2.rebuildCls sp b n

/-- What a local port uses now. -/
def State.portView (s : State) (sp : SpanId) (n : Nat) : PortView :=
  let x := s.span sp
  match if n = 0 then x.cls.old0 else x.cls.old1 with
  | some v => v
  | none => ⟨x.cls.active, s.seed0 sp, s.seed1 sp, x.cls.wc, none, x.rep.config, s.fld sp (Fld.clsPortnCfgNomatchDisp n)⟩

/-- Both ports go on with the classification that they use now until their next frame boundary (R95); at an epoch switch with the context and key-slot
entries too (R53, R55). -/
def State.keepViews (s : State) (sp : SpanId) (epoch : Bool) : State :=
  let v (n : Nat) : PortView :=
    let v := s.portView sp n
    if epoch then { v with bank := some (v.bank.getD (s.span sp).stream.active) } else v
  s.updCls sp fun c => { c with old0 := some (v 0), old1 := some (v 1) }

/-- A commit of the classification shadow writes: both ports adopt the new active bank at their next frame boundary (R95). -/
def State.commitCls (s : State) (sp : SpanId) : State :=
  let s := (s.keepViews sp false).updCls sp fun c => { c with active := c.shadow, dirty := false }
  let s := s.setFld sp Fld.clsCommitPending 1
  s.setFld sp Fld.clsEmCountCount (((s.span sp).cls.active.filter fun x => x.2.valid).length)

/-- The classification entry of a context follows its entry: installed under its key in READY, ACTIVE and SUSPENDED, else removed
(R115); a key with no path makes the span rebuild its table under new seeds (R469). The change commits at once (R116). -/
def State.classify (s : State) (sp : SpanId) (n : Nat) (e : CtxEntry) : State :=
  let old : EmTable := (s.span sp).cls.shadow
  let held := if e.state.installed then (EmTable.hits old (s.seed0 sp) (s.seed1 sp) e.key).any fun x => x.ctx == n else false
  if e.state.installed then
    if held then s
    else
      match EmTable.insert (EmTable.remove old n) (s.seed0 sp) (s.seed1 sp) e.key n with
      | some t => (s.updCls sp fun c => { c with shadow := t }).commitCls sp
      | none => ((s.keepViews sp false).rebuildCls sp ((s.span sp).stream.active.setCtx n e) 4096).commitCls sp
  else if old.any fun x => x.2.valid && x.2.ctx == n then (s.updCls sp fun c => { c with shadow := EmTable.remove c.shadow n }).commitCls sp
  else s

/-- The classification keys that contexts other than `n` have written into the shadow bank and not committed (R94, R116). -/
def Stream.pendingKeys (x : Stream) (n : Nat) : List (Nat × Nat) :=
  (x.dirty.filter fun m => m ≠ n && (x.shadow.ctx m).state.installed).map fun m => (m, (x.shadow.ctx m).key)

/-- An epoch switch or a restart would discard a classification write of a CTX_CONFIG (R96). -/
def Stream.keyPending (x : Stream) : Bool :=
  x.dirty.any fun m => (x.shadow.ctx m).state.installed && (!(x.active.ctx m).state.installed || (x.shadow.ctx m).key != (x.active.ctx m).key)

/-- Whether another context holds a classification key: in the table, or in a write that no commit has taken (R94, R117 step 8). -/
def State.keyConflict (s : State) (sp : SpanId) (n key : Nat) : Bool :=
  ((EmTable.hits (s.span sp).cls.shadow (s.seed0 sp) (s.seed1 sp) key).any fun e => e.ctx != n) ||
    ((s.span sp).stream.pendingKeys n).any fun y => y.2 == key

/-- A key of a context has an insertion path on a span, beside the keys that other contexts have written and not committed (R94). -/
def State.keyPath (s : State) (sp : SpanId) (n key : Nat) : Bool :=
  (((s.span sp).stream.pendingKeys n ++ [(n, key)]).foldl (fun t y =>
    t.bind fun t => EmTable.insert (EmTable.remove t y.1) (s.seed0 sp) (s.seed1 sp) y.2 y.1) (some (s.span sp).cls.shadow)).isSome

/-! ### Commits -/

/-- The stream port of a span. -/
def SpanState.port (x : SpanState) (n : Nat) : StreamPort := if n = 0 then x.port0 else x.port1

/-- Replaces a stream port. -/
def State.updPort (s : State) (sp : SpanId) (n : Nat) (f : StreamPort → StreamPort) : State :=
  s.upd sp fun x => if n = 0 then { x with port0 := f x.port0 } else { x with port1 := f x.port1 }

/-- The reference count of a context: its frames classified and not yet returned, consumed or dropped (R115). -/
def SpanState.refCount (x : SpanState) (n : Nat) : Nat := ((x.port0.frames ++ x.port1.frames).filter fun f => f.ctx == some n).length

/-- The stream state of a context, cleared (R114). -/
def StreamRec.cleared : StreamRec := ⟨0, 0, 0, false, false, 0, 0, 0⟩

/-- Per-entry commit: the shadow entry and slots of a context become active, with the next VERSION, and the classification entry
follows (R18, R116). -/
def State.commitCtx (s : State) (sp : SpanId) (n : Nat) : State :=
  let x := (s.span sp).stream
  let e := { x.shadow.ctx n with version := (x.active.ctx n).version + 1 }
  let s := s.updStream sp fun x =>
    { x with
      active := ((x.active.setCtx n e).setSlot n false (x.shadow.slot n false)).setSlot n true (x.shadow.slot n true)
      shadow := x.shadow.setCtx n e
      dirty := x.dirty.erase n
      discarded := x.discarded.erase n }
  (s.classify sp n e).setFld sp Fld.steEvtCommitted 1

/-- Empties both key slots of a context in both banks. -/
def Stream.emptySlots (x : Stream) (n : Nat) : Stream :=
  { x with
    active := (x.active.setSlot n false Slot.empty).setSlot n true Slot.empty
    shadow := (x.shadow.setSlot n false Slot.empty).setSlot n true Slot.empty }

/-- A context's state change, which includes the commit of its shadow writes (R115, R116): activation clears the stream state and sets
ERA_ANCHOR and ACTIVATED; UNCONFIGURED empties the slots and clears the stream state. `act` is the time of the change. -/
def State.ctxState (s : State) (sp : SpanId) (n : Nat) (st : CtxState) (anchor act : Nat) : State :=
  let was := ((s.span sp).stream.active.ctx n).state
  let s := s.updStream sp fun x =>
    let x := if st = .unconfigured then x.emptySlots n else x
    let e := { x.shadow.ctx n with state := st }
    let e := if st = .active ∧ was = .ready then { e with eraAnchor := anchor, activated := act } else e
    let e := if st = .unconfigured then { e with handleA := 0, handleB := 0 } else e
    let x := { x with shadow := x.shadow.setCtx n e }
    let x := if st = .draining then { x with drains := sparseSet n act true x.drains }
      else if st = .unconfigured then { x with drains := sparseSet n 0 false x.drains } else x
    if st = .unconfigured ∨ (st = .active ∧ was = .ready) then { x.setRec n StreamRec.cleared with held := x.held.erase n } else x
  let s := s.commitCtx sp n
  if st = .unconfigured then s.setFld sp Fld.steEvtDrained 1 else s

/-- Slot B of a context moved into slot A in a bank. -/
def Bank.promote (b : Bank) (n : Nat) (version : Nat) : Bank :=
  let sb := b.slot n true
  let e := b.ctx n
  ((b.setSlot n false { sb with fromSecond := 0 }).setSlot n true Slot.empty).setCtx n
    { e with handleA := sb.handle, handleB := 0, version := version }

/-- The shadow bank follows a promotion: a slot that holds no uncommitted write becomes what the active bank now holds. -/
def Bank.followPromote (sh was act : Bank) (n : Nat) : Bank :=
  let keep (b : Bool) : Bool := decide (sh.slot n b ≠ was.slot n b)
  let e := sh.ctx n
  let e' := { e with
    version := (act.ctx n).version
    handleA := if keep false then e.handleA else (act.ctx n).handleA
    handleB := if keep true then e.handleB else (act.ctx n).handleB }
  let sh := if keep false then sh else sh.setSlot n false (act.slot n false)
  (if keep true then sh else sh.setSlot n true (act.slot n true)).setCtx n e'

/-- RESUME_FLOOR of a span (R163): 0 before the first POR with active contexts. -/
def State.resumeFloor (s : State) (sp : SpanId) : Nat :=
  if (s.span sp).stream.resumed then s.fld sp Fld.tbResumeSecLoSec + 2 ^ 32 * s.fld sp Fld.tbResumeSecHiSec + 2 else 0

/-- FROM_SECOND of a slot on the TAI scale (Frame paths): mode 1 counts TAI, the others UTC (R165). -/
def State.fromTai (s : State) (sp : SpanId) (mode : Nat) (sl : Slot) : Nat :=
  if mode = 1 then sl.fromSecond else addSigned sl.fromSecond (s.utcOffset sp)

/-- NONCE_MODE of a context's template. -/
def Replica.modeOf (r : Replica) (e : CtxEntry) : Nat := ((r.config.template e.template).map Template.mode).getD 0

/-- Promotion of slot B into slot A (R133), with one commit; uncommitted writes of the shadow bank are kept. A hold ends with the promotion of a slot B
whose FROM_SECOND is at least the span's floor (R149). -/
def State.promoteCtx (s : State) (sp : SpanId) (n : Nat) : State :=
  let st := (s.span sp).stream
  let ends := decide (s.resumeFloor sp ≤ s.fromTai sp ((s.span sp).rep.modeOf (st.active.ctx n)) (st.active.slot n true))
  let s := s.updStream sp fun x =>
    let act := x.active.promote n ((x.active.ctx n).version + 1)
    { x with
      active := act
      shadow := x.shadow.followPromote x.active act n
      held := if ends then x.held.erase n else x.held }
  s.setFld sp Fld.steEvtCommitted 1

/-! ### Layouts -/

/-- The 96 bytes of a context entry (Context entry). -/
def ctxBytes (e : CtxEntry) : List Byte :=
  leBytes 1 e.state.code ++ leBytes 1 e.dir ++ leBytes 1 e.alg ++ leBytes 1 e.tagBytes ++ leBytes 1 e.template ++ leBytes 1 e.owner ++
    leBytes 1 e.failDisp ++ leBytes 1 e.overlapS ++ leBytes 2 e.rate ++ leBytes 2 e.freshMs ++ leBytes 4 e.version ++
    leBytes 5 e.eraAnchor ++ zeroBytes 3 ++ leBytes 8 e.activated ++ padBytes 32 e.classKey ++ leBytes 8 e.handleA ++
    leBytes 8 e.handleB ++ zeroBytes 16

/-- The state that a STATE code names. -/
def CtxState.ofCode (n : Nat) : CtxState :=
  if n = 1 then .ready else if n = 2 then .active else if n = 3 then .suspended else if n = 4 then .draining else .unconfigured

/-- The context entry that 96 bytes spell. -/
def ctxOfBytes (b : List Byte) : CtxEntry :=
  ⟨CtxState.ofCode (leField b 0 1), leField b 1 1, leField b 2 1, leField b 3 1, leField b 4 1, leField b 5 1, leField b 6 1,
    leField b 7 1, leField b 8 2, leField b 10 2, leField b 12 4, leField b 16 5, leField b 24 8, sliceBytes b 32 32, leField b 64 8,
    leField b 72 8⟩

/-- The 32-byte head of a key slot (Key-slot entry). -/
def slotHead (sl : Slot) : List Byte :=
  leBytes 1 sl.load.code ++ leBytes 1 sl.alg ++ leBytes 1 sl.keyBytes ++ [0] ++ beBytes 4 sl.keyId ++ beBytes 4 sl.salt ++
    zeroBytes 4 ++ leBytes 8 sl.fromSecond ++ leBytes 8 sl.handle

/-- The 48 bytes of a stream state (Stream state). -/
def recBytes (r : StreamRec) : List Byte :=
  beBytes 12 r.nonceHw ++ zeroBytes 4 ++ leBytes 8 r.replayMap ++ leBytes 5 r.eraSecond ++
    leBytes 1 (boolNat r.hwValid + 2 * boolNat r.eraValid) ++ zeroBytes 2 ++ leBytes 8 (if r.lastRx = 0 then 0 else tai64 r.lastRx) ++
    leBytes 4 r.framesOk ++ leBytes 4 r.framesFail

end Sys2Proof.Machine
end

