-- ==== Sys2Proof/Machine/Slates.lean ====
section
/-!
DEFINITION. The slate log of a replica: layout and commit word of a slate, room, modes, writing, and the commit word of R364.
-/

namespace Sys2Proof.Machine

/-- The commit word over the bytes before it (R364). -/
def commitWord (bs : List Byte) : BitVec 32 :=
  let k := (crc32c bs).setWidth 16
  (k ^^^ 0xFFFF) ++ k

/-- Whether a commit word is valid over the bytes before it (R364). -/
def commitValid (bs : List Byte) (c : BitVec 32) : Bool :=
  (c.extractLsb' 16 16 ^^^ c.extractLsb' 0 16 == 0xFFFF) && (c.extractLsb' 0 16 == (crc32c bs).setWidth 16)

/-- Bytes 0 to 123 of a slate (Slate layout). -/
def slateBytes (x : Slate) : List Byte :=
  leBytes 8 x.seq ++ leBytes 6 (x.time / 1000000000) ++ leBytes 2 x.req.kind ++ leBytes 4 (x.time % 1000000000) ++
    leBytes 2 x.req.status.code ++ leBytes 1 x.req.plane.code ++ leBytes 1 x.req.die.code ++ leBytes 1 x.req.port ++
    leBytes 1 x.req.fn ++ leBytes 1 x.req.owner ++ leBytes 1 x.req.officer ++ leBytes 4 x.req.session ++
    leBytes 8 x.epoch ++ leBytes 8 x.req.subject ++ padBytes 44 x.req.detail ++ padBytes 32 x.prevHash

/-- The 128 bytes of a slate with its commit word, as LOG_READ returns them. -/
def slateImage (x : Slate) : List Byte := slateBytes x ++ leBytes 4 (commitWord (slateBytes x)).toNat

/-- A slate of the device's own initiative (PLANE DEVICE, PORT INTERNAL), with no owner, officer or session. -/
def devSlate (kind : Nat) (st : Status) (die : Die) (subject : Nat) (detail : List Byte) : SlateReq :=
  ⟨none, kind, st, .device, die, 8, 0xFF, 0xFF, 0xFF, 0, subject, detail⟩

/-- The sectors of a replica. -/
def logSectors : Nat := logPositions / sectorSlates

/-- The unusable sectors that the write point has still to pass before it comes to the oldest sector (R368, R466). -/
def Log.barred (l : Log) : Nat :=
  (l.bad.filter fun b => decide (l.wp ≤ sectorSlates * (l.tail + (b + logSectors - l.tail % logSectors) % logSectors))).length

/-- F, the erased positions of a replica (R466). -/
def Log.free (l : Log) : Nat := logPositions - (l.wp - sectorSlates * l.tail) - sectorSlates * l.barred

/-- The position that the next slate takes: the write point passes unusable sectors, at most `n` of them. -/
def Log.skip (l : Log) : Nat → Nat → Nat
  | 0, p => p
  | n + 1, p => if p % sectorSlates = 0 ∧ l.bad.contains (p / sectorSlates % logSectors) then l.skip n (p + sectorSlates) else p

/-- The write point, past unusable sectors. -/
def Log.point (l : Log) : Nat := l.skip l.bad.length l.wp

/-- The modes of the log (R79). -/
inductive LogMode where
  | normal
  | reserve
  | floor
deriving DecidableEq, Repr

/-- The MODE code of `VLT_LOG_STATE`. -/
def LogMode.code : LogMode → Nat
  | .normal => 0
  | .reserve => 1
  | .floor => 2

/-- The mode that F gives (R79). -/
def logMode (f : Nat) : LogMode := if reserveF < f then .normal else if floorF < f then .reserve else .floor

/-- The mode of a replica. -/
def Log.mode (l : Log) : LogMode := logMode l.free

/-- The slates that RESERVE admits (R79): checkpoints, ACK, EXPORT, session slates, acknowledgements of error and tamper conditions,
proposal expiry, CER_ABANDONED and every DEVICE-plane slate. 0x0902 is TAMPER_ACK. -/
def admittedInReserve (r : SlateReq) : Bool :=
  r.plane == .device || r.kind == 0x0402 || r.kind == 0x0403 || r.kind == 0x0404 || r.kind == 0x0405 ||
    r.kind == 0x0201 || r.kind == 0x0202 || r.kind == 0x0203 || r.kind == 0x0A02 || r.kind == 0x0902 || r.kind == 0x0304 ||
    (r.kind == 0x0214 && r.status == .approvalExpired)

/-- Whether the log has room for a slate in its present mode (R79). -/
def Log.admits (l : Log) (r : SlateReq) : Bool :=
  match l.mode with
  | .normal => true
  | .reserve => admittedInReserve r
  | .floor => r.kind == 0x0402 || r.kind == 0x0403 || r.kind == 0x0405

/-- The slate log has room outside its reserve: the LOG_FULL step of the checking orders (R79). -/
def Log.roomOutsideReserve (l : Log) : Bool := l.mode == .normal

/-- Counts a DEVICE-plane slate in the coalescing counter of its kind group (R80). -/
def coalesce (group time : Nat) : List Coalesced → List Coalesced
  | [] => [⟨group, 1, time, time⟩]
  | c :: t =>
    if group < c.group then ⟨group, 1, time, time⟩ :: c :: t
    else if group = c.group then { c with count := satInc32 c.count 1, last := time } :: t
    else c :: coalesce group time t

/-- Appends one slate at the write point with the next SEQ; it is torn until its commit word is programmed (R76, R466). -/
def Log.append (l : Log) (time epoch : Nat) (r : SlateReq) : Log :=
  let x : Slate := ⟨l.nextSeq, r.time.getD time, epoch, r, l.headHash⟩
  { l with
    entries := l.entries ++ [⟨l.point, x, true⟩]
    nextSeq := l.nextSeq + 1
    wp := l.point + 1
    sinceCp := if r.kind = 0x0402 ∨ r.kind = 0x0403 then 0 else l.sinceCp + 1
    cpTime := if r.kind = 0x0403 then time else l.cpTime
    cpSeq := if r.kind = 0x0403 then some l.nextSeq else l.cpSeq
    headHash := sha256 (slateBytes x) }

/-- The COALESCED slates of the non-zero counters, one for each kind group (R80). -/
def coalescedSlates (die : Die) (cs : List Coalesced) : List SlateReq :=
  cs.map fun c => devSlate 0x0406 .ok die c.group (leBytes 4 c.count ++ leBytes 8 (tai64 c.first) ++ leBytes 8 (tai64 c.last))

/-- A slate that FLOOR mode counts instead of writing it: all but checkpoints and ACK (R79, R80). -/
def countedInFloor (r : SlateReq) : Bool := r.kind != 0x0402 && r.kind != 0x0403 && r.kind != 0x0405

/-- The valid slate with a SEQ. -/
def Log.find (l : Log) (seq : Nat) : Option Slate := (l.entries.find? fun e => e.slate.seq == seq).map (·.slate)

/-- The lowest SEQ that the replica still holds. -/
def Log.lowest (l : Log) : Nat := l.entries.foldl (fun m e => min m e.slate.seq) l.nextSeq

/-- Whether a sector, counted from the start of the log, is released: the write point has left it and every slate in it is
acknowledged (R466). -/
def Log.released (l : Log) (sector : Nat) : Bool :=
  decide (sectorSlates * (sector + 1) ≤ l.wp) &&
    l.entries.all fun e => e.pos / sectorSlates ≠ sector || decide (e.slate.seq ≤ l.ackSeq)

/-- How many sectors in a row, from a sector on, are released, looking at `n` of them. -/
def Log.releasedRun (l : Log) : Nat → Nat → Nat
  | 0, _ => 0
  | n + 1, sector => if l.released sector then 1 + l.releasedRun n (sector + 1) else 0

/-- The sectors that an acknowledgement up to `seq` would queue for erase beyond those already queued (R466). -/
def Log.wouldRelease (l : Log) (seq : Nat) : Nat :=
  let l := { l with ackSeq := seq }
  l.releasedRun (l.wp / sectorSlates + 1 - (l.tail + l.queued)) (l.tail + l.queued)

/-- Acknowledges the log up to a SEQ and queues the released sectors for erase (R81, R466). -/
def Log.ack (l : Log) (seq : Nat) : Log := { l with ackSeq := seq, queued := l.queued + l.wouldRelease seq }

/-- The oldest sector is passed: what it held is gone. -/
def Log.passSector (l : Log) : Log :=
  { l with entries := l.entries.filter fun e => e.pos / sectorSlates ≠ l.tail, tail := l.tail + 1, queued := l.queued - 1 }

/-- Queued sectors that are unusable are passed without an erase, at most `n` of them. -/
def Log.passBad : Nat → Log → Log
  | 0, l => l
  | n + 1, l => if 0 < l.queued ∧ l.bad.contains (l.tail % logSectors) then Log.passBad n l.passSector else l

/-- The erase of the next queued sector has ended: its positions count in F again (R466), unless it is unusable from now on (R368). -/
def Log.sectorErased (l : Log) (ok : Bool) : Log :=
  let n := l.tail % logSectors
  let l := { l with erases := sparseSet n (sparseGet 0 n l.erases + 1) true l.erases, bad := if ok then l.bad else l.bad ++ [n] }
  Log.passBad l.bad.length l.passSector

/-- A torn slate is written again at the next free position, with its SEQ and PREV_HASH; its old position is consumed (R365, R372, R466). -/
def Log.rewrite (l : Log) (e : LogEntry) (torn : Bool) : Log :=
  if l.free = 0 then l
  else { l with entries := (l.entries.erase e) ++ [⟨l.point, e.slate, torn⟩], wp := l.point + 1 }

/-- The page of the slate log that a position lies in (R76). -/
def LogEntry.page (e : LogEntry) : Nat := e.pos / 2

/-- The slates of a page that no body program of it follows have their commit words. -/
def Log.commitPage (l : Log) (page : Nat) : Log :=
  { l with entries := l.entries.map fun e => if e.page = page then { e with torn := false } else e }

/-- The PREV_HASH of GENESIS (R76). -/
def genesisHash (unitId : List Byte) : List Byte := sha256 (asciiBytes "AKNSL-V1" ++ unitId)

/-- Puts what the slate-log registers show into them (Slate-log registers). -/
def State.showLog (s : State) (sp : SpanId) : State :=
  let l := (s.span sp).rep.log
  let was := s.fld sp Fld.vltLogStateMode
  let now := l.mode.code
  let s := s.set64 sp Reg.vltLogHeadLo Reg.vltLogHeadHi (l.nextSeq - 1)
  let s := s.set64 sp Reg.vltLogAckLo Reg.vltLogAckHi l.ackSeq
  let s := s.setFld sp Fld.vltLogFreeFree l.free
  let s := s.setFld sp Fld.vltLogStateMode now
  let s := s.setFld sp Fld.vltLogStateCoalesced (l.coalesced.foldl (fun m c => m ||| 2 ^ c.group) 0)
  let s := (List.range 8).foldl (fun s i => s.setReg sp (Reg.vltLogHashn i) (BitVec.ofNat 32 (leField l.headHash (4 * i) 4))) s
  let s := s.setFld sp Fld.vltLogWearMaxErase (l.erases.foldl (fun m e => max m e.2) 0)
  if now = was then s
  else
    let s := if now = 1 then s.setFld sp Fld.vltLogEvtReserveEntered 1 else if now = 2 then s.setFld sp Fld.vltLogEvtFloorEntered 1 else s
    if now = 0 then s else s.raiseQuiet sp 0x203 .logFull []

end Sys2Proof.Machine
end

