-- ==== Sys2Proof/Machine/UnitKeys.lean ====
section
/-!
DEFINITION. The keys derived from the unit root (R168), the sealing of vault records under them (R178, R188, Key hierarchy), and the fingerprints
of equal material (R183).
-/

namespace Sys2Proof.Machine

/-! ### The unit root (R166) -/

/-- Helper word i of 256 that maps a span's PUF response onto a unit root: the root's eight words lie 32 times over the response (log entry 57). -/
def pufHelper (sp : SpanId) (root : List Byte) (i : Nat) : Nat :=
  ((Config.pufResponse sp i) ^^^ BitVec.ofNat 32 (leField root (4 * (i % 8)) 4)).toNat

/-- The unit root that a span reconstructs from its helper words: each bit as most of its 32 copies read. -/
def pufRoot (sp : SpanId) (words : List Nat) : List Byte :=
  let seen (i : Nat) : Nat := ((Config.pufResponse sp i) ^^^ BitVec.ofNat 32 (words.getD i 0)).toNat
  let bit (j b : Nat) : Nat := boolNat (decide (16 < ((List.range 32).filter fun k => (seen (8 * k + j)).testBit b).length))
  (List.range 8).flatMap fun j => leBytes 4 ((List.range 32).foldl (fun w b => w + bit j b * 2 ^ b) 0)

/-- A 256-bit key derived from the unit root of a span. -/
def State.unitKey (s : State) (sp : SpanId) (label : String) (context : List Byte) : List Byte :=
  kdf 1 (s.span sp).vault.ur (asciiBytes label) context 32

/-- VSK, the vault seal key. -/
def State.vsk (s : State) (sp : SpanId) : List Byte := s.unitKey sp "AKN-VSK" (s.unitId sp)

/-- FPK, the fingerprint key. -/
def State.fpk (s : State) (sp : SpanId) : List Byte := s.unitKey sp "AKN-FPK" (s.unitId sp)

/-- m_n of an owner as a span holds it; empty if it holds none. -/
def VaultLocal.mnOf (v : VaultLocal) (n : Nat) : List Byte := sparseGet [] n v.mn

/-- KW_n, the owner wrap key. -/
def State.ownerWrap (s : State) (sp : SpanId) (n : Nat) : List Byte := s.unitKey sp "AKN-KWN" (leBytes 1 n ++ (s.span sp).vault.mnOf n)

/-- The private scalar of CPK. -/
def cpkScalar (ur unit : List Byte) : Nat := ofBe (kdf 1 ur (asciiBytes "AKN-CPK") unit 56) % (p384Order - 1) + 1

/-- The signature of CPK on a message, with the random bytes of its nonce (R78, R168). -/
def State.cpkSign (s : State) (sp : SpanId) (m rnd : List Byte) : List Byte :=
  p384.sign (cpkScalar (s.span sp).vault.ur (s.unitId sp)) (sha384 m) (p384.draw rnd)

/-- The public key of CPK in SEC1 uncompressed form. -/
def State.cpkPublic (s : State) (sp : SpanId) : List Byte := p384.public (cpkScalar (s.span sp).vault.ur (s.unitId sp))

/-- The fingerprint of a symmetric object's type and material under FPK (R183). -/
def fingerprint (fpk : List Byte) (type : Nat) (material : List Byte) : List Byte := hmacSha256 fpk (leBytes 1 type ++ material)

/-- A record sealed with AES-256-GCM (R178): the nonce is the 64-bit record serial behind 32 zero bits, the head is additional data. -/
def sealRecord (key : List Byte) (serial : Nat) (head content : List Byte) : List Byte :=
  let nonce := zeroBytes 4 ++ beBytes 8 serial
  let ct := gcmCtr key nonce content
  head ++ ct ++ gcmTag key nonce head ct

end Sys2Proof.Machine
end

