-- ==== Sys2Proof/Machine/Home.lean ====
section
/-!
DEFINITION. What the vault store of a span writes as changes are applied: home records with their sealed content, the pages of the slate log,
status records, and the queue of erases (R363 to R374, R76, R82, R178).
-/

namespace Sys2Proof.Machine

/-- Changes the NVS of a span. -/
def State.updNvs (s : State) (sp : SpanId) (f : Nvs → Nvs) : State := s.upd sp fun x => { x with nvs := f x.nvs }

/-! ### The attribute head -/

/-- FLAGS of the attribute head. -/
def KeyObj.flags (o : KeyObj) : Nat := boolNat o.exportable + 2 * boolNat o.signLoaded

/-- The 128-byte attribute head, with SLOT_REFS of a span (Attribute head). -/
def KeyObj.head (o : KeyObj) (slotRefs : Nat) : List Byte :=
  leBytes 8 o.handle ++ leBytes 1 o.type ++ leBytes 1 o.state.code ++ leBytes 1 o.origin ++ leBytes 1 o.owner ++ leBytes 4 o.usage ++
    leBytes 4 o.flags ++ leBytes 4 o.deriveMask ++ leBytes 4 o.version ++ leBytes 2 o.material.length ++ leBytes 2 slotRefs ++
    leBytes 8 (tai64 o.created) ++ leBytes 8 (tai64 o.changed) ++ leBytes 8 o.parent ++ zeroBytes 8 ++ padBytes 32 o.label ++
    padBytes 32 o.pubDigest

/-- The object with a handle. -/
def Replica.obj (r : Replica) (h : Nat) : Option KeyObj := r.objs.find? fun o => o.handle == h
/-- The counter with a handle. -/
def Replica.ctr (r : Replica) (h : Nat) : Option CtrObj := r.ctrs.find? fun o => o.handle == h
/-- ORK_n, if it is in force. -/
def Replica.ork (r : Replica) (n : Nat) : Option (List Byte) := (r.orks.find? fun x => x.1 == n).map (·.2)

/-! ### Write points -/

/-- The first position of a home area from `p` on, eight to a sector (log entry 56), that no unusable sector holds (R368): at most `n` of them are
passed. -/
def Nvs.passUnusable (v : Nvs) (a : NorArea) : Nat → Nat → Nat
  | 0, p => p
  | n + 1, p => if v.unusable.contains (a.base + 4096 * (p / 8 % (a.size / 4096))) then v.passUnusable a n (8 * (p / 8 + 1)) else p

/-- The write point of a home area, as a count of positions: where the next record goes. -/
def Nvs.homePos (v : Nvs) (a : NorArea) : Nat := v.passUnusable a v.unusable.length (sparseGet 0 a.code v.homePoint)

/-- The sector of an area that the next home record goes to. -/
def Nvs.homeSector (v : Nvs) (a : NorArea) : Nat := v.homePos a / 8 % (a.size / 4096)

/-- A home record is written at the write point of its area. -/
def Nvs.addHome (v : Nvs) (h : HomeRec) : Nvs :=
  { v with
    home := v.home ++ [{ h with sector := v.homeSector h.area }]
    homePoint := sparseSet h.area.code (v.homePos h.area + 1) true v.homePoint }

/-- The records of a location are voided (R373). -/
def Nvs.voidHome (v : Nvs) (k : NorArea × Nat) : Nvs :=
  { v with home := v.home.map fun h => if h.area = k.1 ∧ h.key = k.2 then { h with voided := true } else h }

/-! ### Home records (R371) -/

/-- The location of a proposal record among the object records. -/
def propKey (pid : Nat) : Nat := 2 ^ 64 + pid

/-- The home locations that an effect writes anew. -/
def Effect.home (r : Replica) : Effect → List (NorArea × Nat)
  | .putObj o => [(.objects, o.handle)]
  | .putCtr c => [(.objects, c.handle)]
  | .putOrk n _ _ => [(.owner, n)]
  | .fence h => [(.objects, h)]
  | .zeroise m => (r.objs.filter fun o => m.testBit o.owner).map fun o => (.objects, o.handle)
  | _ => []

/-- The home locations that a change writes anew (R371), on the state after it. -/
def homeKeys (r : Replica) : Delta → List (NorArea × Nat)
  | .eff e => e.home r
  | .putProp p => [(.objects, propKey p.id)]
  | .setStaged (some x) _ => [(.config, x.epoch)]
  | _ => []

/-- The home locations whose records a change voids without a new record. -/
def homeVoids : Delta → List (NorArea × Nat)
  | .eff (.dropObj h) | .eff (.dropCtr h) => [(.objects, h)]
  | .dropProp id => [(.objects, propKey id)]
  | _ => []

/-- The content of a home record of a span with a record serial (log entry 102): an object under the ORK of its owner with its head as additional data
(R178), a counter's C under VSK (R188), an ORK under KW_n (R169); an object whose ORK is gone leaves its head. The spec seals no other. -/
def State.homeBytes (s : State) (sp : SpanId) (k : NorArea × Nat) (serial : Nat) : List Byte :=
  let r := (s.span sp).rep
  match k.1 with
  | .objects =>
    match r.obj k.2, r.ctr k.2 with
    | some o, _ =>
      let head := o.head ((s.span sp).stream.slotRefs o.handle)
      match r.ork o.owner with
      | some key => sealRecord key serial head o.material
      | none => head
    | none, some c => sealRecord (s.vsk sp) serial (leBytes 8 c.handle ++ leBytes 8 c.limit ++ padBytes 32 c.label) (leBytes 8 c.ceil)
    | none, none => []
  | .owner =>
    match r.ork k.2 with
    | some key => sealRecord (s.ownerWrap sp k.2) serial (leBytes 1 k.2) key
    | none => []
  | _ => []

/-- Writes a home record of a change on a span and voids what it supersedes (R371 step 2). The record counts as torn until its commit word is
programmed (R365). -/
def State.writeHome (s : State) (sp : SpanId) (csn : Nat) (k : NorArea × Nat) : State :=
  let bytes := s.homeBytes sp k ((s.span sp).nvs.homePos k.1)
  s.updNvs sp fun v =>
    let v := (v.voidHome k).addHome ⟨k.1, k.2, csn, 0, true, false, bytes⟩
    { v with progs := v.progs ++ [⟨k.1, csn, false, 0, none⟩, ⟨k.1, csn, true, 0, none⟩] }

/-! ### Status records and erases (R368 to R370) -/

/-- The ERASE_INTENT records that no ERASE_DONE for the same ADDR follows (R369). -/
def openIntents (l : List StatusRec) : List StatusRec :=
  l.filter fun i => i.kind == .eraseIntent && !(l.any fun d => d.kind == .eraseDone && d.addr == i.addr && decide (i.seq < d.seq))

/-- Writes one status record. -/
def Nvs.putStatus (v : Nvs) (kind : StatusKind) (area addr value : Nat) : Nvs :=
  { v with status := v.status ++ [⟨v.statusSeq, kind, area, addr, value⟩], statusSeq := v.statusSeq + 1 }

/-- The newest status record of a kind. -/
def newestOf (kind : StatusKind) (l : List StatusRec) : List StatusRec := ((l.filter fun r => r.kind == kind).getLast?).toList

/-- The write point enters a STATUS sector anew: the sector is erased, and its first record is SECTOR_OPEN (R370). Records it must not lose, an
intent without its done and the newest APPLIED and COMMITTED, are kept. -/
def Nvs.openSector (v : Nvs) : Nvs :=
  if v.statusSeq % 128 ≠ 0 then v
  else
    let keep := openIntents v.status ++ newestOf .applied v.status ++ newestOf .committed v.status
    { v with status := v.status.filter fun r => decide (v.statusSeq < r.seq + 31 * 128 + 1) || keep.contains r }.putStatus .sectorOpen 1 0xFFFFFFFF 0

/-- Adds a status record at the write point of the STATUS area (Erases and the status area): 32 sectors of 128 records, used in turn. -/
def Nvs.addStatus (v : Nvs) (kind : StatusKind) (area addr value : Nat) : Nvs := v.openSector.putStatus kind area addr value

/-- The erase at the head of the queue is suspended while the power-fail warning stands (R367), and a log-sector erase while slates wait to be
programmed (R82, R368). -/
def Nvs.pace (v : Nvs) : Nvs :=
  match v.erases with
  | [] => v
  | e :: t => { v with erases := { e with suspended := v.pfwAt.isSome || (e.area == .log && v.progs.any fun p => p.area == .log) } :: t }

/-- Queues the erase of a sector; the intent of the erase that runs is committed before it (R368). -/
def Nvs.pushErase (v : Nvs) (area : NorArea) (addr : Nat) (purpose : ErasePurpose) : Nvs :=
  let v' := if v.erases = [] then v.addStatus .eraseIntent area.code addr 0 else v
  ({ v' with erases := v'.erases ++ [⟨area, addr, 0, purpose, false, none⟩] } : Nvs).pace

/-- The byte address of the log sector that is erased next. -/
def Log.eraseAddr (l : Log) : Nat := NorArea.log.base + 4096 * (l.tail % logSectors)

/-- The next log sector that a LOG_ACK has queued is erased when no other erase runs (R466). -/
def SpanState.logErase (x : SpanState) : SpanState :=
  if x.nvs.erases = [] ∧ 0 < x.rep.log.queued then { x with nvs := x.nvs.pushErase .log x.rep.log.eraseAddr .logRelease } else x

/-! ### Pages of the slate log (R76, R82) -/

/-- Programs of the pages that new slates lie in: one for the bodies and one for the commit words. A slate joins a body program of its page that has
not started. -/
def Nvs.programPages (v : Nvs) (pages : List Nat) : Nvs :=
  (pages.foldl (fun (v : Nvs) n =>
    if (v.progs.drop 1).any fun p => p.area == .log && p.csn == n && !p.commitWord then v
    else { v with progs := v.progs ++ [⟨.log, n, false, 0, none⟩, ⟨.log, n, true, 0, none⟩] }) v).pace

/-- A commit-word program of a log page has ended: the slates of the page are valid, unless a body program of it still waits. -/
def SpanState.pageDone (x : SpanState) (page : Nat) : SpanState :=
  if x.nvs.progs.any fun p => p.area == .log && p.csn == page && !p.commitWord then x
  else { x with rep := { x.rep with log := x.rep.log.commitPage page } }

end Sys2Proof.Machine
end

