-- ==== Sys2Proof/Machine/Mem.lean ====
section
/-!
DEFINITION. The memory of a span (R460, R320): bytes and words at physical addresses, the memory gate (R333), stage-2 translation
(R322), and what a blocked access does (R336).
-/

namespace Sys2Proof.Machine

/-! ### Bytes -/

/-- The byte at a physical address; a byte that nothing has written reads zero (log entry 6). -/
def Memory.read (m : Memory) (pa : Nat) : Byte := sparseGet 0 pa m

/-- Writes a byte, keeping the canonical form. -/
def Memory.write (m : Memory) (pa : Nat) (b : Byte) : Memory := sparseSet pa b (decide (b ≠ 0)) m

/-- The canonical form: addresses strictly rising, no listed zero. -/
def Memory.wf (m : Memory) : Bool := sparseWf (fun _ => (0 : Byte)) none m

/-- `n` bytes from a physical address. -/
def Memory.bytes (m : Memory) (pa n : Nat) : List Byte := (List.range n).map fun i => m.read (pa + i)

/-- Writes bytes from a physical address on. -/
def Memory.setBytes (m : Memory) (pa : Nat) : List Byte → Memory
  | [] => m
  | b :: t => (m.write pa b).setBytes (pa + 1) t

/-- Zeroes `n` bytes from an address on: the listed cells there are dropped. -/
def Memory.zero (m : Memory) (pa n : Nat) : Memory := m.filter fun c => decide (c.1 < pa ∨ pa + n ≤ c.1)

/-! ### Physical map (R460) -/

/-- Base of DRAM. -/
def dramBase : Nat := 0x40000000
/-- Base of the register window. -/
def windowBase : Nat := 0xF0000000

/-- What a physical address is (R460). -/
inductive Place where
  | rom
  | vaultRam
  | dram (off : Nat)
  | regs (off : Nat)
  | nothing
deriving DecidableEq, Repr

/-- The place of a physical address (R460). -/
def place (pa : Nat) : Place :=
  if pa < 0x10000 then .rom
  else if 0x100000 ≤ pa ∧ pa < 0x200000 then .vaultRam
  else if 0x40000000 ≤ pa ∧ pa < 0x80000000 then .dram (pa - 0x40000000)
  else if 0xF0000000 ≤ pa ∧ pa < 0x100000000 then .regs (pa - 0xF0000000)
  else .nothing

/-- The kinds of an access (KIND of `GATE_VIOL_INFO`). -/
inductive AccessKind where
  | read
  | write
  | fetch
deriving DecidableEq, Repr

/-- The KIND code. -/
def AccessKind.code : AccessKind → Nat
  | .read => 1
  | .write => 2
  | .fetch => 3

/-- The masters of accesses (MASTER of `GATE_VIOL_INFO`). -/
inductive BusMaster where
  | core (c : Nat)
  | lane (k : Nat)
  | vcDma
  | ptpDma
  | hub
deriving DecidableEq, Repr

/-- The MASTER code. -/
def BusMaster.code : BusMaster → Nat
  | .core _ => 1
  | .lane _ => 2
  | .vcDma => 3
  | .ptpDma => 4
  | .hub => 5

/-! ### Gates (R333) -/

/-- A 64-bit mask held in two registers. -/
def State.mask64 (s : State) (sp : SpanId) (lo hi : Nat) : Nat := (s.reg sp lo).toNat + 2 ^ 32 * (s.reg sp hi).toNat

/-- Region r of the active bank allows an access of a world at a DRAM offset (R333). -/
def State.regionAllows (s : State) (sp : SpanId) (world off : Nat) (k : AccessKind) (r : Nat) : Bool :=
  let size := s.fld sp (Fld.gateRegionrCfgSizeLog2 r)
  let perm := s.fld sp (Fld.gateRegionrCfgPerm r)
  let bit := match k with | .read => 0 | .write => 1 | .fetch => 2
  decide (size ≠ 0) && perm.testBit bit &&
    (s.mask64 sp (Reg.gateRegionrWorldsLo r) (Reg.gateRegionrWorldsHi r)).testBit world &&
    decide (off / 2 ^ size = s.fld sp (Fld.gateRegionrBaseBase r) * 4096 / 2 ^ size)

/-- The memory gate allows an access of a world at a physical address outside the register window (R333, R460). -/
def State.memAllows (s : State) (sp : SpanId) (world pa : Nat) (k : AccessKind) : Bool :=
  match place pa with
  | .rom => world == 0 && k != .write
  | .vaultRam => world == 0 && k != .fetch
  | .dram off =>
    (world == 0x3C && decide (0x2000000 ≤ off ∧ off < 0x3000000)) || (world == 0x3D && decide (0x3000000 ≤ off ∧ off < 0x4000000)) ||
      (List.range 64).any fun r => s.regionAllows sp world off k r
  | _ => false

/-- The peripheral slot of a register-window offset (the slot table of R333); none in no slot (R462). -/
def slotOf (off : Nat) : Option Nat :=
  let o := off % 0x10000
  match off / 0x10000 with
  | 0 => if o < 0x800 then some 0 else if o < 0x1000 then some 1 else none
  | 1 => if o < 0x1000 then some 2 else if o < 0x1400 then some 3 else if o < 0x1800 then some 4 else none
  | 2 => if o < 0x1000 then some 5 else if o < 0x1800 then some (6 + (o - 0x1000) / 0x100) else none
  | 3 => some 14
  | 4 => some 15
  | 5 => some 16
  | 6 => some 17
  | 7 => some 18
  | 8 => some 19
  | 9 => if o < 4 ∨ (8 ≤ o ∧ o < 12) ∨ (0x20 ≤ o ∧ o < 0x4C) then some 21 else some 20
  | 10 => some 22
  | 11 => some 23
  | 12 => some 24
  | 13 => some 25
  | 14 => some 26
  | 15 => some 27
  | 16 => some 28
  | 17 => some 29
  | 18 => some 30
  | 19 => if 0x8000 ≤ o ∧ o < 0x9000 then some 32 else some 31
  | _ => none

/-- The peripheral gate allows an access of a world to an offset of the register window (R333). -/
def State.slotAllows (s : State) (sp : SpanId) (world off : Nat) (k : AccessKind) : Bool :=
  match slotOf off, k with
  | some n, .read => (s.mask64 sp (Reg.gateSlotsRdLo n) (Reg.gateSlotsRdHi n)).testBit world
  | some n, .write => (s.mask64 sp (Reg.gateSlotsWrLo n) (Reg.gateSlotsWrHi n)).testBit world
  | _, _ => false

/-- The guest whose KPR counters a world's violations count in; none for worlds without one. -/
def guestOfWorld (w : Nat) : Option Nat := if 1 ≤ w ∧ w ≤ 33 then some w else none

/-- A blocked access or a stage-2 fault (R336): counted, captured once, reported from source 0x440 + world; the response of the
source is dispatched by the caller. -/
def State.violation (s : State) (sp : SpanId) (world : Nat) (m : BusMaster) (k : AccessKind) (slot : Option Nat) (addr : Nat) : State :=
  let s := s.bump sp Fld.gateViolCountCount 1
  let s := s.setFld sp Fld.gateEvtViolation 1
  let s := match guestOfWorld world with
    | some g => s.bump sp (Fld.kprGuestgViolCount g) 1
    | none => s
  let cnt := match guestOfWorld world with
    | some g => s.fld sp (Fld.kprGuestgViolCount g)
    | none => (srcGet (0x440 + world) (s.span sp).err.srcs).count + 1
  let s := if s.fld sp Fld.gateViolInfoValid = 1 then s
    else
      let s := (s.set64 sp Reg.gateViolAddrLo Reg.gateViolAddrHi addr).setFld sp Fld.gateViolInfoWorld world
      let s := (s.setFld sp Fld.gateViolInfoKind k.code).setFld sp Fld.gateViolInfoMaster m.code
      (s.setFld sp Fld.gateViolInfoSlot (slot.getD 0xFF)).setFld sp Fld.gateViolInfoValid 1
  s.raiseQuiet sp (0x440 + world) .notAuthorised
    (leBytes 1 world ++ leBytes 1 m.code ++ leBytes 1 k.code ++ leBytes 1 (slot.getD 0xFF) ++ leBytes 8 addr ++ leBytes 4 cnt)

/-! ### Stage-2 translation (R322) -/

/-- A guest of a span. -/
def State.guest (s : State) (sp : SpanId) (g : Nat) : Option Guest := (s.span sp).worlds.guests.find? fun x => x.g == g

/-- MEM_MIB of a guest in bytes. -/
def State.guestSize (s : State) (sp : SpanId) (g : Nat) : Nat := (s.span sp).rep.config.world g 10 2 * 0x100000

/-- The physical address of a guest's intermediate address for a kind of access; none where nothing is mapped (R322). The page of the
vault-call doorbell, which no guest may read, is mapped too (log entry 48). -/
def State.translate (s : State) (sp : SpanId) (g ipa : Nat) (k : AccessKind) : Option Nat :=
  match s.guest sp g with
  | none => none
  | some x =>
    if ipa < s.guestSize sp g then some (dramBase + x.base + ipa)
    else if 0x40000000 ≤ ipa ∧ ipa < 0x44000000 then
      let off := 0x4000000 + (ipa - 0x40000000)
      if (List.range 30).any fun i => s.regionAllows sp g (off / 4096 * 4096) k (34 + i) then some (dramBase + off) else none
    else if 0xF0000000 ≤ ipa ∧ ipa < 0x100000000 then
      let page := (ipa - 0xF0000000) / 4096 * 4096
      if (List.range 1024).any fun i => s.slotAllows sp g (page + 4 * i) .read || s.slotAllows sp g (page + 4 * i) .write then
        (if k = .fetch then none else some ipa)
      else none
    else none

/-- A guest's DMA or lane reads bytes at intermediate addresses; none if a part is not mapped or is blocked. -/
def State.guestRead (s : State) (sp : SpanId) (g ipa n : Nat) : Option (List Byte) :=
  (List.range n).foldl (fun acc i =>
    match acc, s.translate sp g (ipa + i) .read with
    | some l, some pa => if s.memAllows sp g pa .read then some (l ++ [(s.span sp).worlds.mem.read pa]) else none
    | _, _ => none) (some [])

/-- A guest's DMA or lane writes bytes; none if a part is not mapped or is blocked, and then nothing is written. -/
def State.guestWrite (s : State) (sp : SpanId) (g ipa : Nat) (bs : List Byte) : Option State :=
  let ok := (List.range bs.length).all fun i =>
    match s.translate sp g (ipa + i) .write with
    | some pa => s.memAllows sp g pa .write
    | none => false
  if ok then
    some (s.upd sp fun x => { x with worlds := { x.worlds with
      mem := (bs.zipIdx).foldl (fun m b => m.write ((s.translate sp g (ipa + b.2) .write).getD 0) b.1) x.worlds.mem } })
  else none

/-- Changes the worlds of a span. -/
def State.updWorlds (s : State) (sp : SpanId) (f : Worlds → Worlds) : State := s.upd sp fun x => { x with worlds := f x.worlds }

/-- Changes a guest. -/
def State.updGuest (s : State) (sp : SpanId) (g : Nat) (f : Guest → Guest) : State :=
  s.updWorlds sp fun w => { w with guests := w.guests.map fun x => if x.g = g then f x else x }

/-- Makes a virtual interrupt of a guest pending (R323); a masked one stays pending and is not presented. -/
def State.virq (s : State) (sp : SpanId) (g n : Nat) : State :=
  s.updGuest sp g fun x => { x with pending := x.pending ||| 2 ^ n }

/-- Makes a virtual interrupt pending for every guest of a span. -/
def State.virqAll (s : State) (sp : SpanId) (n : Nat) : State :=
  s.updWorlds sp fun w => { w with guests := w.guests.map fun x => { x with pending := x.pending ||| 2 ^ n } }

end Sys2Proof.Machine
end

