-- ==== Sys2Proof/Machine/LaneOps.lean ====
section
/-!
DEFINITION. Shared operations on the big-number lanes: access to a lane, what its registers show, the way of a job into the wipe,
and completions (R209 to R211).
-/

namespace Sys2Proof.Machine

/-! ### Fields of a command word -/

/-- OPCODE. -/
def LaneCmd.opcode (c : LaneCmd) : Nat := bitsOf c.w0 7 0
/-- DST. -/
def LaneCmd.dst (c : LaneCmd) : Nat := bitsOf c.w0 11 8
/-- SRCA. -/
def LaneCmd.srcA (c : LaneCmd) : Nat := bitsOf c.w0 15 12
/-- SRCB. -/
def LaneCmd.srcB (c : LaneCmd) : Nat := bitsOf c.w0 19 16
/-- SRCC. -/
def LaneCmd.srcC (c : LaneCmd) : Nat := bitsOf c.w0 23 20
/-- GROUP. -/
def LaneCmd.group (c : LaneCmd) : Nat := bitsOf c.w0 25 24
/-- JOB_CLOSE. -/
def LaneCmd.close (c : LaneCmd) : Bool := c.w0.testBit 26
/-- CHAIN_START. -/
def LaneCmd.chainStart (c : LaneCmd) : Bool := c.w0.testBit 27
/-- CHAIN_END. -/
def LaneCmd.chainEnd (c : LaneCmd) : Bool := c.w0.testBit 28
/-- STREAM. -/
def LaneCmd.stream (c : LaneCmd) : Bool := c.w0.testBit 29
/-- COUNT. -/
def LaneCmd.count (c : LaneCmd) : Nat := bitsOf c.w1 15 0
/-- MODE, bits [31:16] of word 1. -/
def LaneCmd.mode (c : LaneCmd) : Nat := bitsOf c.w1 31 16
/-- The 48-bit address, or the immediate in its low word. -/
def LaneCmd.addr (c : LaneCmd) : Nat := c.w2 + 2 ^ 32 * bitsOf c.w3 15 0
/-- TAG of a JOB. -/
def LaneCmd.tag (c : LaneCmd) : Nat := bitsOf c.w3 31 16
/-- REPEAT of a JOB. -/
def LaneCmd.repeat_ (c : LaneCmd) : Bool := c.w1.testBit 16
/-- RAND of a JOB, bit 0 for BLIND_SCALAR (bit 17 of the word). -/
def LaneCmd.rand (c : LaneCmd) : Nat := bitsOf c.w1 21 17

/-! ### Lanes -/

/-- A lane of a span. -/
def State.lane (s : State) (sp : SpanId) (k : Nat) : Lane := (s.span sp).lanes.getD k Lane.empty

/-- The guest that owns a lane (`BNE_LANE_GUESTn`). -/
def State.laneGuest (s : State) (sp : SpanId) (k : Nat) : Nat :=
  (s.reg sp (if k < 4 then Reg.bneLaneGuest0 else Reg.bneLaneGuest1)).toNat / 2 ^ (8 * (k % 4)) % 256

/-- Sets the guest of a lane. -/
def State.setLaneGuest (s : State) (sp : SpanId) (k g : Nat) : State :=
  let r := if k < 4 then Reg.bneLaneGuest0 else Reg.bneLaneGuest1
  s.setReg sp r (putBits (s.reg sp r) (8 * (k % 4) + 7) (8 * (k % 4)) g)

/-- The lane runs a job. -/
def LaneMode.running : LaneMode → Bool
  | .validating | .runFirst | .runSecond | .comparing => true
  | _ => false

/-- Commands queued: those of jobs that have not started, and those of the running job until it ends. -/
def Lane.depth (l : Lane) : Nat := l.queue.length + (if l.mode.running then l.job.length else 0)

/-- Replaces a lane and shows it in `BNE_LANEk_STATE`, `_QUEUE` and `BNE_STATUS`. -/
def State.setLane (s : State) (sp : SpanId) (k : Nat) (l : Lane) : State :=
  let s := s.upd sp fun x => { x with lanes := x.lanes.set k l }
  let s := s.setFld sp (Fld.bneLanekStateState k) l.mode.code
  let s := s.setFld sp (Fld.bneLanekStateIndex k) l.index
  let s := s.setFld sp (Fld.bneLanekStateChain k) l.chain
  let s := s.setFld sp (Fld.bneLanekQueueCmdDepth k) l.depth
  let s := s.setFld sp (Fld.bneLanekQueueCplDepth k) (min l.cpls.length 64)
  let s := s.setBit sp Reg.bneStatus k (l.mode != .idle)
  let s := s.setBit sp Reg.bneStatus (8 + k) (l.mode == .wiping)
  s.setBit sp Reg.bneStatus (16 + k) (l.mode == .held)

/-- The running job goes into the wipe with a status at a command; stores are released only if the job passed (R209). -/
def Lane.endJob (l : Lane) (st : Status) (opcode index : Nat) : Lane :=
  { l with mode := .wiping, endStatus := st, endOpcode := opcode, endIndex := index, release := decide (st = .ok) }

/-- The command that a lane executes next. -/
def Lane.next (l : Lane) : Option LaneCmd := l.job[l.index]?

/-- The private-type code of the key that a vault job uses or makes; 0 for a sealed export. -/
def VaultWork.type : VaultWork → Nat
  | .sign _ t _ _ | .verify _ t _ _ _ | .agree t _ _ | .encap t _ | .decap t _ _ | .change _ t => if 0x80 ≤ t then t - 0x80 else t
  | .seal _ _ _ => 0

/-- LIMBS of the group of a private-type code (Group descriptors, Timing). -/
def typeLimbs (t : Nat) : Nat :=
  if t = 0x10 ∨ t = 0x18 ∨ t = 0x1A then 4
  else if t = 0x11 then 6
  else if t = 0x12 then 9
  else if t = 0x19 ∨ t = 0x1B then 7
  else if t = 0x20 then 32
  else if t = 0x21 then 48
  else if t = 0x22 then 64 else 128

/-- LIMBS of the group that the JOB command names; a vault job names the group of its key's type. -/
def Lane.jobLimbs (l : Lane) : Nat :=
  match l.vault, l.job with
  | some j, _ => typeLimbs j.work.type
  | none, c :: _ => ((l.groups.find? fun g => g.1 == c.group).map fun g => g.2.limbs).getD 0
  | none, [] => 0

/-- A whole job starts on a lane (R209): its random values are there, accumulator and product count are clear (R219). -/
def Lane.begin (l : Lane) (job rest : List LaneCmd) (rnd : List Byte) : Lane :=
  { l with
    mode := .validating, queue := rest, job := job, index := 0, cycles := 0, result := false, reject := false, mark := 0, loops := [], firstLoops := []
    acc := 0, chain := 0, polyChain := [], staging := [], compared := 0, equal := true, random := rnd, memErr := false }

/-- A lane after its wipe (R209, R211): its descriptors, queue, completions and sequence number stay, and CHAIN until its next clear (R219). -/
def Lane.wiped (l : Lane) : Lane :=
  { Lane.empty with
    groups := l.groups, chain := l.chain, queue := l.queue, cpls := l.cpls, seq := l.seq, refusing := l.refusing, nextGuest := l.nextGuest }

/-- A completion entry as its four words (R211). -/
def Completion.words (c : Completion) : List Nat :=
  [c.tag + 2 ^ 16 * c.status.code, c.opcode + 2 ^ 8 * (c.index % 256) + 2 ^ 16 * boolNat c.result, c.cycles, c.seq]

/-- Shows the head of the completion queue; an empty queue reads zero (R211). -/
def State.showCpl (s : State) (sp : SpanId) (k : Nat) : State :=
  let w := ((s.lane sp k).cpls.head?.map Completion.words).getD [0, 0, 0, 0]
  let s := (List.range 3).foldl (fun s i => s.setReg sp (Reg.bneLanekCpl0 k + 4 * i) (BitVec.ofNat 32 (w.getD i 0))) s
  s.setReg sp (Reg.bneLanekCpl3 k) (BitVec.ofNat 32 (w.getD 3 0))

/-- A job of a lane has completed: JOBS and LAST_CYCLES (log entry 54). -/
def State.countJob (s : State) (sp : SpanId) (k cycles : Nat) : State :=
  (s.bump64 sp (Reg.bneLanekJobsLo k) (Reg.bneLanekJobsHi k) 1).setFld sp (Fld.bneLanekLastCyclesCycles k) cycles

/-- Writes a completion, which the owner sees at once (R209, R211): the completion queue, JOBS, LAST_CYCLES, and the virtual
interrupt of the owning guest. -/
def State.addCpl (s : State) (sp : SpanId) (k : Nat) (tag : Nat) (st : Status) (opcode index cycles : Nat) (result : Bool) : State :=
  let l := s.lane sp k
  let c : Completion := ⟨tag, st, opcode, index, result, cycles, l.seq⟩
  let s := s.setLane sp k { l with cpls := l.cpls ++ [c], seq := (l.seq + 1) % 65536 }
  let s := (s.showCpl sp k).countJob sp k cycles
  let g := s.laneGuest sp k
  if g = 0 then s else s.virq sp g (8 + k)

/-- Aborts the job of a lane with a status, at the present command boundary; an idle lane loses its queued commands (R209). -/
def State.abortLane (s : State) (sp : SpanId) (k : Nat) (st : Status) : State :=
  let l := s.lane sp k
  if l.mode.running then s.setLane sp k (l.endJob st ((l.next.map (·.opcode)).getD l.endOpcode) l.index) else s

/-- The lanes that run vault jobs of a kind go into the wipe without a command to complete: their commands are gone. -/
def State.dropVaultLanes (s : State) (sp : SpanId) (p : VaultJob → Bool) : State :=
  (List.range 8).foldl (fun s k =>
    let l := s.lane sp k
    if l.vault.any p then s.setLane sp k { l.endJob .jobCancelled l.endOpcode l.index with vault := none, job := [], index := 0 } else s) s

/-- The guest whose commands a lane takes, or will take when its running job has ended (R197). -/
def State.laneOwner (s : State) (sp : SpanId) (k : Nat) : Nat := (s.lane sp k).nextGuest.getD (s.laneGuest sp k)

/-- An epoch switch gives a lane another guest (R197): its jobs that are queued and not started complete with `STALE_EPOCH`; an idle lane is
wiped with its group descriptors and joins the new guest, a running one does so when its job ends. -/
def State.regiveLane (s : State) (sp : SpanId) (k g : Nat) : State :=
  if s.laneOwner sp k = g then s
  else
    let jobs := (s.lane sp k).queue.filter fun c => c.opcode == 0
    let s := jobs.foldl (fun s c => s.addCpl sp k c.tag .staleEpoch 0 0 0 false) (s.waitOver sp (.lane k))
    let l := s.lane sp k
    match l.mode with
    | .idle | .held =>
      let s := s.setLane sp k { Lane.empty with seq := l.seq, cpls := l.cpls }
      s.setLaneGuest sp k g
    | _ => s.setLane sp k { l with queue := [], refusing := true, nextGuest := some g }

end Sys2Proof.Machine
end

