-- ==== Sys2Proof/Machine/Entries.lean ====
section
/-!
DEFINITION. The fields of R243, the operations on queue pairs and functions of a host port and on vault-call queues, and the entries of the
in-flight pool.
-/

namespace Sys2Proof.Machine

/-- A number as an 8-byte field value (R243). -/
def num (v : Nat) : List Byte := leBytes 8 v

/-- One input or output field with its length word and padding (R243). -/
def fieldBytes (v : List Byte) : List Byte :=
  leBytes 4 v.length ++ zeroBytes 4 ++ v ++ zeroBytes ((8 - v.length % 8) % 8)

/-- The output of a command as written at OUT_ADDR (R243). -/
def outputBytes (fields : List (List Byte)) : List Byte := fields.flatMap fieldBytes

/-- The fields of an input, at most `n` of them (R243); none if the bytes do not divide into fields. -/
def inputFields : Nat → List Byte → Option (List (List Byte))
  | _, [] => some []
  | 0, _ :: _ => none
  | n + 1, b :: t =>
    let bs := b :: t
    let len := leField bs 0 4
    let pad := (8 - len % 8) % 8
    if bs.length < 8 + len + pad ∨ leField bs 4 4 ≠ 0 ∨ ((bs.drop (8 + len)).take pad).any (· ≠ 0) then none
    else (inputFields n (bs.drop (8 + len + pad))).map fun f => (bs.drop 8).take len :: f

/-- An input of a descriptor holds the values that a command's operands give, in order; where the spec gives a value no code, or a field may be absent,
any value of the field stands for it (R243). -/
def inputHolds (input : Option (List Byte)) (vals : List (Option (List Byte))) : Bool :=
  match input.bind (inputFields 16) with
  | none => false
  | some fs => fs.length == vals.length && (fs.zip vals).all fun x => match x.2 with | none => true | some v => x.1 == v

/-- RESULT of a completion: bits [15:0] of the first output field if that field is an 8-byte value (R249). -/
def resultOf : List (List Byte) → Nat
  | f :: _ => if f.length = 8 then ofLe f % 65536 else 0
  | [] => 0

/-- A queue pair at its reset values (HOST registers). -/
def QueuePair.reset (n : Nat) : QueuePair :=
  ⟨n, 0, 0, 4, 0, 1, 0, false, false, false, true, 0, 0, 0, 0, 0, 0, 0⟩

/-- A queue pair of a port. -/
def HostPort.queue (h : HostPort) (n : Nat) : QueuePair := (h.queues.find? fun q => q.n == n).getD (QueuePair.reset n)

/-- Replaces a queue pair. -/
def HostPort.setQueue (h : HostPort) (q : QueuePair) : HostPort :=
  let rec put : List QueuePair → List QueuePair
    | [] => [q]
    | y :: t => if q.n < y.n then q :: y :: t else if q.n = y.n then q :: t else y :: put t
  { h with queues := put h.queues }

/-- A function after a PCIe reset (log entry 43): in D0, with nothing enabled and every MSI-X entry masked. -/
def FnState.reset (n : Nat) : FnState :=
  { n := n, busMaster := false, d0 := true, flr := false, memSpace := false, msixEnable := false, fnMask := false, vectors := [], pbits := 0
    cfg := [], qsel := 0, evt := 0, ien := 0 }

/-- The state of a function. -/
def HostPort.fnState (h : HostPort) (n : Nat) : FnState := (h.fns.find? fun f => f.n == n).getD (FnState.reset n)

/-- Replaces the state of a function. -/
def HostPort.setFn (h : HostPort) (f : FnState) : HostPort :=
  let rec put : List FnState → List FnState
    | [] => [f]
    | y :: t => if f.n < y.n then f :: y :: t else if f.n = y.n then f :: t else y :: put t
  { h with fns := put h.fns }

/-- The number of entries of a queue pair (R239). -/
def QueuePair.size (q : QueuePair) : Nat := 2 ^ q.sizeLog2

/-- First queue pair and number of pairs of a function (R240). -/
def State.fnQueues (s : State) (sp : SpanId) (n : Nat) : Nat × Nat :=
  (s.fld sp (Fld.hostFnnQueuesQfirst n), s.fld sp (Fld.hostFnnQueuesQcount n))

/-- The function that a queue pair is assigned to (R240). -/
def State.fnOfQueue (s : State) (sp : SpanId) (q : Nat) : Option Nat :=
  (List.range 33).find? fun n => let r := s.fnQueues sp n; decide (r.1 ≤ q ∧ q < r.1 + r.2)

/-- A function exists: the PF, or a VF that NumVFs covers while VF Enable is set (R236). -/
def HostPort.exists_ (h : HostPort) (fn : Nat) : Bool := fn == 0 || (h.vfEnable && decide (fn ≤ h.numVfs))

/-- The port queue pair that a function's local number names, if there is one (R236, R237). -/
def State.localQueue (s : State) (sp : SpanId) (fn j : Nat) : Option Nat :=
  if fn = 0 then (if j < 256 then some j else none)
  else let r := s.fnQueues sp fn; if j < r.2 ∧ (s.span sp).host.exists_ fn then some (r.1 + j) else none

/-- Changes the host port of a span. -/
def State.updHost (s : State) (sp : SpanId) (f : HostPort → HostPort) : State := s.upd sp fun x => { x with host := f x.host }

/-- Sends an output of a function, or holds it while the function may not master the bus (R256). -/
def State.dma (s : State) (sp : SpanId) (fn : Nat) (o : Output) : State :=
  let f := (s.span sp).host.fnState fn
  if f.busMaster ∧ f.d0 then s.emit o else s.updHost sp fun h => { h with held := h.held ++ [(fn, o)] }

/-- MSI-X vectors of a function (R238): 32 of the PF, 8 of a VF. -/
def vectorCount (fn : Nat) : Nat := if fn = 0 then 32 else 8

/-- An entry of a function's MSI-X table. -/
def FnState.vector (f : FnState) (v : Nat) : MsixEntry := ((f.vectors.find? fun x => x.1 == v).map (·.2)).getD ⟨0, 0, true⟩

/-- A function signals a vector (R238, log entry 43): nothing while MSI-X is disabled, the pending bit while the vector is masked, else the message. -/
def State.msix (s : State) (sp : SpanId) (fn v : Nat) : State :=
  let f := (s.span sp).host.fnState fn
  if !f.msixEnable ∨ vectorCount fn ≤ v then s
  else if f.fnMask || (f.vector v).masked then s.updHost sp fun h => h.setFn { f with pbits := f.pbits ||| 2 ^ v }
  else s.dma sp fn (.msix sp fn v (f.vector v).addr (f.vector v).data)

/-- Sends the messages of the pending vectors that are masked no more (R238). -/
def State.msixRelease (s : State) (sp : SpanId) (fn : Nat) : State :=
  (List.range (vectorCount fn)).foldl (fun s v =>
    let f := (s.span sp).host.fnState fn
    if f.pbits.testBit v && f.msixEnable && !f.fnMask && !(f.vector v).masked then
      (s.updHost sp fun h => h.setFn { f with pbits := f.pbits - 2 ^ v }).msix sp fn v
    else s) s

/-- Sets an event bit of a function's view of `HOST_EVT`, which vector 0 of the function signals if it is enabled (R238). -/
def State.hostEvt (s : State) (sp : SpanId) (fn bit : Nat) : State :=
  let f := (s.span sp).host.fnState fn
  let was := if fn = 0 then (s.reg sp Reg.hostEvt).getLsbD bit else f.evt.testBit bit
  let on := if fn = 0 then (s.reg sp Reg.hostIen).getLsbD bit else f.ien.testBit bit
  let s := if fn = 0 then s.setBit sp Reg.hostEvt bit true else s.updHost sp fun h => h.setFn { f with evt := f.evt ||| 2 ^ bit }
  if on && !was then s.msix sp fn 0 else s

/-- Sets an event bit in the view of every function that is enabled. -/
def State.hostEvtAll (s : State) (sp : SpanId) (bit : Nat) : State :=
  let h := (s.span sp).host
  (List.range (if h.vfEnable then h.numVfs + 1 else 1)).foldl (fun s n => s.hostEvt sp n bit) s

/-- Shows the in-flight counts of a span, of each function and of each guest in the registers of R242 and R324. -/
def State.showInflight (s : State) (sp : SpanId) : State :=
  let l := (s.span sp).host.inflight
  let gs := (s.span sp).worlds.guests
  let s := s.setFld sp Fld.hostInflightSpanTotal (l.length + (gs.map fun g => g.inflight.length).sum)
  let s := (List.range 33).foldl (fun s n => s.setFld sp (Fld.hostFnnCreditsInFlight n) (l.filter fun d => d.fn == n).length) s
  gs.foldl (fun s g => s.setFld sp (Fld.kprGuestgInflightInFlight g.g) g.inflight.length) s

/-! ### Vault-call queues (R324) -/

/-- A vault-call queue pair of a guest. -/
def Guest.queue (x : Guest) (n : Nat) : QueuePair := (x.queues.find? fun q => q.n == n).getD (QueuePair.reset n)

/-- Replaces a vault-call queue pair. -/
def Guest.setQueue (x : Guest) (q : QueuePair) : Guest :=
  { x with queues := if x.queues.any (fun y => y.n == q.n) then x.queues.map (fun y => if y.n = q.n then q else y) else x.queues ++ [q] }

/-! ### The in-flight pool -/

/-- Whether a caller's command is a descriptor, or a vault call, that is in flight and has started. -/
def State.hostEntry (s : State) (c : Caller) : Option InFlight :=
  match c.origin with
  | .host fn q cid =>
    (s.span c.span).host.inflight.find? fun d => d.fn == fn && d.queue == q && d.cid == cid && decide (d.stage ≠ .fetched)
  | .guest g q cid =>
    (s.guest c.span g).bind fun x => x.inflight.find? fun d => d.queue == q && d.cid == cid && decide (d.stage ≠ .fetched)
  | _ => none

/-- A drain ends when nothing of a queue pair is in flight: ENABLE reads 0 from then on (R239, R255). -/
def QueuePair.settle (q : QueuePair) (l : List InFlight) : QueuePair :=
  if q.draining ∧ !l.any (fun d => d.queue == q.n) then { q with enabled := false, draining := false } else q

/-- Ends the drains of a host port, and the function resets, that have nothing left in flight (R255). -/
def HostPort.settle (h : HostPort) : HostPort :=
  { h with
    queues := h.queues.map fun q => q.settle h.inflight
    fns := h.fns.map fun f => if f.flr ∧ !h.inflight.any (fun d => d.fn == f.n) then { f with flr := false } else f }

/-- Takes a descriptor or a vault call out of the in-flight pool. -/
def State.dropInflight (s : State) (c : Caller) (d : InFlight) : State :=
  match c.origin with
  | .guest g _ _ =>
    (s.updGuest c.span g fun x =>
      let l := x.inflight.erase d
      { x with inflight := l, queues := x.queues.map fun q => q.settle l }).showInflight c.span
  | _ => (s.updHost c.span fun h => ({ h with inflight := h.inflight.erase d } : HostPort).settle).showInflight c.span

/-- Changes the in-flight entry of a caller. -/
def State.updEntry (s : State) (c : Caller) (f : InFlight → InFlight) : State :=
  match s.hostEntry c with
  | none => s
  | some d =>
    match c.origin with
    | .guest g _ _ => s.updGuest c.span g fun x => { x with inflight := x.inflight.map fun y => if y = d then f y else y }
    | _ => s.updHost c.span fun h => { h with inflight := h.inflight.map fun y => if y = d then f y else y }

/-- Marks how far a descriptor or a vault call has come (R251). -/
def State.setStage (s : State) (c : Caller) (g : CmdStage) : State := s.updEntry c fun d => { d with stage := g, since := s.elapsed }

/-- A command waits for a resource before it executes (R248): its time since the start goes on. -/
def State.deferCmd (s : State) (c : Caller) : State := s.updEntry c fun d => { d with stage := .deferred }

/-- A caller's command is already admitted: its job waits for a lane, it waits for random bytes, or its change waits to be ordered. -/
def State.waits (s : State) (c : Caller) : Bool :=
  ((s.span c.span).vault.jobs.any fun j => j.caller == c) || ((s.span c.span).vault.waits.any fun y => y.1 == c) ||
    (s.span c.span).cont.deferred.any fun d => d.change.caller == some c

/-- A caller's command may run: a descriptor or a vault call must be in flight with this opcode, with the caller's epoch and session and with the
command's values for its input (R243, R246), and started, or waiting for something that the command asks for anew (R244, R248); the management service
and the monitor's commands on a span need its secure world, which runs from step 3 of its boot on (R437). A secure world that hangs runs none (R327). -/
def State.started (s : State) (c : Caller) (opcode : Nat) (vals : List (Option (List Byte))) : Bool :=
  (s.span c.span).worlds.hung.isEmpty &&
  match c.origin with
  | .host _ _ _ | .guest _ _ _ => match s.hostEntry c with
    | some d => d.opcode == opcode && d.epoch == c.epoch && d.session == c.session && inputHolds d.input vals && (d.stage == .started || (d.stage == .deferred && !s.waits c))
    | none => false
  | .mgmt _ _ | .monitor => decide (4 ≤ (s.span c.span).boot.stage) && (s.span c.span).boot.resetDue.isNone
  | _ => true

end Sys2Proof.Machine
end

