-- ==== Sys2Proof/Machine/Record.lean ====
section
/-!
DEFINITION. Change records: their header and digest, the deck messages that carry them, forming a record on a keystone span, the side segment of an
isolated span, and what a span does with a change in each mode (R261 to R263, R273).
-/

namespace Sys2Proof.Machine

/-! ### Records -/

/-- The 128-byte header of a change record without its commit word (Change records). -/
def recordHeader (r : Record) : List Byte :=
  let body := Config.bodyBytes { r.change with caller := none }
  leBytes 8 r.csn ++ leBytes 8 r.term ++ leBytes 8 r.epoch ++ leBytes 8 (tai64 r.time) ++ leBytes 2 r.change.kind.code ++
    leBytes 1 r.change.origin.code ++ leBytes 1 r.change.slates.length ++ leBytes 4 body.length ++ leBytes 8 r.firstSeq ++
    leBytes 8 r.committedThrough ++ padBytes 32 r.prevDigest ++ sha256 body ++ leBytes 4 1

/-- The record digest: SHA-256 over header bytes 0 to 123 (R261). -/
def recordDigest (r : Record) : List Byte := sha256 (recordHeader r)

/-- The newest record a span holds, committed or not; of the highest CSN it always keeps the digest (R261). -/
def Cont.newest (c : Cont) : Option Record := (c.settled ++ c.journal ++ c.open_).getLast?

/-- The bytes that a record takes in the change journal, in whole pages: its header and its body; the body of an image lies in the staging area (R261,
log entry 109). -/
def Record.journalBytes (r : Record) : Nat :=
  let body := if r.change.kind = .image then 0 else (Config.bodyBytes { r.change with caller := none }).length
  (128 + body + 255) / 256 * 256

/-- The first records of a list that fit into a number of bytes. -/
def recordsWithin : Nat → List Record → List Record
  | _, [] => []
  | n, r :: t => if r.journalBytes ≤ n then r :: recordsWithin (n - r.journalBytes) t else []

/-- A record enters the change journal; what no longer fits into its 16 MiB leaves it, the oldest first (R261). -/
def Cont.addRecord (c : Cont) (r : Record) : Cont :=
  let all := c.journal ++ [r]
  let kept := (recordsWithin NorArea.journal.size all.reverse).length
  { c with journal := all.drop (all.length - kept), settled := c.settled ++ all.take (all.length - kept) }

/-- The lowest CSN whose record the journal still holds. -/
def Cont.firstCsn (c : Cont) : Nat := (c.journal.head?.map Record.csn).getD (c.csn + 1)

/-- The committed record with a CSN. -/
def Cont.committed (c : Cont) (csn : Nat) : Option Record := c.journal.find? fun r => r.csn == csn

/-- The record digest that a span holds at a CSN; at CSN 0 there is no record. -/
def Cont.digestAt (c : Cont) (csn : Nat) : List Byte := ((c.committed csn).map recordDigest).getD []

/-! ### Messages -/

/-- Sends a deck message to a span. -/
def State.send (s : State) (dest : SpanId) (m : DeckMsg) : State := { s with deck := s.deck ++ [(dest, m)] }

/-- Sends a deck message to the other span, if the peer is present. -/
def State.tell (s : State) (sp : SpanId) (m : DeckMsg) : State := if (s.span sp).cont.peerLost then s else s.send sp.other m

/-- A deck link of a span is up. -/
def Cont.deckUp (c : Cont) : Bool := c.deckUp0 || c.deckUp1

/-! ### Ordering -/

/-- Holds a change until it can be ordered (R22, R248). -/
def State.deferChange (s : State) (sp : SpanId) (c : Change) : State :=
  let s := match c.caller with | some x => if x.span = sp then s.deferCmd x else s | none => s
  s.updCont sp fun k => { k with deferred := k.deferred ++ [⟨c, s.elapsed⟩] }

/-- Whether a span may order a change now: its lease runs (R266), no handover or digest comparison holds it, no power-fail warning
stands (R427). -/
def State.mayOrder (s : State) (sp : SpanId) : Bool :=
  !(s.span sp).cont.holdOrder && !s.hub.power.pfw && decide (s.now sp < (s.span sp).cont.leaseEnd)

/-- The slates of the records that a span has ordered and not applied. -/
def Cont.openSlates (c : Cont) : Nat := (c.open_.map fun r => r.change.slates.length).sum

/-- F as a span has ordered it: the slates of its open records take their positions in order (R262, R466). -/
def SpanState.orderedFree (x : SpanState) : Nat := x.rep.log.free - x.cont.openSlates

/-- What FLOOR mode makes of a change: its slates other than checkpoints and ACK are counted (R79, R80). -/
def Change.inFloor (c : Change) : Change :=
  { c with
    deltas := c.deltas ++ (c.slates.filter countedInFloor).map fun q => .coalesce (q.kind / 256)
    slates := c.slates.filter fun q => !countedInFloor q }

/-- Forms the record of a change on a keystone span, with the next CSN, and sends its REC to a peer that is present (R262, R263 step 1). In FLOOR mode
slates are counted (R80); slates that are due while no erased position is left for one of them wait with their record (R468). -/
def State.record (s : State) (sp : SpanId) (c : Change) : State :=
  let x := s.span sp
  let c : Change := if logMode x.orderedFree = .floor then c.inFloor else c
  let seq := x.rep.log.nextSeq + x.cont.openSlates
  let c : Change := match c.slates with
    | q :: _ => if seq = 0 then { c with slates := devSlate 0x0401 .ok q.die 0 (leBytes 1 s.lcState) :: c.slates } else c
    | [] => c
  if x.orderedFree < c.slates.length then s.deferChange sp c
  else
    let r : Record :=
      { csn := x.cont.lastCsn + 1, term := x.cont.term, epoch := x.rep.epoch, time := s.now sp
        firstSeq := if c.slates = [] then 0 else seq
        committedThrough := x.cont.csn
        prevDigest := (x.cont.newest.map recordDigest).getD []
        change := c }
    let s := match c.caller with | some x => s.setStage x .sent | none => s
    let s := s.updCont sp fun k => { k with lastCsn := r.csn, open_ := k.open_ ++ [r] }
    s.tell sp (.record r)

/-- Writes a DEVICE-plane slate into the side segment of an isolated span, chained from its last committed slate; at a full side
segment it is counted instead (R273 step 3). -/
def State.sideSlate (s : State) (sp : SpanId) (r : SlateReq) : State :=
  let x := s.span sp
  if sideMax ≤ x.cont.side.length then
    let s := s.updCont sp fun k => { k with sideCoalesced := coalesce (r.kind / 256) (s.now sp) k.sideCoalesced }
    s.setFld sp Fld.cntEvtSideFull 1
  else
    let prev := match x.cont.side.getLast? with | some y => sha256 (slateBytes y) | none => x.rep.log.headHash
    let y : Slate := ⟨x.rep.log.nextSeq + x.cont.side.length, s.now sp, x.rep.epoch, r, prev⟩
    let s := s.updCont sp fun k => { k with side := k.side ++ [y] }
    s.setFld sp Fld.cntSideCount ((s.span sp).cont.side.length)

/-- Submits a prepared change on the span that prepared it (R262): `order` orders it on a keystone span, `alone` is what an isolated span does with
it. -/
def State.submitWith (s : State) (order alone : State → SpanId → Change → State) (sp : SpanId) (c : Change) : State :=
  match (s.span sp).cont.mode with
  | .keystone | .solo => if s.mayOrder sp then order s sp c else s.deferChange sp c
  | .follower =>
    if s.hub.power.pfw ∨ !(s.span sp).cont.deckUp then s.deferChange sp c
    else
      let s := match c.caller with | some x => s.setStage x .sent | none => s
      let c := { c with id := (s.span sp).cont.nextId }
      let s := s.updCont sp fun k => { k with nextId := k.nextId + 1, forwarded := k.forwarded ++ [c] }
      s.tell sp (.forward c)
  | .isolated => alone s sp c
  | .joining | .seeking | .rejoining => s.deferChange sp c

/-- A slate of the device's own initiative on a span, in a change record of its own (KIND DEVICE). -/
def State.ownSlate (s : State) (sp : SpanId) (q : SlateReq) : State :=
  s.submitWith (fun s sp c => s.record sp c) (fun s sp c => (c.slates.filter fun r => r.plane == .device).foldl (fun s r => s.sideSlate sp r) s) sp
    (ownChange .device sp [] [q])

end Sys2Proof.Machine
end

