-- ==== Sys2Proof/Machine/Restart.lean ====
section
/-!
DEFINITION. Stopping and restarting a normal guest (R329), the end of its calls, lanes and unit requests, and the parts of a stream
port that other units act on: buffer space, PAUSE, loss of link (R104 to R109).
-/

namespace Sys2Proof.Machine

/-! ### Units (R330, R331) -/

/-- The state of a unit: 0 ON, 1 CLOCK_OFF, 2 POWER_OFF (`KPR_UNIT_STATE`). -/
def State.unitState (s : State) (sp : SpanId) (u : Nat) : Nat :=
  if u < 8 then bitsOf (s.reg sp Reg.kprUnitState).toNat (2 * u + 1) (2 * u)
  else bitsOf (s.reg sp Reg.kprUnitState).toNat (17 + 2 * (u - 8)) (16 + 2 * (u - 8))

/-- Sets the state of a unit. -/
def State.setUnit (s : State) (sp : SpanId) (u v : Nat) : State :=
  let lo := if u < 8 then 2 * u else 16 + 2 * (u - 8)
  s.setReg sp Reg.kprUnitState (putBits (s.reg sp Reg.kprUnitState) (lo + 1) lo v)

/-- A unit goes back to ON: the clock at once, power after 200 us (R330). -/
def State.unitOn (s : State) (sp : SpanId) (u : Nat) : State :=
  let s := s.updWorlds sp fun w => { w with gated := w.gated.filter fun x => x.1 ≠ u }
  if s.unitState sp u = 2 then s.updWorlds sp fun w => { w with restoring := w.restoring ++ [(u, s.elapsed)] }
  else s.setUnit sp u 0

/-- Releases the requests of a guest and the units it has gated (R329 step 3, R331). -/
def State.releaseUnits (s : State) (sp : SpanId) (g : Nat) : State :=
  let us := ((s.span sp).worlds.gated.filter fun x => x.2 == g).map (·.1)
  us.foldl (fun s u => s.unitOn sp u) (s.updWorlds sp fun w => { w with requests := w.requests.filter fun r => r.guest ≠ g })

/-! ### Virtual cores -/

/-- Writes a global register of a world (g1 to g6; g0 reads zero). -/
def VCore.setGlobal (v : VCore) (i : Nat) (x : Word64) : VCore :=
  if i = 0 then v else { v with globals := sparseSet i x (decide (x ≠ 0)) v.globals }

/-- Changes the registers of a guest's virtual core on a core, whether it runs there now or is saved. -/
def State.updVCore (s : State) (sp : SpanId) (core g : Nat) (f : VCore → VCore) : State :=
  s.updWorlds sp fun w => { w with
    cores := w.cores.zipIdx.map fun c => if c.2 = core ∧ c.1.guest = some g then { c.1 with v := f c.1.v } else c.1
    saved := w.saved.map fun y => if y.1 = core ∧ y.2.1 = g ∧ (w.cores.getD core (PierCore.reset 2 0 0x3C 0)).guest ≠ some g
      then (y.1, y.2.1, f y.2.2) else y }

/-- A hypercall that waited returns a status in g1 (R323, R330). -/
def State.answerGuest (s : State) (sp : SpanId) (g core : Nat) (st : Status) : State :=
  s.updVCore sp core g fun v => { v.setGlobal 1 (BitVec.ofNat 64 st.code) with sleep := .awake }

/-! ### Ending calls (R255 steps 2 to 4) -/

/-- A caller's command is a vault call of a guest of a span. -/
def Caller.ofGuest (c : Caller) (sp : SpanId) (g : Nat) : Bool := c.span == sp && (match c.origin with | .guest x _ _ => x == g | _ => false)

/-- The guest's calls end as R255 steps 2 to 4 say: what has not started or waits is discarded, use commands are aborted, changes that were sent
complete without a write. -/
def State.endGuestCalls (s : State) (sp : SpanId) (g : Nat) : State :=
  let s := s.updGuest sp g fun x => { x with
    inflight := (x.inflight.filter fun d => d.stage == .sent).map fun d => { d with silent := true }
    queues := [] }
  let s := s.upd sp fun x => { x with
    vault := { x.vault with jobs := x.vault.jobs.filter fun j => !j.caller.ofGuest sp g }
    cont := { x.cont with deferred := x.cont.deferred.filter fun d => !(d.change.caller.any fun c => c.ofGuest sp g) }
    lanes := x.lanes.map fun l => if l.vault.any fun j => j.caller.ofGuest sp g then { l with vault := none, endStatus := .jobCancelled } else l }
  (s.setFld sp Fld.vltJobsJobs (s.span sp).vault.jobs.length).showInflight sp

/-- The lanes of a guest are aborted and wiped, and lose the commands that are queued on them (R209, R329 step 2, log entry 101). Group descriptors
and completions stay (R202, R211). -/
def State.wipeGuestLanes (s : State) (sp : SpanId) (g : Nat) : State :=
  (List.range 8).foldl (fun s k =>
    if s.laneGuest sp k = g then
      let l := s.lane sp k
      match l.mode with
      | .validating | .runFirst | .runSecond | .comparing => (s.setLane sp k { l with queue := [] }).abortLane sp k .jobCancelled
      | .wiping => s.setLane sp k { l with queue := [] }
      | .idle | .held => s.setLane sp k { Lane.empty with
          groups := l.groups, chain := l.chain, seq := l.seq, cpls := l.cpls, refusing := l.refusing, nextGuest := l.nextGuest }
    else s) s

/-- Stops a normal guest on one span, R329 steps 1 to 4: its virtual cores stop, its calls and lanes end, its units are released and its
memory is zeroed. -/
def State.stopGuest (s : State) (sp : SpanId) (g : Nat) : State :=
  match s.guest sp g with
  | none => s
  | some x =>
    let s := s.updWorlds sp fun w => { w with
      cores := w.cores.map fun c => if c.guest = some g then { c with guest := none, v := { VCore.reset 2 0 with sleep := .wfe } } else c
      saved := w.saved.filter fun y => y.2.1 ≠ g
      mem := w.mem.zero (dramBase + x.base) (s.guestSize sp g) }
    let s := (s.endGuestCalls sp g).wipeGuestLanes sp g
    let s := s.releaseUnits sp g
    let s := s.updHub fun h => { h with monitor := { h.monitor with halts := h.monitor.halts.filter fun y => !(y.span == sp && y.effective && y.guest == g) } }
    s.updGuest sp g fun x => { x with
      timer := none, masked := 0, pending := 0, half := false, kicked := s.elapsed, restartedAt := s.elapsed }

/-- Restarts a normal guest on one span (R329): it stays RESTARTING until its image is loaded. -/
def State.restartGuest (s : State) (sp : SpanId) (g : Nat) : State :=
  match s.guest sp g with
  | none => s
  | some _ =>
    let s := (s.stopGuest sp g).setFld sp (Fld.kprGuestgStateState g) 3
    let s := s.bump sp (Fld.kprGuestgStateRestarts g) 1
    s.setFld sp Fld.kprEvtRestart 1

/-! ### Buffer space (R104 to R107) -/

/-- The module's number of a local port: P0 to P3 as 0 to 3. -/
def portNo (sp : SpanId) (n : Nat) : Nat := 2 * sp.num + n

/-- Cells that a port holds. -/
def State.heldCells (s : State) (sp : SpanId) (n : Nat) : Nat := (((s.span sp).port n).frames.map (·.cells)).sum

/-- RSV_CELLS of a port. -/
def State.rsvCells (s : State) (sp : SpanId) (n : Nat) : Nat := s.fld sp (Fld.clsPortnBufRsvRsvCells n)

/-- The free cells of the pool: what lies outside both reservations, less what the ports hold beyond theirs (R104). -/
def State.freePool (s : State) (sp : SpanId) : Nat :=
  32768 - s.rsvCells sp 0 - s.rsvCells sp 1 - (s.heldCells sp 0 - s.rsvCells sp 0) - (s.heldCells sp 1 - s.rsvCells sp 1)

/-- The space of a port: its unused reserved cells and the free pool (R107). -/
def State.space (s : State) (sp : SpanId) (n : Nat) : Nat := (s.rsvCells sp n - s.heldCells sp n) + s.freePool sp

/-- Shows the occupancy of a port and its peak. -/
def State.showOcc (s : State) (sp : SpanId) (n : Nat) : State :=
  let o := s.heldCells sp n
  let s := s.setFld sp (Fld.clsPortnBufOccOcc n) o
  s.setFld sp (Fld.clsPortnBufOccPeak n) (max o (s.fld sp (Fld.clsPortnBufOccPeak n)))

/-- Sends a PAUSE frame (R107); it counts in PAUSE_TX alone (log entry 104). -/
def State.sendPause (s : State) (sp : SpanId) (n quanta : Nat) : State :=
  let s := (s.emit (.pause sp n quanta)).bump sp (Fld.clsPortnPauseTxCount n) 1
  s.updPort sp n fun p => { p with lastPause := s.elapsed }

/-- R107 after a change of space: XOFF below the threshold, XON at or above it. -/
def State.checkPause (s : State) (sp : SpanId) (n : Nat) : State :=
  let sp' := s.space sp n
  let xoff := s.fld sp (Fld.clsPortnStatusXoff n) = 1
  if xoff ∧ s.fld sp (Fld.clsPortnBufThrXon n) ≤ sp' then (s.sendPause sp n 0).setFld sp (Fld.clsPortnStatusXoff n) 0
  else if ¬ xoff ∧ sp' < s.fld sp (Fld.clsPortnBufThrXoff n) ∧ s.fld sp (Fld.clsPortnCtrlPauseTxEn n) = 1 ∧
      s.fld sp (Fld.clsPortnStatusLink n) = 1 then
    (s.sendPause sp n 0xFFFF).setFld sp (Fld.clsPortnStatusXoff n) 1
  else s

/-- The space of both ports has changed: occupancy and PAUSE of each. -/
def State.spaceChanged (s : State) (sp : SpanId) : State :=
  (((s.showOcc sp 0).showOcc sp 1).checkPause sp 0).checkPause sp 1

/-- Sets an event bit of a port. -/
def State.portEvt (s : State) (sp : SpanId) (n bit : Nat) : State := s.setBit sp (Reg.clsPortnEvt n) bit true

/-- A report of source 0x102 + n other than FRAME_LENGTH (R472). -/
def State.portReport (s : State) (sp : SpanId) (n case_ len count : Nat) : State :=
  s.raiseQuiet sp (0x102 + n) .ok (leBytes 1 case_ ++ leBytes 1 (portNo sp n) ++ leBytes 2 len ++ leBytes 4 count)

/-- A loss of link discards every frame that waits for return and the frame being received at that instant, counts them and reports the number (R109).
Slots of PTP transmit doorbells stay busy until link returns (log entry 104). -/
def State.linkLoss (s : State) (sp : SpanId) (n : Nat) : State :=
  let up := s.fld sp (Fld.clsPortnStatusLink n) == 1
  let k := ((s.span sp).port n).frames.length + boolNat (up && Config.receiving sp n s.elapsed)
  let s := s.updPort sp n fun p => { p with frames := [], pausedUntil := none, inserted := false }
  let s := (s.setFld sp (Fld.clsPortnStatusLink n) 0).setFld sp (Fld.clsPortnStatusPartnerPause n) 0
  let s := s.setFld sp (Fld.clsPortnStatusXoff n) 0
  let s := s.spaceChanged sp
  if k = 0 then s
  else ((s.bump sp (Fld.clsPortnLinkDiscardCount n) k).portEvt sp n 6).portReport sp n 6 0 k

end Sys2Proof.Machine
end

