-- ==== Sys2Proof/Machine/Violate.lean ====
section
/-!
DEFINITION. The responses that restart a guest or reset a span (R329, R411 to R413), and a blocked access of a guest's vault calls with its response
(R336, R337).
-/

namespace Sys2Proof.Machine

/-- The ACTION codes of a response entry. -/
inductive Action where
  | report
  | fence
  | zeroiseOwners
  | zeroiseAll
  | restartWorld
  | resetSpan
  | retirePort
deriving DecidableEq, Repr

/-- The ACTION that a code names. -/
def Action.ofCode (n : Nat) : Action :=
  if n = 2 then .fence else if n = 3 then .zeroiseOwners else if n = 4 then .zeroiseAll else if n = 5 then .restartWorld
  else if n = 6 then .resetSpan else if n = 7 then .retirePort else .report

/-- A span is up: it has left its boot (`HUB_BOOT.STAGE` 10) and no reset of it is due. -/
def State.spanUp (s : State) (sp : SpanId) : Bool := (s.span sp).boot.stage == 10 && (s.span sp).boot.resetDue.isNone

/-- The ERROR_RESPONSE slate (R413). -/
def errorResponse (sp : SpanId) (src : Nat) (code : Status) (action ownerMask count : Nat) : SlateReq :=
  devSlate 0x0A01 .ok (.span sp) src
    (leBytes 1 action ++ leBytes 1 sp.code ++ leBytes 2 code.code ++ leBytes 4 ownerMask ++ leBytes 4 count)

/-- A response that resets a span: the reset is due, and the other span writes the slate, or the span itself after its reset if the spans
are not joined (R413, R443). -/
def State.orderReset (s : State) (sp : SpanId) (cause : Nat) (slate : SlateReq) : State :=
  let m := (s.span sp.other).cont.mode
  let joined := m == .keystone || m == .follower
  let s := s.upd sp fun x => { x with boot := { x.boot with resetDue := some cause, slates := if joined then x.boot.slates else x.boot.slates ++ [slate] } }
  if joined then s.ownSlate sp.other slate else s

/-- RESTART_WORLD of a normal guest (R329, R411, R412): a guest that is loading or restarting is left to it. -/
def State.restartByPolicy (s : State) (sp : SpanId) (g : Nat) (slate : SlateReq) : State :=
  let st := s.fld sp (Fld.kprGuestgStateState g)
  if st = 3 ∨ st = 1 then s else ((s.restartGuest sp g).ownSlate sp slate).setFld sp Fld.errEvtResponse 1

/-- RESET_SPAN (R411, R412): a span that is not up is left to its boot. -/
def State.resetByPolicy (s : State) (sp : SpanId) (slate : SlateReq) : State :=
  if s.spanUp sp then (s.orderReset sp 2 slate).setFld sp Fld.errEvtResponse 1 else s

/-- A blocked access of a guest with its response, one of the three that its source may have (R336, R337). -/
def State.violateGuest (s : State) (sp : SpanId) (g : Nat) (m : BusMaster) (k : AccessKind) (addr : Nat) : State :=
  let s := s.violation sp g m k none addr
  let pol := (s.span sp).rep.config.errorPolicy (0x440 + g)
  let slate := errorResponse sp (0x440 + g) .notAuthorised pol.1 pol.2 (srcGet (0x440 + g) (s.span sp).err.srcs).count
  match Action.ofCode pol.1 with
  | .restartWorld => if (s.span sp).boot.resetDue.isSome then s else s.restartByPolicy sp g slate
  | .resetSpan => s.resetByPolicy sp slate
  | _ => s

end Sys2Proof.Machine
end

