-- ==== Sys2Proof/Machine/Complete.lean ====
section
/-!
DEFINITION. How a command completes: completion entries and interrupts of a host queue pair (R249, R250), completions in guest memory (R324), and
replies to the other callers.
-/

namespace Sys2Proof.Machine

/-- Sends the MSI-X vector of a queue pair and starts its aggregation anew (R250). -/
def State.signalQueue (s : State) (sp : SpanId) (n : Nat) : State :=
  let q := (s.span sp).host.queue n
  let fn := (s.fnOfQueue sp n).getD 0
  let s := s.updHost sp fun h => h.setQueue { q with unsignalled := 0 }
  s.msix sp fn q.vector

/-- Writes a completion entry at the CQ tail, advances the tail, and signals if R250 says so (R249). If the write fails, the queue pair enters
ERROR (R258). -/
def State.writeCq (s : State) (sp : SpanId) (d : InFlight) (st : Status) (outLen result : Nat) (inDoubt : Bool) : State :=
  if d.cqFails then
    let s := s.updHost sp fun h => h.setQueue { h.queue d.queue with error := true }
    ((s.hostEvt sp d.fn 4).bump sp Fld.hostDmaErrCount 1).raiseQuiet sp 0x181 .bufferFault []
  else
  let q := (s.span sp).host.queue d.queue
  let pos := q.cqTail
  let tail := (q.cqTail + 1) % q.size
  let o := Output.cqEntry sp d.queue pos d.cid st d.slot q.sqHead outLen q.phase inDoubt result
  let q' := { q with
    cqTail := tail
    phase := if tail = 0 then !q.phase else q.phase
    oldest := if q.unsignalled = 0 then s.elapsed else q.oldest
    unsignalled := q.unsignalled + 1 }
  let s := s.updHost sp fun h => h.setQueue q'
  let s := s.dma sp d.fn o
  let s := s.bump64 sp Reg.hostCmdsLo Reg.hostCmdsHi 1
  let s := match st with
    | .staleEpoch => s.bump sp Fld.hostStaleCount 1
    | .descriptorFormat => s.bump sp Fld.hostFormatErrCount 1
    | .bufferFault => (s.bump sp Fld.hostDmaErrCount 1).raiseQuiet sp 0x181 .bufferFault []
    | .deferredTimeout => s.bump sp Fld.hostDeferTimeoutCount 1
    | _ => s
  if d.flags % 4 ≥ 2 ∨ max q.aggCount 1 ≤ q'.unsignalled then s.signalQueue sp d.queue else s

/-- The 16 bytes of a completion entry (R249). -/
def cqBytes (cid : Nat) (st : Status) (slot sqHead outLen : Nat) (phase inDoubt : Bool) (result : Nat) : List Byte :=
  leBytes 2 cid ++ leBytes 2 st.code ++ leBytes 2 (slot % 4096) ++ leBytes 2 (sqHead % 4096) ++ leBytes 4 outLen ++
    leBytes 1 (boolNat phase + 2 * boolNat inDoubt) ++ leBytes 1 0 ++ leBytes 2 result

/-- Writes a completion entry into guest memory and raises VIRQ 4 + queue under R250; a failed write puts the queue into ERROR (R258). -/
def State.writeGuestCq (s : State) (sp : SpanId) (g : Nat) (d : InFlight) (st : Status) (outLen result : Nat) (inDoubt : Bool) : State :=
  match s.guest sp g with
  | none => s
  | some x =>
    let q := x.queue d.queue
    match s.guestWrite sp g (q.cqBase + 16 * q.cqTail) (cqBytes d.cid st d.slot q.sqHead outLen q.phase inDoubt result) with
    | none => (s.updGuest sp g fun x => x.setQueue { q with error := true }).violateGuest sp g .vcDma .write (q.cqBase + 16 * q.cqTail)
    | some s =>
      let tail := (q.cqTail + 1) % q.size
      let sig := decide (d.flags % 4 ≥ 2 ∨ max q.aggCount 1 ≤ q.unsignalled + 1)
      let q' := { q with
        cqTail := tail
        phase := if tail = 0 then !q.phase else q.phase
        oldest := if q.unsignalled = 0 then s.elapsed else q.oldest
        unsignalled := if sig then 0 else q.unsignalled + 1 }
      let s := s.updGuest sp g fun x => x.setQueue q'
      if sig then s.virq sp g (4 + d.queue) else s

/-! ### Completing -/

/-- Opcodes whose commands change no state: uses, reads and status commands (R258). -/
def readOnlyOpcode (op : Nat) : Bool :=
  [0x0505, 0x0614, 0x0632, 0x0634, 0x0709, 0x0821, 0x0822, 0x0823, 0x0824, 0x0825, 0x0826, 0x0827, 0x0828, 0x0829, 0x082B, 0x0A10].contains op

/-- A line of the monitor has been executed (R453, R459): it restarts the idle time and is counted, as refused if its status is not `OK`. -/
def State.monLine (s : State) (st : Status) : State :=
  s.updHub fun h => { h with monitor := { h.monitor with session := h.monitor.session.map fun m =>
    { m with lastLine := s.elapsed, lines := m.lines + 1, refused := if st = .ok then m.refused else m.refused + 1 } } }

/-- A line that was executing when its session ended is answered no more (R453). -/
def State.lineGone (s : State) (c : Caller) : Bool :=
  c.session != 0 && !(s.hub.monitor.session.any fun m => m.id == c.session)

/-- Completes one entry of the in-flight pool: a host descriptor through its queue pair (R249), a vault call through guest memory (R324). -/
def State.completeEntry (s : State) (c : Caller) (d : InFlight) (st : Status) (inDoubt : Bool) (mark : Nat) (fields : List (List Byte)) : State :=
  let fields := if st = .ok then fields else []
  let out := outputBytes fields
  let s := s.dropInflight c d
  if d.silent then s
  else
    match c.origin with
    | .host fn q cid =>
      if out ≠ [] ∧ d.outFails then s.writeCq c.span d .bufferFault 0 0 (!readOnlyOpcode d.opcode)
      else
        let s := if out = [] then s else s.dma c.span fn (.hostData c.span q cid out)
        s.writeCq c.span d st out.length (resultOf fields ||| mark) inDoubt
    | .guest g _ _ =>
      if out = [] then s.writeGuestCq c.span g d st 0 (resultOf fields ||| mark) inDoubt
      else
        match s.guestWrite c.span g d.outAddr out with
        | some s => s.writeGuestCq c.span g d st out.length (resultOf fields ||| mark) inDoubt
        | none =>
          let s := s.writeGuestCq c.span g d .bufferFault 0 0 (!readOnlyOpcode d.opcode)
          s.violateGuest c.span g .vcDma .write d.outAddr
    | _ => s

/-- Completes a command with one status (R12): a host descriptor or a vault call as an entry of the in-flight pool, any other caller by a reply.
The output is given only with `OK` (R249). `mark` is set in RESULT (R253). -/
def State.completeWith (s : State) (c : Caller) (st : Status) (inDoubt : Bool) (mark : Nat) (fields : List (List Byte)) : State :=
  let reply := Output.reply c st inDoubt (if st = .ok then fields else [])
  match c.origin with
  | .host _ _ _ | .guest _ _ _ =>
    match s.hostEntry c with
    | none => s
    | some d => s.completeEntry c d st inDoubt mark fields
  | .monitor => if s.lineGone c then s else (s.monLine st).emit reply
  | _ => s.emit reply

/-- Completes a command with a status and its output fields. -/
def State.complete (s : State) (c : Caller) (st : Status) (fields : List (List Byte)) : State :=
  s.completeWith c st false 0 fields

end Sys2Proof.Machine
end

