-- ==== Sys2Proof/Machine/Adopt.lean ====
section
/-!
DEFINITION. What an epoch switch does on one span (R36 to R38, R53 to R57, R96, R97, R197, R321, R329, R335): the placement of guests, the
gates, ports, lanes, worlds, contexts and registers of the new epoch.
-/

namespace Sys2Proof.Machine

/-- The entries of a CONTEXT_MOVE payload: context and key handle. -/
def moveEntries (p : List Byte) : List (Nat × Nat) :=
  (List.range (leField p 2 2)).map fun i => (leField p (16 + 16 * i) 2, leField p (24 + 16 * i) 8)

/-- The guests of a configuration. -/
def Storyboard.guests (c : Storyboard) : List Nat := (c.ofType 8).map (·.inst)

/-- A place for memory of `size` bytes in the guest pool, at the lowest multiple of its size that no listed place overlaps; at most 448
places are tried (R321). -/
def findPlace (used : List (Nat × Nat)) (size : Nat) : Option Nat :=
  let first := (0x8000000 + size - 1) / size
  ((List.range 448).map fun i => (first + i) * size).find? fun b =>
    decide (b + size ≤ 0x40000000) && used.all fun u => decide (b + size ≤ u.1 ∨ u.1 + u.2 ≤ b)

/-- The places of guest memory on a span after apply (R321): a guest whose MEM_MIB and CORES are unchanged keeps its place; none if a guest
finds no place. -/
def placeGuests (x : SpanState) (sp : SpanId) (c : Storyboard) : Option (List (Nat × Nat)) :=
  let size (g : Nat) : Nat := c.world g 10 2 * 0x100000
  let here := c.guests.filter fun g => c.cores sp g ≠ 0
  let keep := here.filterMap fun g => (x.worlds.guests.find? fun y => y.g == g).bind fun y =>
    if x.rep.config.world g 10 2 = c.world g 10 2 ∧ x.rep.config.cores sp g = c.cores sp g then some (g, y.base) else none
  let todo := sortBy (fun a b => decide (size b < size a ∨ (size a = size b ∧ a ≤ b))) (here.filter fun g => !(keep.any fun k => k.1 == g))
  todo.foldl (fun acc g => acc.bind fun l => (findPlace (l.map fun y => (y.2, size y.1)) (size g)).map fun b => l ++ [(g, b)]) (some keep)

/-! ### Gates (R333, R335) -/

/-- Offset, size and permission words of a region register set. -/
def regionWords (r base sizeLog2 perm worlds : Nat) : List (Nat × Word32) :=
  [(Reg.gateRegionrBase r, BitVec.ofNat 32 (base / 4096)), (Reg.gateRegionrCfg r, BitVec.ofNat 32 (sizeLog2 + perm * 32)),
    (Reg.gateRegionrWorldsLo r, BitVec.ofNat 32 worlds), (Reg.gateRegionrWorldsHi r, BitVec.ofNat 32 (worlds / 2 ^ 32))]

/-- Read and write mask words of a slot. -/
def slotWords (n rd wr : Nat) : List (Nat × Word32) :=
  [(Reg.gateSlotsRdLo n, BitVec.ofNat 32 rd), (Reg.gateSlotsRdHi n, BitVec.ofNat 32 (rd / 2 ^ 32)),
    (Reg.gateSlotsWrLo n, BitVec.ofNat 32 wr), (Reg.gateSlotsWrHi n, BitVec.ofNat 32 (wr / 2 ^ 32))]

/-- The slots 0 to 28 and the regions 1 to 63 that a configuration and the places of its guests give a span. -/
def gateWords (c : Storyboard) (sp : SpanId) (places : List (Nat × Nat)) : List (Nat × Word32) :=
  let p := (c.scene 9 sp.num).getD []
  ((List.range 29).flatMap fun n => slotWords n (leField p (24 + 24 * n) 8) (leField p (32 + 24 * n) 8)) ++
    ((List.range 33).flatMap fun i =>
      match places.find? fun y => y.1 == i + 1 with
      | some y => regionWords (i + 1) y.2 (Nat.log2 (c.world (i + 1) 10 2 * 0x100000)) 7 (2 ^ (i + 1))
      | none => regionWords (i + 1) 0 0 0 0) ++
    (List.range 30).flatMap fun i =>
      if i < leField p 3 1 then
        regionWords (34 + i) (0x4000000 + leField p (712 + 24 * i) 8) (leField p (720 + 24 * i) 1) (leField p (721 + 24 * i) 1)
          (leField p (728 + 24 * i) 8)
      else regionWords (34 + i) 0 0 0 0

/-- The registers that hold the active bank of slots 0 to 28 and regions 1 to 63. -/
def gateOffsets : List Nat :=
  ((List.range 29).flatMap fun n => [Reg.gateSlotsRdLo n, Reg.gateSlotsRdHi n, Reg.gateSlotsWrLo n, Reg.gateSlotsWrHi n]) ++
    (List.range 63).flatMap fun i =>
      [Reg.gateRegionrBase (i + 1), Reg.gateRegionrCfg (i + 1), Reg.gateRegionrWorldsLo (i + 1), Reg.gateRegionrWorldsHi (i + 1)]

/-- FLIP (R335): the shadow bank becomes the active bank, and the former active bank the shadow bank. -/
def State.flipGates (s : State) (sp : SpanId) : State :=
  let was := gateOffsets.map fun o => (o, s.reg sp o)
  let s := gateOffsets.foldl (fun s o => s.setReg sp o (sparseGet 0 o (s.span sp).worlds.gateShadow)) s
  let s := s.updWorlds sp fun w => { w with
    gateShadow := was.foldl (fun l x => sparseSet x.1 x.2 (decide (x.2 ≠ 0)) l) [] }
  let n := 1 + ((List.range 63).filter fun i => s.fld sp (Fld.gateRegionrCfgSizeLog2 (i + 1)) ≠ 0).length
  ((s.setFld sp Fld.gateStatusRegions n).setFld sp Fld.gateStatusShadowReady 0).setFld sp Fld.gateEvtFlipped 1

/-- The secure world writes the gates of a configuration into the shadow bank (R335). -/
def State.shadowGates (s : State) (sp : SpanId) (c : Storyboard) (places : List (Nat × Nat)) : State :=
  let ws := gateWords c sp places
  (s.updWorlds sp fun w => { w with gateShadow := ws.foldl (fun l x => sparseSet x.1 x.2 (decide (x.2 ≠ 0)) l) [] }).setFld sp
    Fld.gateStatusShadowReady 1

/-- The gates of a configuration become active (R335): the shadow bank that PREPARE has written, and the flip. -/
def State.adoptGates (s : State) (sp : SpanId) (c : Storyboard) (places : List (Nat × Nat)) : State := (s.shadowGates sp c places).flipGates sp

/-! ### Worlds (R321, R329) -/

/-- A guest right after it has been placed. -/
def Guest.fresh (g base now : Nat) : Guest := ⟨g, base, none, 0, 0, now, false, [], [], now⟩

/-- What a guest's restart at a switch looks at: CORES on the span, MEM_MIB, IMAGE_DIGEST (R329). -/
def Storyboard.worldKey (c : Storyboard) (sp : SpanId) (g : Nat) : Nat × Nat × Nat := (c.cores sp g, c.world g 10 2, c.world g 24 32)

/-- The guests of a configuration on a span, at their places: new guests are LOADING, changed ones restart, removed ones are gone. -/
def State.adoptWorlds (s : State) (sp : SpanId) (old c : Storyboard) (places : List (Nat × Nat)) : State :=
  let here := (s.span sp).worlds.guests.map (·.g)
  let s := here.foldl (fun s g =>
    if places.any fun y => y.1 == g then (if old.worldKey sp g = c.worldKey sp g then s else s.restartGuest sp g)
    else (s.stopGuest sp g).setFld sp (Fld.kprGuestgStateState g) 0) s
  let s := s.updWorlds sp fun w => { w with
    guests := sortBy (fun a b => decide (a.g ≤ b.g)) (places.map fun y =>
      match w.guests.find? fun x => x.g == y.1 with
      | some x => { x with base := y.2 }
      | none => Guest.fresh y.1 y.2 s.elapsed)
    mem := places.foldl (fun m y =>
      if (w.guests.any fun x => x.g == y.1) && decide (old.worldKey sp y.1 = c.worldKey sp y.1) then m
      else m.zero (dramBase + y.2) (c.world y.1 10 2 * 0x100000)) w.mem }
  let s := (places.filter fun y => !here.contains y.1).foldl (fun s y => s.setFld sp (Fld.kprGuestgStateState y.1) 1) s
  (List.range 33).foldl (fun s i =>
    s.setFld sp (Fld.kprGuestgInflightCap (i + 1)) (if places.any fun y => y.1 == i + 1 then c.world (i + 1) 16 2 else 0)) s

/-! ### Ports, classification, lanes -/

/-- A PORT scene in the registers of a port (R97, R411): a port of the image is no longer retired, and a port that
becomes KR_10G trains (R85). -/
def State.adoptPort (s : State) (sp : SpanId) (n : Nat) (c : Storyboard) (installed : Bool) : State :=
  match c.port (portNo sp n) with
  | none => s
  | some p =>
    let was := s.fld sp (Fld.clsPortnCfgMode n)
    let s := (s.setFld sp (Fld.clsPortnCfgMode n) (leField p 0 1)).setFld sp (Fld.clsPortnCfgLanRole n) (leField p 1 1)
    let s := (s.setFld sp (Fld.clsPortnCfgNomatchDisp n) (leField p 2 1)).setFld sp (Fld.clsPortnCfgPtp n) (boolNat (leField p 3 1 == 1))
    let s := if installed then s.updPort sp n fun x => { x with retired := false } else s
    if leField p 0 1 ≠ 2 then s.updPort sp n fun x => { x with trainStart := none, trainFailed := none }
    else if was = 2 then s
    else s.updPort sp n fun x => { x with trainStart := some s.elapsed, trainFailed := none }

/-- The wildcard entries of a WILDCARD payload. -/
def wildEntries (p : List Byte) : List WcEntry :=
  (List.range (leField p 2 2)).map fun i =>
    let o := 16 + 80 * i
    ⟨leField p o 32, leField p (o + 32) 32, leField p (o + 64) 1, leField p (o + 65) 1, leField p (o + 66) 1, leField p (o + 68) 2⟩

/-- The lanes of a span under a configuration (R195, R197): a lane that changes guest is regiven, its gating ends, and a request that waits
for it returns `STALE_EPOCH`. -/
def State.adoptLanes (s : State) (sp : SpanId) (c : Storyboard) : State :=
  match c.scene 7 sp.num with
  | none => s
  | some p => (List.range 8).foldl (fun s k =>
      let g := leField p k 1
      if s.laneOwner sp k = g then s
      else
        let reqs := (s.span sp).worlds.requests.filter fun r => r.unit == k
        let s := s.updWorlds sp fun w => { w with requests := w.requests.filter fun r => r.unit ≠ k }
        let s := reqs.foldl (fun s r => s.answerGuest sp r.guest r.core .staleEpoch) s
        let s := if s.unitState sp k = 0 then s else s.unitOn sp k
        s.regiveLane sp k g) s

/-! ### Contexts (R36 to R38, R56) -/

/-- A moved context in a bank. -/
def Bank.move (b : Bank) (m : CtxMove) (version : Nat) : Bank :=
  let e := b.ctx m.n
  match m.slotB with
  | some sl => (b.setSlot m.n true sl).setCtx m.n { e with owner := m.dest, handleB := sl.handle, version := version }
  | none => ((b.setSlot m.n false Slot.empty).setSlot m.n true Slot.empty).setCtx m.n
      { e with owner := m.dest, handleA := 0, handleB := 0, version := version }

/-- The switch discards every shadow write that no commit has taken, then moves contexts (R56, R96). -/
def State.adoptContexts (s : State) (sp : SpanId) (a : Adoption) : State :=
  let s := s.keepViews sp true
  let x := s.span sp
  let s := if x.stream.dirty = [] then s else s.setFld sp Fld.steEvtCommitDiscarded 1
  let s := if x.cls.dirty || x.stream.keyPending then s.setFld sp Fld.clsEvtCommitDiscarded 1 else s
  let s := s.updStream sp fun y =>
    let act := a.moves.foldl (fun b m => b.move m ((b.ctx m.n).version + 1)) y.active
    { y with active := act, shadow := act, dirty := [], discarded := y.discarded ++ y.dirty.filter fun n => !y.discarded.contains n }
  let s := s.keepEmpty sp
  let s := s.updCls sp fun k => { k with shadow := k.active, dirty := false }
  let gone := (s.span sp).stream.active.ctxs.filter fun e =>
    e.2.state != .unconfigured && e.2.state != .draining && (Storyboard.range a.config e.1).isNone
  let s := gone.foldl (fun s e => s.ctxState sp e.1 .draining 0 (tai64 (s.now sp))) s
  let s := s.commitCls sp
  let s := s.updCls sp fun k => { k with wc := wildEntries ((Storyboard.scene a.config 11 sp.num).getD []) }
  s.setFld sp Fld.clsWcCountCount ((s.span sp).cls.wc.length)

/-! ### The switch -/

/-- The owners that a configuration leaves without an ORK lose their m_n and sealed ORK record on a span (R169). -/
def State.dropOwners (s : State) (sp : SpanId) (c : Storyboard) : State :=
  let stays (n : Nat) : Bool := n == 0 || (c.scene 2 n).isSome
  let s := s.upd sp fun x => { x with
    rep := { x.rep with orks := x.rep.orks.filter fun y => stays y.1 }
    vault := { x.vault with mn := x.vault.mn.filter fun y => stays y.1 }
    nvs := { x.nvs with salts := x.nvs.salts.filter (fun y => stays y.1), home := x.nvs.home.filter fun h => h.area != .owner || stays h.key } }
  s.updHub fun h => { h with anchors := h.anchors.filter fun y => stays y.1 }

/-- A change of PROTECTION on a span (R170): the new m_n of each owner with an ORK takes the place of the former one, the former sealed ORKs are
erased, and each ORK is sealed under its new KW_n. The anchor words change with the first span that switches. -/
def State.reprotect (s : State) (sp : SpanId) (anchored : Bool) (mns : List (Nat × List Byte)) : State :=
  let mns := mns.filter fun y => ((s.span sp).rep.ork y.1).isSome
  let s := s.upd sp fun x => { x with
    vault := { x.vault with mn := mns }
    nvs := { x.nvs with salts := if anchored then [] else mns, home := x.nvs.home.filter fun h => h.area != .owner } }
  let s := if s.fld sp Fld.tmpStatusProtection = (if anchored then 1 else 2) then s
    else s.updHub fun h => { h with anchors := if anchored then mns else [] }
  (s.span sp).rep.orks.foldl (fun s y => s.writeHome sp ((s.span sp).cont.csn + 1) (.owner, y.1)) s

/-- Protection and owners at a switch on a span (R169, R170). -/
def State.adoptOwners (s : State) (sp : SpanId) (old : Storyboard) (a : Adoption) : State :=
  let c : Storyboard := a.config
  let s := s.dropOwners sp c
  let s := if old.anchored = c.anchored then s else s.reprotect sp c.anchored a.mns
  let code := if c.anchored then 1 else 2
  (s.setFld sp Fld.vltStateProtection code).setFld sp Fld.tmpStatusProtection code

/-- The registers that show the epoch in force. -/
def State.showEpoch (s : State) (sp : SpanId) : State :=
  let r := (s.span sp).rep
  let s := s.set64 sp Reg.cntEpochLo Reg.cntEpochHi r.epoch
  let s := s.set64 sp Reg.hostEpochLo Reg.hostEpochHi r.epoch
  let s := s.setFld sp Fld.hubBootEpoch0 (boolNat (r.epoch == 0))
  let d := r.config.digest
  (List.range 8).foldl (fun s i => s.setReg sp (Reg.cntCfgDigestn i) (BitVec.ofNat 32 (leField d (4 * i) 4))) s

/-- What PREPARE has built for an adoption, or would build (R49). -/
def SpanState.prepared (x : SpanState) (a : Adoption) (sp : SpanId) : Adoption × List (Nat × Nat) :=
  (x.cont.banks.filter fun b => b.1 == a).getD (a, (placeGuests x sp a.config).getD [])

/-- The epoch switch on one span (R53); nothing happens on a span that is at the epoch already. -/
def State.adopt (s : State) (sp : SpanId) (a : Adoption) : State :=
  let x := s.span sp
  if a.epoch ≤ x.rep.epoch then s
  else
    let old := x.rep.config
    let c : Storyboard := a.config
    let places := (x.prepared a sp).2
    let s := s.adoptContexts sp a
    let s := (s.adoptPort sp 0 c (a.ports.contains (portNo sp 0))).adoptPort sp 1 c (a.ports.contains (portNo sp 1))
    let s := (s.adoptLanes sp c).adoptWorlds sp old c places
    let s := s.adoptGates sp c places
    let s := s.adoptOwners sp old a
    let prefNew := c.siteNat 6 1
    let s := s.updRep sp fun r => { r with
      config := c
      epoch := a.epoch
      epochDigest := c.digest
      staged := none
      lastExpired := false
      roles := (r.roles.filter fun y => !a.roles.contains y.1) ++ a.roles.map fun y => (y, a.epoch)
      pref := if old.siteNat 6 1 = prefNew then r.pref else some (if prefNew = 2 then .b else .a) }
    let s := s.updCont sp fun k => { k with prepared := none, decision := none, banks := none }
    let s := s.setFld sp Fld.cntStatePref (((s.span sp).rep.pref.map SpanId.code).getD 0)
    let s := s.showEpoch sp
    let s := ((s.setFld sp Fld.cntEpochEvtSwitched 1).hostEvtAll sp 0).virqAll sp 1
    let s := s.set64 sp Reg.cntStageEpochLo Reg.cntStageEpochHi 0
    (s.setFld sp Fld.cntStageStateState 0).set64 sp Reg.cntSwitchTimeLo Reg.cntSwitchTimeHi 0

end Sys2Proof.Machine
end

