-- ==== Sys2Proof/Machine/Apply.lean ====
section
/-!
DEFINITION. Applying a committed change to one span's replica (R263 steps 4 and 5, R371).
-/

namespace Sys2Proof.Machine

/-- Puts an element into a list that is kept in rising order of a number, replacing the one with the same number. -/
def putBy {α : Type} (key : α → Nat) (x : α) : List α → List α
  | [] => [x]
  | y :: t => if key x < key y then x :: y :: t else if key x = key y then x :: t else y :: putBy key x t

/-- The session with an ID. -/
def Replica.session (r : Replica) (id : Nat) : Option Session := r.sessions.find? fun x => x.id == id
/-- The proposal with an ID. -/
def Replica.prop (r : Replica) (id : Nat) : Option Proposal := r.props.find? fun x => x.id == id
/-- The held lock of an owner, or of the site for owner 0 (R71). -/
def Replica.lock (r : Replica) (n : Nat) : Option Lock := r.locks.find? fun x => x.owner == n
/-- The next SERIAL of an owner (R173). -/
def Replica.serial (r : Replica) (n : Nat) : Nat := sparseGet 1 n r.serials

/-- The owner that a handle names (Objects). -/
def ownerOf (h : Nat) : Nat := bitsOf h 39 32

/-- The head change of an object at zeroisation (R172 step 5, VERSION). -/
def KeyObj.zeroise (o : KeyObj) (t : Nat) : KeyObj := { o with state := .zeroised, version := o.version + 1, changed := t }

/-- Shows the vault jobs of a span. -/
def State.showJobs (s : State) (sp : SpanId) : State := s.setFld sp Fld.vltJobsJobs (s.span sp).vault.jobs.length

/-- The vault withdraws the jobs of a span that use some objects (R172 step 4, R176, R209): one on a lane goes into the wipe with the status, and completes
with it then; one that waits completes at once. No result is delivered. -/
def State.endJobs (s : State) (sp : SpanId) (hit : Nat → Bool) (st : Status) : State :=
  let s := (List.range 8).foldl (fun s k => if (s.lane sp k).vault.any fun j => j.handles.any hit then s.abortLane sp k st else s) s
  let waiting := (s.span sp).vault.jobs.filter fun j => j.handles.any hit && !((s.span sp).lanes.any fun l => l.vault == some j)
  let s := s.upd sp fun x => { x with vault := { x.vault with jobs := x.vault.jobs.filter fun j => !waiting.contains j } }
  (waiting.foldl (fun s j => s.complete j.caller st []) s).showJobs sp

/-- Zeroisation of the owners of a mask on one span up to the objects: R172 steps 1 to 4. In ANCHORED protection m_n is the anchor word on the
hub die, otherwise the salt in the span's NOR. -/
def State.zeroiseData (s : State) (sp : SpanId) (mask : Nat) : State :=
  let hit (n : Nat) : Bool := mask.testBit n
  let s := if (s.span sp).rep.config.anchored then s.updHub fun h => { h with anchors := h.anchors.filter fun x => !hit x.1 } else s
  let s := s.upd sp fun x => { x with
    vault := { x.vault with
      mn := x.vault.mn.filter fun y => !hit y.1
      cache := x.vault.cache.filter fun h => !hit (ownerOf h) }
    nvs := { x.nvs with salts := x.nvs.salts.filter fun y => !hit y.1 } }
  let s := s.upd sp fun x => x.clearSlots fun sl => sl.handle != 0 && hit (ownerOf sl.handle)
  s.endJobs sp (fun h => h != 0 && hit (ownerOf h)) .serviceUnavailable

/-- Shows which owners hold ZEROISED objects (VLT registers). -/
def State.showZeroised (s : State) (sp : SpanId) : State :=
  s.set64 sp Reg.vltZeroisedLo Reg.vltZeroisedHi
    (((s.span sp).rep.objs.filter fun o => o.state == .zeroised).foldl (fun m o => m ||| 2 ^ o.owner) 0)

/-- Zeroisation of the owners of a mask on one span: R172 steps 1 to 5. -/
def State.zeroiseSpan (s : State) (sp : SpanId) (mask t : Nat) : State :=
  let hit (n : Nat) : Bool := mask.testBit n
  let s := s.zeroiseData sp mask
  let s := s.updRep sp fun r => { r with
    objs := r.objs.map fun o => if hit o.owner && o.state != .zeroised then o.zeroise t else o
    orks := r.orks.filter fun y => !hit y.1 }
  let s := s.showZeroised sp
  let s := s.set64 sp Reg.vltZeroiseTimeLo Reg.vltZeroiseTimeHi (tai64 t)
  s.setFld sp Fld.vltEvtZeroised 1

/-- Zeroisation at the moment an owner's m_n is destroyed: with its replicated part, at the time of the committed change, or without it. -/
def State.zeroiseNow (s : State) (sp : SpanId) (mask : Nat) (t : Option Nat) : State :=
  match t with
  | some t => s.zeroiseSpan sp mask t
  | none => s.zeroiseData sp mask

/-- The order to zeroise one owner on a span. In UNANCHORED protection the page of SALT_n is overwritten first, and the zeroisation takes
effect when that program ends (R170, R306). -/
def State.zeroiseOwner (s : State) (sp : SpanId) (t : Option Nat) (n : Nat) : State :=
  let x := s.span sp
  let queued := x.nvs.progs.any fun p => p.salt.any fun y => y.1 == n
  if x.rep.config.anchored ∨ (!(x.nvs.salts.any fun y => y.1 == n) ∧ !queued) then s.zeroiseNow sp (2 ^ n) t
  else if queued then
    s.upd sp fun x => { x with nvs := { x.nvs with progs := x.nvs.progs.map fun p =>
      if (p.salt.any fun y => y.1 == n) && t.isSome then { p with salt := some (n, t) } else p } }
  else s.upd sp fun x => { x with nvs := { x.nvs with progs := x.nvs.progs ++ [⟨.owner, 0, false, 0, some (n, t)⟩] } }

/-- The order to zeroise the owners of a mask, in owner order (R172, R306). -/
def State.zeroiseOrder (s : State) (sp : SpanId) (mask : Nat) (t : Option Nat) : State :=
  (List.range 33).foldl (fun s n => if mask.testBit n then s.zeroiseOwner sp t n else s) s

/-- The FENCE response on one span: the object becomes FENCED and its slots are fenced (R134, R176). -/
def State.fenceSpan (s : State) (sp : SpanId) (handle t : Nat) : State :=
  let s := s.upd sp fun x => x.fenceSlots handle
  let s := s.upd sp fun x => { x with
    rep := { x.rep with objs := x.rep.objs.map fun o =>
      if o.handle = handle ∧ (o.state = .active ∨ o.state = .suspended) then { o with state := .fenced, version := o.version + 1, changed := t } else o } }
  let s := s.endJobs sp (fun h => h == handle) .usageDenied
  (s.setFld sp Fld.vltEvtFenced 1).setFld sp Fld.steEvtFenced 1

/-- Shows the state of an update on both spans. -/
def State.showUpdate (s : State) : State :=
  (s.setFld .a Fld.hubUpdateStateState s.hub.update.state).setFld .b Fld.hubUpdateStateState s.hub.update.state

/-- A step of the update (R449 step 1): the inactive bank of a span becomes its TRIAL bank with trial count 0, and a span reset with cause FW_UPDATE
is due. -/
def State.trialReset (s : State) (sp : SpanId) (state step : Nat) : State :=
  let s := s.upd sp fun x => { x with
    nvs := { x.nvs with boot := ⟨x.boot.bank, some (1 - x.boot.bank), 0⟩ }
    boot := { x.boot with resetDue := some 4 } }
  (s.updHub fun h => { h with update := { h.update with state := state, target := sp, since := s.elapsed, step := step } }).showUpdate

/-- One effect of a committed change on one span, at the keystone time of its record. -/
def State.applyEffect (s : State) (sp : SpanId) (t : Nat) (e : Effect) : State :=
  match e with
  | .putObj o => s.updRep sp fun r => { r with objs := putBy (·.handle) o r.objs }
  | .dropObj h =>
    let s := s.upd sp fun x => { x with
      vault := { x.vault with cache := x.vault.cache.filter (· ≠ h) }
      rep := { x.rep with objs := x.rep.objs.filter fun o => o.handle ≠ h } }
    s.setFld sp Fld.vltEvtDestroyed 1
  | .putCtr c => s.updRep sp fun r => { r with ctrs := putBy (·.handle) c r.ctrs }
  | .dropCtr h => s.updRep sp fun r => { r with ctrs := r.ctrs.filter fun c => c.handle ≠ h }
  | .setSerial n v => s.updRep sp fun r => { r with serials := sparseSet n v (decide (v ≠ 1)) r.serials }
  | .putOrk n key m =>
    let s := s.upd sp fun x => { x with
      rep := { x.rep with orks := sparseSet n key true x.rep.orks }
      vault := { x.vault with mn := sparseSet n m true x.vault.mn } }
    if (s.span sp).rep.config.anchored then s.updHub fun h => { h with anchors := sparseSet n m true h.anchors }
    else s.updNvs sp fun v => { v with salts := sparseSet n m true v.salts }
  | .shadowCtx n e => s.shadowCtx sp n e
  | .shadowSlot n b sl => s.shadowSlot sp n b sl
  | .commitCtx n => s.commitCtx sp n
  | .ctxState n st anchor act => s.ctxState sp n st anchor act
  | .promote n => s.promoteCtx sp n
  | .fence h => s.fenceSpan sp h t
  | .zeroise m => s.zeroiseOrder sp m (some t)
  | .setPref p =>
    (s.updRep sp fun r => { r with pref := some p }).setFld sp Fld.cntStatePref p.code
  | .restartGuest g => s.restartGuest sp g
  | .resetSpan p => s.upd p fun x => { x with boot := { x.boot with resetDue := some 3 } }
  | .fwUpdate _ =>
    if s.hub.update.state = 2 then s.trialReset (if s.a.cont.mode = .follower then .a else .b) 3 1 else s

/-- One delta of a committed change on one span. -/
def State.applyDelta (s : State) (sp : SpanId) (t : Nat) (d : Delta) : State :=
  match d with
  | .eff e => s.applyEffect sp t e
  | .openSession x => s.updRep sp fun r => { r with sessions := putBy (·.id) x r.sessions }
  | .closeSession id => s.updRep sp fun r => { r with sessions := r.sessions.filter fun x => x.id ≠ id }
  | .sessionExport id first => s.updRep sp fun r => { r with
      sessions := r.sessions.map fun x => if x.id = id then { x with exportFrom := some first } else x }
  | .putProp p => s.updRep sp fun r => { r with props := putBy (·.id) p r.props }
  | .dropProp id => s.updRep sp fun r => { r with props := r.props.filter fun p => p.id ≠ id }
  | .propSerial n v => s.updRep sp fun r => { r with propSerials := sparseSet n v (decide (v ≠ 1)) r.propSerials }
  | .lockTake l => s.updRep sp fun r => { r with locks := putBy (·.owner) l r.locks }
  | .lockRenew n dl => s.updRep sp fun r => { r with locks := r.locks.map fun l => if l.owner = n then { l with deadline := dl } else l }
  | .lockStep n named effs slates => s.updRep sp fun r => { r with
      locks := r.locks.map fun l =>
        if l.owner = n then
          { l with stepsDone := l.stepsDone + 1, named := l.named ++ named, working := l.working ++ effs, slates := l.slates ++ slates }
        else l }
  | .lockFree n => s.updRep sp fun r => { r with locks := r.locks.filter fun l => l.owner ≠ n }
  | .setStaged st ex =>
    let s := s.updRep sp fun r => { r with staged := st, lastExpired := ex }
    if st.any fun x => x.state == .prepared || x.state == .committed then s
    else s.updCont sp fun c => { c with prepared := none, decision := none, banks := none }
  | .ackLog seq => s.updRep sp fun r => { r with log := r.log.ack seq }
  | .setFormat n => s.updRep sp fun r => { r with format := n }
  | .adopt a => s.adopt sp a
  | .clearSticky m => s.setReg sp Reg.errClassSticky (s.reg sp Reg.errClassSticky &&& ~~~ (BitVec.ofNat 32 m))
  | .coalesce g => s.updRep sp fun r => { r with log := { r.log with coalesced := coalesce g t r.log.coalesced } }
  | .clearCoalesced => s.updRep sp fun r => { r with log := { r.log with coalesced := [] } }

/-- Shows the staged image in the epoch registers (Epoch registers). -/
def State.showStaged (s : State) (sp : SpanId) : State :=
  let st := (s.span sp).rep.staged
  let s := s.set64 sp Reg.cntStageEpochLo Reg.cntStageEpochHi ((st.map (·.epoch)).getD 0)
  let s := s.setFld sp Fld.cntStageStateState ((st.map (·.state.code)).getD 0)
  s.set64 sp Reg.cntSwitchTimeLo Reg.cntSwitchTimeHi
    (match st with
     | some x => if x.state = .committed then tai64 x.tsw else 0
     | none => 0)

/-- Shows the vault's and the quorum's counts in their registers (VLT registers). -/
def State.showVault (s : State) (sp : SpanId) : State :=
  let r := (s.span sp).rep
  let s := s.setFld sp Fld.vltObjCountCount r.objs.length
  let s := s.setFld sp Fld.vltCtrCountCount r.ctrs.length
  let s := s.setFld sp Fld.vltDrainingCount (r.objs.filter fun o => o.state == .draining).length
  let s := s.set64 sp Reg.vltKekLo Reg.vltKekHi (r.orks.foldl (fun m x => m ||| 2 ^ x.1) 0)
  let s := s.setFld sp Fld.vltPropOpenOpen (r.props.filter fun p => p.state == .opened || p.state == .approved).length
  let s := s.setFld sp Fld.vltSessionCountSessions r.sessions.length
  let s := s.set64 sp Reg.vltLockHeldLo Reg.vltLockHeldHi (r.locks.foldl (fun m l => m ||| 2 ^ l.owner) 0)
  (s.showZeroised sp).setFld sp Fld.vltJobsJobs (s.span sp).vault.jobs.length

/-- Notes an applied change in the NVS of a span: home records and VOID entries, the pages of its slates, an APPLIED record after every 64 changes and
once a second, and a COMMITTED record (R371). `from_` is the write point of the log before the change. -/
def State.noteApplied (s : State) (sp : SpanId) (r : Record) (from_ : Nat) : State :=
  let rep := (s.span sp).rep
  let s := s.updNvs sp fun v => (r.change.deltas.flatMap homeVoids).foldl Nvs.voidHome v
  let s := (r.change.deltas.flatMap (homeKeys rep)).eraseDups.foldl (fun s k => s.writeHome sp r.csn k) s
  let pages := ((rep.log.entries.filter fun e => decide (from_ ≤ e.pos)).map LogEntry.page).eraseDups
  s.updNvs sp fun v =>
    let v := (v.programPages pages).addStatus .committed 9 0xFFFFFFFF r.csn
    if 63 ≤ v.sinceApplied ∨ v.appliedAt + sec ≤ r.time then { v.addStatus .applied 9 0xFFFFFFFF r.csn with sinceApplied := 0, appliedAt := r.time }
    else { v with sinceApplied := v.sinceApplied + 1 }

/-- A slate SB_DISCARDED shows in the epoch registers: REFUSED, and LAST_CHECK where a feasibility check failed (Epoch registers). -/
def State.noteDiscard (s : State) (sp : SpanId) (q : SlateReq) : State :=
  if q.kind ≠ 0x0104 then s
  else
    let s := s.setFld sp Fld.cntEpochEvtRefused 1
    if q.status = .imageInfeasible then s.setFld sp Fld.cntStageStateLastCheck (leField q.detail 1 1) else s

/-- Applies a committed record to one span: its deltas, its slates, the CSN and the registers that show them. -/
def State.applyRecord (s : State) (sp : SpanId) (r : Record) : State :=
  let from_ := (s.span sp).rep.log.wp
  let s := r.change.deltas.foldl (fun s d => s.applyDelta sp r.time d) s
  let first := genesisHash (s.unitId sp)
  let s := s.updRep sp fun x =>
    let l : Log := if x.log.nextSeq = 0 then { x.log with headHash := first } else x.log
    { x with log := r.change.slates.foldl (fun l q => l.append r.time r.epoch q) l }
  let s := if r.change.slates.any fun q => q.kind == 0x0402 then s.setFld sp Fld.vltLogEvtCheckpoint 1 else s
  let s := if r.change.slates.any fun q => q.kind == 0x0304 then s.setFld sp Fld.vltLogEvtAbandoned 1 else s
  let s := r.change.slates.foldl (fun s q => s.noteDiscard sp q) s
  let s := if r.change.slates.any fun q => q.kind == 0x0407 then s.setFld sp Fld.vltLogEvtWear 1 else s
  let s := s.updCont sp fun c => { c.addRecord r with csn := r.csn, open_ := c.open_.filter fun y => y.csn ≠ r.csn }
  let s := s.noteApplied sp r from_
  let s := s.set64 sp Reg.cntCsnLo Reg.cntCsnHi r.csn
  let s := s.set64 sp Reg.nvsAppliedLo Reg.nvsAppliedHi r.csn
  let s := s.set64 sp Reg.nvsCommittedLo Reg.nvsCommittedHi r.csn
  let s := s.upd sp SpanState.logErase
  ((s.showVault sp).showStaged sp).showLog sp

end Sys2Proof.Machine
end

