-- ==== Sys2Proof/Machine/Callers.lean ====
section
/-!
DEFINITION. Who issues a command and what a decision on it gives: the slates of a caller, its session, the owners it may address
(R191), the epoch check (R54), the versions of subjects (R65), and references to key objects (R185).
-/

namespace Sys2Proof.Machine

/-! ### Decisions -/

/-- Why a command is refused: its status and, for `IMAGE_INFEASIBLE`, the feasibility check and the scene-table index. -/
structure Denial where
  st : Status
  check : Nat
  entry : Nat
deriving DecidableEq, Repr

/-- A refusal with a status. -/
def deny {α : Type} (st : Status) : Except Denial α := .error ⟨st, 0, 0⟩

/-- What an accepted command does when it is ordered (R262). -/
structure Prepared where
  status : Status
  deltas : List Delta
  slates : List SlateReq
  fields : List (List Byte)
deriving DecidableEq, Repr

/-- The decision on a command. -/
abbrev Decision := Except Denial Prepared

/-- Refuses with a status if a condition holds. -/
def refuseIf (c : Bool) (st : Status) : Except Denial Unit := if c then deny st else .ok ()

/-! ### Callers -/

/-- The PORT code of a slate for a caller (Slate layout): P4 and P5 are the host ports of A and B. -/
def Caller.port (c : Caller) : Nat :=
  match c.origin with
  | .host _ _ _ => 4 + c.span.num
  | .guest _ _ _ => 7
  | .mgmt _ _ => 6
  | .monitor => 9
  | .proposal _ | .device => 8

/-- The PLANE of a slate for a caller; an executed proposal counts as management (log entry 12). -/
def Caller.plane (c : Caller) : Plane :=
  match c.origin with
  | .host _ _ _ | .guest _ _ _ => .control
  | .mgmt _ _ | .monitor | .proposal _ => .management
  | .device => .device

/-- The FUNCTION of a slate for a caller. -/
def Caller.fn (c : Caller) : Nat :=
  match c.origin with
  | .host n _ _ => n
  | .guest g _ _ => g
  | _ => 0xFF

/-- The command of an executing proposal, or of the device, on a span. -/
def internalCaller (sp : SpanId) (pid : Nat) : Caller := ⟨sp, .proposal pid, 0, 0⟩

/-- A session serves the door through which it was opened (R61). -/
def Session.serves (x : Session) (c : Caller) : Bool :=
  match x.origin, c.origin with
  | .host n _ _, .host m _ _ => x.span == c.span && n == m
  | .mgmt n _, .mgmt m _ => n == m
  | _, _ => false

/-- The open session that a caller names. -/
def Replica.sessionOf (r : Replica) (c : Caller) : Option Session :=
  if c.session = 0 then none else (r.session c.session).filter fun x => x.serves c

/-- A slate of a command: plane, port, function, officer and session are the caller's. -/
def Replica.slate (r : Replica) (c : Caller) (kind : Nat) (st : Status) (owner subject : Nat) (detail : List Byte) : SlateReq :=
  ⟨none, kind, st, c.plane, .span c.span, c.port, c.fn, owner, ((r.sessionOf c).map fun x => x.signer.index).getD 0xFF,
    ((r.sessionOf c).map (·.id)).getD 0, subject, detail⟩

/-- The owner that a proposal ID names (R65). -/
def pidOwner (pid : Nat) : Nat := pid / 2 ^ 56

/-- The owners whose objects a caller may address (R191). -/
def Replica.mayAddress (r : Replica) (c : Caller) (owner : Nat) : Bool :=
  let wide : Bool := owner == 0 || ((r.sessionOf c).any fun x => x.signer.role == .officer && x.signer.owner == owner)
  match c.origin with
  | .host n _ _ => if n = 0 then wide else n == owner
  | .guest g _ _ => if g = 1 then wide else g == owner + 1
  | .mgmt _ _ => wide
  | .proposal pid => pidOwner pid == owner
  | .monitor | .device => false

/-- The role epoch of a resource (R54): zero until it changes. -/
def Replica.role (r : Replica) (x : Resource) : Nat := ((r.roles.find? fun y => y.1 == x).map (·.2)).getD 0

/-- The role epoch of the queue pair that a host descriptor or a vault call came through. -/
def State.queueRole (s : State) (c : Caller) : Nat :=
  match c.origin with
  | .host _ q _ => ((s.span c.span).host.queue q).roleEpoch
  | .guest g q _ => ((s.guest c.span g).map fun x => (x.queue q).roleEpoch).getD 0
  | _ => 0

/-- The resources that a caller's command addresses by itself (R54, R246). -/
def Caller.resources (c : Caller) : List Resource :=
  match c.origin with
  | .host n _ _ => [.port, .fn n]
  | .guest g _ _ => [.guest g]
  | _ => []

/-- The epoch that a host descriptor or a vault call carries lies between the role epochs of its resources and the epoch in force (R54), and
its function has a role (R257); other callers carry no epoch. -/
def State.epochFits (s : State) (c : Caller) (extra : List Resource) : Bool :=
  let r := (s.span c.span).rep
  match c.origin with
  | .host n _ _ =>
    (n == 0 || (r.config.scene 2 n).isSome) && decide (c.epoch ≤ r.epoch) && decide (s.queueRole c ≤ c.epoch) &&
      (c.resources ++ extra).all fun x => decide (r.role x ≤ c.epoch)
  | .guest _ _ _ =>
    decide (c.epoch ≤ r.epoch) && decide (s.queueRole c ≤ c.epoch) && (c.resources ++ extra).all fun x => decide (r.role x ≤ c.epoch)
  | _ => true

/-- The signers with a session act as producers or as officers of an owner. -/
def Session.isOf (x : Session) (owner : Nat) : Bool :=
  x.signer.owner == owner && (if owner = 0 then x.signer.role == .producer else x.signer.role == .officer)

/-! ### Versions and subjects (R65) -/

/-- The VERSION of a subject on a span (R65): zero if it does not exist. -/
def SpanState.version (x : SpanState) : Subject → Nat
  | .obj h => ((x.rep.obj h).map (·.version)).getD 0
  | .ctr h => ((x.rep.ctr h).map (·.version)).getD 0
  | .ctx n => (x.stream.active.ctx n).version

/-- The 64-bit name of a subject (R65). -/
def Subject.name : Subject → Nat
  | .obj h => 2 ^ 56 + h % 2 ^ 56
  | .ctr h => 2 * 2 ^ 56 + h % 2 ^ 56
  | .ctx n => 3 * 2 ^ 56 + n % 4096

/-- The opcode of a command under quorum. -/
def QCmd.opcode : QCmd → Nat
  | .keyGenerate _ => 0x0801
  | .keyImportSealed _ => 0x0802
  | .keyUnwrap _ => 0x0803
  | .keyDerive _ => 0x0804
  | .keySetUsage _ _ _ => 0x0805
  | .keySetState _ _ => 0x0806
  | .keyDestroy _ => 0x0807
  | .ctrCreate _ _ _ => 0x0809
  | .ctrDestroy _ => 0x080A
  | .ctxConfig _ => 0x0701
  | .ctxKeyLoad _ => 0x0702
  | .ctxKeyClear _ _ => 0x0703
  | .ctxCommit _ => 0x0704
  | .ctxActivate _ => 0x0705
  | .ctxSuspend _ => 0x0706
  | .ctxResume _ => 0x0707
  | .ctxDrain _ => 0x0708
  | .sbKeystonePref _ => 0x0507
  | .sbSpanReset _ => 0x0508
  | .sbFwUpdate _ => 0x050A
  | .worldRestart _ => 0x0A01

/-- The input fields of a command under quorum, in the order of its table (R243). -/
def QCmd.inputs : QCmd → List (List Byte)
  | .keyGenerate a => [num a.type, num a.usage, num a.flags, num a.deriveMask, a.label] ++ (if a.type = 3 then [num a.hmacLen] else [[]])
  | .keyImportSealed a => [num a.unwrapping, a.blob, num a.usage]
  | .keyUnwrap a => [num a.unwrapping, num a.method, a.wrapped, num a.type, num a.usage, num a.flags, a.label]
  | .keyDerive a => [num a.root, num a.profile, a.kdfLabel, a.context, num a.type, num a.length, num a.usage, a.label]
  | .keySetUsage h u f => [num h, num u, num f]
  | .keySetState h v => [num h, num v]
  | .keyDestroy h => [num h]
  | .ctrCreate i l b => [num i, num l, b]
  | .ctrDestroy h => [num h]
  | .ctxConfig a => [num a.ctx, num a.dir, num a.alg, num a.tagBytes, num a.template, num a.failDisp, num a.overlapS, num a.rate,
      num a.freshMs, a.classKey]
  | .ctxKeyLoad a => [num a.ctx, num (boolNat a.slotB), num a.handle, num a.keyId, num a.salt, num a.fromSecond]
  | .ctxKeyClear n b => [num n, num (boolNat b)]
  | .ctxCommit n | .ctxActivate n | .ctxSuspend n | .ctxResume n | .ctxDrain n => [num n]
  | .sbKeystonePref p | .sbSpanReset p => [num p.code]
  | .sbFwUpdate d => [d]
  | .worldRestart g => [num g]

/-- The input values of a command under quorum at a host port (R243): the length of a KEY_GENERATE counts for an HMAC key only. -/
def QCmd.inputVals : QCmd → List (Option (List Byte))
  | .keyGenerate a => [some (num a.type), some (num a.usage), some (num a.flags), some (num a.deriveMask), some a.label,
      if a.type = 3 then some (num a.hmacLen) else none]
  | q => q.inputs.map some

/-- The body of a command under quorum: its input fields as R243 lays them out. -/
def QCmd.body (q : QCmd) : List Byte := outputBytes q.inputs

/-- The subjects that a command under quorum names (R65). -/
def QCmd.subjects : QCmd → List Subject
  | .keyGenerate _ | .ctrCreate _ _ _ | .sbKeystonePref _ | .sbSpanReset _ | .sbFwUpdate _ | .worldRestart _ => []
  | .keyImportSealed a => [.obj a.unwrapping]
  | .keyUnwrap a => [.obj a.unwrapping]
  | .keyDerive a => [.obj a.root]
  | .keySetUsage h _ _ | .keySetState h _ | .keyDestroy h => [.obj h]
  | .ctrDestroy h => [.ctr h]
  | .ctxConfig a => [.ctx a.ctx]
  | .ctxKeyLoad a => [.obj a.handle, .ctx a.ctx]
  | .ctxKeyClear n _ | .ctxCommit n | .ctxActivate n | .ctxSuspend n | .ctxResume n | .ctxDrain n => [.ctx n]

/-! ### References (R185) and pins (R46) -/

/-- An active key slot of a context holds an object. -/
def Stream.holds (x : Stream) (n h : Nat) : Bool := (x.active.slot n false).handle == h || (x.active.slot n true).handle == h

/-- The reference count of an object on a span (R185): its key slots, frames in flight under a slot of their context that has released it (R57), and
vault commands admitted with it. -/
def SpanState.refs (x : SpanState) (h : Nat) : Nat :=
  let frames := (x.port0.frames ++ x.port1.frames).filter fun f => f.handle == h && !(f.ctx.any fun n => x.stream.holds n h)
  x.stream.slotRefs h + frames.length + (x.vault.jobs.filter fun j => j.handles.contains h).length

/-- The CONTEXT_MOVE payloads of a staged image. -/
def Staged.moves (x : Staged) : List (List Byte) := (x.ops.filter fun o => o.scene.type == 5).map fun o => o.scene.payload

/-- The key objects that a staged image pins (R46). -/
def Replica.pinned (r : Replica) (h : Nat) : Bool :=
  h != 0 && (r.staged.any fun x => x.moves.any fun p => (moveEntries p).any fun e => e.2 == h)

/-- Slot B of a context is held by a staged KEY_HANDOVER (R46). -/
def Replica.holdsSlotB (r : Replica) (n : Nat) : Bool :=
  r.staged.any fun x => x.moves.any fun p => leField p 6 1 == 1 && (moveEntries p).any fun e => e.1 == n

/-- The subject that an effect changes, if it is a key object, counter or context. -/
def Effect.subject : Effect → Option Subject
  | .putObj o => some (.obj o.handle)
  | .dropObj h => some (.obj h)
  | .putCtr c => some (.ctr c.handle)
  | .dropCtr h => some (.ctr h)
  | .shadowCtx n _ | .shadowSlot n _ _ | .commitCtx n | .ctxState n _ _ _ | .promote n => some (.ctx n)
  | _ => none

/-- A subject is held by an open ceremony other than that of `lock`, because a step of it names or has changed the subject (R72). -/
def Replica.heldElsewhere (r : Replica) (lock : Option Nat) (x : Subject) : Bool :=
  r.locks.any fun l => some l.owner != lock && (l.named.contains x || l.working.any fun e => e.subject == some x)

end Sys2Proof.Machine
end

