-- ==== Sys2Proof/Machine/KeyCmds.lean ====
section
/-!
DEFINITION. The vault commands under quorum (R174 to R192): types, usages, the attribute head, sealed blobs, and the decision on each
command for its owner.
-/

namespace Sys2Proof.Machine

/-! ### Types and usages -/

/-- The usage bit STREAM_TAG (R175). -/
def usageTag : Nat := 0x100

/-- The type is symmetric (R174). -/
def symmetricType (t : Nat) : Bool := t == 1 || t == 2 || t == 3

/-- The private asymmetric types (R174). -/
def privateTypes : List Nat := [0x10, 0x11, 0x12, 0x18, 0x19, 0x1A, 0x1B, 0x20, 0x21, 0x22, 0x28, 0x29, 0x2A, 0x30, 0x31]

/-- The type is a public key of an asymmetric type (R174). -/
def publicType (t : Nat) : Bool := decide (0x80 ≤ t) && privateTypes.contains (t - 0x80)

/-- The usages that a type permits (R174). -/
def permitted (t : Nat) : Nat :=
  if t = 1 ∨ t = 2 then 0x160
  else if t = 3 then 0x180
  else if t = 0x1A ∨ t = 0x1B then 0x4
  else if t = 0x30 ∨ t = 0x31 then 0x18
  else if privateTypes.contains t then 0x3
  else if publicType t then 0xA else 0

/-- Whether `n` bytes are the length of a public key of a private-type code in the encoding of the attribute head: SEC1 uncompressed, RFC 8032,
RFC 7748, the DER RSAPublicKey with an exponent of up to 32 bits, FIPS 204 or FIPS 203. -/
def publicLenFits (t n : Nat) : Bool :=
  if t ≤ 0x12 then n == 2 * (ecCurve t).bytes + 1
  else if t ≤ 0x19 then n == (edCurve t).bytes
  else if t ≤ 0x1B then n == (xBase t).length
  else if t ≤ 0x22 then decide (12 + rsaBytes t ≤ n ∧ n ≤ 16 + rsaBytes t)
  else n == latticePublicLen t

/-- Whether material of `n` bytes is that of a type (R174). -/
def lengthFits (t n : Nat) : Bool :=
  match t with
  | 1 => n == 16
  | 2 => n == 32
  | 3 => decide (16 ≤ n ∧ n ≤ 64)
  | 0x10 | 0x18 | 0x1A | 0x28 | 0x29 | 0x2A => n == 32
  | 0x11 => n == 48
  | 0x12 => n == 66
  | 0x19 => n == 57
  | 0x1B => n == 56
  | 0x20 => n == 644
  | 0x21 => n == 964
  | 0x22 => n == 1284
  | 0x30 | 0x31 => n == 64
  | _ => publicType t && publicLenFits (t - 0x80) n

/-- A usage mask is allowed for a type and an EXPORTABLE flag (R175). -/
def usageFits (t usage : Nat) (exportable : Bool) : Bool :=
  (usage &&& permitted t) == usage && (!usage.testBit 8 || (usage == usageTag && !exportable))

/-- The public key of an object as KEY_PUBLIC returns it; a public-key object holds it. -/
def KeyObj.public (o : KeyObj) : List Byte := if publicType o.type then o.material else publicKey o.type o.material

/-- PUB_DIGEST of an object of this type and material. -/
def pubDigest (t : Nat) (material : List Byte) : List Byte :=
  if symmetricType t then zeroBytes 32 else sha256 (if publicType t then material else publicKey t material)

/-- Two objects count as one where R132 and R150 speak of one (R183): the same handle, or STREAM_TAG usage and equal fingerprints. -/
def KeyObj.twin (a b : KeyObj) : Bool :=
  a.handle == b.handle || (a.usage == usageTag && b.usage == usageTag && a.fingerprint == b.fingerprint)

/-- SIGN_LOADED is set on an object and on each of its twins (R150, R183): the objects that change. -/
def Replica.signMarks (r : Replica) (o : KeyObj) : List Effect :=
  (r.objs.filter fun q => q.twin o && !q.signLoaded).map fun q => .putObj { q with signLoaded := true }

/-! ### Limits (R177) -/

/-- A further key object of an owner would exceed a limit. -/
def Replica.objFull (r : Replica) (owner : Nat) : Bool :=
  decide (16384 ≤ r.objs.length) ||
    (owner != 0 && decide ((r.config.quota owner).1 ≤ (r.objs.filter fun o => o.owner == owner).length))

/-- A further counter object of an owner would exceed a limit. -/
def Replica.ctrFull (r : Replica) (owner : Nat) : Bool :=
  decide (1024 ≤ r.ctrs.length) ||
    (owner != 0 && decide ((r.config.quota owner).2 ≤ (r.ctrs.filter fun c => ownerOf c.handle == owner).length))

/-- The vault of a span is open (R167). -/
def State.vaultOpen (s : State) (sp : SpanId) : Bool := s.fld sp Fld.vltStateVaultState == 2

/-! ### What a command under quorum gives -/

/-- What a command under quorum does: effects, slates and outputs. -/
structure QResult where
  effs : List Effect
  slates : List SlateReq
  fields : List (List Byte)
deriving DecidableEq, Repr

/-- Builds a slate of the command: kind, subject, detail. -/
abbrev Mk := Nat → Nat → List Byte → SlateReq

/-- Step 5 of R192 in full. -/
def KeyObj.usable (o : KeyObj) : Except Denial Unit :=
  match o.state with
  | .active => .ok ()
  | .draining => deny .keyDraining
  | _ => deny .usageDenied

/-- The object that a quorum of an owner may address (R191). A counter has no key usage (R174): USAGE_DENIED. -/
def Replica.own (r : Replica) (owner h : Nat) : Except Denial KeyObj :=
  match (r.obj h).filter fun o => o.owner == owner with
  | some o => .ok o
  | none => if ((r.ctr h).any fun _ => ownerOf h == owner) then deny .usageDenied else deny .objectUnknown

/-- With what a key object is made: the slates of its command, the keystone time, random bytes, and the fingerprint key. -/
structure Making where
  slate : Mk
  time : Nat
  rnd : List Byte
  fpk : List Byte

/-- The random bytes that a new ORK and m_n of an owner take, if it has no ORK (R169). -/
def Replica.orkBytes (r : Replica) (owner : Nat) : Nat := if r.orks.any fun x => x.1 == owner then 0 else 64

/-- A new object, with the effects and slates of its creation (R169, R173, R183, R193). -/
def Replica.create (r : Replica) (e : Making) (o : KeyObj) (pub : List (List Byte)) : QResult :=
  let serial := r.serial o.owner
  let o := { o with handle := o.owner * 2 ^ 32 + serial, state := .active, version := 1, changed := e.time, pubDigest := pubDigest o.type o.material
                    fingerprint := if symmetricType o.type then fingerprint e.fpk o.type o.material else [] }
  let twins := r.objs.filter fun q => q.twin o
  let o := { o with signLoaded := o.signLoaded || twins.any fun q => q.signLoaded }
  let kek : Bool := r.orkBytes o.owner == 0
  { effs := (if kek then [] else [.putOrk o.owner (e.rnd.take 32) ((e.rnd.drop 32).take 32)]) ++ [.putObj o, .setSerial o.owner (serial + 1)] ++
      (if o.signLoaded then r.signMarks o else [])
    slates := (if kek then [] else [e.slate 0x0507 o.owner (leBytes 1 (r.config.siteNat 4 1))]) ++
      [e.slate 0x0501 o.handle (leBytes 1 o.type ++ leBytes 1 o.origin ++ leBytes 2 o.usage ++ leBytes 8 o.parent ++ o.pubDigest)]
    fields := num o.handle :: pub }

/-- Steps 8 and 9 of R192 for a command that creates a key object. -/
def Replica.roomForObj (r : Replica) (owner : Nat) : Except Denial Unit := do
  refuseIf (r.objFull owner) .resourceExhausted
  refuseIf (!r.log.roomOutsideReserve) .logFull

/-- KEY_GENERATE (R174, R175, R192). -/
def Replica.keyGenerate (r : Replica) (owner : Nat) (e : Making) (a : KeyGenArgs) : Except Denial QResult := do
  let exp := a.flags.testBit 0
  refuseIf (!(symmetricType a.type || privateTypes.contains a.type)) .inputRange
  refuseIf (a.type == 3 && !lengthFits 3 a.hmacLen) .inputRange
  refuseIf (decide (2 ≤ a.flags ∨ 32 < a.label.length)) .inputRange
  refuseIf (!usageFits a.type a.usage exp) .usageDenied
  r.roomForObj owner
  let len := if a.type = 1 then 16 else if a.type = 2 then 32 else a.hmacLen
  let rnd := e.rnd.drop (r.orkBytes owner)
  let m := if symmetricType a.type then padBytes len rnd else genMaterial a.type rnd
  let pub := if symmetricType a.type then [] else publicKey a.type m
  .ok (r.create e
    { handle := 0, type := a.type, state := .active, origin := 1, owner := owner, usage := a.usage, exportable := exp
      signLoaded := false, deriveMask := if a.usage.testBit 7 then a.deriveMask else 0, version := 1, material := m, created := e.time
      changed := e.time, parent := 0, label := a.label, pubDigest := [], fingerprint := [] } [pub])

/-- The layout of a sealed blob is that of its table (R180 step 1). -/
def blobFits (b : List Byte) : Bool :=
  let n := leField b 0x34 2
  b.take 8 == asciiBytes "AKNBLOB1" && leField b 8 2 == 1 && leField b 0xB 1 == 1 && leField b 0xC 4 == 0x90 + n + 16 &&
    b.length == 0x90 + n + 16 && leField b 0x36 2 == 0 && leField b 0x8C 4 == 0 && decide (leField b 0x2C 4 < 4) &&
    lengthFits (leField b 0xA 1) n

/-- WRAP_KCV of a wrapping key. -/
def wrapKcv (key : List Byte) : List Byte := sha256 (asciiBytes "AKNKCV-V1" ++ key)

/-- KEY_IMPORT_SEALED (R180). -/
def Replica.keyImportSealed (r : Replica) (owner : Nat) (e : Making) (a : KeyImportArgs) : Except Denial QResult := do
  let w ← r.own owner a.unwrapping
  w.usable
  refuseIf (!(w.type == 2 && w.usage.testBit 6)) .usageDenied
  let b := a.blob
  refuseIf (!blobFits b) .inputRange
  refuseIf (sliceBytes b 0x60 32 != wrapKcv w.material) .unwrapFail
  let n := leField b 0x34 2
  let ct := sliceBytes b 0x90 n
  let nonce := sliceBytes b 0x80 12
  refuseIf (gcmTag w.material nonce (b.take 0x90) ct != sliceBytes b (0x90 + n) 16) .unwrapFail
  let exp := (leField b 0x2C 4).testBit 0
  refuseIf (!((a.usage &&& leField b 0x28 4) == a.usage && usageFits (leField b 0xA 1) a.usage exp)) .usageDenied
  r.roomForObj owner
  .ok (r.create e
    { handle := 0, type := leField b 0xA 1, state := .active, origin := 2, owner := owner, usage := a.usage, exportable := exp
      signLoaded := (leField b 0x2C 4).testBit 1, deriveMask := if a.usage.testBit 7 then leField b 0x30 4 else 0, version := 1
      material := gcmCtr w.material nonce ct, created := ofTai64 (leField b 0x38 8), changed := e.time, parent := w.handle
      label := sliceBytes b 0x40 32, pubDigest := [], fingerprint := [] } [])

/-- KEY_UNWRAP (R181). -/
def Replica.keyUnwrap (r : Replica) (owner : Nat) (e : Making) (a : KeyUnwrapArgs) : Except Denial QResult := do
  let w ← r.own owner a.unwrapping
  w.usable
  refuseIf (!((w.type == 1 || w.type == 2) && w.usage.testBit 6 && symmetricType a.type)) .usageDenied
  refuseIf (decide ((a.method ≠ 1 ∧ a.method ≠ 2) ∨ 2 ≤ a.flags ∨ 32 < a.label.length)) .inputRange
  match (if a.method = 1 then kwOpen w.material a.wrapped else kwpOpen w.material a.wrapped) with
  | none => deny .unwrapFail
  | some m =>
    refuseIf (!lengthFits a.type m.length) (if a.method = 1 then .inputRange else .unwrapFail)
    refuseIf (!usageFits a.type a.usage (a.flags.testBit 0)) .usageDenied
    r.roomForObj owner
    .ok (r.create e
      { handle := 0, type := a.type, state := .active, origin := 3, owner := owner, usage := a.usage, exportable := a.flags.testBit 0
        signLoaded := false, deriveMask := 0, version := 1, material := m, created := e.time, changed := e.time, parent := w.handle
        label := a.label, pubDigest := [], fingerprint := [] } [])

/-- KEY_DERIVE (R182). -/
def Replica.keyDerive (r : Replica) (owner : Nat) (e : Making) (a : KeyDeriveArgs) : Except Denial QResult := do
  let w ← r.own owner a.root
  w.usable
  refuseIf (!(w.type == 3 && w.usage.testBit 7 && symmetricType a.type)) .usageDenied
  refuseIf (decide ((a.profile ≠ 1 ∧ a.profile ≠ 2) ∨ a.kdfLabel.length < 1 ∨ 64 < a.kdfLabel.length ∨ 128 < a.context.length ∨
    32 < a.label.length)) .inputRange
  refuseIf (!lengthFits a.type a.length) .inputRange
  refuseIf (!((a.usage &&& w.deriveMask) == a.usage && usageFits a.type a.usage false)) .usageDenied
  r.roomForObj owner
  .ok (r.create e
    { handle := 0, type := a.type, state := .active, origin := 4, owner := owner, usage := a.usage, exportable := false
      signLoaded := false, deriveMask := 0, version := 1, material := kdf a.profile w.material a.kdfLabel a.context a.length
      created := e.time, changed := e.time, parent := w.handle, label := a.label, pubDigest := [], fingerprint := [] } [])

/-- The OBJ_CHANGED slate (R193). -/
def objChanged (mk : Mk) (o o' : KeyObj) : SlateReq :=
  mk 0x0502 o.handle (leBytes 4 o.usage ++ leBytes 4 o'.usage ++ leBytes 1 o.state.code ++ leBytes 1 o'.state.code ++ leBytes 4 o'.version)

/-- KEY_SET_USAGE (R175, R192 step 5): it only clears bits. -/
def Replica.keySetUsage (r : Replica) (owner : Nat) (mk : Mk) (t h usage flags : Nat) (lock : Option Nat) : Except Denial QResult := do
  let o ← r.own owner h
  refuseIf (o.state == .draining) .keyDraining
  refuseIf (o.state == .zeroised) .usageDenied
  refuseIf (!((usage &&& o.usage) == usage && (o.exportable || flags % 2 == 0) && decide (flags < 2))) .usageDenied
  refuseIf (r.heldElsewhere lock (.obj h)) .lockHeld
  refuseIf (!r.log.roomOutsideReserve) .logFull
  let o' := { o with usage := usage, exportable := flags.testBit 0, deriveMask := if usage.testBit 7 then o.deriveMask else 0
                     version := o.version + 1, changed := t }
  .ok ⟨[.putObj o'], [objChanged mk o o'], [num o'.version]⟩

/-- KEY_SET_STATE (R176): ACTIVE is 1, SUSPENDED is 2. -/
def Replica.keySetState (r : Replica) (owner : Nat) (mk : Mk) (t h st : Nat) (lock : Option Nat) : Except Denial QResult := do
  let o ← r.own owner h
  refuseIf (o.state == .draining) .keyDraining
  let dest : Option ObjState :=
    if st = 2 ∧ o.state = .active then some .suspended
    else if st = 1 ∧ (o.state = .suspended ∨ o.state = .fenced) then some .active else none
  match dest with
  | none => deny .inputRange
  | some st' =>
    refuseIf (st' == .suspended && r.pinned h) .lockHeld
    refuseIf (r.heldElsewhere lock (.obj h)) .lockHeld
    refuseIf (!r.log.roomOutsideReserve) .logFull
    let o' := { o with state := st', version := o.version + 1, changed := t }
    .ok ⟨[.putObj o'], [objChanged mk o o'], [num o'.version]⟩

/-- KEY_DESTROY (R186): the object becomes DRAINING. -/
def State.keyDestroy (s : State) (sp : SpanId) (owner : Nat) (mk : Mk) (t h : Nat) (lock : Option Nat) : Except Denial QResult := do
  let r := (s.span sp).rep
  let o ← r.own owner h
  refuseIf (o.state == .draining) .keyDraining
  refuseIf (decide ((s.span .a).stream.slotRefs h ≠ 0 ∨ (s.span .b).stream.slotRefs h ≠ 0)) .objectInSlot
  refuseIf (r.pinned h || r.heldElsewhere lock (.obj h)) .lockHeld
  refuseIf (!r.log.roomOutsideReserve) .logFull
  let o' := { o with state := .draining, version := o.version + 1, changed := t }
  .ok ⟨[.putObj o'], [mk 0x0503 h (leBytes 4 ((s.span .a).refs h) ++ leBytes 4 ((s.span .b).refs h))], []⟩

/-- CTR_CREATE (R188). -/
def Replica.ctrCreate (r : Replica) (owner : Nat) (mk : Mk) (initial limit : Nat) (label : List Byte) : Except Denial QResult := do
  refuseIf (decide (limit < initial ∨ 2 ^ 64 ≤ limit ∨ 32 < label.length)) .inputRange
  refuseIf (r.ctrFull owner) .resourceExhausted
  refuseIf (!r.log.roomOutsideReserve) .logFull
  let serial := r.serial owner
  let h := owner * 2 ^ 32 + serial
  .ok ⟨[.putCtr ⟨h, initial, min limit (initial + 4096), limit, label, 1⟩, .setSerial owner (serial + 1)],
    [mk 0x0508 h (leBytes 8 initial ++ leBytes 8 limit)], [num h]⟩

/-- The counter that a caller may address (R191); a key object that it may address is of the wrong type (R192 steps 5 and 6). -/
def Replica.reachCtr (r : Replica) (may : Nat → Bool) (h : Nat) : Except Denial CtrObj :=
  match (r.ctr h).filter fun c => may (ownerOf c.handle) with
  | some c => .ok c
  | none =>
    match (r.obj h).filter fun o => may o.owner with
    | some o => do o.usable; deny .usageDenied
    | none => deny .objectUnknown

/-- CTR_DESTROY. -/
def Replica.ctrDestroy (r : Replica) (owner : Nat) (mk : Mk) (h : Nat) (lock : Option Nat) : Except Denial QResult := do
  let c ← r.reachCtr (fun n => n == owner) h
  refuseIf (r.heldElsewhere lock (.ctr h)) .lockHeld
  refuseIf (!r.log.roomOutsideReserve) .logFull
  .ok ⟨[.dropCtr h], [mk 0x050A h (leBytes 8 c.value)], []⟩

/-- CTR_INCR on the ordered state (R189): the new counter, with its slate if a reservation is made. -/
def CtrObj.incr (c : CtrObj) (step : Nat) : Option (CtrObj × Bool) :=
  let v := c.value + step
  if c.limit < v then none
  else if c.ceil < v then some ({ c with value := v, ceil := min c.limit (c.ceil + 4096) }, true)
  else some ({ c with value := v }, false)

end Sys2Proof.Machine
end

