-- ==== Sys2Proof/Machine/CtxCmds.lean ====
section
/-!
DEFINITION. The context commands under quorum (R115 to R117), the load of a key (R132, R135, R150, R184), and the decision on any command
under quorum.
-/

namespace Sys2Proof.Machine

/-- TAG_BYTES fits ALG (Context entry). -/
def tagBytesFit (alg n : Nat) : Bool :=
  if alg = 1 then n == 10 || n == 16 || n == 32 else decide (2 ≤ alg ∧ alg ≤ 4) && (n == 8 || n == 16)

/-- The frame class that a context's CLASS_KEY names: KCLASS, bits [255:252] of the key. -/
def keyClass (classKey : List Byte) : Nat := bitsOf (ofLe (padBytes 32 classKey)) 255 252

/-- R117 step 6 and R125: the fields break no table, the template exists and agrees with the context. -/
def Replica.ctxFieldsFit (r : Replica) (a : CtxConfigArgs) : Bool :=
  decide (1 ≤ a.dir ∧ a.dir ≤ 2) && tagBytesFit a.alg a.tagBytes && decide (1 ≤ a.failDisp ∧ a.failDisp ≤ 3) &&
    decide (a.overlapS ≤ 255) && decide (1 ≤ a.freshMs ∧ a.freshMs ≤ 65535) && a.classKey.length == 32 &&
    (match r.config.template a.template with
     | some t => t.frameClass == keyClass a.classKey && t.tagBytes == a.tagBytes &&
        (if t.mode = 1 then decide (1 ≤ a.rate ∧ a.rate ≤ 65535) else a.rate == 0)
     | none => false)

/-- An object's type and length fit an ALG (R135). -/
def algFits (alg : Nat) (o : KeyObj) : Bool :=
  if alg = 1 then o.type == 3 else if alg = 3 then o.type == 2 else o.type == 1

/-- The slots of a span, in both banks. -/
def Stream.allSlots (x : Stream) : List Slot := (x.active.slots ++ x.shadow.slots).map (·.2)

/-- R132 refuses a load; `t` is the keystone time of execution, FROM_SECOND a TAI second. -/
def State.loadRefused (s : State) (sp : SpanId) (t : Nat) (a : KeyLoadArgs) (o : KeyObj) : Bool :=
  let r := (s.span sp).rep
  let x := (s.span sp).stream
  let e := x.shadow.ctx a.ctx
  let other := x.shadow.slot a.ctx (!a.slotB)
  let kb := ((r.config.template e.template).map Template.keyIdBytes).getD 0
  (!a.slotB && other.load == .loaded) ||
    (a.slotB && decide (a.fromSecond * sec < t + 2 * sec)) ||
    (kb == 4 && other.load != .empty && other.keyId == a.keyId) ||
    (x.allSlots.any fun y => y.handle != 0 && y.salt == a.salt && ((r.obj y.handle).any fun q => q.twin o)) ||
    (e.dir == 2 && kb == 0 && other.load == .loaded && other.keyId != a.keyId)

/-- R150 refuses a load: the object, or a twin of it (R183), has been loaded for signing GOOSE or ROUTABLE, and the slot signs. -/
def Replica.signReload (r : Replica) (e : CtxEntry) (o : KeyObj) : Bool :=
  e.dir == 1 && r.objs.any fun q => q.signLoaded && q.twin o

/-- The vault's checks of a load (R184). -/
def State.loadCheck (s : State) (sp : SpanId) (owner t : Nat) (a : KeyLoadArgs) : Except Denial KeyObj := do
  let r := (s.span sp).rep
  let e := (s.span sp).stream.shadow.ctx a.ctx
  match r.obj a.handle with
  | none => deny .keyUnsuitable
  | some o =>
    refuseIf (o.owner != owner) .keyUnsuitable
    refuseIf (!(symmetricType o.type && o.usage == usageTag && algFits e.alg o)) .keyUnsuitable
    refuseIf (o.state == .draining) .keyDraining
    refuseIf (o.state != .active) .keyUnsuitable
    refuseIf (s.loadRefused sp t a o || r.signReload e o) .keyUnsuitable
    .ok o

/-- The CTX_CHANGED slate (R139). -/
def ctxChanged (mk : Mk) (n opcode : Nat) (st : CtxState) (slot handle version : Nat) : SlateReq :=
  mk 0x0601 n (leBytes 2 opcode ++ leBytes 1 st.code ++ leBytes 1 slot ++ leBytes 8 handle ++ leBytes 4 version)

/-- A context command may be issued in a state (Context states and commands). -/
def ctxAllowed (opcode : Nat) (st : CtxState) : Bool :=
  match opcode with
  | 0x0701 => st == .unconfigured || st == .ready
  | 0x0702 | 0x0703 | 0x0708 => st == .ready || st == .active || st == .suspended
  | 0x0704 => st != .draining
  | 0x0705 => st == .ready
  | 0x0706 => st == .active
  | 0x0707 => st == .suspended
  | _ => false

/-- Steps 4 and 5 of R117. -/
def State.ctxGuard (s : State) (sp : SpanId) (owner opcode n : Nat) (slotB : Option Bool) (lock : Option Nat) : Except Denial CtxEntry := do
  let x := (s.span sp).stream
  let e := x.active.ctx n
  refuseIf (decide (4096 ≤ n) || (s.span sp).rep.config.ctxOwner n != some owner) .notAuthorised
  refuseIf ((s.span sp).rep.heldElsewhere lock (.ctx n)) .lockHeld
  refuseIf (!ctxAllowed opcode e.state) .contextState
  refuseIf (opcode == 0x0702 && (slotB.any fun b => (x.shadow.slot n b).load == .fenced)) .contextState
  refuseIf (opcode == 0x0704 && x.discarded.contains n) .staleBase
  .ok e

/-- Steps 8 and 9 of R117. -/
def State.ctxRoom (s : State) (sp : SpanId) (n : Nat) (key : Option Nat) : Except Denial Unit := do
  match key with
  | none => .ok ()
  | some k =>
    refuseIf (s.keyConflict sp n k) .classKeyConflict
    refuseIf (!s.keyPath sp n k) .resourceExhausted
  refuseIf (!(s.span sp).rep.log.roomOutsideReserve) .logFull

/-- CTX_CONFIG: the entry and its classification entry in the shadow bank (R116, R117). -/
def State.ctxConfig (s : State) (sp : SpanId) (owner : Nat) (mk : Mk) (a : CtxConfigArgs) (lock : Option Nat) : Except Denial QResult := do
  let e ← s.ctxGuard sp owner 0x0701 a.ctx none lock
  refuseIf (!(s.span sp).rep.ctxFieldsFit a) .inputRange
  let sh := (s.span sp).stream.shadow.ctx a.ctx
  let e' : CtxEntry := { sh with
    state := .ready, dir := a.dir, alg := a.alg, tagBytes := a.tagBytes, template := a.template, owner := owner, failDisp := a.failDisp
    overlapS := a.overlapS, rate := a.rate, freshMs := a.freshMs, classKey := a.classKey }
  s.ctxRoom sp a.ctx (some e'.key)
  .ok ⟨[.shadowCtx a.ctx e'], [ctxChanged mk a.ctx 0x0701 e.state 0xFF 0 e.version], []⟩

/-- CTX_KEY_LOAD (R117, R132, R135, R150, R184): FROM_SECOND is kept on the scale of the template's cut values (R165), and 0 in slot A. -/
def State.ctxKeyLoad (s : State) (sp : SpanId) (owner : Nat) (mk : Mk) (t : Nat) (a : KeyLoadArgs) (lock : Option Nat) :
    Except Denial QResult := do
  let e ← s.ctxGuard sp owner 0x0702 a.ctx (some a.slotB) lock
  refuseIf (decide (2 ^ 32 ≤ a.keyId ∨ 2 ^ 32 ≤ a.salt)) .inputRange
  let r := (s.span sp).rep
  refuseIf (a.slotB && r.holdsSlotB a.ctx) .lockHeld
  let o ← s.loadCheck sp owner t a
  s.ctxRoom sp a.ctx none
  let sh := (s.span sp).stream.shadow.ctx a.ctx
  let mode := r.modeOf sh
  let from_ := if !a.slotB then 0 else if mode = 1 then a.fromSecond else addSigned a.fromSecond (-(s.utcOffset sp))
  let sl : Slot := ⟨.loaded, sh.alg, o.material.length, a.keyId, a.salt, from_, o.handle, expandMaterial sh.alg o.material⟩
  let sh' := if a.slotB then { sh with handleB := o.handle } else { sh with handleA := o.handle }
  let mark : List Effect := if sh.dir = 1 ∧ mode ≠ 1 then r.signMarks o else []
  .ok ⟨[.shadowCtx a.ctx sh', .shadowSlot a.ctx a.slotB sl] ++ mark,
    [ctxChanged mk a.ctx 0x0702 e.state (boolNat a.slotB) o.handle e.version], []⟩

/-- CTX_KEY_CLEAR (R134). -/
def State.ctxKeyClear (s : State) (sp : SpanId) (owner : Nat) (mk : Mk) (n : Nat) (slotB : Bool) (lock : Option Nat) :
    Except Denial QResult := do
  let e ← s.ctxGuard sp owner 0x0703 n none lock
  s.ctxRoom sp n none
  let sh := (s.span sp).stream.shadow.ctx n
  let sh' := if slotB then { sh with handleB := 0 } else { sh with handleA := 0 }
  .ok ⟨[.shadowCtx n sh', .shadowSlot n slotB Slot.empty], [ctxChanged mk n 0x0703 e.state (boolNat slotB) 0 e.version], []⟩

/-- CTX_COMMIT (R116). -/
def State.ctxCommit (s : State) (sp : SpanId) (owner : Nat) (mk : Mk) (n : Nat) (lock : Option Nat) : Except Denial QResult := do
  let e ← s.ctxGuard sp owner 0x0704 n none lock
  let sh := (s.span sp).stream.shadow.ctx n
  s.ctxRoom sp n (if sh.state.installed then some sh.key else none)
  .ok ⟨[.commitCtx n], [ctxChanged mk n 0x0704 sh.state 0xFF 0 (e.version + 1)], []⟩

/-- CTX_ACTIVATE, CTX_SUSPEND, CTX_RESUME and CTX_DRAIN (R115, R144). -/
def State.ctxMove (s : State) (sp : SpanId) (owner : Nat) (mk : Mk) (t opcode n : Nat) (dest : CtxState) (lock : Option Nat) :
    Except Denial QResult := do
  let e ← s.ctxGuard sp owner opcode n none lock
  let sh := (s.span sp).stream.shadow.ctx n
  s.ctxRoom sp n (if dest.installed then some sh.key else none)
  let anchor := if ((s.span sp).rep.modeOf sh) = 2 then 0 else t / sec + 2
  .ok ⟨[.ctxState n dest anchor (tai64 t)], [ctxChanged mk n opcode dest 0xFF 0 (e.version + 1)], []⟩

/-- A command for the site alone, under PRODUCER_QUORUM (R64). -/
def siteOnly (owner : Nat) (r : Replica) (x : QResult) : Except Denial QResult := do
  refuseIf (owner != 0) .notAuthorised
  refuseIf (!r.log.roomOutsideReserve) .logFull
  .ok x

/-- The decision on a command under quorum for an owner, on the state of a span at a keystone time, with random bytes; `lock` is the ceremony
lock under which it runs, if it is a ceremony step. -/
def State.prepareQ (s : State) (sp : SpanId) (c : Caller) (owner : Nat) (q : QCmd) (rnd : List Byte) (t : Nat) (lock : Option Nat) :
    Except Denial QResult :=
  let r := (s.span sp).rep
  let mk : Mk := fun kind subject detail => r.slate c kind .ok owner subject detail
  let made : Making := ⟨mk, t, rnd, s.fpk sp⟩
  match (if s.vaultOpen sp ∨ q.opcode < 0x0700 ∨ 0x0900 ≤ q.opcode then (.ok () : Except Denial Unit) else deny .serviceUnavailable) with
  | .error d => .error d
  | .ok _ =>
    match q with
    | .keyGenerate a => r.keyGenerate owner made a
    | .keyImportSealed a => r.keyImportSealed owner made a
    | .keyUnwrap a => r.keyUnwrap owner made a
    | .keyDerive a => r.keyDerive owner made a
    | .keySetUsage h u f => r.keySetUsage owner mk t h u f lock
    | .keySetState h v => r.keySetState owner mk t h v lock
    | .keyDestroy h => s.keyDestroy sp owner mk t h lock
    | .ctrCreate i l b => r.ctrCreate owner mk i l b
    | .ctrDestroy h => r.ctrDestroy owner mk h lock
    | .ctxConfig a => s.ctxConfig sp owner mk a lock
    | .ctxKeyLoad a => s.ctxKeyLoad sp owner mk t a lock
    | .ctxKeyClear n b => s.ctxKeyClear sp owner mk n b lock
    | .ctxCommit n => s.ctxCommit sp owner mk n lock
    | .ctxActivate n => s.ctxMove sp owner mk t 0x0705 n .active lock
    | .ctxSuspend n => s.ctxMove sp owner mk t 0x0706 n .suspended lock
    | .ctxResume n => s.ctxMove sp owner mk t 0x0707 n .active lock
    | .ctxDrain n => s.ctxMove sp owner mk t 0x0708 n .draining lock
    | .sbKeystonePref p => siteOnly owner r ⟨[.setPref p], [mk 0x070A p.code (leBytes 1 ((r.pref.map SpanId.code).getD 0))], []⟩
    | .sbSpanReset p => siteOnly owner r ⟨[.resetSpan p], [mk 0x0B09 p.code (leBytes 1 3 ++ leBytes 8 (match c.origin with | .proposal pid => pid | _ => 0))], []⟩
    | .sbFwUpdate d =>
      if owner = 0 ∧ (s.hub.update.bank.digest ≠ d ∨ s.hub.update.state ≠ 2) then deny .staleBase
      else if owner = 0 ∧ ((s.span sp).cont.mode ≠ .keystone ∨ (s.span sp.other).cont.mode ≠ .follower) then deny .serviceUnavailable
      else siteOnly owner r ⟨[.fwUpdate d], [], []⟩
    | .worldRestart g =>
      if g < 1 ∨ 33 < g then deny .inputRange
      else if g - 1 ≠ owner then deny .notAuthorised
      else if !r.log.roomOutsideReserve then deny .logFull
      else .ok ⟨[.restartGuest g], [], []⟩

end Sys2Proof.Machine
end

