-- ==== Sys2Proof/Machine/Images.lean ====
section
/-!
DEFINITION. Storyboard images: their layout (R33, R34, R59, R316, R334), the configuration after apply (R36), the signatures and quorums
(R35, R41, R42, R440), and the feasibility checks (R45).
-/

namespace Sys2Proof.Machine

/-! ### Layout -/

/-- Bytes of a slice are all zero. -/
def zeroAt (p : List Byte) (off n : Nat) : Bool := (sliceBytes p off n).all (· == 0)

/-- The length of an OWNER payload that its own parts give, following `n` officer records from an offset. -/
def ownerEnd (p : List Byte) : Nat → Nat → Nat
  | 0, off => off
  | n + 1, off => ownerEnd p n (off + 8 + (leField p (off + 2) 2 + 7) / 8 * 8)

/-- KEY_LEN of an ALG code. -/
def keyLen (alg : Nat) : Nat := if alg = 1 then 97 else if alg = 2 then 32 else 1952

/-- Numbers rise strictly. -/
def rising : List Nat → Bool
  | a :: b :: t => decide (a < b) && rising (b :: t)
  | _ => true

/-- An OWNER payload follows its tables (R59). -/
def ownerFits (inst : Nat) (p : List Byte) : Bool :=
  let n := leField p 3 1
  let os := officersFrom p n 32
  leField p 0 2 == 1 && leField p 2 1 == inst && decide (1 ≤ inst ∧ inst ≤ 32) && decide (2 ≤ n ∧ n ≤ 16) &&
    decide (2 ≤ leField p 4 1 ∧ leField p 4 1 ≤ n) && zeroAt p 5 3 && zeroAt p 24 8 && p.length == ownerEnd p n 32 &&
    rising (os.map (·.index)) && os.all fun o => decide (o.index ≤ 15 ∧ 1 ≤ o.alg ∧ o.alg ≤ 3) && o.key.length == keyLen o.alg

/-- A SITE payload follows its table. -/
def siteFits (inst : Nat) (p : List Byte) : Bool :=
  let n := leField p 2 1
  inst == 0 && p.length == 896 && leField p 0 2 == 1 && decide (2 ≤ n ∧ n ≤ 8) && decide (2 ≤ leField p 3 1 ∧ leField p 3 1 ≤ n) &&
    decide (60 ≤ leField p 8 2 ∧ leField p 8 2 ≤ 3600) && zeroAt p 7 1 && zeroAt p 10 6 && zeroAt p 32 32 &&
    ((List.range 8).all fun i => zeroAt p (64 + 104 * i + 97) 7 && (decide (i < n) || zeroAt p (64 + 104 * i) 97))

/-- A WORLD payload follows its table (R316). -/
def worldFits (inst : Nat) (p : List Byte) : Bool :=
  let n := leField p 7 1
  let mem := leField p 10 2
  let irq := (List.range n).map fun i => (leField p (64 + 8 * i) 1, leField p (65 + 8 * i) 1)
  leField p 0 2 == 1 && leField p 2 1 == inst && decide (1 ≤ inst ∧ inst ≤ 33) && leField p 3 1 == (if inst = 1 then 0 else inst - 1) &&
    (leField p 4 1) % 4 == 0 && decide (leField p 4 1 < 64) && (leField p 5 1) % 4 == 0 && decide (leField p 5 1 < 64) &&
    decide (1 ≤ leField p 6 1 ∧ leField p 6 1 ≤ 100) && decide (n ≤ 16) && decide (100 ≤ leField p 8 2 ∧ leField p 8 2 ≤ 10000) &&
    [2, 4, 8, 16, 32, 64, 128, 256, 512].contains mem && (leField p 12 2) % 16 == 0 && decide (leField p 12 2 < 2 ^ 15) &&
    decide (leField p 14 1 ≤ 4) && zeroAt p 15 1 && decide (leField p 16 2 ≤ 32768) && decide (10 ≤ leField p 18 2 ∧ leField p 18 2 ≤ 10000) &&
    (leField p 20 2 == 0 || decide (10 ≤ leField p 20 2 ∧ leField p 20 2 ≤ 60000)) && zeroAt p 22 2 && zeroAt p 56 8 &&
    p.length == 64 + 8 * n && (irq.all fun x => decide (x.1 ≤ 32 ∧ 32 ≤ x.2 ∧ x.2 ≤ 47)) &&
    ((List.range n).all fun i => zeroAt p (66 + 8 * i) 6) && decide (irq.map (·.1)).Nodup && decide (irq.map (·.2)).Nodup

/-- A GATE payload follows its table (R334). -/
def gateFits (inst : Nat) (p : List Byte) : Bool :=
  let n := leField p 3 1
  leField p 0 2 == 1 && leField p 2 1 == inst && decide (inst ≤ 1) && decide (n ≤ 30) && zeroAt p 4 12 && p.length == 712 + 24 * n &&
    ((List.range 29).all fun s => leField p (16 + 24 * s) 1 == s && zeroAt p (17 + 24 * s) 7) &&
    ((List.range n).all fun i =>
      let z := leField p (720 + 24 * i) 1
      decide (12 ≤ z ∧ z ≤ 26) && (leField p (712 + 24 * i) 8) % 2 ^ z == 0 && decide (leField p (721 + 24 * i) 1 < 8) && zeroAt p (722 + 24 * i) 6)

/-- The head of a TEMPLATE payload follows its table (Coverage templates). -/
def templateFits (p : List Byte) : Bool :=
  p.length == 160 && leField p 0 2 == 1 && decide (1 ≤ leField p 2 1 ∧ leField p 2 1 ≤ 4) && decide (1 ≤ leField p 3 1 ∧ leField p 3 1 ≤ 3) &&
    decide (leField p 4 1 < 8) && decide (1 ≤ leField p 5 1 ∧ leField p 5 1 ≤ 2) && decide (1 ≤ leField p 6 1 ∧ leField p 6 1 ≤ 8) &&
    (leField p 7 1 == 0 || leField p 7 1 == 4) && decide (leField p 9 1 ≤ 8) && zeroAt p 18 2 && zeroAt p 92 4 &&
    ((List.range 6).all fun i => zeroAt p (26 + 12 * i) 2) &&
    ((List.range 8).all fun i => zeroAt p (98 + 8 * i) 2 && (decide (i < leField p 6 1) || zeroAt p (96 + 8 * i) 8))

/-- A WILDCARD payload follows its table; more than 256 entries are a matter of check 10. -/
def wildcardFits (p : List Byte) : Bool :=
  let n := leField p 2 2
  leField p 0 2 == 1 && zeroAt p 4 12 && p.length == 16 + 80 * n &&
    ((List.range n).all fun i => decide (leField p (80 + 80 * i) 1 < 4) && zeroAt p (83 + 80 * i) 1 && zeroAt p (86 + 80 * i) 10)

/-- A payload has the length and the reserved bytes that its type states (R43 step 4). -/
def payloadFits (x : Scene) : Bool :=
  let p := x.payload
  match x.type with
  | 1 => siteFits x.inst p
  | 2 => ownerFits x.inst p
  | 3 => p.length == 16 && decide (x.inst ≤ 3) && zeroAt p 8 8 && decide (1 ≤ leField p 0 1 ∧ leField p 0 1 ≤ 4) &&
      decide (1 ≤ leField p 1 1 ∧ leField p 1 1 ≤ 3) && decide (1 ≤ leField p 3 1 ∧ leField p 3 1 ≤ 2)
  | 4 => p.length == 16 && zeroAt p 8 8 && leField p 0 2 == x.inst && decide (1 ≤ leField p 4 1 ∧ leField p 4 1 ≤ 32) &&
      decide (leField p 5 1 < 16)
  | 5 =>
    let n := leField p 2 2
    p.length == 16 + 16 * n && leField p 0 2 == x.inst && decide (1 ≤ n ∧ n ≤ 256) && decide (1 ≤ leField p 6 1 ∧ leField p 6 1 ≤ 2) &&
      (leField p 6 1 == 1 || zeroAt p 8 8) &&
      ((List.range n).all fun i => leField p (16 + 16 * i) 2 == x.inst + i && zeroAt p (18 + 16 * i) 6 &&
        (leField p 6 1 == 1 || zeroAt p (24 + 16 * i) 8))
  | 6 => p.length == 16 && leField p 0 1 == x.inst && decide (1 ≤ x.inst ∧ x.inst ≤ 32) && zeroAt p 1 3 && zeroAt p 12 4
  | 7 => p.length == 16 && decide (x.inst ≤ 1) && zeroAt p 8 8
  | 8 => worldFits x.inst p
  | 9 => gateFits x.inst p
  | 10 => templateFits p
  | 11 => decide (x.inst ≤ 1) && wildcardFits p
  | 12 => x.inst == 0 && p.length == 376 && ((List.range 25).all fun i => zeroAt p (8 * i + 3) 1)
  | 13 => x.inst == 0 && p.length == 1184 && ((List.range 148).all fun i => zeroAt p (8 * i + 3) 1)
  | _ => false

/-- An OP is one that the image's kind and the scene's type allow (R34). -/
def opFits (full : Bool) (o : SceneOp) : Bool :=
  if full then o.op == 0 && o.scene.type != 5 else if o.scene.type = 5 then o.op == 4 else decide (1 ≤ o.op ∧ o.op ≤ 3)

/-- A delta replaces and removes scenes in force, and adds scenes that are not (R34). -/
def opApplies (c : Storyboard) (o : SceneOp) : Bool :=
  let held := (c.scene o.scene.type o.scene.inst).isSome
  if o.op = 2 then !held else held || (o.op != 1 && o.op != 3)

/-- The signature entries of a block, `n` of them from an offset; none if one lies outside the image. -/
def sigsFrom (img : List Byte) : Nat → Nat → Option (List SigEntry × Nat)
  | 0, off => some ([], off)
  | n + 1, off =>
    let len := leField img (off + 4) 2
    if img.length < off + 16 + (len + 7) / 8 * 8 ∨ !zeroAt img (off + 6) 2 ∨ !zeroAt img (off + 16 + len) ((8 - len % 8) % 8) then none
    else (sigsFrom img n (off + 16 + (len + 7) / 8 * 8)).map fun r =>
      (⟨leField img off 1, leField img (off + 1) 1, leField img (off + 2) 1, leField img (off + 3) 1, leField img (off + 8) 8,
        sliceBytes img (off + 16) len⟩ :: r.1, r.2)

/-- The scene-table entry with a number, with its payload. -/
def sceneAt (img : List Byte) (i : Nat) : SceneOp :=
  let e := leField img 0x58 4 + 16 * i
  ⟨leField img (e + 3) 1, ⟨leField img e 2, leField img (e + 2) 1, leField img (e + 4) 4,
    sliceBytes img (leField img (e + 8) 4) (leField img (e + 12) 4)⟩⟩

/-- Offset and length of the payload of a scene-table entry. -/
def payloadAt (img : List Byte) (i : Nat) : Nat × Nat :=
  let e := leField img 0x58 4 + 16 * i
  (leField img (e + 8) 4, leField img (e + 12) 4)

/-- The parts of an image as offset and length: header, scene table, payloads by rising offset, signature block. -/
def imageParts (img : List Byte) : List (Nat × Nat) :=
  let n := leField img 0x14 2
  let so := leField img 0x5C 4
  [(0, 128), (leField img 0x58 4, 16 * n)] ++
    sortBy (fun a b => decide (a.1 ≤ b.1)) (((List.range n).map (payloadAt img)).filter fun x => x.2 ≠ 0) ++ [(so, leField img (so + 4) 4)]

/-- The parts of an image lie inside it at multiples of 8, follow each other in their order, and zeros pad them (R33). -/
def partsFit (img : List Byte) : Bool :=
  let ps := imageParts img
  (ps.all fun x => x.1 % 8 == 0 && decide (x.1 + x.2 ≤ img.length)) &&
    (ps.zip (ps.drop 1)).all fun x =>
      decide (x.1.1 + x.1.2 ≤ x.2.1) && zeroAt img (x.1.1 + x.1.2) (x.2.1 - (x.1.1 + x.1.2))

/-- Stretches given as first and count do not overlap. -/
def disjoint (ps : List (Nat × Nat)) : Bool :=
  let l := sortBy (fun a b => decide (a.1 ≤ b.1)) ps
  (l.zip (l.drop 1)).all fun x => decide (x.1.1 + x.1.2 ≤ x.2.1)

/-- R43 step 4: the layout of the image; the image as it is staged. -/
def parseImage (img : List Byte) : Option Staged :=
  let kind := leField img 0xA 2
  let n := leField img 0x14 2
  let so := leField img 0x5C 4
  let full := kind == 1
  if img.take 8 ≠ asciiBytes "AKNSTORY" ∨ leField img 8 2 ≠ 1 ∨ (kind ≠ 1 ∧ kind ≠ 2) ∨ leField img 0xC 4 ≠ 128 ∨ 4194304 < img.length ∨
      leField img 0x10 4 ≠ img.length ∨ n < 1 ∨ 4096 < n ∨ !zeroAt img 0x16 2 ∨ !zeroAt img 0x49 7 then none
  else if (full ∧ (!zeroAt img 0x20 8 ∨ !zeroAt img 0x60 32)) ∨ leField img 0x48 1 < 1 ∨ 2 < leField img 0x48 1 ∨
      (leField img 0x48 1 = 2 ∧ !zeroAt img 0x50 8) then none
  else if !partsFit img then none
  else if img.length < so + 8 ∨ !zeroAt img (so + 2) 2 then none
  else
    let ops := (List.range n).map (sceneAt img)
    let fits (i : Nat) : Bool :=
      let o := sceneAt img i
      opFits full o && (if o.op = 3 then payloadAt img i == (0, 0) else payloadFits o.scene)
    if !decide (ops.map fun o => (o.scene.type, o.scene.inst)).Nodup ∨ !(List.range n).all fits then none
    else
      match sigsFrom img (leField img so 2) (so + 8) with
      | none => none
      | some (sigs, fin) =>
        if fin ≠ img.length ∨ leField img (so + 4) 4 ≠ img.length - so then none
        else some
          { full := full, epoch := leField img 0x18 8, baseEpoch := leField img 0x20 8, siteId := sliceBytes img 0x38 16
            atTime := leField img 0x48 1 == 1, switchTime := ofTai64 (leField img 0x50 8), body := img.take so, ops := ops, sigs := sigs
            state := .quorumPending, closeAt := 0, validA := false, validB := false, tsw := 0, apply := none }

/-! ### The configuration after apply -/

/-- A CONTEXT_RANGE scene with a first context and a count, otherwise as its payload says. -/
def rangeScene (p : List Byte) (first count owner keyless : Nat) : Scene :=
  ⟨4, owner, first, leBytes 2 first ++ leBytes 2 count ++ leBytes 1 owner ++ sliceBytes p 5 1 ++ leBytes 1 keyless ++ sliceBytes p 7 1 ++
    zeroBytes 8⟩

/-- One range split by a CONTEXT_MOVE (R36): what lies before, the moved contexts under the recipient, what lies after. The new range keeps the
ORDER_DISP of the donor range, and a move across several donor ranges makes one new range of each (log entry 105). -/
def splitRange (mv : List Byte) (x : Scene) : List Scene :=
  let f := leField x.payload 0 2; let n := leField x.payload 2 2
  let mf := leField mv 0 2; let mn := leField mv 2 2
  let lo := max f mf; let hi := min (f + n) (mf + mn)
  let own := leField x.payload 4 1; let kd := leField x.payload 6 1
  if hi ≤ lo ∨ own ≠ leField mv 4 1 then [x]
  else
    (if f < lo then [rangeScene x.payload f (lo - f) own kd] else []) ++
      [rangeScene x.payload lo (hi - lo) (leField mv 5 1) (leField mv 7 1)] ++
      (if hi < f + n then [rangeScene x.payload hi (f + n - hi) own kd] else [])

/-- The configuration after the apply of an image (R34, R36). -/
def Staged.after (x : Staged) (c : Storyboard) : Storyboard :=
  if x.full then x.ops.map (·.scene)
  else
    let c := x.ops.foldl (fun (c : Storyboard) o =>
      let rest := c.filter fun y => !(y.type == o.scene.type && y.inst == o.scene.inst)
      if o.op = 3 then rest else if o.op = 4 then c else rest ++ [o.scene]) c
    x.moves.foldl (fun (c : Storyboard) mv => c.flatMap fun y => if y.type = 4 then splitRange mv y else [y]) c

/-! ### Signatures and quorums -/

/-- The 16-byte head of a signature entry. -/
def SigEntry.head (e : SigEntry) : List Byte :=
  leBytes 1 e.alg ++ leBytes 1 e.role ++ leBytes 1 e.owner ++ leBytes 1 e.signer ++ leBytes 2 e.sig.length ++ zeroBytes 2 ++ leBytes 8 e.signTime

/-- The configuration whose keys verify an image's signatures: the one in force, and at epoch 0 the image's own SITE (R440). -/
def Staged.signers (x : Staged) (r : Replica) : Storyboard :=
  if r.epoch = 0 then (x.ops.map (·.scene)).filter fun y => y.type == 1 else r.config

/-- A signature entry holds (R41, R42). -/
def sigHolds (c : Storyboard) (body : List Byte) (e : SigEntry) : Bool :=
  let who : Option Officer := if e.role = 1 ∧ e.owner = 0 then c.officer 0 e.signer
    else if e.role = 2 ∧ 0 < e.owner then c.officer e.owner e.signer else none
  match who with
  | none => false
  | some o => o.alg == e.alg && verifySig e.alg o.key (asciiBytes "AKNSB-V1" ++ sha384 body ++ e.head) e.sig

/-- Every entry of an image holds, and each signer appears once (R42). -/
def Staged.sigsHold (x : Staged) (r : Replica) : Bool :=
  decide (x.sigs.map fun e => (e.role, e.owner, e.signer)).Nodup && x.sigs.all fun e => sigHolds (x.signers r) x.body e

/-- Owners in force. -/
def Storyboard.owners (c : Storyboard) : List Nat := ((c.ofType 2).map (·.inst))

/-- The owners of the bits of an OWNER_MASK. -/
def maskOwners (m : Nat) : List Nat := (List.range 32).filterMap fun i => if m.testBit i then some (i + 1) else none

/-- The owner of a guest; none for the secure world and the station guest. -/
def guestOwner (g : Nat) : List Nat := if 2 ≤ g then [g - 1] else []

/-- The response entries of a policy payload. -/
def policyEntries (p : List Byte) : List (Nat × Nat × Nat) :=
  (List.range (p.length / 8)).map fun i => (leField p (8 * i) 2, leField p (8 * i + 2) 1, leField p (8 * i + 4) 4)

/-- The response entries of a policy payload without the filter entries of TAMPER_POLICY (R303). -/
def responseEntries (p : List Byte) : List (Nat × Nat × Nat) := (policyEntries p).filter fun e => decide (e.1 < 0x8000)

/-- Owners whose keys or guest a response entry affects (ERROR_POLICY row of the scene types; log entry 13). -/
def affected (c : Storyboard) (src act : Nat) : List Nat :=
  if act = 2 ∨ act = 6 then c.owners
  else if act = 5 then
    (if 0x441 ≤ src ∧ src ≤ 0x461 then guestOwner (src - 0x440) else if 0x481 ≤ src ∧ src ≤ 0x4A1 then guestOwner (src - 0x480) else c.owners)
  else []

/-- The owners whose quorum a scene needs beyond the producers' (Scene types). -/
def sceneOwners (c : Storyboard) (o : SceneOp) : List Nat :=
  let x := o.scene
  let new := if o.op = 3 then [] else x.payload
  let old := (c.scene x.type x.inst).getD []
  match x.type with
  | 2 => [x.inst]
  | 3 => maskOwners (leField old 4 4 ^^^ leField new 4 4)
  | 4 => [leField old 4 1, leField new 4 1]
  | 5 => [leField x.payload 4 1, leField x.payload 5 1]
  | 6 => if leField new 4 4 < leField old 4 4 ∨ leField new 8 4 < leField old 8 4 then [x.inst] else []
  | 7 => (List.range 8).flatMap fun k => if leField old k 1 = leField new k 1 then [] else guestOwner (leField old k 1) ++ guestOwner (leField new k 1)
  | 8 => guestOwner x.inst
  | 12 =>
    (responseEntries new).flatMap fun e =>
      let was := (((responseIn old e.1).filter fun w => w.1 == 3).map (·.2)).getD 0
      if e.2.1 = 3 ∧ e.2.2 &&& (2 ^ 32 - 1 - was) ≠ 0 then maskOwners e.2.2 else []
  | 13 => (responseEntries new).flatMap fun e => affected c e.1 e.2.1
  | _ => []

/-- Whether a count of signatures of an owner reaches its quorum. -/
def Staged.signedBy (x : Staged) (c : Storyboard) (owner : Nat) : Bool :=
  decide (c.quorum owner ≤ (x.sigs.filter fun e => e.owner == owner).length)

/-- The quorum of an image is complete (R35, R440): owners that are not in force do not sign. -/
def Staged.quorate (x : Staged) (r : Replica) : Bool :=
  let c := x.signers r
  x.signedBy c 0 && (x.ops.flatMap fun o => sceneOwners r.config o).all fun n => !(r.config.owners.contains n) || x.signedBy c n

/-! ### Feasibility (the feasibility table) -/

/-- The sources of ERROR_POLICY in ascending order (R411). -/
def errorSources : List Nat :=
  (List.range 5).map (0x100 + ·) ++ (List.range 4).map (0x140 + ·) ++ [0x180, 0x181] ++ (List.range 3).map (0x1C0 + ·) ++
    (List.range 4).map (0x200 + ·) ++ (List.range 24).map (0x300 + ·) ++ (List.range 7).map (0x380 + ·) ++
    (List.range 10).map (0x3A0 + ·) ++ (List.range 34).map (0x440 + ·) ++ [0x470, 0x47C, 0x47D] ++ (List.range 33).map (0x481 + ·) ++
    (List.range 6).map (0x4C0 + ·) ++ (List.range 6).map (0x500 + ·) ++ (List.range 5).map (0x520 + ·) ++ [0x540, 0x541]

/-- The ACTION values that an error source accepts (its chapter's table). -/
def errorActions (src : Nat) : List Nat :=
  if src = 0x100 ∨ src = 0x101 then [1, 7]
  else if 0x300 ≤ src ∧ src ≤ 0x317 then [1, 2, 3, 4, 5, 6]
  else if src = 0x385 ∨ src = 0x3A8 ∨ src = 0x440 ∨ src = 0x47C then [1, 6]
  else if (0x441 ≤ src ∧ src ≤ 0x461) ∨ src = 0x470 ∨ (0x4C0 ≤ src ∧ src ≤ 0x4C5) then [1, 5, 6]
  else if 0x481 ≤ src ∧ src ≤ 0x4A1 then [1, 5] else [1]

/-- The counting tamper sources, by index. -/
def countingSources : List Nat := (List.range 13) ++ [16, 17, 18, 20, 21, 22, 24, 25, 26]

/-- The tamper sources, by index. -/
def tamperSources : List Nat := countingSources ++ [28, 29, 30]

/-- An owner mask that an action needs or forbids. -/
def maskFits (act mask : Nat) : Bool := (act == 3) == (mask != 0)

/-- An ERROR_POLICY payload names every source once, in order, with valid actions (R411). -/
def errorPolicyFits (p : List Byte) : Bool :=
  (policyEntries p).map (·.1) == errorSources &&
    (policyEntries p).all fun e => (errorActions e.1).contains e.2.1 && (e.2.1 == 3 || e.2.2 == 0)

/-- MODE of a filter entry is one that its source's kind has (Events). -/
def modeFits (i mode : Nat) : Bool := if i < 12 then decide (1 ≤ mode ∧ mode ≤ 3) else mode == 1

/-- A TAMPER_POLICY payload names every source and filter once, in order, with valid values (R303). -/
def tamperPolicyFits (p : List Byte) : Bool :=
  let es := policyEntries p
  es.map (·.1) == tamperSources.map (0x400 + ·) ++ countingSources.map (0x8400 + ·) &&
    ((es.take 25).zip tamperSources).all (fun x =>
      maskFits x.1.2.1 x.1.2.2 && (if 28 ≤ x.2 then x.1.2.1 == 1 else decide (1 ≤ x.1.2.1 ∧ x.1.2.1 ≤ 4))) &&
    (List.range 22).all fun k =>
      let off := 8 * (25 + k)
      let i := countingSources.getD k 0
      let mode := leField p (off + 3) 1
      decide (1 ≤ leField p (off + 2) 1) && modeFits i mode && decide (1 ≤ leField p (off + 4) 4 ∧ leField p (off + 4) 4 ≤ 65000) &&
        (mode != 3 || (es.find? fun e => e.1 == 0x400 + i).any fun e => e.2.1 == 1)

/-- A disposition is one of the three. -/
def dispFits (d : Nat) : Bool := decide (1 ≤ d ∧ d ≤ 3)

/-- The index of the first scene that breaks a test. -/
def firstBad (ops : List SceneOp) (ok : SceneOp → Bool) : Option Nat := ops.findIdx? fun o => !ok o

/-- Check 1: R40, R303, R411, R424. -/
def check1 (ops : List SceneOp) : Option Nat :=
  firstBad ops fun o =>
    let p := o.scene.payload
    o.op == 3 || (match o.scene.type with
      | 1 => decide (1 ≤ leField p 4 1 ∧ leField p 4 1 ≤ 2 ∧ 1 ≤ leField p 5 1 ∧ leField p 5 1 ≤ 2 ∧ 1 ≤ leField p 6 1 ∧ leField p 6 1 ≤ 2)
      | 3 => dispFits (leField p 2 1)
      | 4 => dispFits (leField p 6 1) && dispFits (leField p 7 1)
      | 5 => dispFits (leField p 7 1)
      | 11 => (List.range (leField p 2 2)).all fun i =>
          let a := leField p (81 + 80 * i) 1
          (a == 1 && zeroAt p (82 + 80 * i) 1) || (a == 2 && dispFits (leField p (82 + 80 * i) 1) && zeroAt p (84 + 80 * i) 2)
      | 12 => tamperPolicyFits p
      | 13 => errorPolicyFits p
      | _ => true)

/-- The guests that a 64-bit world mask names. -/
def maskGuests (m : Nat) : List Nat := (List.range 34).filter fun g => decide (1 ≤ g) && m.testBit g

/-- The guests that LANES and GATE scenes name. -/
def Storyboard.namedGuests (c : Storyboard) : List Nat :=
  ((c.ofType 7).flatMap fun x => (List.range 8).map fun k => leField x.payload k 1).filter (· ≠ 0) ++
    (c.ofType 9).flatMap fun x =>
      ((List.range 29).flatMap fun s => maskGuests (leField x.payload (24 + 24 * s) 8) ++ maskGuests (leField x.payload (32 + 24 * s) 8)) ++
        (List.range (leField x.payload 3 1)).flatMap fun i => maskGuests (leField x.payload (728 + 24 * i) 8)

/-- The scene-table index of a failed check (R43): the first entry that breaks it, or the first entry of a type that it is about (log entry 106). -/
def blame (ops : List SceneOp) (bad : SceneOp → Bool) (types : List Nat) : Option Nat :=
  some ((ops.findIdx? bad).getD ((ops.findIdx? fun o => types.contains o.scene.type).getD 0))

/-- Check 2: the scenes that must be there; a host function serves an owner, whose guest is the owner's number plus 1 (R191). -/
def check2 (ops : List SceneOp) (c : Storyboard) : Option Nat :=
  let has (t i : Nat) : Bool := (c.scene t i).isSome
  if has 1 0 && ((List.range 4).all fun i => has 3 i) && has 7 0 && has 7 1 && has 9 0 && has 9 1 && has 12 0 && has 13 0 &&
      (c.namedGuests ++ ((c.ofType 2).map fun (x : Scene) => x.inst + 1)).all fun g => has 8 g then none
  else blame ops (fun o => o.op == 3 && [1, 3, 7, 8, 9, 12, 13].contains o.scene.type) [1, 2, 3, 7, 8, 9, 12, 13]

/-- The owners that a scene names. -/
def Scene.owners (x : Scene) : List Nat :=
  let p := x.payload
  (match x.type with
   | 3 => maskOwners (leField p 4 4)
   | 4 => [leField p 4 1]
   | 5 => [leField p 4 1, leField p 5 1]
   | 6 => [x.inst]
   | 8 => [leField p 3 1]
   | 12 | 13 => (responseEntries p).flatMap fun e => if e.2.1 = 3 then maskOwners e.2.2 else []
   | _ => []) ++ [x.owner]

/-- Check 3: owners that a scene in force after apply names exist, and an owner that is removed holds nothing. -/
def check3 (x : SpanState) (st : Staged) (c : Storyboard) : Option Nat :=
  let ok (n : Nat) : Bool := n == 0 || (c.scene 2 n).isSome
  let names (y : Scene) : Bool := y.owners.all ok
  let gone := x.rep.config.owners.filter fun n => !ok n
  let held := gone.any fun n => (x.rep.objs.any fun o => o.owner == n) || (x.stream.active.ctxs.any fun y => y.2.owner == n && y.2.state != .unconfigured)
  if held || !(c.all names) || st.ops.any (fun o => o.op != 3 && !names o.scene) then
    blame st.ops (fun o => (o.op != 3 && !names o.scene) || (o.op == 3 && o.scene.type == 2)) [2]
  else none

/-- Check 4: ranges do not overlap, stay inside, and use ports of their owner. -/
def check4 (ops : List SceneOp) (c : Storyboard) : Option Nat :=
  let span (x : Scene) : Nat × Nat := (leField x.payload 0 2, leField x.payload 2 2)
  let rs := c.ofType 4
  let fits (x : Scene) : Bool :=
    decide (1 ≤ (span x).2 ∧ (span x).1 + (span x).2 ≤ 4096) && (List.range 4).all fun n =>
      !(leField x.payload 5 1).testBit n || ((c.port n).any fun q => (leField q 4 4).testBit (leField x.payload 4 1 - 1))
  let clear (x : Scene) : Bool := rs.all fun y => y == x || disjoint [span x, span y]
  if disjoint (rs.map span) && rs.all fits then none
  else blame ops (fun o => o.op != 3 && o.scene.type == 4 && !(fits o.scene && clear o.scene)) [4, 3, 5]

/-- Check 5: the template of an active context does not change. -/
def check5 (x : SpanState) (ops : List SceneOp) (c : Storyboard) : Option Nat :=
  let same (n : Nat) : Bool := c.template n == x.rep.config.template n
  let used := x.stream.active.ctxs.filter fun y => y.2.state == .active
  if used.all fun y => same y.2.template then none
  else blame ops (fun o => o.scene.type == 10 && !same o.scene.inst && used.any fun y => y.2.template == o.scene.inst) [10]

/-- Check 6: the contexts and keys of a CONTEXT_MOVE; `t` is the switch second. -/
def check6 (x : SpanState) (st : Staged) (t : Nat) : Option Nat :=
  firstBad st.ops fun o =>
    let p := o.scene.payload
    o.scene.type != 5 ||
      ((moveEntries p).all fun e =>
        x.rep.config.ctxOwner e.1 == some (leField p 4 1) &&
          (leField p 6 1 != 1 ||
            (((x.rep.obj e.2).any fun k => k.owner == leField p 5 1 && k.state == .active && k.usage == usageTag &&
                algFits (x.stream.active.ctx e.1).alg k) &&
              (x.stream.active.slot e.1 true).load == .empty && (x.stream.shadow.slot e.1 true).load == .empty))) &&
      (leField p 6 1 != 1 || decide (t + 2 ≤ leField p 8 8))

/-- Check 7: quotas. -/
def check7 (r : Replica) (ops : List SceneOp) (c : Storyboard) : Option Nat :=
  let qs := (c.ofType 6).map fun x => leField x.payload 4 4
  let room (n : Nat) : Bool :=
    let q := c.quota n; let was := r.config.quota n
    (decide (was.1 ≤ q.1) || decide ((r.objs.filter fun o => o.owner == n).length ≤ q.1)) &&
      (decide (was.2 ≤ q.2) || decide ((r.ctrs.filter fun k => ownerOf k.handle == n).length ≤ q.2))
  if decide (qs.sum ≤ 16384) && (List.range 32).all fun i => room (i + 1) then none
  else blame ops (fun o => o.scene.type == 6 && !room o.scene.inst) [6]

/-- The load of a core by the takes of its guests (R316). -/
def Storyboard.coreLoad (c : Storyboard) (sp : SpanId) (core : Nat) : Nat :=
  ((c.guests.filter fun g => (c.cores sp g).testBit core).map fun g => c.world g 6 1 * (c.world g 8 2 + 4)).sum

/-- Lane owners and gate masks of a span agree with R334; world masks stay within 0 to 33. -/
def gateSane (c : Storyboard) (inst : Nat) : Bool :=
  match c.scene 9 inst with
  | none => true
  | some p =>
    let rd (s : Nat) := leField p (24 + 24 * s) 8
    let wr (s : Nat) := leField p (32 + 24 * s) 8
    let lane (k : Nat) := ((c.scene 7 inst).map fun q => leField q k 1).getD 0
    ((List.range 29).all fun s => decide (rd s < 2 ^ 34 ∧ wr s < 2 ^ 34)) &&
      ((List.range 29).all fun s =>
        if 6 ≤ s ∧ s ≤ 13 then rd s == 2 ^ lane (s - 6) && wr s == 2 ^ lane (s - 6)
        else decide (rd s < 4) && (if s = 21 then decide (wr s < 4) else decide (wr s < 2))) &&
      (List.range (leField p 3 1)).all fun i =>
        decide (leField p (712 + 24 * i) 8 + 2 ^ leField p (720 + 24 * i) 1 ≤ 0x4000000) &&
          decide (leField p (728 + 24 * i) 8 < 2 ^ 34) && !(leField p (728 + 24 * i) 8).testBit 0

/-- The lanes, core loads, placement, gates and interrupts of a span keep check 8 (R316, R334). -/
def worldSane (x : SpanState) (c : Storyboard) (sp : SpanId) : Bool :=
  let lanes := ((c.scene 7 sp.num).map fun p => (List.range 8).map fun k => leField p k 1).getD []
  lanes.contains 0 && (lanes.all fun g => g == 0 || (c.guests.contains g && c.cores sp g != 0)) &&
    ([2, 3, 4, 5].all fun k => decide (c.coreLoad sp k ≤ 10000)) && (placeGuests x sp c).isSome && gateSane c sp.num &&
    c.guests.all fun g => c.cores sp g == 0 ||
      (match c.scene 8 g with
       | some p => (List.range (leField p 7 1)).all fun i =>
          let slot := leField p (64 + 8 * i) 1
          decide (slot < 29) && ((c.scene 9 sp.num).any fun q => (leField q (24 + 24 * slot) 8).testBit g)
       | none => true)

/-- Check 8: lanes, R316 and R334. -/
def check8 (s : State) (ops : List SceneOp) (c : Storyboard) : Option Nat :=
  let bad := [SpanId.a, SpanId.b].filter fun sp => !worldSane (s.span sp) c sp
  if bad = [] then none
  else blame ops (fun o => (o.scene.type == 7 || o.scene.type == 9) && bad.any fun sp => sp.num == o.scene.inst) [7, 8, 9]

/-- Check 9: a PORT changes MODE only from DISABLED, and SITE_ID is the header's. -/
def check9 (st : Staged) (c cur : Storyboard) : Option Nat :=
  let mode (c : Storyboard) (n : Nat) : Nat := ((c.port n).map fun q => leField q 0 1).getD 4
  let keeps (n : Nat) : Bool := mode cur n == 4 || mode cur n == mode c n
  if ((List.range 4).all keeps) && c.site.all fun p => sliceBytes p 16 16 == st.siteId then none
  else blame st.ops (fun o => o.scene.type == 3 && !keeps o.scene.inst) [1, 3]

/-- Bits of a key that are zero by definition for the classes that an entry can match (R98). -/
def wildZero (value mask : Nat) : Nat :=
  let classes := (List.range 5).filter fun k => (k * 2 ^ 252 &&& mask) == (value &&& mask &&& (15 * 2 ^ 252))
  2 ^ 250 + 2 ^ 251 +
    (if classes.all fun k => k == 1 || k == 2 || k == 0 then 2 ^ 112 - 1 else 0) +
    (if classes.all fun k => k == 3 || k == 4 then 255 * 2 ^ 192 else 0)

/-- A WILDCARD payload keeps R98. -/
def wildcardSane (c : Storyboard) (inst : Nat) (p : List Byte) : Bool :=
  decide (leField p 2 2 ≤ 256) && (List.range (leField p 2 2)).all fun i =>
    let value := leField p (16 + 80 * i) 32
    let mask := leField p (48 + 80 * i) 32
    let classes := (List.range 5).filter fun k => (k * 2 ^ 252 &&& mask) == (value &&& mask &&& (15 * 2 ^ 252))
    classes != [] && (mask &&& wildZero value mask) == 0 &&
      (leField p (81 + 80 * i) 1 != 1 ||
        (match c.range (leField p (84 + 80 * i) 2) with
         | some r => (List.range 2).all fun n => !(leField p (80 + 80 * i) 1).testBit n || (leField r 5 1).testBit (2 * inst + n)
         | none => false))

/-- A TEMPLATE payload keeps R123, R125 and the widths of R140. -/
def templateSane (p : List Byte) : Bool :=
  let t : Template := p
  let width (off : Nat) : Nat := leField t (off + 2) 1
  !(t.insert && decide (3 ≤ t.frameClass)) && [8, 10, 16, 32].contains t.tagBytes &&
    t.mode == (if t.frameClass = 1 then 1 else if t.frameClass = 2 then 2 else 3) &&
    (if t.mode = 1 then decide (width 20 ≤ 2) else decide (width 20 ≤ 4 ∧ width 32 ≤ 4))

/-- Check 10: templates and wildcards. -/
def check10 (x : SpanState) (ops : List SceneOp) (c : Storyboard) : Option Nat :=
  let ok (y : Scene) : Bool :=
    if y.type = 10 then decide (y.inst < 64) && templateSane y.payload
    else if y.type = 11 then wildcardSane c y.inst y.payload else true
  if decide ((c.ofType 10).length ≤ 64) && c.all ok &&
      x.stream.active.ctxs.all fun y => y.2.state == .unconfigured || (c.ctxOwner y.1).isNone || (c.template y.2.template).isSome then none
  else blame ops (fun o => o.op != 3 && !ok o.scene) [10, 4, 11]

/-- Check 11: VBAK for ANCHORED, and the power tier. -/
def State.check11 (s : State) (ops : List SceneOp) (c : Storyboard) : Option Nat :=
  if !(c.anchored && s.fld .a Fld.tmpStatusVbakOk == 0) &&
    (let want := c.siteNat 5 1
     s.hub.power.tier == 1 || (s.hub.power.tier == 2 && want == 2)) then none
  else blame ops (fun _ => false) [1]

/-- The feasibility checks in their order on a span, at a switch second: the first that fails, with a scene-table index. -/
def State.infeasible (s : State) (sp : SpanId) (st : Staged) (second : Nat) : Option (Nat × Nat) :=
  let x := s.span sp
  let ops := st.ops
  let c := st.after x.rep.config
  [check1 ops, check2 ops c, check3 x st c, check4 ops c, check5 x ops c, check6 x st second, check7 x.rep ops c, check8 s ops c,
    check9 st c x.rep.config, check10 x ops c, s.check11 ops c].zipIdx.findSome? fun r => r.1.map fun i => (r.2 + 1, i)

end Sys2Proof.Machine
end

