-- ==== Sys2Proof/Machine/Quorum.lean ====
section
/-!
DEFINITION. What the keystone span decides on sessions, proposals, ceremonies and the slate log (R59 to R81, R466 to R468).
-/

namespace Sys2Proof.Machine

/-! ### Signers and sessions -/

/-- The key digest of an officer (R60). -/
def Officer.digest (o : Officer) : List Byte := sha256 o.key

/-- The ROLE code of the session slates and commands. -/
def Signer.role8 (w : Signer) : List Byte := leBytes 1 w.role.code

/-- The number that stands for a signer as the SUBJECT of SESSION_REFUSED: ROLE, OWNER, SIGNER (log entry 14). -/
def Signer.subject (w : Signer) : Nat := w.role.code * 2 ^ 16 + w.owner * 2 ^ 8 + w.index

/-- A slate of a session's own event: officer and session are those of the session. -/
def sessionSlate (kind : Nat) (plane : Plane) (port fn : Nat) (sp : SpanId) (x : Session) (detail : List Byte) : SlateReq :=
  ⟨none, kind, .ok, plane, .span sp, port, fn, x.signer.owner, x.signer.index, x.id, x.id, detail⟩

/-- SESSION_OPEN (R61, R63). -/
def State.decideOpen (s : State) (sp : SpanId) (c : Caller) (x : Session) : Decision := do
  let r := (s.span sp).rep
  refuseIf (decide (64 ≤ r.sessions.length)) .resourceExhausted
  let sl := sessionSlate 0x0201 c.plane c.port c.fn c.span x (x.signer.role8 ++ x.binding)
  refuseIf (!r.log.admits sl) .logFull
  .ok ⟨.ok, [.openSession x], [sl], [num x.id]⟩

/-- The end of a session with a reason: 1 CLOSED, 2 IDLE, 3 AGE, 4 TRANSPORT, 5 OFFICER_CHANGED (R63, R77). -/
def sessionEnd (sp : SpanId) (x : Session) (reason : Nat) : Delta × SlateReq :=
  (.closeSession x.id, sessionSlate 0x0202 .device 8 0xFF sp x (leBytes 1 reason))

/-- OS_CLOSE (R63): a session is ended through the door that opened it; the device itself ends a session with the reason given. -/
def State.decideClose (s : State) (sp : SpanId) (c : Caller) (id reason : Nat) : Decision := do
  let r := (s.span sp).rep
  let own := match c.origin with | .proposal _ => true | _ => false
  match (r.session id).filter fun x => own || x.serves c with
  | none => deny .notAuthorised
  | some x =>
    let e := sessionEnd sp x reason
    let sl := if own then e.2 else sessionSlate 0x0202 c.plane c.port c.fn c.span x (leBytes 1 1)
    refuseIf (!own && !r.log.admits sl) .logFull
    .ok ⟨.ok, [e.1], [sl], []⟩

/-! ### Proposals -/

/-- A vote counts while its officer is in force with the same key digest (R68). -/
def Replica.counts (r : Replica) (owner : Nat) (v : Vote) : Bool :=
  (r.config.officer owner v.index).any fun o => o.digest == v.keyDigest

/-- The mask of the counting votes of a verdict (R68). -/
def Replica.voteMask (r : Replica) (p : Proposal) (approve : Bool) : Nat :=
  (p.votes.filter fun v => v.approve == approve && r.counts p.owner v).foldl (fun m v => m ||| 2 ^ v.index) 0

/-- The number of counting votes of a verdict. -/
def Replica.voteCount (r : Replica) (p : Proposal) (approve : Bool) : Nat :=
  (p.votes.filter fun v => v.approve == approve && r.counts p.owner v).length

/-- The quorum of a proposal is reached (R68). -/
def Replica.quorumOf (r : Replica) (p : Proposal) : Bool :=
  decide (0 < r.config.quorum p.owner) && decide (r.config.quorum p.owner ≤ r.voteCount p true)

/-- KIND of a proposal body. -/
def PropBody.kind : PropBody → Nat
  | .single _ => 1
  | .ceremony _ => 2

/-- The number of steps of a proposal body; PROP_OPEN of a SINGLE body shows 1, which the spec leaves open (log entry 105). -/
def PropBody.steps : PropBody → Nat
  | .single _ => 1
  | .ceremony l => l.length

/-- The bytes of a body or of a step list: opcode and fields, or opcode and digest of each step (log entry 15). -/
def PropBody.bytes : PropBody → List Byte
  | .single q => leBytes 2 q.opcode ++ q.body
  | .ceremony l => l.flatMap fun x => leBytes 2 x.1 ++ padBytes 32 x.2

/-- The subjects that a body names; the digests of a step list name none (R65). -/
def PropBody.subjects : PropBody → List Subject
  | .single q => q.subjects
  | .ceremony _ => []

/-- The proposal digest (R65). -/
def proposalDigest (unit : List Byte) (p : Proposal) : List Byte :=
  sha256 (asciiBytes "AKNQP-V1" ++ unit ++ beBytes 8 p.id ++ beBytes 1 p.owner ++ beBytes 1 p.body.kind ++ beBytes 8 (tai64 p.tOpen) ++
    beBytes 8 p.epoch ++ (p.versions.flatMap fun v => beBytes 8 v.1.name ++ beBytes 8 v.2) ++ p.body.bytes)

/-- The message that a vote signs (R66). -/
def voteMessage (pd : List Byte) (approve : Bool) (owner signer : Nat) : List Byte :=
  asciiBytes "AKNQA-V1" ++ pd ++ beBytes 1 (if approve then 1 else 2) ++ beBytes 1 owner ++ beBytes 1 signer

/-- A vote's signature verifies under the officer's key in force. -/
def Replica.voteHolds (r : Replica) (p : Proposal) (index : Nat) (approve : Bool) (sig : List Byte) : Bool :=
  (r.config.officer p.owner index).any fun o => verifySig o.alg o.key (voteMessage p.pd approve p.owner index) sig

/-- A proposal that has reached a final state. -/
def Proposal.close (p : Proposal) (st : PropState) (t : Nat) (status : Status) : Proposal :=
  { p with state := st, closedAt := t, status := status }

/-- A slate about a proposal on the device's own initiative. -/
def propDevSlate (sp : SpanId) (kind : Nat) (st : Status) (p : Proposal) (detail : List Byte) : SlateReq :=
  { devSlate kind st (.span sp) p.id detail with owner := p.owner }

/-- DETAIL of PROP_CLOSED: final state, approval mask, pd (R77). -/
def Replica.closedDetail (r : Replica) (p : Proposal) (st : PropState) : List Byte :=
  leBytes 1 (Config.propStateCode st) ++ leBytes 2 (r.voteMask p true) ++ p.pd

/-- The state of a proposal after its mask has been evaluated (R68, R69). -/
def Replica.settle (r : Replica) (p : Proposal) (t : Nat) : Proposal :=
  if p.state ≠ .opened then p
  else if r.quorumOf p then
    { p with quorumAt := t, state := match p.body with | .single _ => .executing | .ceremony _ => .approved }
  else if (r.config.officers p.owner).length - r.config.quorum p.owner < r.voteCount p false then p.close .rejected t .ok
  else p

/-- The slates of a vote and of a closing by rejection (R69, R77). -/
def Replica.voteSlates (r : Replica) (c : Caller) (p : Proposal) (approve : Bool) : List SlateReq :=
  let st : Status := if p.state = .opened then .quorumPending else .ok
  [r.slate c 0x0212 st p.owner p.id (leBytes 1 (if approve then 1 else 2) ++ leBytes 2 (r.voteMask p true) ++ leBytes 2 (r.voteMask p false) ++
      leBytes 1 (Config.propStateCode p.state) ++ p.pd)] ++
    (if p.state = .rejected then [r.slate c 0x0214 .ok p.owner p.id (r.closedDetail p .rejected)] else [])

/-- The body of a proposal has the form that R64 and the limits of a SINGLE body and a step list give. -/
def PropBody.fits : PropBody → Bool
  | .single q => decide (q.body.length ≤ 3840)
  | .ceremony l => decide (1 ≤ l.length ∧ l.length ≤ 16) && l.all fun x => x.2.length == 32

/-- The versions that a proposal records, in name order (R65). -/
def SpanState.versionsOf (x : SpanState) (l : List Subject) : List (Subject × Nat) :=
  (sortBy (fun a b => decide (a.1.name ≤ b.1.name)) (l.map fun y => (y, x.version y))).eraseDups

/-- Whether a proposal counts against the limits of R66 and shows in `VLT_PROP_OPEN`. -/
def Proposal.open_ (p : Proposal) : Bool := p.state == .opened || p.state == .approved

/-- PROP_SUBMIT (R64 to R66): the session, the body, the command's own checks at submission, the proposer's vote, the limits, the log. The spec gives
this order only in part (log entry 105). -/
def State.decideSubmit (s : State) (sp : SpanId) (c : Caller) (owner : Nat) (body : PropBody) (sig : List Byte) : Decision := do
  let x := s.span sp
  let r := x.rep
  let t := s.now sp
  match (r.sessionOf c).filter fun y => y.isOf owner with
  | none => deny .notAuthorised
  | some y =>
    refuseIf (!body.fits) .inputRange
    match body with
    | .single q => let _ ← s.prepareQ sp c owner q [] t none; pure ()
    | .ceremony _ => pure ()
    let serial := sparseGet 1 0 r.propSerials
    let p : Proposal :=
      { id := owner * 2 ^ 56 + serial % 2 ^ 56, owner := owner, body := body, proposer := y.signer.index, epoch := r.epoch, tOpen := t
        tClose := t + r.config.window, versions := x.versionsOf body.subjects, pd := [], votes := [], state := .opened, quorumAt := 0
        closedAt := 0, status := .ok }
    let p := { p with pd := proposalDigest (s.unitId sp) p }
    refuseIf (!r.voteHolds p y.signer.index true sig) .notAuthorised
    refuseIf (decide (256 ≤ (r.props.filter fun q => q.open_ && q.owner == owner).length ∨ 1024 ≤ (r.props.filter Proposal.open_).length))
      .resourceExhausted
    refuseIf (!r.log.roomOutsideReserve) .logFull
    let p := r.settle { p with votes := [⟨y.signer.index, y.keyDigest, true⟩] } t
    let opened := r.slate c 0x0211 .ok owner p.id (leBytes 1 body.kind ++ leBytes 1 body.steps ++ leBytes 8 (tai64 p.tClose) ++ p.pd)
    .ok ⟨.ok, [.putProp p, .propSerial 0 (serial + 1)], opened :: r.voteSlates c p true, [num p.id, p.pd, num (tai64 p.tClose)]⟩

/-- PROP_VOTE (R67). -/
def State.decideVote (s : State) (sp : SpanId) (c : Caller) (pid : Nat) (approve : Bool) (sig : List Byte) : Decision := do
  let r := (s.span sp).rep
  let t := s.now sp
  match (r.sessionOf c).filter fun y => y.isOf (pidOwner pid) with
  | none => deny .notAuthorised
  | some y =>
    match r.prop pid with
    | none => deny .proposalClosed
    | some p =>
      refuseIf (p.state == .expired) .approvalExpired
      refuseIf (p.state != .opened) .proposalClosed
      refuseIf (decide (p.tClose ≤ t)) .approvalExpired
      refuseIf (p.votes.any fun v => v.index == y.signer.index && v.keyDigest == y.keyDigest) .duplicateApproval
      refuseIf (!r.voteHolds p y.signer.index approve sig) .notAuthorised
      refuseIf (!r.log.roomOutsideReserve) .logFull
      let p := r.settle { p with votes := p.votes ++ [⟨y.signer.index, y.keyDigest, approve⟩] } t
      .ok ⟨.ok, [.putProp p], r.voteSlates c p approve, [num (Config.propStateCode p.state), num (r.voteMask p true)]⟩

/-- PROP_WITHDRAW (R69). -/
def State.decideWithdraw (s : State) (sp : SpanId) (c : Caller) (pid : Nat) : Decision := do
  let r := (s.span sp).rep
  match (r.sessionOf c).filter fun y => y.isOf (pidOwner pid) with
  | none => deny .notAuthorised
  | some y =>
    match r.prop pid with
    | none => deny .proposalClosed
    | some p =>
      refuseIf (p.proposer != y.signer.index) .notAuthorised
      refuseIf (p.state == .expired) .approvalExpired
      refuseIf (!p.open_) .proposalClosed
      refuseIf (!r.log.roomOutsideReserve) .logFull
      let q := p.close .withdrawn (s.now sp) .ok
      .ok ⟨.ok, [.putProp q], [r.slate c 0x0214 .ok p.owner p.id (r.closedDetail p .withdrawn)], []⟩

/-! ### Executing a SINGLE proposal (R69) -/

/-- The role of a subject has changed since an epoch (R54 against the submission epoch): only contexts have roles. -/
def Replica.staleSubject (r : Replica) (epoch : Nat) : Subject → Bool
  | .ctx n => decide (epoch < r.role (.ctx n))
  | _ => false

/-- R69 steps 1 and 2 of a proposal. -/
def SpanState.propStale (x : SpanState) (p : Proposal) : Option Status :=
  if p.versions.any fun v => x.rep.staleSubject p.epoch v.1 then some .staleEpoch
  else if p.versions.any fun v => x.version v.1 ≠ v.2 then some .staleBase else none

/-- A command that has not completed when its change is applied: it waits for references (R115, R186) or for an update (R449). -/
def QCmd.lasting : QCmd → Bool
  | .keyDestroy _ | .ctxDrain _ | .sbFwUpdate _ => true
  | _ => false

/-- The random bytes that a command under quorum of an owner draws: key material (R174), and a new ORK with its m_n (R169). -/
def QCmd.drawBytes (q : QCmd) (r : Replica) (owner : Nat) : Nat :=
  match q with
  | .keyGenerate a => r.orkBytes owner + (if symmetricType a.type then 64 else generateBytes a.type)
  | .keyImportSealed _ | .keyUnwrap _ | .keyDerive _ => r.orkBytes owner
  | _ => 0

/-- The type of the asymmetric key that a command under quorum makes or imports: its public key is formed on a lane (R198). -/
def QCmd.laneType : QCmd → Option Nat
  | .keyGenerate a => if symmetricType a.type then none else some a.type
  | .keyImportSealed a => let t := leField a.blob 10 1; if symmetricType t || decide (0x80 ≤ t) then none else some t
  | _ => none

/-- The slate PROP_EXECUTED of a proposal (R77, log entry 12). -/
def Replica.executedSlate (r : Replica) (sp : SpanId) (p : Proposal) (st : Status) : SlateReq :=
  r.slate (internalCaller sp p.id) 0x0213 st p.owner p.id
    (leBytes 2 (r.voteMask p true) ++ leBytes 2 (match p.body with | .single q => q.opcode | .ceremony _ => 0) ++ p.pd)

/-- The end of an execution: the proposal closes with the command's status (R69). -/
def Replica.endExecution (r : Replica) (sp : SpanId) (p : Proposal) (t : Nat) (st : Status) : List Delta × List SlateReq :=
  ([.putProp (p.close (if st = .ok then .executed else .failed) t st)], [r.executedSlate sp p st])

/-- PROPOSAL_EXECUTE (R69). A proposal whose lock is held, or that is not EXECUTING, is left as it is; a command that draws fails in the fatal
state of the entropy unit (R288). -/
def State.decideExecute (s : State) (sp : SpanId) (pid : Nat) (rnd : List Byte) : Decision :=
  let x := s.span sp
  let r := x.rep
  let t := s.now sp
  match r.prop pid with
  | none => deny .proposalClosed
  | some p =>
    match p.body with
    | .ceremony _ => deny .proposalClosed
    | .single q =>
      if p.state ≠ .executing then deny .proposalClosed
      else
        match x.propStale p with
        | some st => .ok ⟨st, [.putProp (p.close .stale t st)], [propDevSlate sp 0x0214 st p (r.closedDetail p .stale)], []⟩
        | none =>
          if (r.lock p.owner).isSome then deny .lockHeld
          else if 0 < q.drawBytes r p.owner ∧ s.entFatal sp then
            let e := r.endExecution sp p t .serviceUnavailable
            .ok ⟨.serviceUnavailable, e.1, e.2, []⟩
          else
            match s.prepareQ sp (internalCaller sp pid) p.owner q rnd t none with
            | .error d =>
              let e := r.endExecution sp p t d.st
              .ok ⟨d.st, e.1, e.2, []⟩
            | .ok res =>
              if q.lasting then
                .ok ⟨.ok, (res.effs.map .eff) ++ [.lockTake ⟨p.owner, 0, pid, t + 30 * sec, x.cont.term, 0, [], [], []⟩], res.slates, []⟩
              else
                let e := r.endExecution sp p t .ok
                .ok ⟨.ok, (res.effs.map .eff) ++ e.1, res.slates ++ e.2, res.fields⟩

/-- The EXECUTING proposal that holds an owner's lock for a lasting command. -/
def Replica.lastingProp (r : Replica) (q : QCmd) : Option Proposal :=
  r.props.find? fun p => p.state == .executing && p.body == .single q && r.locks.any fun l => l.holder == 0 && l.pid == p.id

/-- A lasting command has ended with a status: its proposal closes and its lock frees (R69). -/
def Replica.endLasting (r : Replica) (sp : SpanId) (q : QCmd) (t : Nat) (st : Status) : List Delta × List SlateReq :=
  match r.lastingProp q with
  | none => ([], [])
  | some p => let e := r.endExecution sp p t st; (e.1 ++ [.lockFree p.owner], e.2)

/-! ### Ceremonies (R71 to R75) -/

/-- CER_BEGIN (R71). -/
def State.decideBegin (s : State) (sp : SpanId) (c : Caller) (pid : Nat) : Decision := do
  let x := s.span sp
  let r := x.rep
  let t := s.now sp
  match r.sessionOf c, r.prop pid with
  | none, _ => deny .notAuthorised
  | some y, p? =>
    refuseIf (!y.isOf (pidOwner pid)) .notAuthorised
    match p? with
    | none => deny .proposalClosed
    | some p =>
      refuseIf (p.state == .expired) .approvalExpired
      refuseIf (p.state != .approved) .proposalClosed
      refuseIf (!(p.votes.any fun v => v.approve && v.index == y.signer.index && v.keyDigest == y.keyDigest && r.counts p.owner v)) .notAuthorised
      refuseIf (!r.quorumOf p) .quorumPending
      refuseIf (decide (p.quorumAt + 300 * sec ≤ t)) .approvalExpired
      match x.propStale p with
      | some st => deny st
      | none =>
        refuseIf (r.lock p.owner).isSome .lockHeld
        refuseIf (!r.log.roomOutsideReserve) .logFull
        let dl := t + 30 * sec
        .ok ⟨.ok, [.putProp { p with state := .inCeremony }, .lockTake ⟨p.owner, y.id, pid, dl, x.cont.term, 0, [], [], []⟩],
          [r.slate c 0x0301 .ok p.owner pid (leBytes 1 p.owner ++ leBytes 8 (tai64 dl))], [num p.owner, num (tai64 dl)]⟩

/-- The lock that a ceremony command of a holder names (R72, R74). -/
def State.heldLock (s : State) (sp : SpanId) (c : Caller) (lock : Nat) : Except Denial Lock := do
  let r := (s.span sp).rep
  match r.sessionOf c with
  | none => deny .notAuthorised
  | some y =>
    match r.lock lock with
    | none => deny .lockAbandoned
    | some l =>
      refuseIf (l.holder != y.id) .notAuthorised
      refuseIf (decide (l.deadline ≤ s.now sp)) .lockAbandoned
      .ok l

/-- CER_RENEW (R71, R74). -/
def State.decideRenew (s : State) (sp : SpanId) (c : Caller) (lock : Nat) : Decision := do
  let _ ← s.heldLock sp c lock
  let dl := s.now sp + 30 * sec
  .ok ⟨.ok, [.lockRenew lock dl], [], [num (tai64 dl)]⟩

/-- The state that a ceremony step sees: the ordered state with the working set (R72). -/
def State.withWorking (s : State) (sp : SpanId) (l : Lock) : State :=
  l.working.foldl (fun s e => s.applyEffect sp (s.now sp) e) s

/-- CER_STEP (R72). A step that fails changes nothing and may be sent again (log entry 16). A step on a context whose role has changed since the proposal
was submitted ends with `STALE_EPOCH` (R54, R55, R56). -/
def State.decideStep (s : State) (sp : SpanId) (c : Caller) (lock idx : Nat) (q : QCmd) (rnd : List Byte) : Decision := do
  let l ← s.heldLock sp c lock
  let r := (s.span sp).rep
  match (r.prop l.pid).map fun p => (p.body, p.epoch) with
  | some (PropBody.ceremony steps, epoch) =>
    refuseIf (idx != l.stepsDone + 1 || steps[l.stepsDone]? != some (q.opcode, sha256 q.body)) .notAuthorised
    refuseIf (q.subjects.any (r.staleSubject epoch)) .staleEpoch
    let res ← (s.withWorking sp l).prepareQ sp c l.owner q rnd (s.now sp) (some lock)
    refuseIf (!r.log.roomOutsideReserve) .logFull
    .ok ⟨.ok, [.lockStep lock q.subjects res.effs res.slates],
      [r.slate c 0x0302 .ok l.owner l.pid (leBytes 1 idx ++ leBytes 2 q.opcode ++ sha256 q.body)], res.fields⟩
  | _ => deny .notAuthorised

/-- The contexts that a working set leaves with uncommitted shadow writes, in the order of their writes (R73). -/
def uncommitted (l : List Effect) : List Nat :=
  l.foldl (fun acc e =>
    match e with
    | .shadowCtx n _ | .shadowSlot n _ _ => if acc.contains n then acc else acc ++ [n]
    | .commitCtx n | .ctxState n _ _ _ => acc.filter (· ≠ n)
    | _ => acc) []

/-- The effects of a ceremony as CER_END commits them: an activation gets the time of its commit (R144). -/
def Effect.atCommit (t : Nat) : Effect → Effect
  | .ctxState n st anchor _ => .ctxState n st (if anchor = 0 then 0 else t / sec + 2) (tai64 t)
  | e => e

/-- CER_END (R73): before the last step it is refused with `NOT_AUTHORISED`, a status that the spec leaves open (log entry 105); a working set with a
context whose role has changed meanwhile ends with `STALE_EPOCH` (R55). -/
def State.decideEnd (s : State) (sp : SpanId) (c : Caller) (lock : Nat) : Decision := do
  let l ← s.heldLock sp c lock
  let r := (s.span sp).rep
  match r.prop l.pid with
  | none => deny .notAuthorised
  | some p =>
    refuseIf (l.stepsDone != p.body.steps) .notAuthorised
    refuseIf (l.named.any (r.staleSubject p.epoch)) .staleEpoch
    refuseIf (!r.log.roomOutsideReserve) .logFull
    let effs := (l.working ++ (uncommitted l.working).map Effect.commitCtx).map (Effect.atCommit (s.now sp))
    let fin := r.slate c 0x0303 .ok l.owner l.pid (leBytes 1 l.stepsDone ++ Config.workingDigest l.working)
    .ok ⟨.ok, (effs.map .eff) ++ [.putProp (p.close .executed (s.now sp) .ok), .lockFree lock], l.slates ++ [fin], [num 0]⟩

/-- The end of a ceremony or an execution whose lease has run out (R74): the working set is discarded and the lock frees. -/
def Replica.abandon (r : Replica) (sp : SpanId) (l : Lock) (t : Nat) : List Delta × List SlateReq :=
  let cer := { devSlate 0x0304 .lockAbandoned (.span sp) l.pid (leBytes 1 l.owner ++ leBytes 1 l.stepsDone ++ leBytes 8 (tai64 l.deadline)) with owner := l.owner }
  match r.prop l.pid with
  | some p =>
    ([.lockFree l.owner, .putProp (p.close .abandoned t .lockAbandoned)],
      [cer, propDevSlate sp 0x0214 .lockAbandoned p (r.closedDetail p .abandoned)])
  | none => ([.lockFree l.owner], [cer])

/-! ### The slate log (R79 to R81, R466 to R468) -/

/-- A producer's session of a caller. -/
def Replica.producerSession (r : Replica) (c : Caller) : Option Session := (r.sessionOf c).filter fun y => y.signer.role == .producer

/-- LOG_EXPORT (R467). -/
def State.decideExport (s : State) (sp : SpanId) (c : Caller) (first : Nat) : Decision := do
  let r := (s.span sp).rep
  match r.producerSession c with
  | none => deny .notAuthorised
  | some y =>
    refuseIf (decide (r.log.nextSeq ≤ first ∨ first < r.log.lowest)) .inputRange
    let sl := r.slate c 0x0404 .ok 0 y.id (leBytes 8 first)
    refuseIf (!r.log.admits sl) .logFull
    .ok ⟨.ok, [.sessionExport y.id first], [sl], []⟩

/-- The message of a log acknowledgement (R81). -/
def ackMessage (unit : List Byte) (seq : Nat) (hash : List Byte) (time : Nat) : List Byte :=
  asciiBytes "AKNLA-V1" ++ unit ++ beBytes 8 seq ++ padBytes 32 hash ++ beBytes 8 (tai64 time)

/-- LOG_ACK (R80, R81, R466). -/
def State.decideAck (s : State) (sp : SpanId) (c : Caller) (seq : Nat) (hash : List Byte) (producer time : Nat) (sig : List Byte) : Decision := do
  let r := (s.span sp).rep
  let l := r.log
  refuseIf (decide (seq ≤ l.ackSeq) || !(l.cpSeq.any fun n => decide (seq ≤ n))) .inputRange
  match l.find seq with
  | none => deny .staleBase
  | some x =>
    refuseIf (sha256 (slateBytes x) != hash) .staleBase
    refuseIf (decide (300 * sec < absDiff time (s.now sp)) ||
      !((r.config.officer 0 producer).any fun o => verifySig o.alg o.key (ackMessage (s.unitId sp) seq hash time) sig)) .notAuthorised
    let n := l.wouldRelease seq
    refuseIf (n == 0 && decide (l.free ≤ 2)) .logFull
    .ok ⟨.ok, [.ackLog seq],
      [{ r.slate c 0x0405 .ok 0 seq (leBytes 1 producer ++ padBytes 32 hash) with officer := producer }], [num seq, num n]⟩

/-! ### Other commands that are resolved in keystone order -/

/-- CTR_INCR (R189): the increment on the ordered value, with the slate of a reservation. -/
def State.decideIncr (s : State) (sp : SpanId) (c : Caller) (h step : Nat) : Decision := do
  let r := (s.span sp).rep
  match (r.ctr h).filter fun _ => r.mayAddress c (ownerOf h) with
  | none => deny .objectUnknown
  | some k =>
    refuseIf (r.heldElsewhere none (.ctr h)) .lockHeld
    match k.incr step with
    | none => deny .counterExhausted
    | some (k', reserved) =>
      refuseIf (!r.log.roomOutsideReserve) .logFull
      .ok ⟨.ok, [.eff (.putCtr k')],
        if reserved then [r.slate c 0x0509 .ok (ownerOf h) h (leBytes 8 k'.ceil)] else [], [num k'.value]⟩

/-- ERR_ACK (R415): a producer or officer session; the sticky bits of both spans before, and what stays. -/
def State.decideErrAck (s : State) (sp : SpanId) (c : Caller) (mask : Nat) : Decision := do
  let r := (s.span sp).rep
  refuseIf (r.sessionOf c).isNone .notAuthorised
  let a := (s.reg .a Reg.errClassSticky).toNat
  let b := (s.reg .b Reg.errClassSticky).toNat
  let after := (a ||| b) &&& (2 ^ 32 - 1 - mask % 2 ^ 32)
  let sl := r.slate c 0x0A02 .ok 0xFF mask (leBytes 2 a ++ leBytes 2 b ++ leBytes 2 after)
  refuseIf (!r.log.admits sl) .logFull
  .ok ⟨.ok, [.clearSticky mask], [sl], [num after]⟩

end Sys2Proof.Machine
end

