-- ==== Sys2Proof/Machine/Stage.lean ====
section
/-!
DEFINITION. What the keystone span decides on the storyboard commands (R43 to R51), and the one decision function for every command that is
resolved in keystone order (R16, R262).
-/

namespace Sys2Proof.Machine

/-! ### Storyboard commands -/

/-- Step 1 of R43: a producer session in SHIPPED or OWNED; at epoch 0 the life-cycle state alone (R440). -/
def State.producerMay (s : State) (sp : SpanId) (c : Caller) : Bool :=
  let r := (s.span sp).rep
  (s.lcState == 2 || s.lcState == 3) && (r.epoch == 0 || (r.producerSession c).isSome)

/-- The switch second against which check 6 is made; an ON_COMMAND image switches after the present second at the earliest. -/
def Staged.second (x : Staged) (t : Nat) : Nat := (if x.atTime then x.switchTime else max x.tsw t) / sec

/-- The configuration digest of an image. -/
def Staged.digest (x : Staged) (r : Replica) : List Byte := (x.after r.config).digest

/-- The SB_DISCARDED slate of an image: reason 1 WITHDRAWN, 2 EXPIRED, 3 INFEASIBLE, 4 ABORTED; check and scene-table index (R58). -/
def discardDetail (reason check entry : Nat) : List Byte := leBytes 1 reason ++ leBytes 1 check ++ leBytes 2 entry

/-- The approval window of an image in nanoseconds: that of its own SITE at epoch 0 (R45, R440). -/
def Staged.window (x : Staged) (r : Replica) : Nat := (x.signers r).window

/-- SB_STAGE (R43). Whether a delta replaces and removes what is in force shows only once its base is (R34, log entry 106). -/
def State.decideStage (s : State) (sp : SpanId) (c : Caller) (img : List Byte) : Decision := do
  let r := (s.span sp).rep
  let t := s.now sp
  refuseIf (!s.producerMay sp c) .notAuthorised
  refuseIf r.staged.isSome .lockHeld
  refuseIf (!r.log.roomOutsideReserve) .logFull
  match parseImage img with
  | none => deny .imageFormat
  | some st =>
    refuseIf (r.epoch == 0 && !st.full) .imageFormat
    refuseIf (sliceBytes img 0x28 16 != s.unitId sp) .notAuthorised
    refuseIf (decide (if st.full then st.epoch ≤ r.epoch else st.epoch ≤ st.baseEpoch)) .staleEpoch
    refuseIf (!st.full && (st.baseEpoch != r.epoch || sliceBytes img 0x60 32 != r.config.digest)) .staleBase
    refuseIf (!st.full && !st.ops.all (opApplies r.config)) .imageFormat
    refuseIf (!st.sigsHold r) .notAuthorised
    match s.infeasible sp st (st.second t) with
    | some e => .error ⟨.imageInfeasible, e.1, e.2⟩
    | none =>
      let done := st.quorate r
      let st := { st with state := if done then .validating else .quorumPending, closeAt := t + st.window r }
      let status : Status := if done then .ok else .quorumPending
      let dg := st.digest r
      .ok ⟨status, [.setStaged (some st) false],
        [r.slate c 0x0101 status 0 st.epoch (leBytes 1 (if st.full then 1 else 2) ++ leBytes 2 st.ops.length ++ leBytes 1 st.sigs.length ++ dg)],
        [num st.state.code, dg]⟩

/-- The status of a command on an image that is not there (R45, R48). -/
def Replica.noImage (r : Replica) : Status := if r.lastExpired then .approvalExpired else .staleBase

/-- SB_SIGN (R45, R46): an entry after which a feasibility check fails is refused; before quorum the image stays staged (log entry 105), at quorum it is
discarded. -/
def State.decideSign (s : State) (sp : SpanId) (c : Caller) (e : SigEntry) : Decision := do
  let r := (s.span sp).rep
  let t := s.now sp
  refuseIf (!((s.lcState == 2 || s.lcState == 3) && (r.epoch == 0 ||
    (r.sessionOf c).any fun y => y.signer.role.code == e.role && y.signer.owner == e.owner && y.signer.index == e.signer))) .notAuthorised
  match r.staged with
  | none => deny r.noImage
  | some st =>
    refuseIf (st.state == .quorumPending && decide (st.closeAt ≤ t)) .approvalExpired
    refuseIf (!r.log.roomOutsideReserve) .logFull
    let st' := { st with sigs := st.sigs ++ [e] }
    refuseIf (!st'.sigsHold r) .notAuthorised
    let done := st.state == .quorumPending && st'.quorate r
    match (if st.state = .quorumPending then s.infeasible sp st' (st'.second t) else none) with
    | some d =>
      if done then
        .ok ⟨.imageInfeasible, [.setStaged none false], [r.slate c 0x0104 .imageInfeasible 0 st.epoch (discardDetail 3 d.1 d.2)], []⟩
      else .error ⟨.imageInfeasible, d.1, d.2⟩
    | none =>
      let st' := if done then { st' with state := .validating } else st'
      let status : Status := if st'.state = .quorumPending then .quorumPending else .ok
      .ok ⟨status, [.setStaged (some st') false],
        [r.slate c 0x0102 status 0 st.epoch (leBytes 1 e.role ++ leBytes 1 e.owner ++ leBytes 1 e.signer ++ leBytes 1 st'.state.code)],
        [num st'.state.code]⟩

/-- SB_WITHDRAW (R47). -/
def State.decideSbWithdraw (s : State) (sp : SpanId) (c : Caller) (epoch : Nat) : Decision := do
  let r := (s.span sp).rep
  refuseIf (!s.producerMay sp c) .notAuthorised
  match r.staged.filter fun st => st.epoch == epoch with
  | none => deny .staleBase
  | some st =>
    refuseIf (st.state == .prepared || st.state == .committed) .lockHeld
    refuseIf (!r.log.roomOutsideReserve) .logFull
    .ok ⟨.ok, [.setStaged none false], [r.slate c 0x0104 .ok 0 st.epoch (discardDetail 1 0 0)], []⟩

/-- SB_APPLY (R48): the time is fixed and the site lock taken; PREPARE begins when the change is applied on the keystone span, or when
the validation that still runs ends. The command completes when DECIDE is recorded. -/
def State.decideApply (s : State) (sp : SpanId) (c : Caller) (req : Nat) : Decision := do
  let x := s.span sp
  let r := x.rep
  let t := s.now sp
  refuseIf (!s.producerMay sp c) .notAuthorised
  match r.staged with
  | none => deny r.noImage
  | some st =>
    refuseIf st.atTime .inputRange
    refuseIf (st.state == .quorumPending && decide (st.closeAt ≤ t)) .approvalExpired
    refuseIf (st.state == .quorumPending) .quorumPending
    refuseIf (st.state == .prepared || st.state == .committed || st.apply.isSome || (r.lock 0).isSome) .lockHeld
    refuseIf (!r.log.roomOutsideReserve) .logFull
    .ok ⟨.ok, [.setStaged (some { st with apply := some c, tsw := max req (t + 2 * ms) }) false,
      .lockTake ⟨0, 0, 0, t + 30 * sec, x.cont.term, 0, [], [], []⟩], [], []⟩

/-! ### Deciding -/

/-- The decision on a command, on the state that a span has ordered, with random bytes. -/
def State.decideCmd (s : State) (sp : SpanId) (c : Caller) (k : KCmd) (rnd : List Byte) : Decision :=
  match k with
  | .sessionOpen x => s.decideOpen sp c x
  | .sessionClose id reason => s.decideClose sp c id reason
  | .propSubmit owner body sig => s.decideSubmit sp c owner body sig
  | .propVote pid v sig => s.decideVote sp c pid v sig
  | .propWithdraw pid => s.decideWithdraw sp c pid
  | .propExecute pid => s.decideExecute sp pid rnd
  | .cerBegin pid => s.decideBegin sp c pid
  | .cerRenew l => s.decideRenew sp c l
  | .cerStep l i q => s.decideStep sp c l i q rnd
  | .cerEnd l => s.decideEnd sp c l
  | .logExport f => s.decideExport sp c f
  | .logAck seq h p t sig => s.decideAck sp c seq h p t sig
  | .ctrIncr h st => s.decideIncr sp c h st
  | .sbStage img => s.decideStage sp c img
  | .sbSign e => s.decideSign sp c e
  | .sbApply t => s.decideApply sp c t
  | .sbWithdraw e => s.decideSbWithdraw sp c e
  | .errAck m => s.decideErrAck sp c m

/-- The command under quorum that a command executes, with the owner whose quorum has approved it. -/
def Replica.executed (r : Replica) (k : KCmd) : Option (Nat × QCmd) :=
  match k with
  | .cerStep l _ q => some (l, q)
  | .propExecute pid => (r.prop pid).bind fun p => match p.body with | .single q => some (p.owner, q) | .ceremony _ => none
  | _ => none

/-- The random bytes that the decision on a command draws. -/
def Replica.drawBytes (r : Replica) (k : KCmd) : Nat := ((r.executed k).map fun x => x.2.drawBytes r x.1).getD 0

/-- The subjects whose VERSION the preparation of a command reads (R262). -/
def Replica.readSubjects (r : Replica) (k : KCmd) : List Subject :=
  match k with
  | .ctrIncr h _ => [.ctr h]
  | .propSubmit _ b _ => b.subjects
  | _ => ((r.executed k).map fun x => x.2.subjects).getD []

/-- The type of the asymmetric key that a command makes or imports, which needs big-number work (R198). -/
def Replica.laneType (r : Replica) (k : KCmd) : Option Nat := (r.executed k).bind fun x => x.2.laneType

/-- Whether a command's completion waits for what it has begun: SB_APPLY (R48). -/
def KCmd.held : KCmd → Bool
  | .sbApply _ => true
  | _ => false

/-- Whether a command is one of the storyboard commands, whose status `CNT_STAGE_STATE` shows. -/
def KCmd.isStage : KCmd → Bool
  | .sbStage _ | .sbSign _ | .sbApply _ | .sbWithdraw _ => true
  | _ => false

/-- What a refused or accepted storyboard command shows in the epoch registers of both spans (Epoch registers). -/
def State.noteStage (s : State) (k : KCmd) (st : Status) (check : Nat) : State :=
  if k.isStage then
    [SpanId.a, SpanId.b].foldl (fun s sp =>
      let s := s.setFld sp Fld.cntStageStateLastStatus st.code
      let s := if st = .imageInfeasible ∧ check ≠ 0 then s.setFld sp Fld.cntStageStateLastCheck check else s
      let s := if st = .ok ∨ st = .quorumPending then s else s.setFld sp Fld.cntEpochEvtRefused 1
      if st = .approvalExpired then s.setFld sp Fld.cntEpochEvtExpired 1 else s) s
  else s

/-- The owner whose quota a command's `RESOURCE_EXHAUSTED` may concern (R177). -/
def Replica.quotaOwner (r : Replica) (k : KCmd) : Option Nat :=
  match k with
  | .propSubmit o _ _ => some o
  | .propExecute pid => some (pidOwner pid)
  | .cerStep l _ _ => (r.lock l).map (·.owner)
  | _ => none

/-- The events that a status of a command sets on the span that decides it. -/
def State.noteStatus (s : State) (sp : SpanId) (k : KCmd) (st : Status) : State :=
  let r := (s.span sp).rep
  match st with
  | .logFull => s.setFld sp Fld.vltLogEvtRefused 1
  | .counterExhausted => s.setFld sp Fld.vltEvtCtrExhausted 1
  | .resourceExhausted =>
    if (r.quotaOwner k).any fun o => r.objFull o || r.ctrFull o then s.setFld sp Fld.vltEvtQuota 1 else s
  | _ => s

end Sys2Proof.Machine
end

