-- ==== Sys2Proof/Machine/Cont.lean ====
section
/-!
DEFINITION. Ordering changes: the change record, submitting a change on a span in each mode, the side segment of an isolated
span, the deck messages, and the mode changes of R271.
-/

namespace Sys2Proof.Machine

/-- The state a span has ordered: its committed state with the open records applied (R262). -/
def State.ordered (s : State) (sp : SpanId) : State :=
  (s.span sp).cont.open_.foldl (fun s r => r.change.deltas.foldl (fun s d => s.applyDelta sp r.time d) s) s

/-- Whether the versions that a change read are still those of the ordered state (R262). -/
def State.versionsHold (s : State) (sp : SpanId) (vs : List (Subject × Nat)) : Bool :=
  vs.all fun v => ((s.ordered sp).span sp).version v.1 == v.2

/-! ### Messages -/

/-- The oldest message to a span that a test accepts, and the state without it; none if there is none, or no link is up to bring it. -/
def State.receive {α : Type} (s : State) (dest : SpanId) (p : DeckMsg → Option α) : Option (α × State) :=
  if !(s.span dest).cont.deckUp then none else
  match s.deck.find? fun m => m.1 == dest && (p m.2).isSome with
  | none => none
  | some m => (p m.2).map fun x => (x, { s with deck := s.deck.erase m })

/-- The hub link of a span is up, or a deck link leads to a peer whose hub link is up (R266). -/
def State.witnessReach (s : State) (sp : SpanId) : Bool :=
  (s.span sp).cont.hubLink ||
    (((s.span sp).cont.deckUp0 || (s.span sp).cont.deckUp1) && (s.span sp.other).cont.hubLink)

/-- The witness holds that this span may not be shown (R266): `CNT_STATE.WITNESS_REACH` follows. -/
def State.showWitness (s : State) (sp : SpanId) : State := s.setFld sp Fld.cntStateWitnessReach (boolNat (s.witnessReach sp))

/-! ### Completing changes -/

/-- The command of a change ends with a status on the span that received it, by RESULT if that is the other span (R263). -/
def State.answer (s : State) (sp : SpanId) (c : Change) (st : Status) (fields : List (List Byte)) : State :=
  if c.origin = .span sp.other then s.tell sp (.result c.id st fields)
  else match c.caller with | some x => s.complete x st fields | none => s

/-- A change has been applied: its command completes, unless what it has begun still runs. A ceremony step whose lease has run out meanwhile completes with
`LOCK_ABANDONED`, its result withheld (R74). -/
def State.finishChange (s : State) (sp : SpanId) (c : Change) : State :=
  let late : Bool := match c.late with
    | some (.cerStep n _ _) => ((s.span sp).rep.lock n).any fun l => decide (l.deadline ≤ s.now sp)
    | _ => false
  if c.hold then s else if late then s.answer sp c .lockAbandoned [] else s.answer sp c c.status c.fields

/-- A change is refused by the keystone span with a status (R262). -/
def State.refuseChange (s : State) (sp : SpanId) (c : Change) (st : Status) : State := s.answer sp c st []

/-- Completes the SB_APPLY that waits (R48): on the span that received it, unless its end was reported there when the span was isolated. -/
def State.answerApply (s : State) (k : SpanId) (c : Caller) (st : Status) (fields : List (List Byte)) : State :=
  if c.span = k then s.complete c st fields
  else if (s.span c.span).cont.forwarded.any fun x => x.caller == some c then
    (s.updCont c.span fun t => { t with forwarded := t.forwarded.filter fun x => x.caller ≠ some c }).complete c st fields
  else s

/-- What a LOG_ACK at F = 0 does before its slate (R468): the released sectors are queued for erase on both spans, and the change waits
with its slate alone. -/
def State.ackAtZero (s : State) (sp : SpanId) (c : Change) (seq : Nat) : State :=
  let s := [SpanId.a, SpanId.b].foldl (fun s p => (s.updRep p fun r => { r with log := r.log.ack seq }).upd p SpanState.logErase) s
  s.deferChange sp { c with late := none, deltas := [] }

/-- Random bytes for a decision, with prediction resistance (R289), and the state after the draw: free of a draw where none is needed, or where the
execution of a proposal fails for the fatal state; none while the request waits. -/
def State.decisionBytes (s : State) (sp : SpanId) (k : KCmd) : Option (List Byte × State) :=
  let n := (s.span sp).rep.drawBytes k
  let fails : Bool := match k with | .propExecute _ => s.entFatal sp | _ => false
  if n = 0 ∨ fails then some ([], s) else s.random sp 0 n true

/-- Notes the status of a decision in the registers and events of the span that made it, with the detail of an image that cannot be realised (R43). -/
def State.noteDecision (s : State) (sp : SpanId) (k : KCmd) (d : Denial) : State :=
  let s := (s.noteStage k d.st d.check).noteStatus sp k d.st
  if d.st = .imageInfeasible ∧ d.check ≠ 0 then s.emit (.imageDetail sp d.check d.entry) else s

/-- Orders a change on a keystone span (R262): the versions are compared with the ordered state; a command is decided on it with the bytes that were
drawn for it, and is refused with its status or makes its record. -/
def State.order (s : State) (sp : SpanId) (c : Change) : State :=
  if !s.versionsHold sp c.versions then s.refuseChange sp c .staleBase
  else
    match c.late with
    | none => s.record sp c
    | some k =>
      match (s.ordered sp).decideCmd sp (c.caller.getD (internalCaller sp 0)) k (c.rnd.getD []) with
      | .error d => (s.noteDecision sp k d).refuseChange sp c d.st
      | .ok p =>
        let s := s.noteDecision sp k ⟨p.status, 0, 0⟩
        let c := { c with status := p.status, deltas := p.deltas, slates := p.slates, fields := p.fields, hold := k.held && p.status == .ok }
        match k with
        | .logAck seq _ _ _ _ => if (s.span sp).orderedFree = 0 then s.ackAtZero sp c seq else s.record sp c
        | _ => s.record sp c

/-- What an isolated span does at once with a response of its own (R273 steps 4 and 5). -/
def State.applySide (s : State) (sp : SpanId) (e : Effect) : State :=
  match e with
  | .fence h => (s.upd sp fun x => x.fenceSlots h).setFld sp Fld.steEvtFenced 1
  | .zeroise m => s.zeroiseOrder sp m none
  | _ => s

/-- A change on an isolated span: a command is refused; the device's own responses act on the data plane and are kept as side
changes, and its DEVICE-plane slates go into the side segment (R273). -/
def State.isolatedChange (s : State) (sp : SpanId) (c : Change) : State :=
  match c.caller with
  | some x => s.complete x .spanIsolated []
  | none =>
    let effs := c.deltas.filterMap fun d => match d with | .eff e => some e | _ => none
    let s := effs.foldl (fun s e => s.applySide sp e) s
    let s := s.updCont sp fun k => { k with sideChanges := k.sideChanges ++ effs }
    (c.slates.filter fun r => r.plane == .device).foldl (fun s r => s.sideSlate sp r) s

/-- Submits a prepared change on the span that prepared it (R262). -/
def State.submitPrepared (s : State) (sp : SpanId) (c : Change) : State :=
  s.submitWith (fun s sp c => s.order sp c) (fun s sp c => s.isolatedChange sp c) sp c

/-- A change whose asymmetric key needs big-number work becomes a vault job of the span that prepared it (R198); any other is submitted. -/
def State.submitOrWork (s : State) (sp : SpanId) (c : Change) (k : KCmd) : State :=
  match (s.span sp).rep.laneType k with
  | none => s.submitPrepared sp c
  | some t =>
    let from_ := c.caller.getD (internalCaller sp 0)
    let s := s.upd sp fun x => { x with vault := { x.vault with jobs := x.vault.jobs ++ [⟨from_, 0, [], s.elapsed, .change c t, some []⟩] } }
    (s.deferCmd from_).setFld sp Fld.vltJobsJobs ((s.span sp).vault.jobs.length)

/-- The receiving span prepares a command (R262): it draws the random bytes, notes the VERSION of each subject that it reads, and, where it is the
follower, runs the command's checks and verifies its signatures on the state that it holds. -/
def State.prepare (s : State) (sp : SpanId) (c : Change) (k : KCmd) : State :=
  match s.decisionBytes sp k with
  | none =>
    if s.entFatal sp then s.refuseChange sp c .serviceUnavailable
    else (s.starved sp 0 (.cmd (c.caller.getD (internalCaller sp 0)))).deferChange sp c
  | some (rnd, s) =>
    let s := s.waitOver sp (.cmd (c.caller.getD (internalCaller sp 0)))
    let c := { c with rnd := some rnd, versions := ((s.span sp).rep.readSubjects k).map fun y => (y, (s.span sp).version y) }
    if (s.span sp).cont.mode ≠ .follower then s.submitOrWork sp c k
    else
      match s.decideCmd sp (c.caller.getD (internalCaller sp 0)) k rnd with
      | .error d => (s.noteDecision sp k d).refuseChange sp c d.st
      | .ok _ => s.submitOrWork sp c k

/-- Submits a change on a span (R262): a command that is not prepared yet is prepared first, where the span orders changes or sends them. -/
def State.submit (s : State) (sp : SpanId) (c : Change) : State :=
  match c.late, c.rnd, (s.span sp).cont.mode with
  | some k, none, .keystone | some k, none, .solo | some k, none, .follower => s.prepare sp c k
  | _, _, _ => s.submitPrepared sp c

/-- Submits the changes that wait on a span once more, in their order. -/
def State.drainDeferred (s : State) (sp : SpanId) : State :=
  let l := (s.span sp).cont.deferred
  l.foldl (fun s d => s.submit sp d.change) (s.updCont sp fun k => { k with deferred := [] })

/-- Submits changes of a span's own initiative: a record holds at most 32 slates, so further slates go into records of their own (Change
records). -/
def State.submitMany (s : State) (sp : SpanId) (kind : ChangeKind) (deltas : List Delta) (slates : List SlateReq) : State :=
  let s := s.submit sp (ownChange kind sp deltas (slates.take 32))
  (List.range ((slates.length - 1) / 32)).foldl (fun s i =>
    s.submit sp (ownChange kind sp [] ((slates.drop (32 * (i + 1))).take 32))) s

/-- A change on the device's own initiative on a span (KIND DEVICE). -/
def State.device (s : State) (sp : SpanId) (effs : List Effect) (slates : List SlateReq) : State :=
  s.submitMany sp .device (effs.map .eff) slates

/-- The span that orders changes, if one does. -/
def State.keystone (s : State) : Option SpanId :=
  if s.a.cont.mode = .keystone ∨ s.a.cont.mode = .solo then some .a
  else if s.b.cont.mode = .keystone ∨ s.b.cont.mode = .solo then some .b else none

/-- A change on the device's own initiative that both spans learn of (R20, R273): the keystone span orders it, and an isolated span
keeps its own side of it. -/
def State.deviceBoth (s : State) (effs : List Effect) (slates : List SlateReq) : State :=
  let s := match s.keystone with | some k => s.device k effs slates | none => s
  let s := if s.a.cont.mode = .isolated then s.device .a effs slates else s
  if s.b.cont.mode = .isolated then s.device .b effs slates else s

/-- The callers of a span whose commands wait in the queues of the host port and of the guests at a stage. -/
def SpanState.callersAt (x : SpanState) (sp : SpanId) (g : CmdStage) : List Caller :=
  ((x.host.inflight.filter fun d => d.stage == g).map fun d => ⟨sp, .host d.fn d.queue d.cid, 0, 0⟩) ++
    x.worlds.guests.flatMap fun w => (w.inflight.filter fun d => d.stage == g).map fun d => ⟨sp, .guest w.g d.queue d.cid, 0, 0⟩

/-- Ends the wait of every command that an isolated span holds (R254, R271): deferred ones with `SPAN_ISOLATED`, and those that it has sent, or
ordered and not committed, with IN_DOUBT as well. -/
def State.endWaiting (s : State) (sp : SpanId) : State :=
  let d := (s.span sp).cont.deferred
  let f := (s.span sp).cont.forwarded
  let o := (s.span sp).cont.open_.filterMap fun r => r.change.caller.filter fun c => c.span == sp
  let s := s.updCont sp fun k => { k with
    deferred := [], forwarded := [], open_ := k.open_.map fun r => { r with change := { r.change with caller := none } } }
  let s := d.foldl (fun s x => s.isolatedChange sp x.change) s
  let s := f.foldl (fun s x => match x.caller with | some c => s.completeWith c .spanIsolated true 0 [] | none => s.isolatedChange sp x) s
  let s := o.foldl (fun s c => s.completeWith c .spanIsolated true 0 []) s
  ((s.span sp).callersAt sp .deferred).foldl (fun s c => s.complete c .spanIsolated []) s

/-- Sets ALIGNED; a fall is reported (R160). -/
def State.setAligned (s : State) (sp : SpanId) (v : Bool) : State :=
  let was := s.fld sp Fld.tbStatusAligned
  let s := s.setFld sp Fld.tbStatusAligned (boolNat v)
  if was = 1 ∧ v = false then (s.setFld sp Fld.tbEvtAlignLost 1).raiseQuiet sp 0x1C2 .ok [] else s

/-- Changes a span's mode (R271) with what its registers show: MODE, MODE_CHANGE, ISOLATED (R253), TIME_MASTER (R160). -/
def State.setMode (s : State) (sp : SpanId) (m : Mode) : State :=
  let was := (s.span sp).cont.mode
  if was = m then s
  else
    let s := s.updCont sp fun k => { k with mode := m }
    let s := s.setFld sp Fld.cntStateMode m.code
    let s := s.setFld sp Fld.cntEvtModeChange 1
    let s := s.setFld sp Fld.tbStatusTimeMaster (boolNat (m == .keystone || m == .solo))
    let s := if m = .solo ∨ m = .seeking ∨ m = .isolated ∨ m = .joining then s.setAligned sp false else s
    let iso := m == .isolated || (m == .rejoining && was == .isolated)
    let s := if iso ≠ decide (s.fld sp Fld.hostStatusIsolated = 1) then
        ((s.setFld sp Fld.hostStatusIsolated (boolNat iso)).hostEvtAll sp 1).virqAll sp 2 else s
    let s := if m = .follower then s.upd sp fun x => { x with boot := { x.boot with openLocks := [] } } else s
    if m = .isolated then s.endWaiting sp else if m = .keystone ∨ m = .solo ∨ m = .follower then s.drainDeferred sp else s

/-- The slate KEYSTONE_TAKEN (R280): new term, previous holder (0 if none), way. -/
def keystoneTaken (sp : SpanId) (term : Nat) (prev : Option SpanId) (way : Nat) : SlateReq :=
  devSlate 0x0704 .ok (.span sp) sp.code
    (leBytes 8 term ++ leBytes 1 ((prev.map SpanId.code).getD 0) ++ leBytes 1 way)

/-- The leases of SINGLE executions, which the secure world of the keystone span renews by itself, go on under the term of a handover (R75). -/
def Replica.handLocks (r : Replica) (term deadline : Nat) : List Delta :=
  (r.locks.filter fun l => l.holder == 0).map fun l => .lockTake { l with term := term, deadline := deadline }

/-- A span that becomes the keystone span rolls back the ceremonies and executions that it found open at its boot, with the abandonment slates (R75);
one that joins as follower takes the keystone span's word for them. -/
def State.rollBackFound (s : State) (sp : SpanId) : State :=
  let found := (s.span sp).rep.locks.filter fun l => l.pid != 0 && (s.span sp).boot.openLocks.contains (l.owner, l.pid)
  let s := s.upd sp fun x => { x with boot := { x.boot with openLocks := [] } }
  found.foldl (fun s l => let e := (s.span sp).rep.abandon sp l (s.now sp); s.submit sp (ownChange .device sp e.1 e.2)) s

/-- A span becomes the keystone span of a new term (R267): the witness and the term, the lease, and the TERM_START record with its slate, which is the
first of the term; a takeover, a handover (way 3) and a force are reported as well. -/
def State.takeLease (s : State) (sp : SpanId) (term : Nat) (m : Mode) (way : Nat) : State :=
  let prev := s.hub.witness.holder
  let waiting := (s.span sp).cont.deferred
  let s := if s.witnessReach sp then
      s.updHub fun h => { h with witness := { h.witness with
        term := term, holder := some sp, lastVote := s.elapsed, promiseEnd := s.elapsed + 1050 * ms } } else s
  let s := s.updCont sp fun k => { k with
    term := term, leaseEnd := s.now sp + 1000 * ms, lastRenewal := s.now sp, holdOrder := false, deferred := [] }
  let s := s.set64 sp Reg.cntTermLo Reg.cntTermHi term
  let s := s.setMode sp m
  let locks := if way = 3 then (s.span sp).rep.handLocks term (s.now sp + 30 * sec) else []
  let s := s.submit sp (ownChange .termStart sp locks [keystoneTaken sp term prev way])
  let s := s.rollBackFound sp
  let s := (s.updCont sp fun k => { k with deferred := k.deferred ++ waiting }).drainDeferred sp
  let s := s.setFld sp Fld.cntEvtKeystoneMoved 1
  if way = 1 then s else s.raiseQuiet sp 0x386 .ok []

end Sys2Proof.Machine
end

