-- ==== Sys2Proof/Machine/Commands.lean ====
section
/-!
DEFINITION. The way of a command from its door to the keystone span (R12, R54, R253, R382, R439), and the sessions, proposals, ceremonies and
slate-log commands (chapter Owners, officers, quorum and the slate log), with the storyboard commands of R43 to R48.
-/

namespace Sys2Proof.Machine

/-! ### Admission -/

/-- A span answers commands with `SPAN_ISOLATED` (R253, R271). -/
def State.isolated (s : State) (sp : SpanId) : Bool :=
  let m := (s.span sp).cont.mode
  m == .isolated || (m == .rejoining && s.fld sp Fld.hostStatusIsolated == 1)

/-- A command that RETIRED refuses: vault, context and storyboard commands (R382). -/
def retiredBars (op : Nat) : Bool := op / 256 == 8 || op / 256 == 7 || op / 256 == 5

/-- The commands that epoch 0 accepts from a door (R439). -/
def Caller.epochZero (c : Caller) (op : Nat) : Bool :=
  match c.origin with
  | .host fn _ _ => fn == 0 && (op == 0x0501 || op == 0x0502 || op == 0x0503 || op == 0x0504 || op == 0x0505 || op == 0x0634)
  | .mgmt _ _ => [0x0501, 0x0502, 0x0503, 0x0504, 0x0505, 0x0634, 0x0B01].contains op
  | .monitor | .proposal _ | .device => true
  | .guest _ _ _ => false

/-- The commands of other doors that a monitor line executes (R455): ERR_READ, LOG_READ, TMP_SELFTEST, TMP_ACK, LC_CHALLENGE, LC_TRANSITION and
DBG_PRESENT. -/
def lineOpcode (op : Nat) : Bool := [0x0632, 0x0901, 0x0902, 0x0A02, 0x0B01, 0x0B02, 0x0B03].contains op

/-- The commands that an isolated span answers, with a mark: SB_STATUS and LOG_INFO (R253). -/
def answersIsolated (op : Nat) : Bool := op == 0x0505 || op == 0x0634

/-- The common steps of a checking order on the receiving span: a command that no monitor line names (R455), `SPAN_ISOLATED`, `LIFECYCLE_STATE` in RETIRED, and R54 with R439. -/
def State.bars (s : State) (c : Caller) (op : Nat) (res : List Resource) : Option Status :=
  if c.origin = .monitor ∧ !lineOpcode op then some .monitorSyntax
  else if s.isolated c.span ∧ !answersIsolated op then some .spanIsolated
  else if s.lcState = 4 ∧ retiredBars op then some .lifecycleState
  else if (s.span c.span).rep.epoch = 0 ∧ !c.epochZero op then some .staleEpoch
  else if !s.epochFits c res then some .staleEpoch else none

/-- The rights that may be granted in a life-cycle state, as a mask of the bits of R383. -/
def rightsIn (lc : Nat) : Nat := if lc = 2 ∨ lc = 3 then 0xFF else if lc = 4 then 0x63 else 0

/-- The monitor holds a right (R383, R384): in BLANK and TESTED every right; later those of the certificate in force, up to NOT_AFTER. -/
def State.monRight (s : State) (bit : Nat) : Bool :=
  match s.hub.monitor.session with
  | none => false
  | some m =>
    if s.lcState ≤ 1 then true
    else m.cert.any fun c => c.rights.testBit bit && (rightsIn s.lcState).testBit bit && decide (s.now (s.keystone.getD .a) ≤ c.notAfter)

/-- A line still executes: a HALT or a STEP that has not been answered. The monitor executes one line at a time (R454). -/
def State.lineBusy (s : State) : Bool := s.hub.monitor.halts.any fun h => h.caller.isSome || h.stepper.isSome

/-- The entry of a monitor line that one of the other doors' commands executes (R452, R455): it needs the supervisor's firmware and a session,
and in SCRAP it is outside its states. -/
def State.monEntry (s : State) (c : Caller) (o : Host.Outcome State Fault Refusal) : Host.Outcome State Fault Refusal :=
  if c.origin ≠ .monitor then o
  else if !s.hub.sup.running ∨ s.lineBusy then .next s
  else if s.hub.monitor.session = none then .next (s.complete c .notAuthorised [])
  else if s.hub.sup.romOnly then .next (s.complete c .monitorSyntax [])
  else if s.lcState = 5 then .next (s.complete c .lifecycleState [])
  else o

/-- A line of the monitor that addresses a span is counted in `MON_LINES` (MON registers). -/
def State.lineFor (s : State) (c : Caller) (sp : SpanId) : State := if c.origin = .monitor then s.bump sp Fld.monLinesCount 1 else s

/-- The "= ISOLATED" line that a LOG, RPT or SRC of an isolated span begins with (R455). -/
def State.isolatedLine (s : State) (c : Caller) (sp : SpanId) : List (List Byte) :=
  if c.origin = .monitor ∧ s.isolated sp then [asciiBytes "ISOLATED"] else []

/-- A command in a session restarts its idle time on both spans (R63). -/
def State.touch (s : State) (c : Caller) : State :=
  match (s.span c.span).rep.sessionOf c with
  | none => s
  | some y =>
    let t := s.now c.span
    let f (r : Replica) : Replica := { r with sessions := r.sessions.map fun x => if x.id = y.id then { x with lastAt := t } else x }
    let s := s.updRep c.span f
    if (s.span c.span).cont.peerLost then s else s.updRep c.span.other f

/-- The resources that a command addresses beside those of its door (R54): the contexts that a ceremony step names. -/
def KCmd.resources : KCmd → List Resource
  | .cerStep _ _ q =>
    let slot : List Resource := match q with | .ctxKeyLoad a => [.slot a.ctx a.slotB] | _ => []
    slot ++ q.subjects.filterMap fun x => match x with | .ctx n => some (.ctx n) | _ => none
  | _ => []

/-- The input values of a command that the keystone span resolves, in the order of its table (R243); the signature of an SB_SIGN entry follows its
head as in an image. -/
def KCmd.inputs : KCmd → List (Option (List Byte))
  | .sessionOpen _ => []
  | .sessionClose id _ => [some (num id)]
  | .propSubmit owner body sig => [some (num owner), some (num body.kind), some body.bytes, some sig]
  | .propVote pid approve sig => [some (num pid), some (num (if approve then 1 else 2)), some sig]
  | .propWithdraw n | .propExecute n | .cerBegin n | .cerRenew n | .cerEnd n | .logExport n | .sbApply n | .sbWithdraw n | .errAck n => [some (num n)]
  | .cerStep lock idx q => [some (num lock), some (num idx), some q.body]
  | .logAck seq hash producer ackTime sig => [some (num seq), some hash, some (num producer), some (num ackTime), some sig]
  | .ctrIncr h step => [some (num h), some (num step)]
  | .sbStage image => [some image]
  | .sbSign e => [some (e.head ++ e.sig)]

/-- A command that the keystone span resolves: it is admitted on the receiving span and submitted (R16, R262). -/
def State.command (s : State) (c : Caller) (op : Nat) (k : KCmd) : State :=
  if !s.started c op k.inputs then s
  else
    match s.bars c op k.resources with
    | some st => (s.noteStage k st 0).complete c st []
    | none => (s.touch c).submit c.span (lateChange c.span (some c) k)

/-- A change on the device's own initiative that the keystone span makes from its ordered state; nothing happens where no span holds the lease,
or where there is nothing to do. -/
def State.keystoneDo (s : State) (f : State → SpanId → Option (List Delta × List SlateReq)) : State :=
  match s.keystone with
  | none => s
  | some k =>
    match f (s.ordered k) k with
    | none => s
    | some r => s.submitMany k .device r.1 r.2

/-! ### Sessions -/

/-- The door may open sessions for a signer: the management service and the PF for any producer or officer, VF n for officers of owner n. -/
def Caller.mayOpen (c : Caller) (w : Signer) : Bool :=
  (w.role == .producer || w.role == .officer) &&
    match c.origin with
    | .mgmt _ _ => true
    | .host fn _ _ => fn == 0 || (w.role == .officer && w.owner == fn)
    | _ => false

/-- The binding of a session to its door (R61). -/
def Caller.binding (c : Caller) : List Byte :=
  match c.origin with
  | .mgmt _ x => x
  | .host fn _ _ => sha256 (asciiBytes "AKN-HOST" ++ beBytes 1 c.port ++ beBytes 1 fn)
  | _ => []

/-- Consecutive failures of a signer on a span. -/
def VaultLocal.fails (v : VaultLocal) (w : Signer) : Nat := ((v.lockouts.find? fun l => l.signer == w).map (·.fails)).getD 0

/-- Sets the failures of a signer, and until when OS_OPEN is refused to it. -/
def VaultLocal.setFails (v : VaultLocal) (w : Signer) (n until_ : Nat) : VaultLocal :=
  { v with lockouts := (v.lockouts.filter fun l => l.signer ≠ w) ++ (if n = 0 then [] else [⟨w, n, until_⟩]) }

/-- The failures of a signer count for the module: both spans keep them while the peer is there (R62). -/
def State.setFails (s : State) (sp : SpanId) (w : Signer) (n until_ : Nat) : State :=
  let f (x : SpanState) : SpanState := { x with vault := x.vault.setFails w n until_ }
  let s := s.upd sp f
  if (s.span sp).cont.peerLost then s else s.upd sp.other f

/-- The first number from a drawn one on that is no open session's ID and not 0. -/
def Replica.freeSessionId (r : Replica) (v : Nat) : Nat :=
  (((List.range 66).map fun i => (v + i) % 2 ^ 32).find? fun i => i ≠ 0 && (r.session i).isNone).getD 1

/-! ### Random bytes for a command (R292) -/

/-- The DRBG instance and the number of bytes that a command asks for. -/
def WaitFor.ask : WaitFor → Nat × Nat
  | .open_ _ | .challenge => (0, 32)
  | .prove _ _ => (0, 4)
  | .rng n => (2, n)

/-- What a command does with its random bytes: a session challenge (R62), a new session (R61, R63), a life-cycle challenge (R380), or a guest's bytes
(R325). -/
def State.grantRandom (s : State) (c : Caller) (w : WaitFor) (b : List Byte) : State :=
  match w with
  | .open_ who =>
    let s := s.upd c.span fun x => { x with vault := { x.vault with challenges := x.vault.challenges ++ [⟨b, some who, s.elapsed⟩] } }
    s.complete c .ok [b]
  | .prove who digest =>
    let t := s.now c.span
    let y : Session := ⟨(s.span c.span).rep.freeSessionId (ofBe b), who, digest, c.binding, c.origin, c.span, t, t, none⟩
    s.submit c.span (lateChange c.span (some c) (.sessionOpen y))
  | .challenge =>
    let s := s.upd c.span fun x => { x with vault := { x.vault with lcChallenge := some ⟨b, none, s.elapsed⟩ } }
    (s.touch c).complete c .ok [b]
  | .rng _ => s.complete c .ok [b]

/-- A command asks for random bytes (R288, R292): in the fatal state it is refused; a request that cannot be served waits, and is served when the pool
has a block. -/
def State.askRandom (s : State) (c : Caller) (w : WaitFor) : State :=
  if s.entFatal c.span then s.complete c .serviceUnavailable []
  else
    match s.random c.span w.ask.1 w.ask.2 false with
    | some (b, s) => (s.waitOver c.span (.cmd c)).grantRandom c w b
    | none =>
      ((s.starved c.span w.ask.1 (.cmd c)).deferCmd c).upd c.span fun x => { x with vault := { x.vault with waits := x.vault.waits ++ [(c, w)] } }

/-- The commands that wait for random bytes on a span ask again, in their order. -/
def State.serveWaits (s : State) (sp : SpanId) : State :=
  (s.span sp).vault.waits.foldl (fun s x => s.askRandom x.1 x.2) (s.upd sp fun x => { x with vault := { x.vault with waits := [] } })

/-- OS_OPEN (R62, R63). -/
def execOsOpen (c : Caller) (who : Signer) (s : State) : Host.Outcome State Fault Refusal :=
  if !s.started c 0x0601 [some (num who.role.code), some (num who.owner), some (num who.index)] then .next s
  else
    match s.bars c 0x0601 [] with
    | some st => .next (s.complete c st [])
    | none =>
      let v := (s.span c.span).vault
      if !c.mayOpen who ∨ v.lockouts.any (fun l => l.signer == who && decide (s.elapsed < l.until_)) then
        .next (s.complete c .notAuthorised [])
      else if 64 ≤ (s.span c.span).rep.sessions.length then .next (s.complete c .resourceExhausted [])
      else .next (s.askRandom c (.open_ who))

/-- The message that OS_PROVE signs (R61). -/
def proveMessage (unit challenge : List Byte) (w : Signer) (binding : List Byte) : List Byte :=
  asciiBytes "AKNOS-V1" ++ unit ++ challenge ++ beBytes 1 w.role.code ++ beBytes 1 w.owner ++ beBytes 1 w.index ++ binding

/-- A failed OS_PROVE: its slate, the failure count, and the lockout after five in a row (R62). -/
def State.proveFails (s : State) (c : Caller) (w : Option Signer) : State :=
  let n := (w.map fun w => (s.span c.span).vault.fails w + 1).getD 0
  let s := match w with
    | some w => s.setFails c.span w n (if 5 ≤ n then s.elapsed + 60 * sec else 0)
    | none => s
  let sl : SlateReq := ⟨none, 0x0203, .notAuthorised, c.plane, .span c.span, c.port, c.fn, (w.map (·.owner)).getD 0xFF,
    (w.map (·.index)).getD 0xFF, 0, (w.map Signer.subject).getD 0, leBytes 1 (min n 255)⟩
  if !(s.span c.span).rep.log.admits sl then (s.setFld c.span Fld.vltLogEvtRefused 1).complete c .logFull []
  else s.submit c.span (replyChange c [sl] .notAuthorised [])

/-- OS_PROVE (R61, R62): the challenge is used up; a signature that holds ends the signer's failures, and asks for a session ID. -/
def execOsProve (c : Caller) (challenge sig : List Byte) (s : State) : Host.Outcome State Fault Refusal :=
  if !s.started c 0x0602 [some challenge, some sig] then .next s
  else
    match s.bars c 0x0602 [] with
    | some st => .next (s.complete c st [])
    | none =>
      match (s.span c.span).vault.challenges.find? fun x => x.bytes == challenge && x.signer.any c.mayOpen with
      | none => .next (s.proveFails c none)
      | some x =>
        let s := s.upd c.span fun y => { y with vault := { y.vault with challenges := y.vault.challenges.erase x } }
        match x.signer, x.signer.bind (s.span c.span).rep.config.signerKey with
        | some w, some o =>
          if x.issued + 60 * sec < s.elapsed ∨
              !verifySig o.alg o.key (proveMessage (s.unitId c.span) challenge w c.binding) sig then .next (s.proveFails c (some w))
          else .next ((s.setFails c.span w 0 0).askRandom c (.prove w o.digest))
        | w, _ => .next (s.proveFails c w)

/-- OS_CLOSE (R63). -/
def execOsClose (c : Caller) (id : Nat) (s : State) : Host.Outcome State Fault Refusal :=
  .next (s.command c 0x0603 (.sessionClose id 1))

/-- The end of a session on the device's own initiative, if a test holds of it at keystone time (R63). -/
def State.endSession (s : State) (id reason : Nat) (due : Session → Nat → Bool) : State :=
  s.keystoneDo fun o k => ((o.span k).rep.session id).bind fun x =>
    if due x (o.now k) then let e := sessionEnd k x reason; some ([e.1], [e.2]) else none

/-- SESSION_IDLE_TIMEOUT (R63): 300 s without a command. -/
def execSessionIdleTimeout (id : Nat) (s : State) : Host.Outcome State Fault Refusal :=
  .next (s.endSession id 2 fun x t => decide (x.lastAt + 300 * sec ≤ t))

/-- SESSION_AGE_LIMIT (R63): 8 h after it opened. -/
def execSessionAgeLimit (id : Nat) (s : State) : Host.Outcome State Fault Refusal :=
  .next (s.endSession id 3 fun x t => decide (x.openedAt + 28800 * sec ≤ t))

/-- Ends every session that a test picks, with reason 4 TRANSPORT (R63): its connection or its function has been reset. -/
def State.endSessions (s : State) (p : Session → Bool) : State :=
  s.keystoneDo fun o k =>
    let es := ((o.span k).rep.sessions.filter p).map fun x => sessionEnd k x 4
    if es = [] then none else some (es.map (·.1), es.map (·.2))

/-- TLS_CONNECTION_RESET (R63). -/
def execTlsConnectionReset (conn : Nat) (s : State) : Host.Outcome State Fault Refusal :=
  .next (s.endSessions fun x => match x.origin with | .mgmt n _ => n == conn | _ => false)

/-! ### Proposals -/

/-- PROP_SUBMIT (R64 to R66). -/
def execPropSubmit (c : Caller) (owner : Nat) (body : PropBody) (sig : List Byte) (s : State) : Host.Outcome State Fault Refusal :=
  .next (s.command c 0x0611 (.propSubmit owner body sig))

/-- PROP_VOTE (R67). -/
def execPropVote (c : Caller) (pid : Nat) (approve : Bool) (sig : List Byte) (s : State) : Host.Outcome State Fault Refusal :=
  .next (s.command c 0x0612 (.propVote pid approve sig))

/-- PROP_WITHDRAW (R69). -/
def execPropWithdraw (c : Caller) (pid : Nat) (s : State) : Host.Outcome State Fault Refusal :=
  .next (s.command c 0x0613 (.propWithdraw pid))

/-- The record of a proposal as PROP_STATUS returns it (log entry 17). -/
def Replica.propRecord (r : Replica) (p : Proposal) : List (List Byte) :=
  [num p.id, num p.owner, num p.body.kind, num (Config.propStateCode p.state), num p.epoch, num (tai64 p.tOpen), num (tai64 p.tClose),
    num (r.voteMask p true), num (r.voteMask p false), p.pd, num p.status.code]

/-- PROP_STATUS (R69): from the span's own replica; its callers are those with a session. The statuses of an unknown ID and of a caller without a session
are the model's (log entry 17). -/
def execPropStatus (c : Caller) (pid : Nat) (s : State) : Host.Outcome State Fault Refusal :=
  if !s.started c 0x0614 [some (num pid)] then .next s
  else
    match s.bars c 0x0614 [] with
    | some st => .next (s.complete c st [])
    | none =>
      let s := s.touch c
      let r := (s.span c.span).rep
      match r.sessionOf c with
      | none => .next (s.complete c .notAuthorised [])
      | some _ =>
        if pid = 0 then .next (s.complete c .ok (((r.props.filter Proposal.open_).map fun p => num p.id)))
        else
          match r.prop pid with
          | none => .next (s.complete c .proposalClosed [])
          | some p => .next (s.complete c .ok (r.propRecord p))

/-- A change waits, or works on a lane, to execute a proposal. -/
def SpanState.executing (x : SpanState) (pid : Nat) : Bool :=
  let runs (c : Change) : Bool := c.late == some (.propExecute pid)
  (x.cont.deferred.any fun d => runs d.change) || x.vault.jobs.any fun j => match j.work with | .change c _ => runs c | _ => false

/-- A proposal is executed on the keystone span, unless its execution has begun already (R69). -/
def State.executeProposal (s : State) (k : SpanId) (pid : Nat) : State :=
  if (s.span k).executing pid then s else s.submit k (lateChange k none (.propExecute pid))

/-- PROPOSAL_EXECUTE (R69). -/
def execProposalExecute (pid : Nat) (s : State) : Host.Outcome State Fault Refusal :=
  match s.keystone with
  | none => .next s
  | some k => .next (s.executeProposal k pid)

/-- Closes a proposal on the device's own initiative, if a test holds of it at keystone time. -/
def State.closeProp (s : State) (pid : Nat) (due : Proposal → Nat → Bool) (st : Status) : State :=
  s.keystoneDo fun o k => ((o.span k).rep.prop pid).bind fun p =>
    let r := (o.span k).rep
    if due p (o.now k) then
      some ([.putProp (p.close .expired (o.now k) st)], [propDevSlate k 0x0214 st p (r.closedDetail p .expired)])
    else none

/-- PROPOSAL_LOCK_TIMEOUT (R69): 60 s after quorum an execution that still waits for its lock. -/
def execProposalLockTimeout (pid : Nat) (s : State) : Host.Outcome State Fault Refusal :=
  .next (s.keystoneDo fun o k => ((o.span k).rep.prop pid).bind fun p =>
    let r := (o.span k).rep
    if p.state == .executing && decide (p.quorumAt + 60 * sec ≤ o.now k) && (r.lock p.owner).any fun l => l.pid != pid then
      some ([.putProp (p.close .expired (o.now k) .deferredTimeout)],
        [propDevSlate k 0x0214 .deferredTimeout p (r.closedDetail p .expired)])
    else none)

/-- PROPOSAL_EXPIRY (R69, R70). -/
def execProposalExpiry (pid : Nat) (s : State) : Host.Outcome State Fault Refusal :=
  .next (s.closeProp pid (fun p t => p.state == .opened && decide (p.tClose ≤ t)) .approvalExpired)

/-- PROPOSAL_BEGIN_TIMEOUT (R69). -/
def execProposalBeginTimeout (pid : Nat) (s : State) : Host.Outcome State Fault Refusal :=
  .next (s.closeProp pid (fun p t => p.state == .approved && decide (p.quorumAt + 300 * sec ≤ t)) .approvalExpired)

/-- PROPOSAL_RECORD_EXPIRY (R69): 24 h after it closed. -/
def execProposalRecordExpiry (pid : Nat) (s : State) : Host.Outcome State Fault Refusal :=
  .next (s.keystoneDo fun o k => ((o.span k).rep.prop pid).bind fun p =>
    if p.state.final && decide (p.closedAt + 86400 * sec ≤ o.now k) then some ([.dropProp pid], []) else none)

/-! ### Ceremonies -/

/-- CER_BEGIN (R71). -/
def execCerBegin (c : Caller) (pid : Nat) (s : State) : Host.Outcome State Fault Refusal := .next (s.command c 0x0621 (.cerBegin pid))

/-- CER_RENEW (R71, R74). -/
def execCerRenew (c : Caller) (lock : Nat) (s : State) : Host.Outcome State Fault Refusal := .next (s.command c 0x0622 (.cerRenew lock))

/-- CER_STEP (R72, R74). -/
def execCerStep (c : Caller) (lock idx : Nat) (q : QCmd) (s : State) : Host.Outcome State Fault Refusal :=
  .next (s.command c 0x0623 (.cerStep lock idx q))

/-- CER_END (R73, R74). -/
def execCerEnd (c : Caller) (lock : Nat) (s : State) : Host.Outcome State Fault Refusal := .next (s.command c 0x0624 (.cerEnd lock))

/-- The site lock of an apply is abandoned (R52): the slate SB_APPLY_ABANDONED, and the image returns to validated; PREPARE of an AT_TIME image, which
begins when it is validated (R49), begins again with the lock taken anew (log entry 106). -/
def State.abandonApply (s : State) (sp : SpanId) (l : Lock) (x : Staged) : List Delta × List SlateReq :=
  ([.lockFree 0, .setStaged (some { x with state := .validated, apply := none }) false] ++
      if x.atTime then [.lockTake ⟨0, 0, 0, s.now sp + 30 * sec, (s.span sp).cont.term, 0, [], [], []⟩] else [],
    [devSlate 0x0107 .lockAbandoned (.span sp) x.epoch (leBytes 8 (tai64 l.deadline))])

/-- The image of an abandoned apply, where a durable decision of COMMIT on its epoch stands: the keystone span's own, or the one at the witness over its
hub link (R50). -/
def State.committedApply (s : State) (k : SpanId) (x : Staged) : Bool :=
  let c := (s.span k).cont
  c.decision == some (x.epoch, true) || (c.hubLink && s.hub.witness.decisions.getLast? == some (x.epoch, true))

/-- CEREMONY_LEASE_EXPIRY (R74, R75): at the deadline of a ceremony; the lease that the keystone span's secure world renews by itself runs out
only if the lease has passed to a new term since. An apply whose decision is COMMIT is not abandoned: a keystone span of a later term follows the
decision that stands at the witness (R50, R52). -/
def execCeremonyLeaseExpiry (lock : Nat) (s : State) : Host.Outcome State Fault Refusal :=
  let due (o : State) (k : SpanId) : Option Lock :=
    ((o.span k).rep.lock lock).filter fun l =>
      decide (l.deadline ≤ o.now k) && (l.holder != 0 || l.term != (o.span k).cont.term)
  let apply? (o : State) (k : SpanId) (l : Lock) : Option Staged := if l.pid = 0 ∧ l.owner = 0 then (o.span k).rep.staged else none
  let fired := match s.keystone with | some k => due (s.ordered k) k | none => none
  let s' := s.keystoneDo fun o k => (due o k).map fun l =>
    match apply? o k l with
    | some x =>
      if o.committedApply k x then ([.lockFree 0, .setStaged (some { x with state := .committed, apply := none }) false], [])
      else o.abandonApply k l x
    | none => (o.span k).rep.abandon k l (o.now k)
  match s.keystone, fired with
  | some k, some l =>
    match apply? (s.ordered k) k l with
    | some x =>
      if s.committedApply k x then
        let s' := s'.updCont k fun c => { c with decision := some (x.epoch, true) }
        .next (match x.apply with | some c => s'.answerApply k c .ok [num (tai64 x.tsw)] | none => s')
      else
        let s' := [SpanId.a, SpanId.b].foldl (fun s sp => s.setFld sp Fld.cntEpochEvtAborted 1) s'
        let s' := s'.updCont k fun c => { c with prepared := none }
        .next (match x.apply with | some c => s'.answerApply k c .lockAbandoned [] | none => s')
    | none => .next s'
  | _, _ => .next s'

/-! ### The slate log -/

/-- The two slates of a checkpoint pair (R78): r and s of the signature in SUBJECT and DETAIL. -/
def checkpointSlates (sp : SpanId) (sig : List Byte) : List SlateReq :=
  [devSlate 0x0402 .ok (.span sp) (leField sig 0 8) (sliceBytes sig 8 40), devSlate 0x0403 .ok (.span sp) (leField sig 48 8) (sliceBytes sig 56 40)]

/-- The log as a span has ordered it: the slates of its open records follow those of the replica. -/
def State.orderedLog (s : State) (sp : SpanId) : Log :=
  let l := (s.span sp).rep.log
  let l : Log := if l.nextSeq = 0 then { l with headHash := genesisHash (s.unitId sp) } else l
  (s.span sp).cont.open_.foldl (fun l r => r.change.slates.foldl (fun l q => l.append r.time r.epoch q) l) l

/-- CHECKPOINT_PAIR (R78): due after 4,094 slates, or 60 s after the previous pair with a slate since; one that waits is not made twice (R468). -/
def execCheckpointPair (s : State) : Host.Outcome State Fault Refusal :=
  match s.keystone with
  | none => .next s
  | some k =>
    let l := s.orderedLog k
    let waits := (s.span k).cont.deferred.any fun d => d.change.slates.any fun q => q.kind == 0x0402
    if waits then .next s
    else if 4094 ≤ l.sinceCp ∨ (0 < l.sinceCp ∧ l.cpTime + 60 * sec ≤ s.now k) then
      let d := s.drawSpan k 56
      let sig := s.cpkSign k (asciiBytes "AKNCP-V1" ++ s.unitId k ++ beBytes 8 (l.nextSeq - 1) ++ padBytes 32 l.headHash) d.1
      .next (d.2.submit k (ownChange .device k [] (checkpointSlates k sig)))
    else .next s

/-- LOG_EXPORT (R467). -/
def execLogExport (c : Caller) (first : Nat) (s : State) : Host.Outcome State Fault Refusal := .next (s.command c 0x0631 (.logExport first))

/-- LOG_READ (R467): from the span's own replica, up to the head or to the first slate that is gone. -/
def execLogRead (c : Caller) (first count : Nat) (s : State) : Host.Outcome State Fault Refusal :=
  s.monEntry c <|
  if !s.started c 0x0632 [some (num first), some (num count)] then .next s
  else
    match (if c.origin = .monitor then none else s.bars c 0x0632 []) with
    | some st => .next (s.complete c st [])
    | none =>
      let s := (s.touch c).lineFor c c.span
      let r := (s.span c.span).rep
      let from_ := if c.origin = .monitor then (if s.monRight 1 then some 0 else none) else (r.producerSession c).bind (·.exportFrom)
      match from_ with
      | none => .next (s.complete c .notAuthorised [])
      | some lo =>
        if c.origin = .monitor ∧ r.log.entries = [] then .next (s.complete c .ok (s.isolatedLine c c.span))
        else if r.log.nextSeq ≤ first ∨ first < r.log.lowest ∨ first < lo ∨ count < 1 ∨ 512 < count then .next (s.complete c .inputRange [])
        else
          let found := ((List.range (min count (r.log.nextSeq - first))).map fun i => r.log.find (first + i)).takeWhile Option.isSome
          let imgs := found.filterMap fun x => x.map slateImage
          .next (s.complete c .ok (s.isolatedLine c c.span ++ [num imgs.length, imgs.flatten]))

/-- LOG_ACK (R80, R81, R466, R468). -/
def execLogAck (c : Caller) (seq : Nat) (hash : List Byte) (producer ackTime : Nat) (sig : List Byte) (s : State) :
    Host.Outcome State Fault Refusal :=
  .next (s.command c 0x0633 (.logAck seq hash producer ackTime sig))

/-- LOG_INFO (R253): from the span's own replica; an isolated span marks its answer. -/
def execLogInfo (c : Caller) (s : State) : Host.Outcome State Fault Refusal :=
  if !s.started c 0x0634 [] then .next s
  else
    let iso := s.isolated c.span
    match s.bars c 0x0634 [] with
    | some st => .next (s.complete c st [])
    | none =>
      let s := s.touch c
      let l := (s.span c.span).rep.log
      .next (s.completeWith c .ok false (boolNat iso)
        [num (l.nextSeq - 1), num l.ackSeq, num l.free, num l.mode.code, num (l.cpSeq.getD 0)])

/-! ### Storyboard commands -/

/-- SB_STAGE (R43, R44). -/
def execSbStage (c : Caller) (image : List Byte) (s : State) : Host.Outcome State Fault Refusal := .next (s.command c 0x0501 (.sbStage image))

/-- SB_SIGN (R45). -/
def execSbSign (c : Caller) (e : SigEntry) (s : State) : Host.Outcome State Fault Refusal := .next (s.command c 0x0502 (.sbSign e))

/-- SB_APPLY (R48). -/
def execSbApply (c : Caller) (t : Nat) (s : State) : Host.Outcome State Fault Refusal := .next (s.command c 0x0503 (.sbApply t))

/-- SB_WITHDRAW (R47). -/
def execSbWithdraw (c : Caller) (epoch : Nat) (s : State) : Host.Outcome State Fault Refusal := .next (s.command c 0x0504 (.sbWithdraw epoch))

/-- SB_STATUS (R253, R439): any session, and anyone at epoch 0; an isolated span marks its answer. -/
def execSbStatus (c : Caller) (s : State) : Host.Outcome State Fault Refusal :=
  if !s.started c 0x0505 [] then .next s
  else
    let iso := s.isolated c.span
    match s.bars c 0x0505 [] with
    | some st => .next (s.complete c st [])
    | none =>
      let s := s.touch c
      let r := (s.span c.span).rep
      if r.epoch ≠ 0 ∧ (r.sessionOf c).isNone then .next (s.complete c .notAuthorised [])
      else .next (s.completeWith c .ok false (boolNat iso) [num ((r.staged.map (·.state.code)).getD 0), num r.epoch, r.config.digest])

/-- APPROVAL_WINDOW_CLOSE (R45): the window of a staged image closes without quorum. -/
def execApprovalWindowClose (s : State) : Host.Outcome State Fault Refusal :=
  let due (o : State) (k : SpanId) : Option Staged :=
    ((o.span k).rep.staged).filter fun x => x.state == .quorumPending && decide (x.closeAt ≤ o.now k)
  let fired := match s.keystone with | some k => due (s.ordered k) k | none => none
  let s := s.keystoneDo fun o k => (due o k).map fun x =>
    ([.setStaged none true], [devSlate 0x0104 .approvalExpired (.span k) x.epoch (discardDetail 2 0 0)])
  match fired with
  | none => .next s
  | some _ => .next ([SpanId.a, SpanId.b].foldl (fun s sp => (s.setFld sp Fld.cntEpochEvtRefused 1).setFld sp Fld.cntEpochEvtExpired 1) s)

end Sys2Proof.Machine
end

