-- ==== Sys2Proof/Machine/Contexts.lean ====
section
/-!
DEFINITION. Commands under quorum that arrive outside a proposal (R64, R117, R192), the context commands and their later events
(R115, R133), and the operations of the STE register windows.
-/

namespace Sys2Proof.Machine

/-! ### Commands under quorum -/

/-- The execution of an EXECUTING proposal whose command is `q` (R69). -/
def State.runProposal (s : State) (pid : Nat) (q : QCmd) : State :=
  match s.keystone with
  | none => s
  | some k =>
    if ((s.ordered k).span k).rep.prop pid |>.any fun p => p.state == .executing && p.body == .single q then
      s.executeProposal k pid
    else s

/-- A command under quorum: from an approved proposal it is executed; from a door it completes with `QUORUM_PENDING` (R64), after
`MONITOR_SYNTAX` for what no monitor line names (R455), `SPAN_ISOLATED`, the refusals of RETIRED and of epoch 0, and for a vault command a closed vault (R192). -/
def State.direct (s : State) (c : Caller) (q : QCmd) : State :=
  match c.origin with
  | .proposal pid => s.runProposal pid q
  | .monitor => s.complete c .monitorSyntax []
  | _ =>
    if !s.started c q.opcode q.inputVals then s
    else if s.isolated c.span then s.complete c .spanIsolated []
    else if s.lcState = 4 ∧ retiredBars q.opcode then s.complete c .lifecycleState []
    else if (s.span c.span).rep.epoch = 0 then s.complete c .staleEpoch []
    else if (q.opcode / 256 = 7 ∨ q.opcode / 256 = 8) ∧ !s.vaultOpen c.span then s.complete c .serviceUnavailable []
    else (s.touch c).complete c .quorumPending []

/-- CTX_CONFIG (R115 to R117). -/
def execCtxConfig (c : Caller) (a : CtxConfigArgs) (s : State) : Host.Outcome State Fault Refusal := .next (s.direct c (.ctxConfig a))

/-- CTX_KEY_LOAD (R117, R132, R135, R150, R184). -/
def execCtxKeyLoad (c : Caller) (a : KeyLoadArgs) (s : State) : Host.Outcome State Fault Refusal := .next (s.direct c (.ctxKeyLoad a))

/-- CTX_KEY_CLEAR (R134). -/
def execCtxKeyClear (c : Caller) (ctx : Nat) (slotB : Bool) (s : State) : Host.Outcome State Fault Refusal :=
  .next (s.direct c (.ctxKeyClear ctx slotB))

/-- CTX_COMMIT (R116). -/
def execCtxCommit (c : Caller) (ctx : Nat) (s : State) : Host.Outcome State Fault Refusal := .next (s.direct c (.ctxCommit ctx))

/-- CTX_ACTIVATE (R115, R144). -/
def execCtxActivate (c : Caller) (ctx : Nat) (s : State) : Host.Outcome State Fault Refusal := .next (s.direct c (.ctxActivate ctx))

/-- CTX_SUSPEND (R115). -/
def execCtxSuspend (c : Caller) (ctx : Nat) (s : State) : Host.Outcome State Fault Refusal := .next (s.direct c (.ctxSuspend ctx))

/-- CTX_RESUME (R115). -/
def execCtxResume (c : Caller) (ctx : Nat) (s : State) : Host.Outcome State Fault Refusal := .next (s.direct c (.ctxResume ctx))

/-- CTX_DRAIN (R115, R118). -/
def execCtxDrain (c : Caller) (ctx : Nat) (s : State) : Host.Outcome State Fault Refusal := .next (s.direct c (.ctxDrain ctx))

/-- CTX_READ (R115, R117): the active entry, both slot heads and the stream state of the receiving span. -/
def execCtxRead (c : Caller) (ctx : Nat) (s : State) : Host.Outcome State Fault Refusal :=
  if !s.started c 0x0709 [some (num ctx)] then .next s
  else
    match (if !s.vaultOpen c.span ∧ !s.isolated c.span then some .serviceUnavailable else s.bars c 0x0709 [.ctx ctx]) with
    | some st => .next (s.complete c st [])
    | none =>
      let s := s.touch c
      let x := (s.span c.span).stream
      if ((s.span c.span).rep.config.ctxOwner ctx).any (fun o => (s.span c.span).rep.mayAddress c o) ∧ ctx < 4096 then
        .next (s.complete c .ok [ctxBytes (x.active.ctx ctx), slotHead (x.active.slot ctx false), slotHead (x.active.slot ctx true),
          recBytes (x.rec_ ctx)])
      else .next (s.complete c .notAuthorised [])

/-! ### Later events -/

/-- CONTEXT_DRAINED (R115): the reference count of a DRAINING context has reached zero, on the peer as well if it is there. -/
def execContextDrained (n : Nat) (s : State) : Host.Outcome State Fault Refusal :=
  .next (s.keystoneDo fun o k =>
    let x := o.span k
    let e := x.stream.active.ctx n
    if e.state = .draining ∧ x.refCount n = 0 ∧ ((o.span k.other).refCount n = 0 ∨ x.cont.peerLost) then
      let began := min (ofTai64 (sparseGet (tai64 (o.now k)) n x.stream.drains)) (o.now k)
      let fin := x.rep.endLasting k (.ctxDrain n) (o.now k) .ok
      some (.eff (.ctxState n .unconfigured 0 0) :: fin.1,
        { devSlate 0x0602 .ok (.span k) n (leBytes 4 e.version ++ leBytes 4 (min ((o.now k - began) / us) (2 ^ 32 - 1)) ++ leBytes 8 e.handleA ++
          leBytes 8 e.handleB) with owner := e.owner } :: fin.2)
    else none)

/-- The TAI time at which slot B of a context is promoted: B.FROM_SECOND + OVERLAP_S + 1 s, its cut value taken back to TAI where the template
counts UTC seconds (R133, R165). -/
def State.promoteAt (s : State) (sp : SpanId) (n : Nat) : Nat :=
  let x := s.span sp
  let e := x.stream.active.ctx n
  let f := (x.stream.active.slot n true).fromSecond
  ((if x.rep.modeOf e = 1 then f else addSigned f (s.utcOffset sp)) + e.overlapS + 1) * sec

/-- CONTEXT_PROMOTE (R133): the keystone span copies slot B into slot A and empties slot B, with one commit. -/
def execContextPromote (n : Nat) (s : State) : Host.Outcome State Fault Refusal :=
  .next (s.keystoneDo fun o k =>
    let x := o.span k
    let e := x.stream.active.ctx n
    let b := x.stream.active.slot n true
    if b.load = .loaded ∧ e.state.installed ∧ o.promoteAt k n < o.now k then
      some ([.eff (.promote n)],
        [{ devSlate 0x0603 .ok (.span k) n (leBytes 8 e.handleA ++ leBytes 8 b.handle ++ leBytes 8 b.fromSecond) with owner := e.owner }])
    else none)

/-! ### Register windows (STE registers) -/

/-- A number as little-endian register words from an offset on. -/
def State.putWords (s : State) (sp : SpanId) (off : Nat) (bs : List Byte) : State :=
  (List.range (bs.length / 4)).foldl (fun s i => s.setReg sp (off + 4 * i) (BitVec.ofNat 32 (leField bs (4 * i) 4))) s

/-- The bytes of `n` register words from an offset on. -/
def State.getWords (s : State) (sp : SpanId) (off n : Nat) : List Byte := (List.range n).flatMap fun i => leBytes 4 (s.reg sp (off + 4 * i)).toNat

/-- The context that `STE_CTX_BASE` selects. -/
def State.selCtx (s : State) (sp : SpanId) : Nat := (s.reg sp Reg.steCtxBase).toNat % 4096

/-- STE_CTX_READ_ACTIVE. -/
def execSteCtxReadActive (sp : SpanId) (s : State) : Host.Outcome State Fault Refusal :=
  .next (s.putWords sp (Reg.steCtxEntryn 0) (ctxBytes ((s.span sp).stream.active.ctx (s.selCtx sp))))

/-- STE_CTX_WRITE_SHADOW (R116). -/
def execSteCtxWriteShadow (sp : SpanId) (s : State) : Host.Outcome State Fault Refusal :=
  .next (s.shadowCtx sp (s.selCtx sp) (ctxOfBytes (s.getWords sp (Reg.steCtxEntryn 0) 24)))

/-- STE_CTX_READ_SHADOW. -/
def execSteCtxReadShadow (sp : SpanId) (s : State) : Host.Outcome State Fault Refusal :=
  .next (s.putWords sp (Reg.steCtxEntryn 0) (ctxBytes ((s.span sp).stream.shadow.ctx (s.selCtx sp))))

/-- STE_CTX_COMMIT (R116). -/
def execSteCtxCommit (sp : SpanId) (s : State) : Host.Outcome State Fault Refusal := .next (s.commitCtx sp (s.selCtx sp))

/-- STE_CTX_CLEAR_STATE: refused unless STATE is READY (R114). -/
def execSteCtxClearState (sp : SpanId) (s : State) : Host.Outcome State Fault Refusal :=
  let n := s.selCtx sp
  if ((s.span sp).stream.active.ctx n).state = .ready then .next (s.updStream sp fun x => x.setRec n StreamRec.cleared) else .next s

/-- The key slot that `STE_KS_SEL` selects: context and slot B. -/
def State.selSlot (s : State) (sp : SpanId) : Nat × Bool :=
  let v := (s.reg sp Reg.steKsSel).toNat
  (v % 4096, v.testBit 12)

/-- Clears `STE_KS_DATAn`. -/
def State.clearKsData (s : State) (sp : SpanId) : State :=
  (List.range 96).foldl (fun s i => s.setReg sp (Reg.steKsDatan i) 0) s

/-- The key slot that 384 bytes spell (Key-slot entry). -/
def slotOfBytes (b : List Byte) : Slot :=
  ⟨if leField b 0 1 = 1 then .loaded else if leField b 0 1 = 2 then .fenced else .empty, leField b 1 1, leField b 2 1, beField b 4 4,
    beField b 8 4, leField b 16 8, leField b 24 8, sliceBytes b 32 352⟩

/-- STE_KS_WRITE_SHADOW (R113, R116). -/
def execSteKsWriteShadow (sp : SpanId) (s : State) : Host.Outcome State Fault Refusal :=
  let x := s.selSlot sp
  .next ((s.shadowSlot sp x.1 x.2 (slotOfBytes (s.getWords sp (Reg.steKsDatan 0) 96))).clearKsData sp)

/-- STE_KS_CLEAR_SHADOW. -/
def execSteKsClearShadow (sp : SpanId) (s : State) : Host.Outcome State Fault Refusal :=
  let x := s.selSlot sp
  .next ((s.shadowSlot sp x.1 x.2 Slot.empty).clearKsData sp)

/-- STE_KS_READ_HEAD. -/
def execSteKsReadHead (sp : SpanId) (s : State) : Host.Outcome State Fault Refusal :=
  let x := s.selSlot sp
  .next ((s.putWords sp (Reg.steKsHeadn 0) (slotHead ((s.span sp).stream.active.slot x.1 x.2))).clearKsData sp)

end Sys2Proof.Machine
end

