-- ==== Sys2Proof/Machine/Respond.lean ====
section
/-!
DEFINITION. What a raise does besides its counter, class bit and report: the response of the ERROR_POLICY entry in force (R407 step 3,
R411 to R413), with the restart of the secure world (R327).
-/

namespace Sys2Proof.Machine

/-- The owners of R172 as bits n for owner n: those of an OWNER_MASK, whose bit n - 1 names owner n, or owners 0 to 32. -/
def zeroiseMask (all : Bool) (mask : Nat) : Nat := if all then 2 ^ 33 - 1 else 2 * (mask % 2 ^ 32)

/-- The world whose restart RESTART_WORLD means for a source: 0 for the secure world, else a guest; none where no such world runs (R337,
R362). -/
def State.worldOf (s : State) (sp : SpanId) (src : Nat) (guest : Option Nat) : Option Nat :=
  if src = 0x470 then some 0
  else if 0x441 ≤ src ∧ src ≤ 0x461 then some (src - 0x440)
  else if 0x481 ≤ src ∧ src ≤ 0x4A1 then some (src - 0x480)
  else if 0x4C0 ≤ src ∧ src ≤ 0x4C1 then some 0
  else if 0x4C2 ≤ src ∧ src ≤ 0x4C5 then ((s.span sp).worlds.cores.getD (src - 0x4C0) (PierCore.reset 2 0 0x3C 0)).guest
  else guest

/-- A caller that waits in no queue pair: a session of the management service or a line of the monitor. -/
def Caller.direct (c : Caller) : Bool :=
  match c.origin with
  | .mgmt _ _ | .monitor => true
  | _ => false

/-- The direct callers of a span whose commands have started there and have not been sent to the keystone span: those of vault jobs, of commands that
wait for random bytes, and of changes that wait. -/
def SpanState.directCallers (x : SpanState) : List Caller :=
  ((x.vault.jobs.map (·.caller)) ++ x.vault.waits.map (·.1) ++ x.cont.deferred.filterMap fun d => d.change.caller).filter Caller.direct

/-- Restart of the secure world (R327): cores 0 and 1 start at their reset vectors, commands that have started and not been sent to the
keystone span complete with `SERVICE_UNAVAILABLE`, the report ring starts empty (R414), and the span enters JOINING; its boot then
goes on from the vault (log entry 30). -/
def State.restartSecure (s : State) (sp : SpanId) : State :=
  let hosts := (s.span sp).host.inflight.filter fun d => decide (d.stage = .started ∨ d.stage = .deferred ∨ d.stage = .lane)
  let callers := (s.span sp).directCallers
  let s := s.dropVaultLanes sp fun _ => true
  let s := s.upd sp fun x => { x with
    vault := { x.vault with jobs := [], waits := [], cache := [], challenges := [], lcChallenge := none }
    err := { x.err with ring := StdQueue.empty }
    cont := { x.cont with deferred := x.cont.deferred.filter fun d => d.change.caller.isNone } }
  let s := s.setFld sp Fld.vltJobsJobs 0
  let s := callers.foldl (fun s c => s.complete c .serviceUnavailable []) s
  let s := hosts.foldl (fun s d => s.complete ⟨sp, .host d.fn d.queue d.cid, 0, 0⟩ .serviceUnavailable []) s
  let s := (s.span sp).worlds.guests.foldl (fun s x =>
    (x.inflight.filter fun d => decide (d.stage = .started ∨ d.stage = .deferred ∨ d.stage = .lane)).foldl
      (fun s d => s.complete ⟨sp, .guest x.g d.queue d.cid, 0, 0⟩ .serviceUnavailable []) s) s
  let s := s.updWorlds sp fun w => { w with
    cores := w.cores.zipIdx.map fun c => if c.2 < 2 then PierCore.reset 1
      ((s.reg sp (Reg.pierCorecRstvecHi c.2)) ++ (s.reg sp (Reg.pierCorecRstvecLo c.2))) 0 s.elapsed else c.1
    kick0 := s.elapsed
    kick1 := s.elapsed
    hung := [] }
  let s := s.upd sp fun x => { x with boot := { x.boot with stage := min x.boot.stage 6, restart := true, helloAt := none } }
  let s := s.setFld sp Fld.kprEvtRestart 1
  s.setMode sp .joining

/-- DETAIL of a report of a link source: the event and the port (R472). -/
def linkDetail (sp : SpanId) (n event : Nat) : List Byte := leBytes 1 event ++ leBytes 1 (portNo sp n)

/-- A response retires a port: it stops until a PORT scene or a POR (R411). A loss of its link sets LINK_CHANGE and is reported (R87); the source's
response is the one that runs. -/
def State.retirePort (s : State) (sp : SpanId) (n : Nat) : State :=
  let was := s.fld sp (Fld.clsPortnStatusLink n) == 1
  let s := s.updPort sp n fun p => { p with retired := true, trainStart := none, trainFailed := none }
  let s := (s.setFld sp (Fld.clsPortnStatusBlockLock n) 0).linkLoss sp n
  if was then (s.portEvt sp n 0).raiseQuiet sp (0x100 + n) .ok (linkDetail sp n 2) else s

/-- The OWNER_ZEROISED slate: owner mask, cause, objects affected. -/
def zeroisedSlate (die : Die) (mask cause objects : Nat) : SlateReq :=
  devSlate 0x0506 .ok die mask (leBytes 1 cause ++ leBytes 4 objects)

/-- The objects that a zeroisation of some owners affects. -/
def Replica.zeroisable (r : Replica) (mask : Nat) : Nat := (r.objs.filter fun o => mask.testBit o.owner && o.state != .zeroised).length

/-- The OBJ_FENCED slate of a FENCE response: the policy source and how many slots are fenced (R134, R176). -/
def fencedSlate (sp : SpanId) (handle src slots : Nat) : SlateReq := devSlate 0x0505 .ok (.span sp) handle (leBytes 2 src ++ leBytes 2 slots)

/-- The response to a raise at a source of a span (R407 step 3, R411, R412): `handle` is the key object that the condition names,
`guest` the guest it names. -/
def State.respond (s : State) (sp : SpanId) (src : Nat) (code : Status) (handle : Option Nat) (guest : Option Nat) : State :=
  let pol := (s.span sp).rep.config.errorPolicy src
  let slate := errorResponse sp src code pol.1 pol.2 (srcGet src (s.span sp).err.srcs).count
  let ran (s : State) : State := s.setFld sp Fld.errEvtResponse 1
  match Action.ofCode pol.1 with
  | .report => s
  | .fence =>
    match handle.bind (s.span sp).rep.obj with
    | some o =>
      if o.state = .active ∨ o.state = .suspended then
        ran (s.device sp [.fence o.handle] [slate, fencedSlate sp o.handle src ((s.span sp).stream.slotRefs o.handle)]) else s
    | none => s
  | .zeroiseOwners =>
    let m := zeroiseMask false pol.2
    ran (s.device sp [.zeroise m] [slate, zeroisedSlate (.span sp) m 2 ((s.span sp).rep.zeroisable m)])
  | .zeroiseAll =>
    let m := zeroiseMask true 0
    ran (s.device sp [.zeroise m] [slate, zeroisedSlate (.span sp) m 2 ((s.span sp).rep.zeroisable m)])
  | .restartWorld =>
    if (s.span sp).boot.resetDue.isSome then s
    else
      match s.worldOf sp src guest with
      | some 0 => if s.spanUp sp then ran ((s.restartSecure sp).device sp [] [slate]) else s
      | some g => s.restartByPolicy sp g slate
      | none => s
  | .resetSpan => s.resetByPolicy sp slate
  | .retirePort =>
    let n := src - 0x100
    if src < 0x100 ∨ 0x102 ≤ src ∨ ((s.span sp).port n).retired then s else ran ((s.retirePort sp n).device sp [] [slate])

/-- A raise (R407): counter, class bit, pending report, and the response. -/
def State.raise (s : State) (sp : SpanId) (src : Nat) (code : Status) (detail : List Byte) (handle guest : Option Nat) : State :=
  (s.raiseQuiet sp src code detail).respond sp src code handle guest

/-- A blocked access with its response (R336, R337). -/
def State.violate (s : State) (sp : SpanId) (world : Nat) (m : BusMaster) (k : AccessKind) (slot : Option Nat) (addr : Nat) : State :=
  (s.violation sp world m k slot addr).respond sp (0x440 + world) .notAuthorised none none

/-- A report of a link source 0x100 + n with its response (R472). -/
def State.linkReport (s : State) (sp : SpanId) (n event : Nat) : State :=
  s.raise sp (0x100 + n) .ok (linkDetail sp n event) none none

/-- A port whose link was up goes down: its frames are discarded, LINK_CHANGE is set and the change is reported (R87, R109). -/
def State.linkDown (s : State) (sp : SpanId) (n : Nat) : State :=
  if s.fld sp (Fld.clsPortnStatusLink n) = 1 then ((s.linkLoss sp n).portEvt sp n 0).linkReport sp n 2 else s

/-- The Clause 72 training of a KR_10G port starts (R85). -/
def State.trainPort (s : State) (sp : SpanId) (n : Nat) : State :=
  if s.fld sp (Fld.clsPortnCfgMode n) = 2 ∧ ((s.span sp).port n).retired = false then
    (s.updPort sp n fun p => { p with trainStart := some s.elapsed, trainFailed := none }).setFld sp (Fld.clsPortnStatusTrainDone n) 0
  else s

/-- A port loses block lock or synchronisation, and its link with it: a KR_10G port that had lock starts training (R85, R87). -/
def State.lockLost (s : State) (sp : SpanId) (n : Nat) : State :=
  let s := if s.fld sp (Fld.clsPortnStatusBlockLock n) = 1 then s.trainPort sp n else s
  (s.setFld sp (Fld.clsPortnStatusBlockLock n) 0).linkDown sp n

end Sys2Proof.Machine
end

