-- ==== Sys2Proof/Machine/EntropyOps.lean ====
section
/-!
DEFINITION. The entropy unit of a span (R282 to R297): health tests, failure, restart and retirement of sources, the fatal state, and rushes mode.
-/

namespace Sys2Proof.Machine

/-! ### Health tests (R282) -/

/-- The bits of a raw block, each byte's highest bit first (log entry 44). -/
def rawBits (bs : List Byte) : List Bool := bs.flatMap fun b => (List.range 8).map fun i => b.getLsbD (7 - i)

/-- The run-length test over some bits, from a last bit and its run: the new last bit and run, and whether a run reached 41. -/
def rctRun : List Bool → Bool → Nat → Bool → Bool × Nat × Bool
  | [], last, run, bad => (last, run, bad)
  | b :: t, last, run, bad =>
    let n := if b = last then run + 1 else 1
    rctRun t b n (bad || decide (41 ≤ n))

/-- The adaptive proportion test of a block: its first bit occurs 793 times. -/
def aptFails (bits : List Bool) : Bool :=
  match bits with
  | [] => false
  | b :: _ => decide (793 ≤ (bits.filter fun x => x == b).length)

/-! ### Sources -/

/-- Sources in service. -/
def Entropy.inService (e : Entropy) : Nat := ((List.range 4).filter fun i => !(e.src i).retired && (e.src i).running).length

/-- Starts every source that is not retired with its start-up test (R283), if the unit is enabled. -/
def State.startSources (s : State) (sp : SpanId) : State :=
  if s.fld sp Fld.rngCtrlEnable = 0 then s
  else
    let s := (List.range 4).foldl (fun s i => s.updEnt sp fun e =>
      let x := e.src i
      if x.retired then e else e.setSrc i { x with running := true, startup := true, lastBit := false, run := 0 }) s
    s.showEnt sp

/-- Stops every source: the unit is disabled (`RNG_CTRL`). -/
def State.stopSources (s : State) (sp : SpanId) : State :=
  (s.updEnt sp fun e => (List.range 4).foldl (fun e i => e.setSrc i { e.src i with running := false, startup := false }) e).showEnt sp

/-- The report detail of a source (R296). -/
def State.entDetail (s : State) (sp : SpanId) (i test : Nat) : List Byte :=
  let e := (s.span sp).entropy
  leBytes 1 i ++ leBytes 1 test ++ leBytes 1 (e.src i).fails.length ++ leBytes 1 e.inService

/-- The random bytes that a vault command draws (R206, R179). -/
def VaultWork.bytes : VaultWork → Nat
  | .sign x t _ _ => x.randomBytes t
  | .encap _ _ => 32
  | .seal _ _ _ => 12
  | _ => 0

/-- A vault job needs random bytes that it has not got. -/
def VaultJob.starves (j : VaultJob) : Bool := j.rnd.isNone && decide (0 < j.work.bytes)

/-- The commands of a span that wait for random bytes are refused (R288). -/
def State.endWaits (s : State) (sp : SpanId) : State :=
  let v := (s.span sp).vault
  let cs := v.waits.map (·.1) ++ (v.jobs.filter VaultJob.starves).map (·.caller)
  let s := s.upd sp fun x => { x with vault := { x.vault with waits := [], jobs := x.vault.jobs.filter fun j => !j.starves } }
  (cs.foldl (fun s c => s.complete c .serviceUnavailable []) s).showJobs sp

/-- Wipes the instances and the pool (R288, R294); who waits for random bytes is refused. -/
def State.wipeDrbg (s : State) (sp : SpanId) : State :=
  let s := s.updEnt sp fun e => { e with pool := [], d0 := .reset, d1 := .reset, d2 := .reset, waiting := [] }
  (s.endWaits sp).showEnt sp

/-- The fatal state begins (R288). -/
def State.enterFatal (s : State) (sp : SpanId) (i test : Nat) : State :=
  let e := (s.span sp).entropy
  let s := (s.setFld sp Fld.rngStatusFatal 1).setFld sp Fld.rngEvtFatal 1
  let s := (s.wipeDrbg sp).drainDeferred sp
  let s := s.device sp [] [devSlate 0x0802 .ok (.span sp) sp.code ((List.range 4).flatMap fun j => leBytes 8 (e.src j).retiredAt)]
  s.raise sp 0x3A8 .serviceUnavailable (s.entDetail sp i test) none none

/-- Shows a source's failures. -/
def State.showFails (s : State) (sp : SpanId) (i : Nat) : State :=
  s.setFld sp (Fld.rngSrcnFailsRecent i) (min ((s.span sp).entropy.src i).fails.length 3)

/-- A test failure of a source (R286, R287): it restarts, or is retired at its third failure within 600 s; in rushes mode it is counted only
(R294). -/
def State.sourceFails (s : State) (sp : SpanId) (i test : Nat) : State :=
  let x := (s.span sp).entropy.src i
  match (s.span sp).entropy.rushes with
  | some r => s.updEnt sp fun e => { e with rushes := some { r with failures := r.failures + 1 } }
  | none =>
    let test := if x.startup then 3 else test
    let now := s.now sp
    let fails := now :: x.fails.filter fun t => decide (now < t + 600 * sec)
    let s := s.bump sp (Fld.rngSrcnFailsTotal i) 1
    let s := s.setBit sp Reg.rngEvt i true
    let retire := decide (3 ≤ fails.length)
    let s := s.updEnt sp fun e => e.setSrc i { x with
      running := !retire, startup := !retire, retired := retire, fails := fails, retiredAt := if retire then tai64 now else 0, lastBit := false, run := 0 }
    let s := (s.showFails sp i).showEnt sp
    let s := s.raiseQuiet sp (0x3A0 + i) .ok (s.entDetail sp i test)
    if !retire then s
    else
      let s := s.setBit sp Reg.rngEvt (4 + i) true
      let s := s.device sp [] [devSlate 0x0801 .ok (.span sp) i (leBytes 1 test ++ ((fails.take 3).reverse.flatMap fun t => leBytes 8 (tai64 t)))]
      let s := s.raiseQuiet sp (0x3A4 + i) .ok (s.entDetail sp i test)
      let e := (s.span sp).entropy
      if (List.range 4).all fun j => (e.src j).retired then s.enterFatal sp i test else s

/-- The pool has a block: instances that wait for instantiation, and the changes that wait for random bytes, go on (R290 to R292). -/
def State.entropyServed (s : State) (sp : SpanId) : State :=
  let s := s.instantiateAll sp
  if (s.span sp).cont.deferred = [] then s else s.drainDeferred sp

/-! ### Rushes mode (R293 to R295) -/

/-- A report of a change of rushes mode. -/
def State.rushesReport (s : State) (sp : SpanId) (source : Nat) : State :=
  (s.setFld sp Fld.rngEvtRushesChange 1).raiseQuiet sp 0x3A9 .ok (s.entDetail sp source 0)

/-- Enters rushes mode on a span for a monitor session (R294). -/
def State.enterRushes (s : State) (sp : SpanId) (source session : Nat) (cert : List Byte) : State :=
  let s := s.updEnt sp fun e => { e with rushes := some ⟨source, s.elapsed, false, [], 0⟩ }
  let s := (s.setFld sp Fld.rngRushesCtrlSource source).setFld sp Fld.rngRushesCtrlActive 1
  let s := (s.setFld sp Fld.rngRushesCountBits 0).wipeDrbg sp
  let s := s.device sp [] [devSlate 0x0803 .ok (.span sp) source (leBytes 4 session ++ padBytes 32 cert)]
  s.rushesReport sp source

/-- The raw bits that a capture has taken so far, at 8 Mb/s from its entry on (R282, R294). -/
def Rushes.captured (r : Rushes) (now : Nat) : Nat := if r.done then 1048576 else min 1048576 ((now - r.start) * 8 / us)

/-- Leaves rushes mode (R295): the capture is wiped, and the sources restart. -/
def State.endRushes (s : State) (sp : SpanId) : State :=
  match (s.span sp).entropy.rushes with
  | none => s
  | some r =>
    let s := s.updEnt sp fun e => { e with rushes := none, pool := [] }
    let s := (s.setFld sp Fld.rngRushesCtrlActive 0).setFld sp Fld.rngRushesCountBits 0
    let s := s.startSources sp
    let s := s.device sp [] [devSlate 0x0804 .ok (.span sp) r.source (leBytes 4 (r.captured s.elapsed) ++ leBytes 2 r.failures)]
    s.rushesReport sp r.source

end Sys2Proof.Machine
end

