-- ==== Sys2Proof/Machine/TamperOps.lean ====
section
/-!
DEFINITION. The tamper monitors of the always-on domain (R298 to R314): filters, events, firings and their responses, the adoption of
a policy, temperature limits, and the shift registers of the loops.
-/

namespace Sys2Proof.Machine

/-- Changes the always-on domain. -/
def State.updTamper (s : State) (f : Tamper → Tamper) : State := s.updHub fun h => { h with tamper := f h.tamper }

/-! ### Filters (R301) -/

/-- The filter of a counting source. -/
def Tamper.filter (t : Tamper) (n : Nat) : TmpFilter :=
  (t.filters.find? fun f => f.n == n).getD ⟨n, List.replicate 16 0, 0, 0, 0, true, none, (0, 0, 0)⟩

/-- Replaces a filter. -/
def Tamper.setFilter (t : Tamper) (f : TmpFilter) : Tamper := { t with filters := putBy (·.n) f t.filters }

/-- The count of a filter: the events in the current bucket and the fifteen before it. -/
def TmpFilter.count (f : TmpFilter) : Nat := f.buckets.sum

/-- One event in the current bucket. -/
def TmpFilter.add (f : TmpFilter) : TmpFilter :=
  { f with buckets := match f.buckets with | b :: t => (b + 1) :: t | [] => 1 :: List.replicate 15 0 }

/-- The next bucket becomes the current one. -/
def TmpFilter.advance (f : TmpFilter) (width : Nat) : TmpFilter :=
  { f with buckets := 0 :: f.buckets.take 15, started := f.started + width }

/-- The width of a bucket of a source in nanoseconds: WINDOW divided by 16. -/
def State.bucketWidth (s : State) (n : Nat) : Nat := (s.hub.tamper.filter n).entry.2.2 * ms / 16

/-- Replaces a filter and shows its count. -/
def State.setFilter (s : State) (f : TmpFilter) : State :=
  (s.updTamper fun t => t.setFilter f).setFld .a (Fld.tmpSrcnCountInWindow f.n) (min f.count 255)

/-! ### Firing (R302 to R308) -/

/-- The logic supplies of the module are present (the converter runs). -/
def State.powered (s : State) : Bool := s.hub.power.converter

/-- Ticks of the AON oscillator, a 48-bit count at 32.768 kHz. -/
def State.aonTick (s : State) : Nat := s.elapsed * 32768 / 1000000000 % 2 ^ 48

/-- The owners that a tamper response zeroises, as bits n for owner n (R304). -/
def tamperOwners (action mask : Nat) : Nat := if action = 3 then 2 * (mask % 2 ^ 32) else if action = 4 then 2 ^ 33 - 1 else 0

/-- PROTECTION as the hub holds it: 1 ANCHORED, 2 UNANCHORED. -/
def State.protection (s : State) : Nat := s.fld .a Fld.tmpStatusProtection

/-- The configuration that a span in order holds, seen from the hub: that of the keystone span, or of Span A. -/
def State.ruling (s : State) : SpanId := s.keystone.getD .a

/-- Clears the anchor words of some owners, at once (R169). -/
def State.clearAnchors (s : State) (mask : Nat) : State :=
  s.updHub fun h => { h with anchors := h.anchors.filter fun x => !mask.testBit x.1 }

/-- Latches owners in ZEROISE_PENDING (R307). -/
def State.latchPending (s : State) (mask : Nat) : State :=
  let m := s.mask64 .a Reg.tmpPendingLo Reg.tmpPendingHi ||| mask
  (s.set64 .a Reg.tmpPendingLo Reg.tmpPendingHi m).setFld .a Fld.tmpStatusPending (boolNat (m != 0))

/-- The key objects that a tamper FENCE fences (R304): those of owners 0 to 32 that are ACTIVE or SUSPENDED. -/
def Replica.fenceable (r : Replica) : List Nat :=
  (r.objs.filter fun o => decide (o.owner ≤ 32) && (o.state == .active || o.state == .suspended)).map (·.handle)

/-- The slates of a tamper FENCE: that of the firing, and OBJ_FENCED for each object. -/
def SpanState.fenceSlates (x : SpanState) (slate : SlateReq) : List SlateReq :=
  slate :: x.rep.fenceable.map fun h => devSlate 0x0505 .ok .hub h (leBytes 2 (slate.subject % 2 ^ 16) ++ leBytes 2 (x.stream.slotRefs h))

/-- The response of a source that fires (R302 to R304, Zeroisation paths), with the slates it writes. On VBAK alone the anchor words are cleared or the
owners latched at once; the rest waits for the next boot (log entry 111). -/
def State.tamperResponse (s : State) (action mask : Nat) (slate : SlateReq) : State :=
  let owners := tamperOwners action mask
  let x := s.span s.ruling
  let s := if owners ≠ 0 ∧ s.protection = 1 then s.clearAnchors owners else s
  if s.powered then
    if owners ≠ 0 then
      let s := (s.zeroiseOrder .a owners none).zeroiseOrder .b owners none
      s.deviceBoth [.zeroise owners] [slate, zeroisedSlate .hub owners 1 (x.rep.zeroisable owners)]
    else if action = 2 then s.deviceBoth (x.rep.fenceable.map .fence) (x.fenceSlates slate)
    else s.deviceBoth [] [slate]
  else
    let s := if owners ≠ 0 ∧ s.protection ≠ 1 then s.latchPending owners else s
    s.updTamper fun t => { t with pendingOwners := t.pendingOwners ||| owners, dark := t.dark ++ [(action, slate)] }

/-- A boot writes the slates of the firings on VBAK alone, and carries out their FENCE (log entry 111). -/
def State.writeDark (s : State) (sp : SpanId) : State :=
  let dark := s.hub.tamper.dark
  let x := s.span sp
  let s := s.updTamper fun t => { t with dark := [] }
  dark.foldl (fun s d => if d.1 = 2 then s.device sp (x.rep.fenceable.map .fence) (x.fenceSlates d.2) else s.device sp [] [d.2]) s

/-- A source fires (R302): its count is set to 0, its ALARM bit is set, the response runs once, and a slate is written. -/
def State.tamperFire (s : State) (n : Nat) : State :=
  let f := s.hub.tamper.filter n
  let action := s.fld .a (Fld.tmpSrcnActionAction n)
  let mask := s.fld .a (Fld.tmpSrcnMaskOwnerMask n)
  let slate := devSlate 0x0901 .ok .hub (0x400 + n) (leBytes 1 action ++ leBytes 4 mask ++ leBytes 1 (min f.count 255) ++
    leBytes 1 s.protection ++ leBytes 1 (boolNat s.powered))
  let s := s.setFilter { f with buckets := List.replicate 16 0 }
  let s := (s.setBit .a Reg.tmpAlarm n true).setFld .a Fld.tmpEvtFired 1
  s.tamperResponse action mask slate

/-- The gap record (R309): once the time base is qualified after an outage, the gap end is recorded; a GAP slate and a report follow if VBAK fell,
the always-on domain lost its supply, or an event was stored. After an AON loss the gap start is the time of the newest slate in NOR. -/
def State.recordGap (s : State) (sp : SpanId) : State :=
  let t := s.hub.tamper
  if !t.gapOpen ∨ !t.outage then s
  else
    let now := s.now sp
    let start := if t.aonLost then
        (((s.span sp).rep.log.entries.getLast?.map fun e => tai64 e.slate.time).getD 0)
      else s.mask64 .a Reg.tmpGapStartLo Reg.tmpGapStartHi
    let s := s.set64 .a Reg.tmpGapEndLo Reg.tmpGapEndHi (tai64 now)
    let vbak := s.fld .a Fld.tmpGapInfoVbakLost
    let ovf := s.fld .a Fld.tmpGapInfoOverflow
    let s := s.updTamper fun t => { t with gapOpen := false, outage := false, aonLost := false }
    if vbak = 0 ∧ !t.aonLost ∧ t.gap = [] ∧ ovf = 0 then s
    else
      let ticks := (s.aonTick + 2 ^ 48 - t.gapTick) % 2 ^ 48
      let slate := devSlate 0x0904 .ok .hub 0 (leBytes 8 start ++ leBytes 8 (tai64 now) ++ leBytes 6 ticks ++ leBytes 1 t.gap.length ++
        leBytes 1 ovf ++ leBytes 1 vbak ++ leBytes 1 (boolNat t.aonLost))
      ((s.setFld .a Fld.tmpEvtGap 1).raiseHub 0x41D .ok []).deviceBoth [] [slate]

/-- A source active on VBAK alone (the table of sources). -/
def onVbak (n : Nat) : Bool := decide (n ≤ 12)

/-- An event is stored in the gap buffer with its tick; beyond 16 it is counted (R309). -/
def State.storeGap (s : State) (n : Nat) : State :=
  if s.hub.tamper.gap.length < 16 then
    let s := s.updTamper fun t => { t with gap := t.gap ++ [(s.aonTick, n)] }
    s.setFld .a Fld.tmpGapInfoEvents s.hub.tamper.gap.length
  else s.bump .a Fld.tmpGapInfoOverflow 1

/-- Whether a counting source is watched: its policy entry does not say UNUSED; on VBAK alone only some sources are, and after AON loss with
no supply nothing is. -/
def State.watched (s : State) (n : Nat) : Bool :=
  countingSources.contains n && !(decide (n < 12) && s.fld .a (Fld.tmpSrcnFilterMode n) == 3) &&
    (s.powered || (onVbak n && !s.hub.tamper.aonLost))

/-- Counts an event (R301, R305): counted and reported in every case; the source fires at its threshold while the policy is armed. -/
def State.countTamper (s : State) (n : Nat) : State :=
  let s := (s.bump .a (Fld.tmpSrcnCountTotal n) 1).setFld .a Fld.tmpEvtEvent 1
  let s := s.setFilter (s.hub.tamper.filter n).add
  let th := s.fld .a (Fld.tmpSrcnFilterThreshold n)
  let fires := decide (0 < th ∧ th ≤ (s.hub.tamper.filter n).count) && s.fld .a Fld.tmpStatusArmed == 1
  let s := if s.powered then s else s.storeGap n
  let s := if fires then s.tamperFire n else s
  if s.powered then s.raiseHub (0x400 + n) .ok [] else s

/-- One event of a counting source (R301, R302, R305, R309, R311): under test it is only seen by the test; otherwise it is counted and
reported. -/
def State.tamperEvent (s : State) (n : Nat) : State :=
  if !s.watched n then s
  else
    let f := s.hub.tamper.filter n
    let s := s.updTamper fun t => t.setFilter { f with lastEvent := some s.elapsed }
    match s.hub.tamper.test with
    | some x =>
      if x.n = n then s.updTamper fun t => { t with test := some { x with seen := x.seen + 1 } } else s.countTamper n
    | none => s.countTamper n

/-! ### Policy (R305) -/

/-- The filter entry of a counting source in a policy payload: THRESHOLD, MODE, WINDOW_MS. -/
def filterIn (p : List Byte) (src : Nat) : Nat × Nat × Nat :=
  (((List.range (p.length / 8)).find? fun i => leField p (8 * i) 2 == 0x8000 + src).map fun i =>
    (leField p (8 * i + 2) 1, leField p (8 * i + 3) 1, leField p (8 * i + 4) 4)).getD (0, 0, 0)

/-- Installs the entries of one source: a changed filter starts from 0, an unchanged one keeps its count. -/
def State.adoptSource (s : State) (p : List Byte) (n : Nat) : State :=
  let r := (responseIn p (0x400 + n)).getD (1, 0)
  let s := (s.setFld .a (Fld.tmpSrcnActionAction n) r.1).setFld .a (Fld.tmpSrcnMaskOwnerMask n) r.2
  if countingSources.contains n then
    let e := filterIn p (0x400 + n)
    let f := s.hub.tamper.filter n
    let s := (s.setFld .a (Fld.tmpSrcnFilterThreshold n) e.1).setFld .a (Fld.tmpSrcnFilterMode n) e.2.1
    let s := s.setFld .a (Fld.tmpSrcnFilterWindowMs n) e.2.2
    let s := if 8 ≤ n ∧ n < 12 then s.setFld .a (Fld.tmpLoopnCfgMode (n - 8)) e.2.1 else s
    if f.entry = e then s.setFilter f
    else s.setFilter ⟨n, List.replicate 16 0, s.elapsed, 0, 0, true, f.lastEvent, e⟩
  else s

/-- The hub adopts a policy, and ARMED is set; a supervisor that runs its ROM only carries out no response (R305, R436). -/
def State.adoptPolicy (s : State) (p : List Byte) : State :=
  let s := tamperSources.foldl (fun s n => s.adoptSource p n) (s.updTamper fun t => { t with newPolicy := none })
  s.setFld .a Fld.tmpStatusArmed (boolNat (!s.hub.sup.romOnly))

/-! ### Temperature (R300, R314) -/

/-- A trim word of a span, if it reads cleanly. -/
def Fuses.trim (f : Fuses) (which : Nat) : Option Nat :=
  let w := f.word (96 + Config.trimWord which % 32)
  if w.clean then some w.norm else none

/-- C25 and GAIN of a sensor: 0 Span A, 1 Span B, 2 the hub, whose trims both fuse arrays hold; none if untrimmed. -/
def State.tempTrims (s : State) (k : Nat) : Option (Nat × Nat) :=
  let get (sp : SpanId) (which key : Nat) : Option (Nat × Nat) :=
    let x := s.span sp
    match x.fuses.trim which, x.nvs.calib.find? fun c => c.1 == key with
    | some c, some g => if c % 4096 = 0 ∨ c % 4096 = 4095 ∨ g.2 = 0 then none else some (c % 4096, g.2)
    | _, _ => none
  if k = 0 then get .a 0 2 else if k = 1 then get .b 0 2
  else match get .a 1 3 with | some x => some x | none => get .b 1 3

/-- `off` of R314. -/
def tempOff (c25 gain : Nat) : Int := ((c25 * gain / 4096 : Nat) : Int) - 400

/-- t_q4 of R314: the temperature in 1/16 degree of a code. -/
def tempQ4 (c25 gain n : Nat) : Int := ((n * gain / 4096 : Nat) : Int) - tempOff c25 gain

/-- The smallest code whose scaled value reaches a target (R314), in 12 bits. -/
def tempCode (gain : Nat) (target : Int) : Nat := min ((target.toNat * 4096 + gain - 1) / gain) 4095

/-- The limit codes of a sensor, low and high (R314). -/
def tempLimits (c25 gain : Nat) : Nat × Nat := (tempCode gain (tempOff c25 gain - 880), tempCode gain (2000 + tempOff c25 gain))

/-- The supply trims of a die are there: 0 Span A, 1 Span B, 2 the hub. -/
def State.supplyTrimmed (s : State) (k : Nat) : Bool :=
  let ok (sp : SpanId) (which : Nat) : Bool := ((s.span sp).fuses.trim which).any fun v => v != 0
  if k = 0 then ok .a 2 else if k = 1 then ok .b 2 else ok .a 3 || ok .b 3

/-- The supervisor computes the limit codes at boot (R300, R314); an untrimmed sensor is shown in CAL_MISSING. -/
def State.loadLimits (s : State) : State :=
  (List.range 3).foldl (fun s k =>
    let s := match s.tempTrims k with
      | some t =>
        let l := tempLimits t.1 t.2
        (s.setFld .a (Fld.tmpTempkLimitLowCode k) l.1).setFld .a (Fld.tmpTempkLimitHighCode k) l.2
      | none => s.setFld .a Fld.tmpEvtCalMissing 1
    if s.supplyTrimmed k then s else s.setFld .a Fld.tmpEvtCalMissing 1) s

/-! ### Loops (R299) -/

/-- PRBS31, x^31 + x^28 + 1: the bit that is driven, and the register after it. -/
def prbsNext (v : Nat) : Bool × Nat :=
  let b := xor (v.testBit 30) (v.testBit 27)
  (b, v * 2 % 2 ^ 31 + boolNat b)

/-- One sample of a level input (Events): `alarm` says that it is at its alarm level. The second result says that this is an event. -/
def TmpFilter.sample (f : TmpFilter) (alarm : Bool) : TmpFilter × Bool :=
  let a := if alarm then min (f.alarmRun + 1) 2 else 0
  let n := if alarm then 0 else min (f.normalRun + 1) 2
  let hit := f.armed && a == 2
  ({ f with alarmRun := a, normalRun := n, armed := (f.armed && !hit) || n == 2 }, hit)

/-- A sample of a level source. -/
def State.sampleLevel (s : State) (n : Nat) (alarm : Bool) : State :=
  let r := (s.hub.tamper.filter n).sample alarm
  let s := s.updTamper fun t => t.setFilter r.1
  if r.2 then s.tamperEvent n else s

/-- A sample of a PRBS loop or the mesh: an event for a bit that differs from the bit driven. -/
def State.samplePrbs (s : State) (i n : Nat) (bit : Bool) : State :=
  let v := s.hub.tamper.prbs.getD i 0
  if v = 0 then s
  else
    let r := prbsNext v
    let s := s.updTamper fun t => { t with prbs := t.prbs.set i r.2 }
    if r.1 = bit then s
    else
      let s := if i < 4 then s.bump .a (Fld.tmpLoopnErrCount i) 1 else s
      s.tamperEvent n

end Sys2Proof.Machine
end

