-- ==== Sys2Proof/Machine/Switch.lean ====
section
/-!
DEFINITION. From a validated image to the switch (R44, R48 to R58): PREPARE, DECIDE and SWITCH on the two spans, and the commit of a change
on the keystone span, at which PREPARE begins.
-/

namespace Sys2Proof.Machine

/-! ### What a switch installs -/

/-- The slot B that a KEY_HANDOVER writes for a context of a span: the recipient's key, from CUTOVER_SECOND on (R38); KEY_ID and SALT are
open (log entry 41). -/
def State.handoverSlot (s : State) (sp : SpanId) (epoch n handle cut : Nat) : Option Slot :=
  let x := s.span sp
  let e := x.stream.active.ctx n
  (x.rep.obj handle).map fun o =>
    let from_ := if x.rep.modeOf e = 1 then cut else addSigned cut (-(s.utcOffset sp))
    ⟨.loaded, e.alg, o.material.length, (Config.handoverKeyId n epoch).toNat, (Config.handoverSalt n epoch).toNat, from_, handle,
      expandMaterial e.alg o.material⟩

/-- The resources whose role an image changes (R54, R246): the host port with its PF at the first SITE scene, functions by their owner, stream ports by
MODE, LAN_ROLE and OWNER_MASK, lanes and gate slots by their worlds, contexts and their key slots by their owner, guests by CORES and MEM_MIB. -/
def roleChanges (old c : Storyboard) : List Resource :=
  let moved := (List.range 4096).filter fun n => old.ctxOwner n ≠ c.ctxOwner n
  let port (x : Storyboard) (n : Nat) := (x.port n).map fun p => (leField p 0 2, leField p 4 4)
  let gate (x : Storyboard) (sp : SpanId) (k : Nat) := (x.scene 9 sp.num).map fun p => sliceBytes p (24 + 24 * k) 16
  (if old.site.isNone && c.site.isSome then [Resource.port, .fn 0] else []) ++
    ((List.range 4).filter fun n => port old n ≠ port c n).map Resource.stream ++
    ([SpanId.a, SpanId.b].flatMap fun sp => ((List.range 29).filter fun k => gate old sp k ≠ gate c sp k).map (Resource.gate sp)) ++
    (moved.flatMap fun n => [Resource.slot n false, .slot n true]) ++
    ((List.range 32).filter fun i => (old.scene 2 (i + 1)).isSome != (c.scene 2 (i + 1)).isSome).map (fun i => Resource.fn (i + 1)) ++
    ([SpanId.a, SpanId.b].flatMap fun sp => (List.range 8).filterMap fun k =>
      if ((old.scene 7 sp.num).map fun p => leField p k 1) = ((c.scene 7 sp.num).map fun p => leField p k 1) then none
      else some (Resource.lane sp k)) ++
    moved.map Resource.ctx ++
    ((List.range 33).filter fun i => (old.world (i + 1) 4 2, old.world (i + 1) 10 2) ≠ (c.world (i + 1) 4 2, c.world (i + 1) 10 2)).map
      fun i => Resource.guest (i + 1)

/-- The new m_n of each owner with an ORK that a change of PROTECTION draws (R170), and the state after the draw. -/
def State.newMns (s : State) (sp : SpanId) (old c : Storyboard) : List (Nat × List Byte) × State :=
  if old.anchored = c.anchored then ([], s)
  else (s.span sp).rep.orks.foldl (fun (a : List (Nat × List Byte) × State) y => let d := a.2.drawSpan sp 32; (a.1 ++ [(y.1, d.1)], d.2)) ([], s)

/-- What the switch to a staged image installs, as a span holds it; the m_n that it needs are drawn when it happens. -/
def State.adoption (s : State) (sp : SpanId) (x : Staged) : Adoption :=
  let old := (s.span sp).rep.config
  let c := x.after old
  { epoch := x.epoch
    mns := []
    config := c
    roles := roleChanges old c
    ports := (x.ops.filter fun o => o.scene.type == 3).map fun o => o.scene.inst
    moves := x.moves.flatMap fun p => (moveEntries p).map fun e =>
      ⟨e.1, leField p 5 1, if leField p 6 1 = 1 then s.handoverSlot sp x.epoch e.1 e.2 (leField p 8 8) else none⟩ }

/-- The slates of a switch (R58, R139): SB_SWITCHED, and CTX_MOVED for each context that moves. -/
def switchSlates (k : SpanId) (r : Replica) (x : Staged) : List SlateReq :=
  devSlate 0x0106 .ok (.span k) x.epoch (leBytes 8 r.epoch ++ x.digest r) ::
    x.moves.flatMap fun p => (moveEntries p).map fun e =>
      devSlate 0x0604 .ok (.span k) e.1 (leBytes 1 (leField p 4 1) ++ leBytes 1 (leField p 5 1) ++ leBytes 1 (leField p 6 1) ++
        leBytes 8 (leField p 8 8) ++ leBytes 8 x.epoch)

/-- The objects that a KEY_HANDOVER loads for signing GOOSE or ROUTABLE are marked, with their twins (R150, R183). -/
def State.handoverMarks (s : State) (sp : SpanId) (a : Adoption) : List Delta :=
  let x := s.span sp
  (a.moves.flatMap fun m => match m.slotB.bind fun sl => x.rep.obj sl.handle with
    | some o =>
      let e := x.stream.active.ctx m.n
      if e.dir = 1 ∧ x.rep.modeOf e ≠ 1 then (x.rep.signMarks o).map Delta.eff else []
    | none => []).eraseDups

/-- The owners that take their first ORK at a switch (R169): those whose OWNER scene it installs, and owner 0 with the first SITE. -/
def orkOwners (old c : Storyboard) : List Nat :=
  (if old.site.isNone && c.site.isSome then [0] else []) ++ c.owners.filter fun n => (old.scene 2 n).isNone

/-- New ORKs with their m_n, drawn on the keystone span (R169), with their slates, and the state after the draws. -/
def State.newOrks (s : State) (k : SpanId) (old : Storyboard) : List Delta × List SlateReq × State :=
  let c : Storyboard := (s.span k).rep.config
  let code := if c.anchored then 1 else 2
  ((orkOwners old c).filter fun n => ((s.span k).rep.ork n).isNone).foldl (fun (a : List Delta × List SlateReq × State) n =>
    let d := a.2.2.drawSpan k 64
    (a.1 ++ [.eff (.putOrk n (d.1.take 32) (d.1.drop 32))], a.2.1 ++ [devSlate 0x0507 .ok (.span k) n (leBytes 1 code)], d.2)) ([], [], s)

/-- What else follows from a switch on the configuration that the keystone span has just adopted: sessions of signers that are gone end (R60, R63), and
proposals that the new quorum settles change their state (R68); a proposal that it brings to quorum writes no slate (log entry 105). -/
def State.switchFollowUp (s : State) (k : SpanId) : List Delta × List SlateReq :=
  let r := (s.span k).rep
  let t := s.now k
  let gone := r.sessions.filter fun y => !((r.config.signerKey y.signer).any fun o => o.digest == y.keyDigest)
  let ends := gone.map fun y => sessionEnd k y 5
  let props := (r.props.map fun p => (p, r.settle p t)).filter fun p => p.2.state ≠ p.1.state
  let settled := props.map fun p => (Delta.putProp p.2,
    if p.2.state = .rejected then [propDevSlate k 0x0214 .ok p.2 (r.closedDetail p.2 .rejected)] else [])
  (ends.map (·.1) ++ settled.map (·.1), ends.map (·.2) ++ settled.flatMap (·.2))

/-! ### Deciding the switch -/

/-- The change that discards an image under R46, with its slate, and frees the site lock if it is held for it. -/
def discardInfeasible (k : SpanId) (x : Staged) (locked : Bool) (d : Nat × Nat) : List Delta × List SlateReq :=
  ([.setStaged none false] ++ if locked then [.lockFree 0] else [],
    [devSlate 0x0104 .imageInfeasible (.span k) x.epoch (discardDetail 3 d.1 d.2)])

/-- DECIDE on the keystone span (R49, R51): the decision is recorded, at the witness too, and sent; the site lock frees, and an image that is
aborted returns to validated or is discarded. -/
def State.decideSwitch (s : State) (k : SpanId) (x : Staged) (commit : Bool) : State :=
  let s := s.updCont k fun c => { c with
    decision := some (x.epoch, commit), prepared := if commit then c.prepared else none }
  let s := if s.witnessReach k then
      s.updHub fun h => { h with witness := { h.witness with decisions := h.witness.decisions ++ [(x.epoch, commit)] } } else s
  let s := s.tell k (.decision x.epoch commit)
  let decided := devSlate 0x0105 .ok (.span k) x.epoch (leBytes 1 (if commit then 1 else 2) ++ leBytes 8 (tai64 x.tsw))
  let s :=
    if commit then s.submitMany k .image [.setStaged (some { x with state := .committed, apply := none }) false, .lockFree 0] [decided]
    else
      let s := [SpanId.a, SpanId.b].foldl (fun s sp => s.setFld sp Fld.cntEpochEvtAborted 1) (s.updTamper fun t => { t with newPolicy := none })
      if x.atTime then
        s.submitMany k .image [.setStaged none false, .lockFree 0]
          [decided, devSlate 0x0104 .approvalExpired (.span k) x.epoch (discardDetail 4 0 0)]
      else s.submitMany k .image [.setStaged (some { x with state := .validated, apply := none }) false, .lockFree 0] [decided]
  match x.apply with
  | some c => if commit then s.answerApply k c .ok [num (tai64 x.tsw)] else s.answerApply k c .staleBase []
  | none => s

/-- PREPARE on one span (R49, R335): PREPARED is recorded, and the shadow banks for the new epoch are built: what the switch installs, the places of the
guests in the stage-2 tables, and the gates. -/
def State.buildBanks (s : State) (sp : SpanId) (x : Staged) : State :=
  let a := s.adoption sp x
  let places := (placeGuests (s.span sp) sp a.config).getD []
  let s := s.updCont sp fun c => { c with prepared := some (x.epoch, x.digest (s.span sp).rep), decision := none, banks := some (a, places) }
  s.shadowGates sp a.config places

/-- PREPARE on the keystone span (R46, R49, R51, R305): an AT_TIME image that is too late is discarded, and so is an image that is no longer feasible;
otherwise the shadow banks are built, a new tamper policy goes to the hub, and PREPARE to the other span. -/
def State.beginPrepare (s : State) (k : SpanId) (x : Staged) : State :=
  let r := (s.span k).rep
  if x.atTime ∧ x.switchTime < s.now k + 2 * ms then
    s.submitMany k .image [.setStaged none false, .lockFree 0] [devSlate 0x0104 .approvalExpired (.span k) x.epoch (discardDetail 4 0 0)]
  else
    match s.infeasible k x (x.second (s.now k)) with
    | some d => let e := discardInfeasible k x true d; s.submitMany k .image e.1 e.2
    | none =>
      let c := x.after r.config
      let s := s.buildBanks k x
      let s := if c.scene 12 0 = r.config.scene 12 0 then s else s.updTamper fun t => { t with newPolicy := c.scene 12 0 }
      let s := s.tell k (.prepare x.epoch x.tsw)
      s.submitMany k .image [.setStaged (some { x with state := .prepared }) false] []

/-- The image that a change has made ready to prepare (R48, R49): validated, with the site lock taken for an AT_TIME image, or with an SB_APPLY that
fixes its time. -/
def Change.toPrepare (c : Change) : Option Staged :=
  let locks := c.deltas.any fun d => match d with | .lockTake l => l.owner == 0 && l.pid == 0 | _ => false
  (c.deltas.findSome? fun d => match d with | .setStaged (some x) _ => some x | _ => none).filter fun x =>
    x.state == .validated && ((x.atTime && locks) || x.apply.isSome)

/-- The status with which an SB_APPLY that waits completes when its image is discarded by a change (R48, log entry 106): that of the discard, or
STALE_BASE where a producer has withdrawn the image. -/
def Change.dropsApply (c : Change) (was : Option Staged) : Option (Caller × Status) :=
  let gone := c.deltas.any fun d => match d with | .setStaged none _ => true | _ => false
  if gone then
    (was.bind Staged.apply).map fun a => (a, match c.slates.find? fun q => q.kind == 0x0104 with
      | some q => if q.status = .ok ∨ q.status = .approvalExpired then .staleBase else q.status
      | none => .staleBase)
  else none

/-- The keystone span applies a record that is durable (R263 step 5, R272): the command completes, an SB_APPLY whose image is gone completes too, and
PREPARE begins if the change made an image ready. -/
def State.commitOldest (s : State) (sp : SpanId) (r : Record) : State :=
  let was := (s.span sp).rep.staged
  let s := s.applyRecord sp r
  let us := min ((s.now sp - r.time) / us) 65535
  let s := s.setFld sp Fld.cntReplLatLastUs us
  let s := s.setFld sp Fld.cntReplLatMaxUs (max (s.fld sp Fld.cntReplLatMaxUs) us)
  let s := s.finishChange sp r.change
  let s := match r.change.dropsApply was with | some y => s.answerApply sp y.1 y.2 [] | none => s
  match r.change.toPrepare with
  | some x => s.beginPrepare sp x
  | none => s

/-! ### Rows -/

/-- IMAGE_VALIDATED (R44, R46, R49): both spans have validated the image, each from its own copy, and report the same digest; an image that is no longer
feasible on one of them is discarded. An AT_TIME image takes the site lock for its PREPARE. -/
def execImageValidated (s : State) : Host.Outcome State Fault Refusal :=
  match s.keystone with
  | none => .next s
  | some k =>
    let o := s.ordered k
    let r := (o.span k).rep
    let peer := (s.span k.other).rep
    match r.staged, peer.staged with
    | some x, some y =>
      if x.state ≠ .validating ∨ (s.span k).cont.mode ≠ .keystone ∨ (s.span k.other).cont.mode ≠ .follower ∨
          y.digest peer ≠ x.digest r ∨ (x.atTime ∧ (r.lock 0).isSome) then .next s
      else
        match (s.infeasible k x (x.second (s.now k))).or (s.infeasible k.other y (y.second (s.now k.other))) with
        | some d => let e := discardInfeasible k x x.apply.isSome d; .next (s.submitMany k .image e.1 e.2)
        | none =>
          let x' := { x with state := .validated, validA := true, validB := true, tsw := if x.atTime then x.switchTime else x.tsw }
          let lock : List Delta := if x.atTime then [.lockTake ⟨0, 0, 0, s.now k + 30 * sec, (s.span k).cont.term, 0, [], [], []⟩] else []
          .next (s.submitMany k .image ([.setStaged (some x') false] ++ lock) [devSlate 0x0103 .ok (.span k) x.epoch (x.digest r)])
    | _, _ => .next s

/-- PREPARE (R46, R49): the other span checks the image against its own copy, builds its shadow banks, records PREPARED and answers READY; or it answers
that a feasibility check fails. -/
def execPrepare (sp : SpanId) (s : State) : Host.Outcome State Fault Refusal :=
  match s.receive sp (fun m => match m with | .prepare e t => some (e, t) | _ => none) with
  | none => .next s
  | some (m, s) =>
    match (s.span sp).rep.staged.filter fun x => x.epoch == m.1 with
    | none => .next s
    | some x =>
      match s.infeasible sp x (x.second (s.now sp)) with
      | some d => .next (s.tell sp (.infeasible m.1 d.1 d.2))
      | none => .next ((s.buildBanks sp x).tell sp (.ready m.1 (x.digest (s.span sp).rep)))

/-- A span runs the apply of an image: it holds the lease of the term in which the site lock was taken (R49, R52). -/
def State.runsApply (s : State) (sp : SpanId) : Bool :=
  s.keystone == some sp && ((s.ordered sp).span sp).rep.locks.any fun l => l.owner == 0 && l.pid == 0 && l.term == (s.span sp).cont.term

/-- The image whose PREPARE a span runs and has not decided. -/
def State.undecided (s : State) (sp : SpanId) : Option (Staged × List Byte) :=
  let c := (s.span sp).cont
  match (s.span sp).rep.staged, c.prepared with
  | some x, some p => if s.runsApply sp ∧ p.1 = x.epoch ∧ c.decision = none then some (x, p.2) else none
  | _, _ => none

/-- READY (R46, R49): COMMIT if the digests match and READY came no later than T_sw - 1 ms, else ABORT; an image that the other span finds infeasible is
discarded. -/
def execReady (sp : SpanId) (s : State) : Host.Outcome State Fault Refusal :=
  match s.receive sp (fun m => match m with | .ready e d => some (e, .inl d) | .infeasible e c i => some (e, .inr (c, i)) | _ => none) with
  | none => .next s
  | some (m, s) =>
    match (s.undecided sp).filter fun x => x.1.epoch == m.1, (m.2 : List Byte ⊕ Nat × Nat) with
    | some x, .inl d => .next (s.decideSwitch sp x.1 (decide (x.2 = d ∧ s.now sp + 1 * ms ≤ x.1.tsw)))
    | some x, .inr d => let e := discardInfeasible sp x.1 true d; .next (s.submitMany sp .image e.1 e.2)
    | none, _ => .next s

/-- DECISION (R49): the other span hears the decision on the epoch that it has prepared. -/
def execDecision (sp : SpanId) (s : State) : Host.Outcome State Fault Refusal :=
  match s.receive sp (fun m => match m with | .decision e c => some (e, c) | _ => none) with
  | none => .next s
  | some (m, s) =>
    if (s.span sp).cont.prepared.any fun p => p.1 == m.1 then
      .next (s.updCont sp fun c => { c with decision := some m, prepared := if m.2 then c.prepared else none })
    else .next s

/-- DECIDE_DEADLINE (R49): T_sw - 1 ms has come without READY. -/
def execDecideDeadline (sp : SpanId) (s : State) : Host.Outcome State Fault Refusal :=
  match (s.undecided sp).filter fun x => decide (x.1.tsw ≤ s.now sp + 1 * ms) with
  | some x => .next (s.decideSwitch sp x.1 false)
  | none => .next s

/-- DECISION_QUERY (R50): a prepared span without a decision at T_sw - 500 us asks the witness over its hub link; without COMMIT there it stays on the
epoch in force. -/
def execDecisionQuery (sp : SpanId) (s : State) : Host.Outcome State Fault Refusal :=
  let c := (s.span sp).cont
  match (s.span sp).rep.staged, c.prepared with
  | some x, some p =>
    if x.epoch = p.1 ∧ c.decision = none ∧ s.runsApply sp = false ∧ x.tsw ≤ s.now sp + 500 * us then
      if c.hubLink && s.hub.witness.decisions.getLast? == some (p.1, true) then .next (s.updCont sp fun c => { c with decision := some (p.1, true) })
      else .next (s.updCont sp fun c => { c with prepared := none, banks := none })
    else .next s
  | _, _ => .next s

/-- EPOCH_TICK (R53 to R58, R36 to R38, R169, R170, R197, R305): the span switches if it holds COMMIT, to the banks that PREPARE has built; the keystone
span draws the m_n of a change of PROTECTION and the ORKs of new owners, and orders the epoch record with what follows from the switch; the hub adopts a
new tamper policy at the first tick. -/
def execEpochTick (sp : SpanId) (s : State) : Host.Outcome State Fault Refusal :=
  let x0 := s.span sp
  match x0.rep.staged with
  | none => .next s
  | some x =>
    if x0.cont.decision = some (x.epoch, true) ∧ x.tsw ≤ s.now sp then
      let a := ((x0.cont.banks.map (·.1)).filter fun a => a.epoch == x.epoch).getD (s.adoption sp x)
      let marks := s.handoverMarks sp a
      let s := match s.hub.tamper.newPolicy with | some p => s.adoptPolicy p | none => s
      if s.keystone = some sp then
        let m := s.newMns sp x0.rep.config a.config
        let a := { a with mns := m.1 }
        let s := m.2.adopt sp a
        let n := s.newOrks sp x0.rep.config
        let f := n.2.2.switchFollowUp sp
        .next (n.2.2.submitMany sp .epochSwitch (.adopt a :: marks ++ n.1 ++ f.1) (switchSlates sp x0.rep x ++ n.2.1 ++ f.2))
      else .next (s.adopt sp a)
    else .next s

end Sys2Proof.Machine
end

