-- ==== Sys2Proof/Machine/Deck.lean ====
section
/-!
DEFINITION. Continuity between the spans (R259 to R281): deck links, the messages of ordering and durability, the lease, split and loss,
takeover, handover, force, and rejoin.
-/

namespace Sys2Proof.Machine

/-! ### Links (R259, R260) -/

/-- A deck link of a span is up. -/
def Cont.linkUp (c : Cont) (n : Nat) : Bool := if n = 0 then c.deckUp0 else c.deckUp1

/-- When both deck links of a span have last changed. -/
def Cont.linksAt (c : Cont) : Nat := max c.deck0At c.deck1At

/-- Sets a deck link of a span, with `CNT_STATE` and the event. -/
def State.setLink (s : State) (sp : SpanId) (n : Nat) (up : Bool) : State :=
  let s := s.updCont sp fun c =>
    if n = 0 then { c with deckUp0 := up, deck0At := s.elapsed } else { c with deckUp1 := up, deck1At := s.elapsed }
  let s := s.setFld sp (if n = 0 then Fld.cntStateDeck0Up else Fld.cntStateDeck1Up) (boolNat up)
  let s := if up then s.setFld sp Fld.cntEvtDeckUp 1
    else (s.setFld sp Fld.cntEvtDeckDown 1).bump sp (if n = 0 then Fld.cntDeck0DownsCount else Fld.cntDeck1DownsCount) 1
  s.raiseQuiet sp (0x380 + n) .ok []

/-- The slate of a change of link state: the keystone span writes it while the other link still joins the spans, else each span its own
(R26, R259). -/
def State.linkSlate (s : State) (sl : SlateReq) : State :=
  match s.keystone with
  | some k => if (s.span k).cont.deckUp then s.device k [] [sl] else (s.device .a [] [sl]).device .b [] [sl]
  | none => (s.device .a [] [sl]).device .b [] [sl]

/-- The firmware bank that a span runs. -/
def SpanState.fw (x : SpanState) : FwBank := if x.boot.bank = 0 then x.nvs.bank0 else x.nvs.bank1

/-- What a span says in HELLO (R275). -/
def State.helloOf (s : State) (sp : SpanId) : Hello :=
  let x := s.span sp
  ⟨x.cont.mode, x.cont.term, x.cont.csn, x.cont.digestAt x.cont.csn, x.cont.lastCsn, x.cont.side.length, x.fw.version, x.fw.formatMin,
    x.fw.formatMax⟩

/-- Sends HELLO to the peer. -/
def State.sendHello (s : State) (sp : SpanId) : State := s.send sp.other (.hello (s.helloOf sp))

/-- A span is not joined with its peer, and says HELLO when a link comes up. -/
def Cont.apart (c : Cont) : Bool := c.peerLost || c.mode == .joining || c.mode == .isolated || c.mode == .seeking

/-- A span says HELLO when a link comes up: it is not joined with its peer, and its boot has come to the join (R442). -/
def SpanState.speaks (x : SpanState) : Bool := x.cont.apart && (x.cont.mode != .joining || x.boot.helloAt.isSome)

/-- The slate DECK_DOWN of a link: retransmissions of one message, and the silence in us. -/
def deckDownSlate (ruling : SpanId) (link retrans silence : Nat) : SlateReq :=
  devSlate 0x0701 .ok (.span ruling) link (leBytes 4 retrans ++ leBytes 4 silence)

/-- DECK_LINK_DOWN (R259): no valid message for 100 us, or 16 retransmissions of one. -/
def execDeckLinkDown (link retrans silence : Nat) (s : State) : Host.Outcome State Fault Refusal :=
  if 2 ≤ link ∨ !(s.a.cont.linkUp link) ∨ (silence < 100 ∧ retrans < 16) then .next s
  else
    let s := s.updCont .a fun c => if link = 0 then { c with attempts0 := 0 } else { c with attempts1 := 0 }
    let s := s.updCont .b fun c => if link = 0 then { c with attempts0 := 0 } else { c with attempts1 := 0 }
    let s := (s.setLink .a link false).setLink .b link false
    let s := (s.showWitness .a).showWitness .b
    .next (s.linkSlate (deckDownSlate s.ruling link retrans silence))

/-- DECK_HEARTBEAT (R259): an idle link carries it, and it changes nothing that the module keeps. -/
def execDeckHeartbeat (_link : Nat) (s : State) : Host.Outcome State Fault Refusal := .next s

/-- When the next attempt to train a link that is down may begin: at once, and then 10 ms after the one before (R259). -/
def Cont.retrainAt (c : Cont) (link : Nat) : Nat :=
  if link = 0 then c.deck0At + 10 * ms * c.attempts0 else c.deck1At + 10 * ms * c.attempts1

/-- DECK_RETRAIN (R259): an attempt of a link that is down begins, 10 ms after the one before. -/
def execDeckRetrain (link : Nat) (s : State) : Host.Outcome State Fault Refusal :=
  if 2 ≤ link ∨ s.a.cont.linkUp link ∨ s.elapsed < s.a.cont.retrainAt link then .next s
  else
    let f (c : Cont) : Cont := if link = 0 then { c with attempts0 := c.attempts0 + 1 } else { c with attempts1 := c.attempts1 + 1 }
    .next ((s.updCont .a f).updCont .b f)

/-- DECK_LINK_UP (R259, R260): the link carries messages again; spans that are not joined say HELLO. -/
def execDeckLinkUp (link : Nat) (s : State) : Host.Outcome State Fault Refusal :=
  if 2 ≤ link ∨ s.a.cont.linkUp link then .next s
  else
    let n := if link = 0 then s.a.cont.attempts0 else s.a.cont.attempts1
    let s := (s.setLink .a link true).setLink .b link true
    let s := (s.showWitness .a).showWitness .b
    let s := s.linkSlate (devSlate 0x0702 .ok (.span s.ruling) link (leBytes 2 n))
    let s := if s.a.speaks then s.sendHello .a else s
    .next (if s.b.speaks then s.sendHello .b else s)

/-- HUB_LINK_DOWN (R281, R462): WITNESS_LOST is reported, and the witness may be out of reach. -/
def execHubLinkDown (sp : SpanId) (s : State) : Host.Outcome State Fault Refusal :=
  if !(s.span sp).cont.hubLink then .next s
  else
    let s := (s.updCont sp fun c => { c with hubLink := false }).raiseQuiet sp 0x384 .ok []
    .next ((s.showWitness .a).showWitness .b)

/-- HUB_LINK_UP (R266, R462): the witness is in direct reach again. -/
def execHubLinkUp (sp : SpanId) (s : State) : Host.Outcome State Fault Refusal :=
  let s := s.updCont sp fun c => { c with hubLink := true }
  .next ((s.showWitness .a).showWitness .b)

/-! ### Ordering and durability (R262 to R264) -/

/-- FORWARD (R262): the keystone span orders a change that the other span has prepared, or defers it. -/
def execForward (sp : SpanId) (s : State) : Host.Outcome State Fault Refusal :=
  if s.keystone ≠ some sp then .next s
  else
    match s.receive sp (fun m => match m with | .forward c => some c | _ => none) with
    | none => .next s
    | some (c, s) => .next (s.submit sp c)

/-- REC (R263 step 2, R261): the next record is written, and acknowledged; one that the span holds is a duplicate. -/
def execRecMsg (sp : SpanId) (s : State) : Host.Outcome State Fault Refusal :=
  match s.receive sp (fun m => match m with | .record r => some r | _ => none) with
  | none => .next s
  | some (r, s) =>
    let c := (s.span sp).cont
    if (c.mode ≠ .follower ∧ c.mode ≠ .rejoining) ∨ r.csn ≠ c.lastCsn + 1 then .next s
    else
      let s := s.updCont sp fun k => { k with
        lastCsn := r.csn, open_ := k.open_ ++ [r], term := r.term, replayed := k.replayed + boolNat (k.mode == .rejoining) }
      let s := s.set64 sp Reg.cntTermLo Reg.cntTermHi r.term
      .next (s.tell sp (.ack r.csn))

/-- ACK (R263 step 3): the record is durable on both spans; on a joined keystone span that commits it. -/
def execAck (sp : SpanId) (s : State) : Host.Outcome State Fault Refusal :=
  match s.receive sp (fun m => match m with | .ack n => some n | _ => none) with
  | none => .next s
  | some (n, s) =>
    let s := s.updCont sp fun k => { k with peerAck := max k.peerAck n }
    let s := s.set64 sp Reg.cntPeerCsnLo Reg.cntPeerCsnHi (s.span sp).cont.peerAck
    let c := (s.span sp).cont
    .next (if c.mode = .keystone ∧ c.open_.any (fun r => r.csn == n) then s.tell sp (.commit n) else s)

/-- COMMIT (R263 step 4, R265): the oldest prepared record is applied, and COMMIT_ACK sent. -/
def execCommit (sp : SpanId) (s : State) : Host.Outcome State Fault Refusal :=
  match s.receive sp (fun m => match m with | .commit n => some n | _ => none) with
  | none => .next s
  | some (n, s) =>
    let c := (s.span sp).cont
    if c.mode ≠ .follower ∧ c.mode ≠ .rejoining then .next s
    else if n ≤ c.csn then .next (s.tell sp (.commitAck n))
    else
      match c.open_.head? with
      | some r => if r.csn = n then .next ((s.applyRecord sp r).tell sp (.commitAck n)) else .next s
      | none => .next s

/-- The replicated records of a span with their identifiers. The idle time of a session, which a use restarts on both spans at once, is left out. -/
def SpanState.replicated (x : SpanState) : List (List Byte × List Byte) :=
  Config.replicated { x.rep with sessions := x.rep.sessions.map fun y => { y with lastAt := 0 } } x.stream.active x.stream.shadow

/-- The bucket of a record: bits [255:246] of SHA-256 of its identifier (R276). -/
def bucketOf (id : List Byte) : Nat := ofBe ((sha256 id).take 2) / 64

/-- The digest of a bucket: its records in identifier order (R276). -/
def bucketDigest (l : List (List Byte × List Byte)) (b : Nat) : List Byte :=
  let mine := sortBy (fun x y : List Byte × List Byte => decide (ofBe x.1 ≤ ofBe y.1)) (l.filter fun x => bucketOf x.1 == b)
  sha256 (asciiBytes "AKNSDB-V1" ++ mine.flatMap fun x => x.1 ++ sha256 x.2)

/-- The digests of the 1,024 buckets. -/
def bucketDigests (l : List (List Byte × List Byte)) : List (List Byte) := (List.range 1024).map (bucketDigest l)

/-- The state digest of a span at its CSN (R276). -/
def SpanState.digest (x : SpanState) : List Byte :=
  sha256 (asciiBytes "AKNSD-V1" ++ beBytes 8 x.cont.csn ++ (bucketDigests x.replicated).flatten)

/-- Shows the state digest of a span (`CNT_STATE_DIGESTn`). -/
def State.showDigest (s : State) (sp : SpanId) : State :=
  let d := (s.span sp).digest
  let s := (List.range 8).foldl (fun s i => s.setReg sp (Reg.cntStateDigestn i) (BitVec.ofNat 32 (leField d (4 * i) 4))) s
  s.set64 sp Reg.cntDigestCsnLo Reg.cntDigestCsnHi (s.span sp).cont.csn

/-- Sends the state digest of a span. -/
def State.sendDigest (s : State) (sp : SpanId) : State :=
  let s := s.showDigest sp
  s.tell sp (.digest (s.span sp).cont.csn (s.span sp).digest)

/-- R275 step 6 on the keystone span: when the rejoining span has applied the newest record, new changes are deferred and the digests are
compared. -/
def State.tryDigest (s : State) (k : SpanId) : State :=
  let c := (s.span k).cont
  let p := (s.span k.other).cont
  if s.keystone = some k ∧ !c.peerLost ∧ p.mode = .rejoining ∧ c.open_ = [] ∧ p.open_ = [] ∧ p.csn = c.csn ∧ !c.holdOrder then
    (s.updCont k fun c => { c with holdOrder := true }).sendDigest k
  else s

/-- R270 steps 2 and 3: with every record complete the keystone span sends HANDOVER with its vote and becomes the follower. Changes that the
other span forwarded and that were not ordered are left to it. -/
def State.giveHandover (s : State) (k : SpanId) : State :=
  let c := (s.span k).cont
  if c.mode = .keystone ∧ c.holdOrder ∧ c.open_ = [] ∧ (s.span k.other).cont.mode = .follower then
    let s := s.tell k (.handover (c.term + 1))
    let s := { s with deck := s.deck.filter fun m => match m with | (dest, .forward _) => dest ≠ k | _ => true }
    let s := s.updCont k fun c => { c with
      holdOrder := false, voteTerm := c.term + 1, promiseEnd := s.elapsed + 1050 * ms
      deferred := c.deferred.filter fun d => d.change.origin ≠ .span k.other }
    s.setMode k .follower
  else s

/-- R270 step 1: the keystone span defers new changes and hands over once its records are complete. -/
def State.beginHandover (s : State) (k : SpanId) : State := (s.updCont k fun c => { c with holdOrder := true }).giveHandover k

/-- The solo mark is cleared once a rejoining peer has committed every record up to it (R272). -/
def State.clearSolo (s : State) (k : SpanId) (n : Nat) : State :=
  if s.keystone = some k ∧ (s.span k.other).cont.mode = .rejoining ∧ s.hub.witness.soloCsn ≤ n ∧ s.witnessReach k then
    s.updHub fun h => { h with witness := { h.witness with soloTerm := 0, soloCsn := 0 } }
  else s

/-- COMMIT_ACK (R263 step 5): the keystone span applies the record, and the command completes. -/
def execCommitAck (sp : SpanId) (s : State) : Host.Outcome State Fault Refusal :=
  match s.receive sp (fun m => match m with | .commitAck n => some n | _ => none) with
  | none => .next s
  | some (n, s) =>
    let s := s.clearSolo sp n
    match (s.span sp).cont.open_.head? with
    | some r =>
      let s := if (s.span sp).cont.mode = .keystone ∧ r.csn = n then s.commitOldest sp r else s
      .next ((s.giveHandover sp).tryDigest sp)
    | none => .next ((s.giveHandover sp).tryDigest sp)

/-- RESULT (R262): the command of a forwarded change completes with the keystone span's status. -/
def execResult (sp : SpanId) (s : State) : Host.Outcome State Fault Refusal :=
  match s.receive sp (fun m => match m with | .result i st f => some (i, st, f) | _ => none) with
  | none => .next s
  | some (m, s) =>
    match (s.span sp).cont.forwarded.find? fun c => c.id == m.1 with
    | none => .next s
    | some c =>
      let s := s.updCont sp fun k => { k with forwarded := k.forwarded.erase c }
      .next (match c.caller with | some x => s.complete x m.2.1 m.2.2 | none => s)

/-- SOLO_RECORD_ACK (R272): the witness has moved its solo mark to the oldest record, which is then committed. -/
def execSoloRecordAck (sp : SpanId) (s : State) : Host.Outcome State Fault Refusal :=
  let c := (s.span sp).cont
  match c.open_.head? with
  | none => .next s
  | some r =>
    if c.mode ≠ .solo ∨ !s.witnessReach sp then .next s
    else
      let s := s.updHub fun h => { h with witness := { h.witness with soloTerm := c.term, soloCsn := r.csn } }
      .next (((s.commitOldest sp r).tell sp (.commit r.csn)).tryDigest sp)

/-! ### The lease (R266 to R268) -/

/-- LEASE_RENEW_TIMER (R266): every 100 ms a span that holds the lease sends RENEW to both voters, unless its secure world is hung (R326). -/
def execLeaseRenewTimer (sp : SpanId) (s : State) : Host.Outcome State Fault Refusal :=
  let c := (s.span sp).cont
  if (c.mode ≠ .keystone ∧ c.mode ≠ .solo) ∨ s.elapsed < c.renewSent + 100 * ms ∨ (s.span sp).worlds.hung ≠ [] then .next s
  else
    let s := s.updCont sp fun k => { k with renewSent := s.elapsed }
    let s := s.tell sp (.renew c.term (s.now sp))
    .next (if s.witnessReach sp then s.updHub fun h => { h with renews := h.renews ++ [(sp, c.term, s.now sp)] } else s)

/-- A seeking span to which the witness shows that the peer's term is alive becomes isolated (R271). -/
def State.seeAlive (s : State) (sp : SpanId) : State :=
  if (s.span sp).cont.mode = .seeking ∧ s.witnessReach sp then s.setMode sp .isolated else s

/-- RENEW (R266): a voter endorses a renewal of the lease unless it has voted for another span in a later term, and promises to vote for no
other span for 1,050 ms. -/
def execRenew (sp : SpanId) (voter : Die) (s : State) : Host.Outcome State Fault Refusal :=
  match voter with
  | .hub =>
    match s.hub.renews.find? fun r => r.1 == sp with
    | none => .next s
    | some (_, t, at_) =>
      let s := s.updHub fun h => { h with renews := h.renews.erase (sp, t, at_) }
      let w := s.hub.witness
      if !s.witnessReach sp ∨ (t < w.term ∧ w.holder ≠ some sp) ∨ (w.holder = some sp.other ∧ s.elapsed < w.promiseEnd) then .next s
      else
        let s := s.updHub fun h => { h with
          witness := { h.witness with
            term := max t w.term, holder := some sp, lastVote := s.elapsed, promiseEnd := s.elapsed + 1050 * ms }
          votes := h.votes ++ [(sp, t, at_)] }
        .next (s.seeAlive sp.other)
  | .span v =>
    if v = sp then .next s
    else
      match s.receive v (fun m => match m with | .renew t at_ => some (t, at_) | _ => none) with
      | none => .next s
      | some (m, s) =>
        if m.1 < (s.span v).cont.voteTerm then .next s
        else
          let s := s.updCont v fun c => { c with voteTerm := m.1, promiseEnd := s.elapsed + 1050 * ms }
          .next (s.send sp (.vote m.1 m.2))

/-- A VOTE on a renewal that a span sent at a time (R266): the lease runs to 1,000 ms after it. A lease that had run out lets the span
order and act as time master again. -/
def State.extendLease (s : State) (sp : SpanId) (term sentAt : Nat) : State :=
  let c := (s.span sp).cont
  if term = c.term ∧ (c.mode = .keystone ∨ c.mode = .solo) then
    let s := s.updCont sp fun k => { k with leaseEnd := max k.leaseEnd (sentAt + 1000 * ms), lastRenewal := max k.lastRenewal sentAt }
    if s.fld sp Fld.tbStatusTimeMaster = 0 then (s.setFld sp Fld.tbStatusTimeMaster 1).drainDeferred sp else s
  else s

/-- VOTE (R266): the answer of the witness, else that of the peer. -/
def execVote (sp : SpanId) (s : State) : Host.Outcome State Fault Refusal :=
  match s.hub.votes.find? fun v => v.1 == sp with
  | some v => .next ((s.updHub fun h => { h with votes := h.votes.erase v }).extendLease sp v.2.1 v.2.2)
  | none =>
    match s.receive sp (fun m => match m with | .vote t at_ => some (t, at_) | _ => none) with
    | none => .next s
    | some (m, s) => .next (s.extendLease sp m.1 m.2)

/-- LEASE_EXPIRY (R266, R271): a span whose lease has run out orders nothing and stops acting as time master; a SOLO span is isolated. -/
def execLeaseExpiry (sp : SpanId) (s : State) : Host.Outcome State Fault Refusal :=
  let c := (s.span sp).cont
  if s.now sp < c.leaseEnd then .next s
  else
    let lost := devSlate 0x0705 .ok (.span sp) sp.code (leBytes 8 c.term ++ leBytes 8 (tai64 c.lastRenewal))
    if c.mode = .solo then .next (((s.setMode sp .isolated).device sp [] [lost]).raiseQuiet sp 0x383 .ok [])
    else if c.mode = .keystone ∧ s.fld sp Fld.tbStatusTimeMaster = 1 then
      .next (((s.setFld sp Fld.tbStatusTimeMaster 0).device sp [] [lost]).raiseQuiet sp 0x383 .ok [])
    else .next s

/-! ### Split and loss (R260, R269, R271, R274) -/

/-- The former keystone span of the latest term that a span has recorded was that span itself (R278). -/
def Cont.wasKeystone (c : Cont) (sp : SpanId) : Bool :=
  ((c.settled ++ c.journal).reverse.find? fun r => r.change.kind == .termStart).any fun r => r.change.origin == .span sp

/-- A candidate is not below the solo mark (R269); after an always-on domain loss the mark is lost (R278). -/
def State.soloOk (s : State) (sp : SpanId) : Bool :=
  let c := (s.span sp).cont
  if s.hub.witness.soloTerm = 0 ∧ s.hub.tamper.aonLost then c.wasKeystone sp || c.newest == none
  else decide (s.hub.witness.soloCsn ≤ c.lastCsn)

/-- A rejoin ends without success (R271, R277): the span is isolated, writes REJOIN_FAIL and reports it. -/
def State.failRejoin (s : State) (sp : SpanId) : State :=
  let c := (s.span sp).cont
  let s := s.setMode sp .isolated
  let s := s.setFld sp Fld.cntEvtRejoinFail 1
  let s := s.device sp [] [devSlate 0x0709 .rejoinFailed (.span sp) sp.code (leBytes 1 c.mismatches ++ leBytes 2 c.buckets)]
  s.raise sp 0x385 .rejoinFailed [] none none

/-- A seeking span cannot take over, or sees that the peer's term is alive: it is isolated (R271). -/
def State.seek (s : State) (sp : SpanId) : State :=
  let c := (s.span sp).cont
  let alive : Bool := s.hub.witness.holder == some sp.other && decide (c.linksAt < s.hub.witness.lastVote)
  if !s.witnessReach sp ∨ !s.soloOk sp ∨ alive then s.setMode sp .isolated else s

/-- PEER_LOST (R260, R271): both deck links have been down for 5 ms. Rushes mode ends first (R295). -/
def execPeerLost (sp : SpanId) (s : State) : Host.Outcome State Fault Refusal :=
  let c := (s.span sp).cont
  if c.peerLost ∨ c.deckUp ∨ c.mode = .joining ∨ s.elapsed < c.linksAt + 5 * ms then .next s
  else
    let s := s.endRushes sp
    let s := s.updCont sp fun k => { k with peerLost := true, holdOrder := false }
    let s := { s with deck := [] }
    let s := (s.setFld sp Fld.cntEvtSplit 1).bump sp Fld.cntSplitsCount 1
    let s := s.raiseQuiet sp 0x382 .ok []
    let split := devSlate 0x0703 .ok (.span sp) sp.code (leBytes 8 c.term ++ leBytes 8 c.csn ++ leBytes 8 c.lastCsn)
    match c.mode with
    | .keystone | .solo => .next ((s.setMode sp .solo).device sp [] [split])
    | .follower => .next (((s.setMode sp .seeking).device sp [] [split]).seek sp)
    | .rejoining => .next ((s.failRejoin sp).device sp [] [split])
    | .seeking | .isolated | .joining => .next (s.device sp [] [split])

/-- Commits every record that a span holds prepared, in CSN order (R269). -/
def State.commitPrepared (s : State) (sp : SpanId) : State :=
  let l := (s.span sp).cont.open_
  let s := l.foldl (fun s r => s.commitOldest sp r) s
  s.updCont sp fun c => { c with forwarded := c.forwarded.filter fun f => !l.any fun r => r.change.origin == .span sp && r.change.id == f.id }

/-- A span takes the lease by itself (R267, R269): its prepared records are committed under the new term, and the witness moves its solo mark
to them; changes sent to the former keystone span and not prepared end in doubt (R254). -/
def State.takeAlone (s : State) (sp : SpanId) (term way : Nat) : State :=
  let s := if s.witnessReach sp then
      s.updHub fun h => { h with witness := { h.witness with soloTerm := term, soloCsn := (s.span sp).cont.lastCsn } } else s
  let s := s.updCont sp fun c => { c with term := term }
  let s := s.commitPrepared sp
  let f := (s.span sp).cont.forwarded
  let s := s.updCont sp fun c => { c with forwarded := [] }
  let s := f.foldl (fun s x => match x.caller with | some c => s.completeWith c .spanIsolated true 0 [] | none => s) s
  let s := s.takeLease sp term .solo way
  if (s.span sp).cont.peerLost then s else s.sendHello sp

/-- The next term that the witness grants (R268, R442): after a loss of the always-on domain it counts on from the spans' records. -/
def State.nextTerm (s : State) (sp : SpanId) : Nat := max s.hub.witness.term (s.span sp).cont.term + 1

/-- The witness may grant a new term: no promise of an earlier term runs (R268). -/
def State.witnessFree (s : State) : Bool := decide (s.hub.witness.promiseEnd ≤ s.elapsed)

/-- TAKEOVER (R267, R269): a seeking span takes the lease from the witness, or from the peer's vote, once no promise runs. -/
def execTakeover (sp : SpanId) (s : State) : Host.Outcome State Fault Refusal :=
  let c := (s.span sp).cont
  if c.mode ≠ .seeking then .next s
  else if !s.soloOk sp then .next (s.setMode sp .isolated)
  else if s.elapsed < c.promiseEnd ∨ s.keystone.isSome then .next s
  else if s.witnessReach sp then if s.witnessFree then .next (s.takeAlone sp (s.nextTerm sp) 2) else .next s
  else
    let p := (s.span sp.other).cont
    if c.deckUp ∧ !c.peerLost ∧ p.promiseEnd ≤ s.elapsed then
      let t := max c.term (max p.term p.voteTerm) + 1
      .next ((s.updCont sp.other fun p => { p with voteTerm := t, promiseEnd := s.elapsed + 1050 * ms }).takeAlone sp t 2)
    else .next s

/-- HANDOVER_START (R270): joined for 60 s with the preference in force naming the follower. -/
def execHandoverStart (sp : SpanId) (s : State) : Host.Outcome State Fault Refusal :=
  let c := (s.span sp).cont
  if c.mode = .keystone ∧ (s.span sp.other).cont.mode = .follower ∧ c.joinedAt + 60 * sec ≤ s.elapsed ∧
      (s.span sp).rep.pref = some sp.other ∧ !c.peerLost then .next (s.beginHandover sp)
  else .next s

/-- HANDOVER (R270): the follower becomes keystone and time master of the next term, and orders what it had forwarded. -/
def execHandover (sp : SpanId) (s : State) : Host.Outcome State Fault Refusal :=
  let c := (s.span sp).cont
  if c.mode ≠ .follower ∨ c.open_ ≠ [] ∨ s.deck.any (fun m => m.1 == sp && match m.2 with | .result _ _ _ => true | _ => false) then .next s
  else
    match s.receive sp (fun m => match m with | .handover t => some t | _ => none) with
    | none => .next s
    | some (t, s) =>
      let f := c.forwarded
      let s := s.updCont sp fun k => { k with forwarded := [] }
      let s := s.takeLease sp t .keystone 3
      .next (f.foldl (fun s x => s.submit sp x) s)

/-! ### Rejoin (R275 to R277) -/

/-- The highest CSN at or below one at which two spans hold equal record digests, looking at `n` of them; CSN 0 has no record, and below the first record of
the keystone span's journal nothing is compared (R275 step 4). -/
def agreeAt (x y : Cont) : Nat → Nat → Nat
  | 0, c => c
  | _, 0 => 0
  | n + 1, c + 1 =>
    if c + 1 < y.firstCsn then c + 1
    else if (x.committed (c + 1)).isSome ∧ (y.committed (c + 1)).isSome ∧ x.digestAt (c + 1) = y.digestAt (c + 1) then c + 1
    else agreeAt x y n c

/-- The log of a span after a rollback to what another log holds: the slates above are voided, and their positions stay consumed (R374, R466). -/
def Log.rollTo (l y : Log) : Log :=
  { y with
    entries := l.entries.filter fun e => decide (e.slate.seq < y.nextSeq)
    wp := l.wp, tail := l.tail, queued := l.queued, bad := l.bad, erases := l.erases }

/-- Rolls a span's replicated state back to a CSN (R275 step 2, R374): what the change records up to it leave on an empty replica. -/
def State.rollback (s : State) (sp : SpanId) (csn : Nat) : State :=
  let x := s.span sp
  let upTo (l : List Record) : List Record := l.filter fun r => r.csn ≤ csn
  let bare := s.upd sp fun x => { x with
    rep := Replica.reset, stream := { x.stream with active := ⟨[], []⟩, shadow := ⟨[], []⟩, dirty := [] }
    cont := { x.cont with csn := 0, journal := [], settled := [], open_ := [] } }
  let y := ((upTo x.cont.settled ++ upTo x.cont.journal).foldl (fun s r => s.applyRecord sp r) bare).span sp
  let s := s.upd sp fun x => { x with
    rep := { y.rep with log := x.rep.log.rollTo y.rep.log }
    nvs := { x.nvs with home := x.nvs.home.map fun h => if csn < h.csn then { h with voided := true } else h }
    stream := { x.stream with active := y.stream.active, shadow := y.stream.shadow, dirty := y.stream.dirty }, cls := y.cls
    vault := { x.vault with cache := x.vault.cache.filter fun h => (y.rep.obj h).isSome }
    cont := { x.cont with csn := csn, journal := upTo x.cont.journal, settled := upTo x.cont.settled } }
  let s := s.set64 sp Reg.cntCsnLo Reg.cntCsnHi csn
  (((s.showVault sp).showStaged sp).showLog sp).showEpoch sp

/-- The prepared records of a span that agree with the keystone span's, from the first after its CSN on (R275 step 4). -/
def agreeing (k : Cont) : Nat → List Record → List Record
  | _, [] => []
  | c, r :: t =>
    if r.csn = c ∧ ((k.journal ++ k.open_).any fun y => y.csn == r.csn && recordDigest y == recordDigest r) then r :: agreeing k (c + 1) t else []

/-- An image that the keystone span has prepared and not decided when the spans join ends in ABORT (R52). -/
def State.joinUndecided (s : State) (k : SpanId) : State :=
  let c := (s.span k).cont
  match (s.span k).rep.staged, c.prepared with
  | some x, some p => if x.state = .prepared ∧ p.1 = x.epoch ∧ c.decision = none then s.decideSwitch k x false else s
  | _, _ => s

/-- A span begins to rejoin a keystone span (R275 steps 1 and 2): it rolls back what the keystone span does not share, takes over the
decision on a prepared image (R50, R52), and says HELLO. -/
def State.beginRejoin (s : State) (sp : SpanId) : State :=
  let x := (s.span sp).cont
  let k := (s.span sp.other).cont
  let c := agreeAt x k (x.csn + 1) (min x.csn k.csn)
  let s := if c < x.csn then s.rollback sp c else s
  let open_ := if c < x.csn then [] else agreeing k (c + 1) x.open_
  let commits := fun (p : Nat × List Byte) => k.decision == some (p.1, true)
  let lost := (x.csn - c) + (x.open_.length - open_.length)
  let s := s.updCont sp fun t => { t with
    open_ := open_, lastCsn := c + open_.length, rejoinAt := s.elapsed, replayed := 0, buckets := 0, mismatches := 0, rejoinFailedAt := none
    prepared := t.prepared.filter commits
    decision := if t.prepared.any commits then k.decision else none
    banks := if t.prepared.any commits then t.banks else none }
  let s := s.joinUndecided sp.other
  let s := s.setMode sp .rejoining
  let s := if lost = 0 then s
    else s.device sp [] [devSlate 0x0708 .ok (.span sp) sp.code (leBytes 8 (c + 1) ++ leBytes 4 lost ++ leBytes 1 (boolNat (decide (c < x.csn))))]
  s.sendHello sp

/-- The slates of a SIDE_MERGE record (R275 step 5): SIDE_MERGE, and each side slate with its own TIME, PLANE, SPAN and DETAIL. -/
def sideMergeSlates (sp : SpanId) (p : Cont) : List SlateReq :=
  devSlate 0x0707 .ok (.span sp) sp.code
      (leBytes 2 p.side.length ++ leBytes 2 p.sideChanges.length ++ sha256 (p.side.flatMap slateBytes)) ::
    (p.side.map fun y => { y.req with time := some y.time }) ++ coalescedSlates (.span sp) p.sideCoalesced

/-- R275 steps 3 to 5 on the keystone span: it streams what the rejoining span lacks, with the buckets that differ first where a record has left its
journal, and orders the side segment. A rejoining span whose
record formats share nothing with its own ends with `REJOIN_FAILED` (R279). -/
def State.stream (s : State) (k : SpanId) (h : Hello) : State :=
  let c := (s.span k).cont
  let fw := (s.span k).fw
  if h.formatMax < fw.formatMin ∨ fw.formatMax < h.formatMin then s.failRejoin k.other
  else
    let s := if h.csn + 1 < c.firstCsn then s.tell k (.bucket c.csn) else s
    let s := (c.journal.filter fun r => decide (h.csn < r.csn)).foldl (fun s r =>
      let s := if r.csn ≤ h.prepared then s else s.tell k (.record r)
      s.tell k (.commit r.csn)) s
    let s := (c.open_.filter fun r => decide (h.prepared < r.csn)).foldl (fun s r => s.tell k (.record r)) s
    let p := (s.span k.other).cont
    let s := s.updCont k.other fun p => { p with sideChanges := [] }
    let s := if p.side = [] ∧ p.sideChanges = [] ∧ p.sideCoalesced = [] then s
      else s.submitMany k .sideMerge (p.sideChanges.map .eff) (sideMergeSlates k.other p)
    s.tryDigest k

/-- The span that requests the lease when neither holds one (R442): the higher committed CSN, then the preference in force, then Span A. -/
def State.requests (s : State) (sp : SpanId) : Bool :=
  let x := (s.span sp).cont.csn
  let y := (s.span sp.other).cont.csn
  if x = y then (s.span sp).rep.pref.getD .a == sp else decide (y < x)

/-- The requester may be granted the lease now: by the witness, or by its peer's vote where no witness is in reach (R442). -/
def State.grantable (s : State) (sp : SpanId) : Bool :=
  if s.witnessReach sp then s.witnessFree else decide ((s.span sp.other).cont.promiseEnd ≤ s.elapsed)

/-- The term that a requester is granted with its peer present (R442). -/
def State.bootTerm (s : State) (sp : SpanId) : Nat :=
  if s.witnessReach sp ∧ s.hub.witness.term ≠ 0 then s.hub.witness.term + 1
  else max s.a.cont.term s.b.cont.term + 1

/-- A span that is joining hears a peer without a lease (R442 steps 1 and 2). -/
def State.bootJoin (s : State) (sp : SpanId) : State :=
  if s.requests sp then
    let s := s.takeLease sp (s.bootTerm sp) .keystone 1
    s.sendHello sp
  else s.beginRejoin sp

/-- HELLO (R260, R271, R275, R442). -/
def execHello (sp : SpanId) (s0 : State) : Host.Outcome State Fault Refusal :=
  match s0.receive sp (fun m => match m with | .hello h => some h | _ => none) with
  | none => .next s0
  | some (h, s) =>
    let s := s.updCont sp fun c => { c with
      peerLost := false, peerFw := h.fwVersion, peerFormatMax := h.formatMax, peerState := h.mode.code }
    let c := (s.span sp).cont
    let peerLeads : Bool := h.mode == .keystone || h.mode == .solo
    match c.mode with
    | .joining =>
      if (s.span sp).boot.helloAt.isNone then .next s0
      else if peerLeads then .next (s.beginRejoin sp)
      else if h.mode = .rejoining ∨ h.mode = .follower then .next s
      else if s.requests sp ∧ !s.grantable sp then .next s0
      else .next (s.bootJoin sp)
    | .isolated =>
      if peerLeads then if c.rejoinFailedAt.isSome then .next s else .next (s.beginRejoin sp)
      else if h.mode = .rejoining ∨ h.mode = .follower then .next s else .next ((s.setMode sp .seeking).sendHello sp)
    | .seeking => if peerLeads then .next ((s.setMode sp .isolated).beginRejoin sp) else .next s
    | .follower => if h.mode = .solo then .next ((s.setMode sp .isolated).beginRejoin sp) else .next s
    | .keystone | .solo =>
      if h.mode = .rejoining then .next (s.stream sp h)
      else if peerLeads ∨ h.mode = .follower then .next s else .next (s.sendHello sp)
    | .rejoining => if peerLeads then .next (s.beginRejoin sp) else .next s

/-- R275 step 7 on the rejoining span: it becomes the follower, and `SPAN_ISOLATED` ends. -/
def State.joinFollower (s : State) (sp : SpanId) : State :=
  let s := s.updCont sp fun c => { c with joinedAt := s.elapsed, side := [], sideCoalesced := [], rejoinFailedAt := none }
  let s := (s.setFld sp Fld.cntSideCount 0).setFld sp Fld.cntEvtRejoined 1
  s.setMode sp .follower

/-- R275 step 7 on the keystone span: it leaves SOLO, the solo mark is cleared, REJOINED is written and the deferral ends; a newer record
FORMAT that both spans advertise is raised (R279). -/
def State.joinKeystone (s : State) (k : SpanId) (sides : Nat) : State :=
  let p := (s.span k.other).cont
  let s := s.updHub fun h => { h with witness := { h.witness with soloTerm := 0, soloCsn := 0 } }
  let s := s.updCont k fun c => { c with holdOrder := false, joinedAt := s.elapsed }
  let s := s.setFld k Fld.cntEvtRejoined 1
  let s := s.setMode k .keystone
  let s := s.device k [] [devSlate 0x0706 .ok (.span k.other) k.other.code
    (leBytes 4 p.replayed ++ leBytes 2 p.buckets ++ leBytes 2 sides ++ leBytes 4 ((s.elapsed - p.rejoinAt) / us))]
  let top := min (s.span k).fw.formatMax (s.span k).cont.peerFormatMax
  let s := if (s.span k).rep.format < top then s.submitMany k .formatRaise [.setFormat top] [] else s
  s.drainDeferred k

/-- How many side slates the last SIDE_MERGE of a span's rejoin holds. -/
def Cont.merged (c : Cont) (since : Nat) : Nat :=
  ((c.journal.filter fun r => r.change.kind == .sideMerge && decide (since ≤ r.time)).map fun r =>
    (r.change.slates.filter fun x => x.time.isSome).length).sum

/-- DIGEST (R275 steps 6 and 7, R277): the state digests of the two spans at one CSN are compared. -/
def execDigestMsg (sp : SpanId) (s0 : State) : Host.Outcome State Fault Refusal :=
  if s0.deck.any (fun m => m.1 == sp && match m.2 with | .bucket _ => true | _ => false) then .next s0
  else
    match s0.receive sp (fun m => match m with | .digest n d => some (n, d) | _ => none) with
    | none => .next s0
    | some (m, s) =>
      let x := s.span sp
      let same : Bool := m.1 == x.cont.csn && m.2 == x.digest
      match x.cont.mode with
      | .rejoining =>
        let s := s.sendDigest sp
        if same then .next (s.joinFollower sp)
        else
          let s := (s.updCont sp fun c => { c with mismatches := c.mismatches + 1 }).setFld sp Fld.cntEvtDigestMismatch 1
          if 3 ≤ (s.span sp).cont.mismatches then
            .next ((s.failRejoin sp).updCont sp fun c => { c with rejoinFailedAt := some s.elapsed })
          else .next s
      | .keystone | .solo =>
        if !x.cont.holdOrder then .next s
        else if same then
          .next (s.joinKeystone sp (x.cont.merged (s.now sp - (s.elapsed - (s.span sp.other).cont.rejoinAt))))
        else
          let s := s.setFld sp Fld.cntEvtDigestMismatch 1
          if (s.span sp.other).cont.mode = .rejoining then .next ((s.tell sp (.bucket x.cont.csn)).sendDigest sp)
          else .next ((s.updCont sp fun c => { c with holdOrder := false }).drainDeferred sp)
      | _ => .next s

/-- BUCKET (R275 step 4, R277): the rejoining span takes over every bucket that differs from the keystone span's, and with them its CSN. It places the
classification keys under its own seeds (R469). -/
def execBucket (sp : SpanId) (s : State) : Host.Outcome State Fault Refusal :=
  match s.receive sp (fun m => match m with | .bucket n => some n | _ => none) with
  | none => .next s
  | some (_, s) =>
    if (s.span sp).cont.mode ≠ .rejoining then .next s
    else
      let k := s.span sp.other
      let x := s.span sp
      let n := ((bucketDigests x.replicated).zip (bucketDigests k.replicated)).countP fun y => y.1 != y.2
      let s := s.upd sp fun x => { x with
        rep := k.rep, stream := { x.stream with active := k.stream.active, shadow := k.stream.shadow, dirty := k.stream.dirty }
        cont := { x.cont with
          buckets := x.cont.buckets + n, csn := k.cont.csn, lastCsn := max x.cont.lastCsn k.cont.csn
          open_ := x.cont.open_.filter fun r => decide (k.cont.csn < r.csn)
          journal := k.cont.journal, settled := k.cont.settled } }
      let s := ((s.keepEmpty sp).rebuildCls sp k.stream.active 4096).commitCls sp
      let s := s.set64 sp Reg.cntCsnLo Reg.cntCsnHi k.cont.csn
      let s := if x.cont.csn < k.cont.csn then s.tell sp (.commitAck k.cont.csn) else s
      .next ((((s.showVault sp).showStaged sp).showLog sp).showEpoch sp)

/-- REJOIN_RETRY (R277): 60 s after a failed rejoin the span says HELLO again. -/
def execRejoinRetry (sp : SpanId) (s : State) : Host.Outcome State Fault Refusal :=
  let c := (s.span sp).cont
  match c.rejoinFailedAt with
  | some t =>
    if c.mode = .isolated ∧ t + 60 * sec ≤ s.elapsed ∧ !c.peerLost then
      .next ((s.updCont sp fun k => { k with rejoinFailedAt := none }).sendHello sp)
    else .next s
  | none => .next s

/-- JOIN_TIMEOUT (R442 step 3): no HELLO within 2 s of the span's own; the span requests the lease from the witness alone. -/
def execJoinTimeout (sp : SpanId) (s : State) : Host.Outcome State Fault Refusal :=
  let x := s.span sp
  match x.boot.helloAt with
  | some t =>
    if x.cont.mode ≠ .joining ∨ s.elapsed < t + 2 * sec then .next s
    else
      let s := s.updCont sp fun c => { c with peerLost := true }
      if s.witnessReach sp ∧ s.witnessFree ∧ s.soloOk sp then .next (s.takeAlone sp (s.nextTerm sp) 1)
      else .next (s.setMode sp .isolated)
  | none => .next s

/-! ### Commands -/

/-- SB_KEYSTONE_PREF (R270): under quorum. -/
def execSbKeystonePref (c : Caller) (sp : SpanId) (s : State) : Host.Outcome State Fault Refusal := .next (s.direct c (.sbKeystonePref sp))

/-- The message that the producers sign for SB_KEYSTONE_FORCE (R278). -/
def forceMessage (unit : List Byte) (sp : SpanId) (term csn t : Nat) : List Byte :=
  asciiBytes "AKNKF-V1" ++ unit ++ beBytes 1 sp.code ++ beBytes 8 term ++ beBytes 8 csn ++ beBytes 8 (tai64 t)

/-- Step 1 of R278: each signature is by a producer in force, no producer signs twice, and PRODUCER_QUORUM is reached. -/
def State.forceSigned (s : State) (at_ : SpanId) (sp : SpanId) (term csn t : Nat) (sigs : List (Nat × List Byte)) : Bool :=
  let c := (s.span at_).rep.config
  decide (c.producerQuorum ≤ sigs.length) && decide (sigs.map (·.1)).Nodup && decide (absDiff t (s.now at_) ≤ 300 * sec) &&
    sigs.all fun x => (c.officer 0 x.1).any fun o => verifySig 1 o.key (forceMessage (s.unitId at_) sp term csn t) x.2

/-- The checks of R278. -/
def State.forceRefusal (s : State) (c : Caller) (sp : SpanId) (term csn t : Nat) (sigs : List (Nat × List Byte)) : Option Status :=
  let x := (s.span c.span).cont
  if !s.forceSigned c.span sp term csn t sigs then some .notAuthorised
  else if sp ≠ c.span ∨ term ≠ x.term ∨ csn ≠ x.csn then some .staleBase
  else if x.mode ≠ .isolated then some .forceRefused
  else if !s.witnessReach sp then some .serviceUnavailable
  else if s.hub.witness.holder.isSome ∧ s.elapsed < s.hub.witness.lastVote + 1050 * ms then some .forceRefused
  else none

/-- SB_KEYSTONE_FORCE (R278). -/
def execSbKeystoneForce (c : Caller) (sp : SpanId) (term csn t : Nat) (sigs : List (Nat × List Byte)) (s : State) :
    Host.Outcome State Fault Refusal :=
  if !s.started c 0x0506 [some (num sp.code), some (num term), some (num csn), some (num t), none] then .next s
  else
    let early : Option Status := if s.lcState = 4 then some .lifecycleState
      else if (s.span c.span).rep.epoch = 0 ∨ !s.epochFits c [] then some .staleEpoch else none
    match early, s.forceRefusal c sp term csn t sigs with
    | some st, _ => .next (s.complete c st [])
    | none, some st => .next (s.complete c st [])
    | none, none =>
      let s := s.updHub fun h => { h with witness := { h.witness with soloTerm := 0, soloCsn := 0 } }
      .next ((s.takeLease sp (s.nextTerm sp) .solo 4).complete c .ok [])

end Sys2Proof.Machine
end

