-- ==== Sys2Proof/Machine/Jobs.lean ====
section
/-!
DEFINITION. Vault jobs (R192, R198, R206): the objects that a use may name, what a job checks and gives, its commands on a lane, its admission, its
start and its end.
-/

namespace Sys2Proof.Machine

/-! ### Schemes and blobs -/

/-- The scheme fits a private-type code. -/
def Scheme.fits (x : Scheme) (t : Nat) : Bool :=
  match x with
  | .ecdsa => t == 0x10 || t == 0x11 || t == 0x12
  | .eddsa => t == 0x18 || t == 0x19
  | .rsaPss _ | .rsaPkcs1 => t == 0x20 || t == 0x21 || t == 0x22
  | .mlDsa _ => t == 0x28 || t == 0x29 || t == 0x2A

/-- The length of a digest or message is one that the scheme takes under a type: the digest of a SHA-2 function for ECDSA and RSA (log entry 18), with room
for the salt in RSA-PSS (RFC 8017), and a message of up to 65,536 bytes otherwise (R192). -/
def Scheme.takes (x : Scheme) (t n : Nat) : Bool :=
  let digest : Bool := n == 28 || n == 32 || n == 48 || n == 64
  match x with
  | .ecdsa | .rsaPkcs1 => digest
  | .rsaPss salt => digest && decide (n + salt + 2 ≤ rsaBytes t)
  | .eddsa => decide (n ≤ 65536)
  | .mlDsa ctx => decide (n ≤ 65536 ∧ ctx.length ≤ 255)

/-- The sealed blob of an object under a wrapping key (Sealed blobs). -/
def KeyObj.seal (o : KeyObj) (unit nonce wrap : List Byte) : List Byte :=
  let head := asciiBytes "AKNBLOB1" ++ leBytes 2 1 ++ leBytes 1 o.type ++ leBytes 1 1 ++ leBytes 4 (0x90 + o.material.length + 16) ++ unit ++
    leBytes 8 o.handle ++ leBytes 4 o.usage ++ leBytes 4 o.flags ++ leBytes 4 o.deriveMask ++ leBytes 2 o.material.length ++ leBytes 2 0 ++
    leBytes 8 (tai64 o.created) ++ padBytes 32 o.label ++ wrapKcv wrap ++ nonce ++ leBytes 4 0
  let ct := gcmCtr wrap nonce o.material
  head ++ ct ++ gcmTag wrap nonce head ct

/-- The object that a caller may address (R191). A counter has no key usage (R174): USAGE_DENIED. -/
def Replica.reach (r : Replica) (c : Caller) (h : Nat) : Except Denial KeyObj :=
  match (r.obj h).filter fun o => r.mayAddress c o.owner with
  | some o => .ok o
  | none => if (r.ctr h).isSome && r.mayAddress c (ownerOf h) then deny .usageDenied else deny .objectUnknown

/-- The material of an object is unsealed into the cache of 1 MiB (R178): it becomes the most recently used entry, and the least recently used ones are
evicted (log entry 102). -/
def SpanState.unseal (x : SpanState) (h : Nat) : SpanState :=
  let bytes (l : List Nat) : Nat := ((l.filterMap x.rep.obj).map fun o => o.material.length).sum
  let l := (x.vault.cache.erase h) ++ (if (x.rep.obj h).isSome then [h] else [])
  { x with vault := { x.vault with cache := l.drop (((List.range l.length).find? fun i => decide (bytes (l.drop i) ≤ 1048576)).getD l.length) } }

/-! ### What a job does -/

/-- The arithmetic command that stands for the work of a job: the scalar multiplication, exponentiation or transform of its type; none for a
sealed export, which takes no lane (log entry 19). -/
def VaultWork.command (w : VaultWork) : Option Nat :=
  let t := w.type
  match w with
  | .seal _ _ _ => none
  | .verify .ecdsa _ _ _ _ => some 0x21
  | _ => some (if t ≤ 0x12 then 0x20 else if t ≤ 0x19 then 0x22 else if t ≤ 0x1B then 0x23 else if t ≤ 0x22 then 0x17 else 0x30)

/-- REPEAT and RAND of a job (R206): REPEAT, BLIND_SCALAR, RAND_PROJ and BLIND_INV for a private scalar or exponent; REPEAT, SHUFFLE and MASK_POLY for
a private polynomial; none where every value is public. -/
def VaultWork.options (w : VaultWork) : Nat :=
  match w with
  | .verify _ _ _ _ _ | .seal _ _ _ => 0
  | .change _ t => if 0x80 ≤ t then 0 else if w.type ≤ 0x22 then 0xF else 0x31
  | _ => if w.type ≤ 0x22 then 0xF else 0x31

/-- The VALIDATE masks of a job (R204): a public curve point with RANGE, NOT_INFINITY and ON_CURVE; r and s, a scalar and a nonce with ORDER and
NONZERO. -/
def VaultWork.masks (w : VaultWork) : Nat :=
  match w with
  | .verify .ecdsa _ _ _ _ => 0x060631
  | .verify .eddsa _ _ _ _ => 0x31
  | .sign .ecdsa _ _ _ => 0x0606
  | _ => 0

/-- The commands of a job (R199): JOB, VALIDATE, the arithmetic command, and STORE with JOB_CLOSE. -/
def VaultWork.commands (w : VaultWork) : List LaneCmd :=
  match w.command with
  | none => []
  | some op => [⟨0x00, w.options * 2 ^ 16, 0, 0⟩, ⟨0x01, w.masks, 0, 0⟩, ⟨op, 0, 0, 0⟩, ⟨0x03 + 2 ^ 26, 0, 0, 0⟩]

/-- What the validation stage of a job finds (R203). -/
def VaultWork.check (w : VaultWork) : Status :=
  match w with
  | .verify x t key _ sig => x.validate t key sig
  | _ => .ok

/-- What a job answers with its random bytes, or the status that ends it: VALID is 1, INVALID 2 (R243); an all-zero shared secret is refused
(RFC 7748). -/
def VaultWork.result (w : VaultWork) (rnd : List Byte) : Except Status (List (List Byte)) :=
  match w with
  | .sign x t m msg => .ok [x.sign t m msg rnd]
  | .verify x t key msg sig => .ok [num (if x.verify t key msg sig then 1 else 2)]
  | .agree t m peer => let z := xFunction t m peer; if z.all (· == 0) then .error .inputZero else .ok [z]
  | .encap t key => let e := Machine.encap t key rnd; .ok [e.1, e.2]
  | .decap t m ct => .ok [Machine.decap t m ct]
  | .seal o unit wrap => .ok [o.seal unit rnd wrap]
  | .change _ _ => .ok []

/-- The result of a job with the bytes that it drew. -/
def VaultJob.answer (j : VaultJob) : Except Status (List (List Byte)) := j.work.result (j.rnd.getD [])

/-! ### Admission and end -/

/-- A use is admitted (R185): its job waits for its random bytes and a lane (R198); in the fatal state of the entropy unit a job that draws is
refused (R288). -/
def State.admitJob (s : State) (c : Caller) (op : Nat) (handles : List Nat) (w : Except Denial VaultWork) : State :=
  match w with
  | .error d => s.complete c d.st []
  | .ok w =>
    if (0 < w.bytes ∨ w.options / 2 ≠ 0) ∧ s.entFatal c.span then s.complete c .serviceUnavailable []
    else
      let s := s.upd c.span fun x => handles.foldl SpanState.unseal x
      let s := s.upd c.span fun x => { x with vault := { x.vault with jobs := x.vault.jobs ++ [⟨c, op, handles, s.elapsed, w, none⟩] } }
      (s.deferCmd c).showJobs c.span

/-- A vault job ends: its command completes, or the change that it prepared is submitted; a change that fails is refused, and a proposal whose
execution it was closes with the status (R69). -/
def State.endVault (s : State) (sp : SpanId) (j : VaultJob) (st : Status) : State :=
  let s := (s.upd sp fun x => { x with vault := { x.vault with jobs := x.vault.jobs.erase j } }).showJobs sp
  match j.work with
  | .change c _ =>
    if st = .ok then s.submitPrepared sp c
    else
      match c.late with
      | some (.propExecute pid) =>
        match (s.span sp).rep.prop pid with
        | some p => let e := (s.span sp).rep.endExecution sp p (s.now sp) st; s.submit sp (ownChange .command sp e.1 e.2)
        | none => s
      | _ => s.refuseChange sp c st
  | _ =>
    if st = .ok then
      match j.answer with
      | .ok f => s.complete j.caller .ok f
      | .error e => s.complete j.caller e []
    else s.complete j.caller st []

/-! ### Lanes for vault jobs (R198) -/

/-- The first lane of a span that the secure world owns, that is enabled, powered and idle with nothing queued. -/
def State.freeLane (s : State) (sp : SpanId) : Option Nat :=
  (List.range 8).find? fun k =>
    let l := s.lane sp k
    s.laneGuest sp k == 0 && !((s.span sp).worlds.requests.any fun r => r.unit == k) && l.mode == .idle && l.queue.isEmpty &&
      l.nextGuest.isNone && l.cpls.length < 64 && (s.fld sp Fld.bneCtrlLaneEn).testBit k && s.unitState sp k == 0 && s.laneRoom sp

/-- The admitted jobs of a span that no lane runs, oldest first. -/
def State.waitingJobs (s : State) (sp : SpanId) : List VaultJob :=
  (s.span sp).vault.jobs.filter fun j => !((s.span sp).lanes.any fun l => l.vault == some j)

/-- The random values of a job's RAND bits, from DRBG instance 1 (R205, R289): 64 bytes for each run (R207). None while the request waits. -/
def State.laneRandom (s : State) (sp : SpanId) (j : LaneCmd) : Option (List Byte × State) :=
  if j.rand = 0 then some ([], s) else s.random sp 1 (if j.repeat_ then 128 else 64) false

/-- The bytes that a job draws once (R206), noted with it; none while the request waits. -/
def State.drawJob (s : State) (sp : SpanId) (j : VaultJob) : Option (VaultJob × State) :=
  if j.rnd.isSome ∨ j.work.bytes = 0 then some (j, s)
  else (s.random sp 0 j.work.bytes false).map fun r =>
    let j' := { j with rnd := some r.1 }
    (j', r.2.upd sp fun x => { x with vault := { x.vault with jobs := x.vault.jobs.map fun y => if y = j then j' else y } })

/-- Tries to start a job: the state, and whether it has started or ended. R54 is tested once more (R246); a sealed export needs no lane. A command whose
random bytes the DRBG cannot supply waits for them, or is refused in the fatal state (R205). -/
def State.startJob (s : State) (sp : SpanId) (j : VaultJob) : State × Bool :=
  if !s.epochFits j.caller [] then (s.endVault sp j .staleEpoch, true)
  else
    match j.work.commands, s.freeLane sp with
    | [], _ =>
      match s.drawJob sp j with
      | some (j, s) => ((s.waitOver sp (.cmd j.caller)).endVault sp j .ok, true)
      | none => (s.starved sp 0 (.cmd j.caller), false)
    | _ :: _, none => (s, false)
    | c :: cs, some k =>
      if c.rand ≠ 0 ∧ s.entFatal sp then (s.endVault sp j .serviceUnavailable, true)
      else
        match s.drawJob sp j with
        | none => (s.starved sp 0 (.cmd j.caller), false)
        | some (j, s) =>
          match s.laneRandom sp c with
          | none => (s.starved sp 1 (.cmd j.caller), false)
          | some (rnd, s) =>
            let s := s.waitOver sp (.cmd j.caller)
            ((s.setLane sp k { (s.lane sp k).begin (c :: cs) [] rnd with vault := some j }).setStage j.caller .lane, true)

/-- VAULT_JOB_DISPATCH (R198): the oldest waiting job that can start does, on the first free lane. -/
def execVaultJobDispatch (sp : SpanId) (s : State) : Host.Outcome State Fault Refusal :=
  .next ((s.waitingJobs sp).foldl (fun x j => if x.2 then x else x.1.startJob sp j) (s, false)).1

end Sys2Proof.Machine
end

