-- ==== Sys2Proof/Machine/BigNum.lean ====
section
/-!
DEFINITION. The arithmetic of a big-number lane on numbers (R213 to R225): limbs, guard fields, the correction, Montgomery products, reduction,
inversion, exponentiation, and the curve commands. A result is exact, or a status withholds it.
-/

namespace Sys2Proof.Machine

/-! ### Limbs -/

/-- `n` limbs of a slot from limb `lo` on. -/
def limbs (v lo n : Nat) : Nat := v / 2 ^ (64 * lo) % 2 ^ (64 * n)

/-- A slot with `n` limbs from limb `lo` on replaced. -/
def putLimbs (v lo n x : Nat) : Nat := v - limbs v lo n * 2 ^ (64 * lo) + x % 2 ^ (64 * n) * 2 ^ (64 * lo)

/-- What ends a command: a result, or the status that withholds it. -/
abbrev Arith := Except Status

/-- ARITH_GUARD (R234). -/
def guardFail {α : Type} : Arith α := .error .arithGuard

/-- A value below a bound, or ARITH_GUARD. -/
def below (v bound : Nat) : Arith Nat := if v < bound then .ok v else guardFail

/-- A modular operand: limbs 0 to k, whose guard field, bits [63:2] of limb k, is clear (R213). -/
def modOperand (k v : Nat) : Arith Nat := below (limbs v 0 (k + 1)) (4 * 2 ^ (64 * k))

/-- A scalar, or an IMUL source: limbs 0 to k - 1, with limb k clear (R213). -/
def scalarOperand (k v : Nat) : Arith Nat := if limbs v k 1 = 0 then .ok (limbs v 0 k) else guardFail

/-- An IADD or MRED source: limbs 0 to 2k - 1, with limb 2k clear (R213). -/
def wideOperand (k v : Nat) : Arith Nat := if limbs v (2 * k) 1 = 0 then .ok (limbs v 0 (2 * k)) else guardFail

/-- A modular result: limbs 0 to k - 1, limb k zero, the others unchanged (R214). -/
def modResult (k slot r : Nat) : Nat := putLimbs slot 0 (k + 1) r

/-! ### Correction and Montgomery product (R215 to R217) -/

/-- The J + 1 fixed steps of the correction. -/
def correctSteps (p : Nat) : Nat → Nat → Nat
  | 0, r => if p ≤ r then r - p else r
  | j + 1, r => correctSteps p j (if 2 ^ (j + 1) * p ≤ r then r - 2 ^ (j + 1) * p else r)

/-- correct(r, J) with its residual check (R215). -/
def correct (p j r : Nat) : Arith Nat := below (correctSteps p j r) p

/-- `n` Montgomery steps from limb `i` on: each clears one limb (the pseudocode of the Montgomery product). -/
def montSteps (p pInv : Nat) : Nat → Nat → Nat → Nat
  | 0, _, t => t
  | n + 1, i, t => montSteps p pInv n (i + 1) (t + t / 2 ^ (64 * i) % 2 ^ 64 * pInv % 2 ^ 64 * p * 2 ^ (64 * i))

/-- k Montgomery steps and the division by ρ. -/
def montReduce (p pInv k t : Nat) : Nat := montSteps p pInv k 0 t / 2 ^ (64 * k)

/-- MMUL of two values (R216). -/
def mmul (p pInv k a b : Nat) : Arith Nat := correct p 4 (montReduce p pInv k (a * b))

/-- MADD (R217). -/
def madd (p a b : Nat) : Arith Nat := correct p 2 (a + b)

/-- MSUB (R217): a - b + 4p; a source so large that this is negative fails the residual check. -/
def msub (p a b : Nat) : Arith Nat := if b ≤ a + 4 * p then correct p 2 (a + 4 * p - b) else guardFail

/-- MREDA (R221). -/
def mreda (p pInv k t : Nat) : Arith Nat := correct p 16 (montReduce p pInv k t)

/-! ### Inversion (R224) -/

/-- x div 2 modulo an odd p. -/
def halveMod (p x : Nat) : Nat := if x % 2 = 0 then x / 2 else (x + p) / 2

/-- The iterations of the binary GCD: u, v, x, y. -/
def gcdSteps (p : Nat) : Nat → Nat × Nat × Nat × Nat → Nat × Nat × Nat × Nat
  | 0, r => r
  | n + 1, (u, v, x, y) =>
    if u % 2 = 1 then
      if u < v then gcdSteps p n ((v - u) / 2, u, halveMod p ((y + p - x) % p), x)
      else gcdSteps p n ((u - v) / 2, v, halveMod p ((x + p - y) % p), y)
    else gcdSteps p n (u / 2, v, halveMod p x, y)

/-- MINV of a source (R224): reduced by correct(a, 2), then 2w iterations; NOT_INVERTIBLE if the gcd is not 1. -/
def minv (p k a : Nat) : Arith Nat := do
  let a ← correct p 2 a
  let r := gcdSteps p (128 * k) (a, p, 1, 0)
  if r.2.1 = 1 then .ok r.2.2.2 else .error .notInvertible

/-! ### Groups -/

/-- KIND codes. -/
def Group.isMult (g : Group) : Bool := g.kind == 1 || g.kind == 2
/-- A group with a modulus p. -/
def Group.isMod (g : Group) : Bool := decide (1 ≤ g.kind ∧ g.kind ≤ 5)
/-- A polynomial group. -/
def Group.isPoly (g : Group) : Bool := g.kind == 6 || g.kind == 7
/-- The modulus p. -/
def Group.p (g : Group) : Nat := g.arrays.getD 0 0
/-- ρ² mod p. -/
def Group.rho2 (g : Group) : Nat := g.arrays.getD 1 0
/-- The order n of a curve with one. -/
def Group.n (g : Group) : Nat := if g.kind = 3 ∨ g.kind = 4 then g.arrays.getD 6 0 else 0
/-- The coefficient modulus q. -/
def Group.q (g : Group) : Nat := if g.kind = 6 then 8380417 else 3329

/-- A coordinate, reduced on entry by correct(·, 2) (R225). -/
def coord (g : Group) (slot i : Nat) : Arith Nat := correct g.p 2 (limbs slot (i * g.limbs) g.limbs)

/-- A curve value of the descriptor, reduced on entry. -/
def curveVal (g : Group) (i : Nat) : Arith Nat := correct g.p 2 (g.arrays.getD i 0)

/-- Values in k limbs each from limb 0 of a slot on. -/
def putCoords (g : Group) (slot : Nat) (vs : List Nat) : Nat :=
  vs.zipIdx.foldl (fun s v => putLimbs s (v.2 * g.limbs) g.limbs v.1) slot

/-- The scaling of a projective result: a value in [1, p) that the spec leaves open (log entry 51). -/
def scaleOf (g : Group) (inputs : List Nat) : Nat := Config.projScale (g.p :: inputs) % (g.p - 1) + 1

/-- ESMUL: B·A, projective (R225). -/
def esmul (g : Group) (slot a b : Nat) : Arith Nat := do
  let n ← scalarOperand g.limbs b
  let x ← coord g a 0
  let y ← coord g a 1
  let ca ← curveVal g 2
  let _ ← curveVal g 3
  let r := PPoint.mul g.p ca (PPoint.ofAffine x y) n (64 * g.limbs)
  let s := scaleOf g [ca, x, y, n]
  .ok (putCoords g slot [r.x * s % g.p, r.y * s % g.p, r.z * s % g.p])

/-- DSMUL: B·G + C·A, projective (R225). -/
def dsmul (g : Group) (slot a b c : Nat) : Arith Nat := do
  let n ← scalarOperand g.limbs b
  let m ← scalarOperand g.limbs c
  let x ← coord g a 0
  let y ← coord g a 1
  let ca ← curveVal g 2
  let _ ← curveVal g 3
  let gx ← curveVal g 4
  let gy ← curveVal g 5
  let r := (PPoint.mul g.p ca (PPoint.ofAffine gx gy) n (64 * g.limbs)).add g.p ca (PPoint.mul g.p ca (PPoint.ofAffine x y) m (64 * g.limbs))
  let s := scaleOf g [ca, gx, gy, x, y, n, m]
  .ok (putCoords g slot [r.x * s % g.p, r.y * s % g.p, r.z * s % g.p])

/-- EDMUL: B·A, extended (R225). -/
def edmul (g : Group) (slot a b : Nat) : Arith Nat := do
  let n ← scalarOperand g.limbs b
  let x ← coord g a 0
  let y ← coord g a 1
  let ca ← curveVal g 2
  let cd ← curveVal g 3
  let r := EPoint.mul g.p ca cd ⟨x, y, 1 % g.p, x * y % g.p⟩ n (64 * g.limbs)
  let s := scaleOf g [ca, cd, x, y, n]
  .ok (putCoords g slot [r.x * s % g.p, r.y * s % g.p, r.z * s % g.p, r.t * s % g.p])

/-- XMUL: the u-coordinate of B·A over MOD_BITS bits of the scalar (255 or 448 for the curves of RFC 7748), projective: u and its
denominator (R225). -/
def xmul (g : Group) (slot a b : Nat) : Arith Nat := do
  let n ← scalarOperand g.limbs b
  let u ← coord g a 0
  let a24 ← curveVal g 2
  let r := ladder g.p a24 u n g.modBits (1, 0, u, 1)
  let s := scaleOf g [a24, u, n]
  .ok (putCoords g slot [r.1 * s % g.p, r.2.1 * s % g.p])

/-! ### Validation (R203) -/

/-- A point satisfies the equation of its curve and, for a cofactor above 1, lies in the prime-order subgroup. A group without a curve
contains no point. -/
def onCurve (g : Group) (x y : Nat) : Bool :=
  let p := g.p
  let a := g.arrays.getD 2 0
  let bd := g.arrays.getD 3 0
  if g.kind = 3 then
    y * y % p == (x * x * x + a * x + bd) % p &&
      (g.cofactor ≤ 1 || (PPoint.mul p a ⟨x, y, 1⟩ g.n (64 * g.limbs)).z == 0)
  else if g.kind = 4 then
    (a * x * x + y * y) % p == (1 + bd * x * x * y * y) % p &&
      (g.cofactor ≤ 1 || (let r := EPoint.mul p a bd ⟨x, y, 1 % p, x * y % p⟩ g.n (64 * g.limbs); r.x == 0 && r.y == r.z))
  else false

/-- The coefficients of a polynomial slot. -/
def coeffs (v : Nat) : List Nat := (List.range 256).map fun i => v / 2 ^ (32 * i) % 2 ^ 32

/-- The first check of a mask that a slot fails, in bit order. -/
def firstFail (g : Group) (mask v : Nat) : Status :=
  let k := g.limbs
  let e := if g.isPoly then limbs v 0 128 else limbs v 0 (k + 1)
  let x := limbs v 0 k
  let y := limbs v k k
  let point := mask.testBit 4 || mask.testBit 5
  let range : Bool := if g.isPoly then (coeffs v).any fun c => decide (g.q ≤ c)
    else if point ∧ (g.kind = 3 ∨ g.kind = 4) then decide (g.p ≤ x ∨ g.p ≤ y) else decide (g.p ≤ e)
  let infinity : Bool := (g.kind == 3 && x == 0 && y == 0) || (g.kind == 4 && x == 0 && y == 1)
  if mask.testBit 0 ∧ range then .inputRange
  else if mask.testBit 1 ∧ g.n ≠ 0 ∧ g.n ≤ e then .inputRange
  else if mask.testBit 2 ∧ e = 0 then .inputZero
  else if mask.testBit 3 ∧ e = 1 then .inputOne
  else if mask.testBit 4 ∧ infinity then .pointAtInfinity
  else if mask.testBit 5 ∧ !onCurve g x y then .notOnCurve
  else if mask.testBit 6 ∧ e % g.p = 0 then .notInvertible
  else .ok

/-! ### Group descriptors (R202) -/

/-- How many arrays of k + 1 limbs a kind has. -/
def arrayCount (kind : Nat) : Nat := if kind = 1 ∨ kind = 2 then 2 else if kind = 3 ∨ kind = 4 then 8 else if kind = 5 then 3 else 0

/-- The bytes of a descriptor, as its head gives them. -/
def descriptorBytes (head : List Byte) : Nat :=
  let kind := leField head 2 1
  64 + (if kind = 6 ∨ kind = 7 then 1024 else arrayCount kind * (leField head 3 1 + 1) * 8)

/-- The bit length of a number. -/
def bitLen (n : Nat) : Nat := if n = 0 then 0 else Nat.log2 n + 1

/-- `n` bits of a number in reverse order. -/
def brv : Nat → Nat → Nat
  | 0, _ => 0
  | n + 1, x => x % 2 * 2 ^ n + brv n (x / 2)

/-- Entry i of the root table (the constants of R227). -/
def rootEntry (kind i : Nat) : Nat :=
  if kind = 6 then powMod 8380417 1753 (brv 8 i) 8 * 2 ^ 32 % 8380417
  else if i < 128 then powMod 3329 17 (brv 7 i) 7 * 2 ^ 32 % 3329
  else powMod 3329 17 (2 * brv 7 (i - 128) + 1) 8 * 2 ^ 32 % 3329

/-- The group that a descriptor gives, or INPUT_RANGE if it breaks the table (R202, R227). -/
def parseGroup (d : List Byte) : Arith Group :=
  let kind := leField d 2 1
  let k := leField d 3 1
  let modBits := leField d 4 2
  let orderBits := leField d 6 2
  let pInv := leField d 8 8
  let nInv := leField d 16 8
  let cof := leField d 24 1
  let arrays := (List.range (arrayCount kind)).map fun i => leField d (64 + i * 8 * (k + 1)) (8 * (k + 1))
  let g : Group := ⟨kind, k, modBits, orderBits, pInv, nInv, cof, arrays, descriptorBytes d⟩
  let neg (p v : Nat) : Bool := (p * v + 1) % 2 ^ 64 == 0
  let head : Bool := leField d 0 2 == 1 && (sliceBytes d 25 39).all (· == 0) && d.length == descriptorBytes d
  let poly : Bool := k == 128 && modBits == (if kind = 6 then 23 else 12) && orderBits == 0 && nInv == 0 && cof == 0 &&
    pInv == (if kind = 6 then 4236238847 else 2488732927) && (List.range 256).all fun i => leField d (64 + 4 * i) 4 == rootEntry kind i
  let p := g.p
  let modular : Bool := p % 2 == 1 && decide (p < 2 ^ (64 * k)) && bitLen p == modBits && neg p pInv && g.rho2 == 2 ^ (128 * k) % p
  let order : Bool :=
    if kind = 3 ∨ kind = 4 then
      bitLen g.n == orderBits && decide (g.n < 2 ^ (64 * k)) && neg g.n nInv && g.arrays.getD 7 0 == 2 ^ (128 * k) % g.n && cof != 0
    else if kind = 5 then nInv == 0 else orderBits == 0 && nInv == 0 && cof == 0
  let size : Bool := if kind ≤ 2 then decide (1 ≤ k ∧ k ≤ 64) else decide (4 ≤ k ∧ k ≤ 9)
  if head ∧ ((1 ≤ kind ∧ kind ≤ 5 ∧ size ∧ modular ∧ order) ∨ ((kind = 6 ∨ kind = 7) ∧ poly)) then .ok g else .error .inputRange

/-! ### Times in BCLK cycles -/

/-- ⌈k/6⌉. -/
def c6 (k : Nat) : Nat := (k + 5) / 6
/-- t_add. -/
def tAdd (k : Nat) : Nat := c6 k + 4
/-- t_mul. -/
def tMul (k : Nat) : Nat := 2 * k * c6 k + 8
/-- t_inv. -/
def tInv (k : Nat) : Nat := 128 * k * (c6 k + 1) + 16
/-- The ladder length of a scalar command. -/
def ladderLen (bits : Nat) (blind : Bool) : Nat := (bits + (if blind then 64 else 0) + 63) / 64 * 64
/-- The number of one bits among the low `n`. -/
def popCount (v : Nat) : Nat → Nat
  | 0 => 0
  | n + 1 => v % 2 + popCount (v / 2) n

end Sys2Proof.Machine
end

