-- ==== Sys2Proof/Machine/Poly.lean ====
section
/-!
DEFINITION. The polynomial commands of a lane (R227 to R233): transforms, chains of products, and the rounding functions of FIPS 203 and FIPS 204.
A result is canonical, or ARITH_GUARD withholds it (R234).
-/

namespace Sys2Proof.Machine

/-- A polynomial slot from 256 coefficients. -/
def ofCoeffs (cs : List Nat) : Nat := cs.foldr (fun c acc => c % 2 ^ 32 + 2 ^ 32 * acc) 0

/-- A polynomial result in limbs 0 to 127 of a slot. -/
def polyResult (slot : Nat) (cs : List Nat) : Nat := putLimbs slot 0 128 (ofCoeffs cs)

/-- The coefficients of a source, all canonical (R227, R234). -/
def canonicalCoeffs (g : Group) (v : Nat) : Arith (List Nat) :=
  let cs := coeffs v
  if cs.all fun c => decide (c < g.q) then .ok cs else guardFail

/-- A slot that holds a polynomial with every coefficient canonical (R227). -/
def canonicalSlot (g : Group) (slot v : Nat) : Nat := polyResult slot ((coeffs v).map fun c => c % g.q)

/-! ### Transforms (R227, R229) -/

/-- ζ. -/
def zeta (kind : Nat) : Nat := if kind = 6 then 1753 else 17
/-- Layers of the transform, which are also the bits that brv reverses. -/
def layersOf (kind : Nat) : Nat := if kind = 6 then 8 else 7

/-- ζ to a power below 512 modulo q. -/
def zetaPow (kind e : Nat) : Nat := powMod (if kind = 6 then 8380417 else 3329) (zeta kind) e 9

/-- The forward transform of a block: `l` layers are left, and the block is node `m` of its layer. -/
def nttBlock (kind q : Nat) : Nat → Nat → List Nat → List Nat
  | 0, _, cs => cs
  | l + 1, m, cs =>
    let n := cs.length / 2
    let z := zetaPow kind (brv (layersOf kind) m)
    let t := (cs.drop n).map fun b => z * b % q
    let a := cs.take n
    nttBlock kind q l (2 * m) (a.zipWith (fun x y => (x + y) % q) t) ++ nttBlock kind q l (2 * m + 1) (a.zipWith (fun x y => subMod q x y) t)

/-- The inverse transform of a block, without the division by the length. -/
def inttBlock (kind q : Nat) : Nat → Nat → List Nat → List Nat
  | 0, _, cs => cs
  | l + 1, m, cs =>
    let n := cs.length / 2
    let a := inttBlock kind q l (2 * m) (cs.take n)
    let b := inttBlock kind q l (2 * m + 1) (cs.drop n)
    let z := zetaPow kind ((if kind = 6 then 512 else 256) - brv (layersOf kind) m)
    a.zipWith (fun x y => (x + y) % q) b ++ a.zipWith (fun x y => z * subMod q x y % q) b

/-- PNTT: the NTT of FIPS 204 or FIPS 203. -/
def pntt (g : Group) (slot a : Nat) : Arith Nat := do
  let cs ← canonicalCoeffs g a
  .ok (polyResult slot (nttBlock g.kind g.q (layersOf g.kind) 1 cs))

/-- PINTT: its inverse, with the division by the length. -/
def pintt (g : Group) (slot a : Nat) : Arith Nat := do
  let cs ← canonicalCoeffs g a
  let f := if g.kind = 6 then 8347681 else 3303
  .ok (polyResult slot ((inttBlock g.kind g.q (layersOf g.kind) 1 cs).map fun c => f * c % g.q))

/-! ### Coefficient-wise commands (R230) -/

/-- PADD and PSUB. -/
def paddsub (g : Group) (sub : Bool) (slot a b : Nat) : Arith Nat := do
  let x ← canonicalCoeffs g a
  let y ← canonicalCoeffs g b
  .ok (polyResult slot (x.zipWith (fun u v => if sub then subMod g.q u v else (u + v) % g.q) y))

/-- PNORM: whether a coefficient's centred magnitude reaches a bound. -/
def pnorm (g : Group) (a bound : Nat) : Arith Bool := do
  let x ← canonicalCoeffs g a
  .ok (x.any fun c => decide (bound ≤ min c (g.q - c)))

/-! ### PMAC (R231) -/

/-- The products of two polynomials in the NTT domain: pointwise for POLY_DSA, the base-case products of FIPS 203 for POLY_KEM. -/
def products (g : Group) (x y : List Nat) : List Nat :=
  if g.kind = 6 then x.zipWith (fun u v => u * v % g.q) y
  else (List.range 256).map fun i =>
    let j := i / 2
    let a0 := x.getD (2 * j) 0
    let a1 := x.getD (2 * j + 1) 0
    let b0 := y.getD (2 * j) 0
    let b1 := y.getD (2 * j + 1) 0
    if i % 2 = 0 then (a0 * b0 + a1 * b1 % g.q * zetaPow 7 (2 * brv 7 j + 1)) % g.q else (a0 * b1 + a1 * b0) % g.q

/-- PMAC: `n` is the chain length of DST before it; the products are exact modulo q, and which representative an open chain holds is free (log
entry 52). CHAIN_END makes DST canonical. -/
def pmac (g : Group) (slot a b : Nat) (start end_ : Bool) (n : Nat) : Arith Nat := do
  let x ← canonicalCoeffs g a
  let y ← canonicalCoeffs g b
  let width := if g.kind = 6 then 2 else 4
  let old ← (if start then .ok (List.replicate 256 0)
    else if (coeffs slot).all (fun c => decide (c < g.q + n * width * g.q)) then .ok (coeffs slot) else guardFail)
  let lifted := (products g x y).zipIdx.map fun c => c.1 + g.q * (Config.pmacLift g.kind c.2 (x.getD c.2 0) (y.getD c.2 0) c.1 % width)
  let sum := old.zipWith (· + ·) lifted
  if sum.any fun c => decide (2 ^ 32 ≤ c) then guardFail
  else .ok (polyResult slot (if end_ then sum.map (· % g.q) else sum))

/-! ### Rounding (R232, R233) -/

/-- Decompose of FIPS 204: r1 and r0 modulo q. -/
def decompose (q gamma r : Nat) : Nat × Nat :=
  let al := 2 * gamma
  let m := r % al
  let low : Int := if m ≤ gamma then m else (m : Int) - al
  let diff := ((r : Int) - low).toNat
  let fin (v : Int) : Nat := if v < 0 then (v + q).toNat else v.toNat
  if diff = q - 1 then (0, fin (low - 1)) else (diff / al, fin low)

/-- Power2Round of FIPS 204 with d = 13: r1 and r0 modulo q. -/
def power2Round (q r : Nat) : Nat × Nat :=
  let m := r % 8192
  if m ≤ 4096 then ((r - m) / 8192, m) else ((r + 8192 - m) / 8192, q + m - 8192)

/-- UseHint of FIPS 204. -/
def useHint (q gamma h r : Nat) : Nat :=
  let m := (q - 1) / (2 * gamma)
  let d := decompose q gamma r
  let positive := 0 < d.2 ∧ d.2 ≤ gamma
  if h = 1 then (if positive then (d.1 + 1) % m else (d.1 + m - 1) % m) else d.1

/-- Compress of FIPS 203, ties rounded up. -/
def compress (q d x : Nat) : Nat := (2 ^ (d + 1) * x + q) / (2 * q) % 2 ^ d

/-- Decompress of FIPS 203. -/
def decompress (q d y : Nat) : Nat := (2 * q * y + 2 ^ d) / 2 ^ (d + 1)

/-- GAMMA2 of a MODE. -/
def gammaOf (mode : Nat) : Nat := if bitsOf mode 5 4 = 1 then 95232 else 261888

/-- A MODE of PROUND that R232 lists for a group kind: FUNC, GAMMA2 and D as MODE bits [3:0], [5:4] and [9:6]. -/
def proundMode (kind mode : Nat) : Bool :=
  let f := bitsOf mode 3 0
  let gm := bitsOf mode 5 4
  let d := bitsOf mode 9 6
  mode < 1024 && ((kind == 6 && f == 0 && gm == 0 && d == 0) || (kind == 6 && decide (1 ≤ f ∧ f ≤ 5) && (gm == 1 || gm == 2) && d == 0) ||
    (kind == 7 && (f == 6 || f == 7) && gm == 0 && (d == 1 || d == 4 || d == 5 || d == 10 || d == 11)))

/-- PROUND: the new DST, and the new SRCB for the functions that write it. -/
def pround (g : Group) (mode dst a b : Nat) : Arith (Nat × Option Nat) := do
  let f := bitsOf mode 3 0
  let d := bitsOf mode 9 6
  let gm := gammaOf mode
  let q := g.q
  if f = 7 then
    let cs := coeffs a
    if cs.all fun c => decide (c < 2 ^ d) then .ok (polyResult dst (cs.map (decompress q d)), none) else guardFail
  else if f = 5 then
    let h := coeffs a
    let r ← canonicalCoeffs g b
    if h.all fun c => decide (c ≤ 1) then .ok (polyResult dst (h.zipWith (useHint q gm) r), none) else guardFail
  else
    let x ← canonicalCoeffs g a
    match f with
    | 0 => .ok (polyResult dst (x.map fun r => (power2Round q r).1), some (polyResult b (x.map fun r => (power2Round q r).2)))
    | 1 => .ok (polyResult dst (x.map fun r => (decompose q gm r).1), some (polyResult b (x.map fun r => (decompose q gm r).2)))
    | 2 => .ok (polyResult dst (x.map fun r => (decompose q gm r).1), none)
    | 3 => .ok (polyResult dst (x.map fun r => (decompose q gm r).2), none)
    | 4 =>
      let r ← canonicalCoeffs g b
      .ok (polyResult dst (x.zipWith (fun z r => boolNat ((decompose q gm r).1 != (decompose q gm ((r + z) % q)).1)) r), none)
    | _ => .ok (polyResult dst (x.map (compress q d)), none)

end Sys2Proof.Machine
end

