-- ==== Sys2Proof/Machine/Lanes.lean ====
section
/-!
DEFINITION. The big-number lanes (R194 to R212): what a push is refused for, the start of a job, its commands, repeat-and-compare, and the wipe
at its end. Transfers and arithmetic commands run in the order of the job, one by one (log entry 54).
-/

namespace Sys2Proof.Machine

/-! ### Issue: encoding (R201, R204, R218, R232) -/

/-- The fields that an opcode uses. -/
structure Uses where
  d : Bool := false
  a : Bool := false
  b : Bool := false
  c : Bool := false
  g : Bool := false
  count : Bool := false
  addr : Bool := false
deriving DecidableEq, Repr

/-- Opcodes of the modular commands that read two sources. -/
def twoSource (op : Nat) : Bool := op == 0x10 || op == 0x11 || op == 0x12 || op == 0x1A || op == 0x1B

/-- The fields that a command uses; none for an unknown opcode. PROUND uses SRCB for the functions of R232 that name it, PMAC either SRCB or the
address. -/
def LaneCmd.uses (c : LaneCmd) : Option Uses :=
  let op := c.opcode
  if op = 0x00 then some { g := true }
  else if op = 0x01 then some { d := true, a := true, b := true, c := true, g := true, count := true }
  else if op = 0x02 then some { d := true, count := true, addr := true }
  else if op = 0x03 then some { a := true, count := true, addr := true }
  else if op = 0x04 then some { g := true, addr := true }
  else if twoSource op then some { d := true, a := true, b := true, g := true }
  else if op = 0x13 then some { a := true, b := true, g := true }
  else if op = 0x14 ∨ op = 0x16 ∨ op = 0x18 ∨ op = 0x19 then some { d := true, a := true, g := true }
  else if op = 0x15 then some { d := true, g := true }
  else if op = 0x17 then some { d := true, a := true, b := true, g := true, count := true }
  else if op = 0x20 ∨ op = 0x22 ∨ op = 0x23 then some { d := true, a := true, b := true, g := true }
  else if op = 0x21 then some { d := true, a := true, b := true, c := true, g := true }
  else if op = 0x30 ∨ op = 0x31 then some { d := true, a := true, g := true }
  else if op = 0x32 then some { d := true, a := true, b := !c.stream, g := true, addr := c.stream }
  else if op = 0x33 ∨ op = 0x34 then some { d := true, a := true, b := true, g := true }
  else if op = 0x35 then
    let f := bitsOf c.mode 3 0
    some { d := true, a := true, b := f == 0 || f == 1 || f == 4 || f == 5, g := true }
  else if op = 0x36 then some { a := true, g := true, addr := true }
  else if op = 0x37 then some { d := true, a := true, g := true }
  else if op = 0x38 then some { d := true, a := true, count := true }
  else if op = 0x39 then some { d := true, g := true }
  else if op = 0x3A then some {}
  else if op = 0x3B then some { count := true }
  else if op = 0x3C then some { a := true, b := true, count := true }
  else none

/-- The MODE values of an opcode (MODE is word 1 [31:16]). -/
def LaneCmd.modeOk (c : LaneCmd) : Bool :=
  let m := c.mode
  match c.opcode with
  | 0x00 => decide (m < 64)
  | 0x01 => (List.range 4).all fun i => !c.w1.testBit (8 * i + 7)
  | 0x13 => decide (m < 256)
  | 0x17 => m == 0 || m == Config.mexpPublicMode
  | 0x35 => proundMode 6 m || proundMode 7 m
  | 0x37 => Config.pcodeMode m
  | 0x38 => Config.xofMode m
  | 0x39 => Config.sampleMode m
  | _ => m == 0

/-- The group kinds of an opcode (the Groups column); any for an opcode without one, such as IMUL and IADD. -/
def kindFits (op : Nat) (mode : Nat) (g : Group) : Bool :=
  if (0x10 ≤ op ∧ op ≤ 0x16) ∨ op = 0x18 ∨ op = 0x19 then g.isMod
  else if op = 0x17 then g.isMult
  else if op = 0x20 ∨ op = 0x21 then g.kind == 3
  else if op = 0x22 then g.kind == 4
  else if op = 0x23 then g.kind == 5
  else if op = 0x35 then proundMode g.kind mode
  else if (0x30 ≤ op ∧ op ≤ 0x37) ∨ op = 0x39 then g.isPoly
  else true

/-- The masks of a VALIDATE for one slot that R204 refuses under a group kind; kind 0 stands for any group. -/
def maskRefused (kind m : Nat) : Bool :=
  ((m.testBit 4 || m.testBit 5) && (m.testBit 2 || m.testBit 3 || m.testBit 6)) || (m.testBit 5 && kind == 5) || (m.testBit 6 && kind == 2)

/-- A command needs a group descriptor. -/
def LaneCmd.needsGroup (c : LaneCmd) : Bool :=
  (c.uses.any fun u => u.g) && c.opcode != 0x00 && c.opcode != 0x04 && !(c.opcode == 0x01 && c.w1 == 0)

/-- A VALIDATE has masks that R204 refuses under a group kind. -/
def LaneCmd.masksBad (c : LaneCmd) (kind : Nat) : Bool :=
  c.opcode == 0x01 && (List.range 4).any fun i => maskRefused kind (bitsOf c.w1 (8 * i + 7) (8 * i))

/-- What the group of a command breaks: its kind, the masks of R204, the element bound of R218. -/
def LaneCmd.groupBad (c : LaneCmd) (g : Group) : Bool :=
  !kindFits c.opcode c.mode g || c.masksBad g.kind ||
    (c.opcode == 0x13 && decide (129 < (c.mode % 256 + 1) * (g.limbs + 1)))

/-- The encoding of a command by itself is broken: unknown opcode, reserved bits, unused fields, or a COUNT beyond a slot. -/
def LaneCmd.encodingBad (c : LaneCmd) (guest : Nat) : Bool :=
  match c.uses with
  | none => true
  | some u =>
    bitsOf c.w0 31 30 != 0 || (c.opcode != 0 && c.tag != 0) || !c.modeOk || c.masksBad 0 ||
      ((!u.d && c.dst != 0) || (!u.a && c.srcA != 0) || (!u.b && c.srcB != 0) || (!u.c && c.srcC != 0) || (!u.g && c.group != 0)) ||
      (!u.count && c.count != 0) || (!u.addr && c.addr != 0) || (c.opcode == 0x36 && decide (2 ^ 32 ≤ c.addr)) ||
      ((c.chainStart || c.chainEnd) && c.opcode != 0x13 && c.opcode != 0x32) || (c.stream && (c.opcode != 0x32 || guest != 0)) ||
      ((c.opcode == 0x02 || c.opcode == 0x03 || c.opcode == 0x3C) && decide (129 < c.count)) ||
      (c.opcode == 0x17 && decide (64 * 129 < c.count))

/-! ### Issue: job rules (R199, R200) -/

/-- An arithmetic command. -/
def LaneCmd.arithmetic (c : LaneCmd) : Bool :=
  decide ((0x10 ≤ c.opcode ∧ c.opcode ≤ 0x1B) ∨ (0x20 ≤ c.opcode ∧ c.opcode ≤ 0x23) ∨ (0x30 ≤ c.opcode ∧ c.opcode ≤ 0x3C))

/-- The slots that a command writes. -/
def LaneCmd.writes (c : LaneCmd) : List Nat :=
  let op := c.opcode
  if op = 0x35 then c.dst :: (if bitsOf c.mode 3 0 ≤ 1 then [c.srcB] else [])
  else if op = 0x02 ∨ (c.arithmetic ∧ op ≠ 0x13 ∧ op ≠ 0x36 ∧ op ≠ 0x3A ∧ op ≠ 0x3B ∧ op ≠ 0x3C) then [c.dst] else []

/-- A command out of the order of R199, behind the commands `o` of the open job. A LOOP_BACK needs a mark. -/
def LaneCmd.orderBad (c : LaneCmd) (o : List LaneCmd) : Bool :=
  let has (op : Nat) : Bool := o.any fun x => x.opcode == op
  match o with
  | [] => c.opcode != 0 || c.close
  | _ :: _ =>
    c.opcode == 0 || decide (256 ≤ o.length) || (c.opcode == 0x04 && (o.length != 1 || !c.close)) ||
      (c.opcode == 0x02 && (has 0x01 || c.close)) || (c.opcode == 0x01 && has 0x01) || (c.arithmetic && (!has 0x01 || has 0x03)) ||
      (c.opcode == 0x03 && (!has 0x01 || decide (4 ≤ (o.filter fun x => x.opcode == 0x03).length))) || (c.opcode == 0x3B && !has 0x3A)

/-- A command breaks R200. -/
def LaneCmd.repeatBad (c : LaneCmd) (o : List LaneCmd) : Bool :=
  (o.head?.any fun j => j.repeat_) && (o.any fun x => x.opcode == 0x01) &&
    c.writes.any fun s => o.any fun x => x.opcode == 0x02 && x.dst == s

/-! ### Issue: chains (R220, R231) -/

/-- The mark that a LOOP_BACK at an index returns to. -/
def markOf (l : List LaneCmd) (i : Nat) : Nat := ((List.range i).filter fun j => (l[j]?).any fun c => c.opcode == 0x3A).getLastD 0

/-- The most that a sum can reach between two clears over every execution of a job (R220): commands add `adds` and those of `clears` restart the
sum before they add. Each LOOP_BACK may return up to its COUNT times. A path starts at the start of the job or at a clear; within a stretch
without a clear every return of a loop inside repeats the loop's sum, and one last return may lead to a mark before the stretch. -/
def worstSum (l : List LaneCmd) (adds : LaneCmd → Nat) (clears : LaneCmd → Bool) : Nat :=
  let n := l.length
  let add (i : Nat) : Nat := ((l[i]?).map adds).getD 0
  let sum (i j : Nat) : Nat := ((List.range (j - i)).map fun k => add (i + k)).sum
  let isClear (i : Nat) : Bool := (l[i]?).any clears
  let stop (i : Nat) : Nat := ((List.range n).find? fun j => decide (i ≤ j) && isClear j).getD n
  let backs := (List.range n).filter fun i => (l[i]?).any fun c => c.opcode == 0x3B
  let count (i : Nat) : Nat := ((l[i]?).map LaneCmd.count).getD 0
  let loops (i j : Nat) : Nat := ((backs.filter fun b => decide (i ≤ markOf l b ∧ i ≤ b ∧ b < j)).map fun b => count b * sum (markOf l b) b).sum
  let stretch (i : Nat) : Nat := sum i (stop i) + loops i (stop i)
  let fromClear (i : Nat) : Nat := add i + sum (i + 1) (stop (i + 1)) + loops (i + 1) (stop (i + 1))
  let wraps (i : Nat) : List Nat :=
    (backs.filter fun b => decide (i < b ∧ b < stop (i + 1) ∧ markOf l b ≤ i ∧ 0 < count b)).map fun b =>
      add i + sum (i + 1) b + loops (i + 1) b + stretch (markOf l b)
  ((List.range n).filter isClear).foldl (fun m i => (fromClear i :: wraps i).foldl max m) (stretch 0)

/-- Products that a command adds to the accumulator (R218). -/
def LaneCmd.products (c : LaneCmd) : Nat := if c.opcode = 0x13 then c.mode % 256 + 1 else 0

/-- A job breaks a chain limit: 4,096 products of the accumulator, or the chain length of a slot (R220, R231). -/
def chainBad (l : List LaneCmd) (kind : LaneCmd → Nat) : Bool :=
  decide (4096 < worstSum l LaneCmd.products fun c => c.opcode == 0x15 || (c.opcode == 0x13 && c.chainStart)) ||
    (List.range 16).any fun s =>
      let ours := l.filter fun c => c.opcode == 0x32 && c.dst == s
      let limit := if ours.any fun c => kind c == 6 then 255 else 4096
      ours != [] && decide (limit < worstSum l (fun c => if c.opcode = 0x32 ∧ c.dst = s then 1 else 0) fun c =>
        c.writes.contains s && (c.opcode != 0x32 || c.chainStart))

/-! ### Pushing (R197, R201) -/

/-- The commands of the job that is still being pushed. -/
def Lane.open_ (l : Lane) : List LaneCmd := (l.queue.reverse.takeWhile fun c => !c.close).reverse

/-- A descriptor that a command names, as it will be when the command runs: `none` while a LOADG for it is queued before it (log entry 55). -/
def Lane.viewGroup (l : Lane) (n : Nat) : Option (Option Group) :=
  if (l.queue ++ (if l.mode.running then l.job else [])).any fun c => c.opcode == 0x04 && c.group == n then none
  else some ((l.groups.find? fun g => g.1 == n).map (·.2))

/-- The commands of a job in the order of their execution: a job with REPEAT runs those behind VALIDATE twice (R207). -/
def twice (job : List LaneCmd) : List LaneCmd :=
  if (job.head?.any fun j => j.repeat_) ∧ (job.getLast?.any fun c => c.close) then job ++ (job.dropWhile fun x => x.opcode != 0x01).drop 1 else job

/-- The status of a push (R201), in the order of its table. What a group decides is left to the start of the job while a LOADG for it is queued
(log entry 55). -/
def State.issueStatus (s : State) (sp : SpanId) (k : Nat) (c : LaneCmd) : Status :=
  let l := s.lane sp k
  let o := l.open_
  let kind (x : LaneCmd) : Nat := (((l.viewGroup x.group).bind id).map fun g => g.kind).getD 7
  let grp : Bool := c.needsGroup && (match l.viewGroup c.group with
    | none => false
    | some none => true
    | some (some g) => c.groupBad g)
  if l.refusing ∧ c.opcode ≠ 0 then .commandFormat
  else if c.orderBad o ∨ c.encodingBad (s.laneOwner sp k) ∨ grp ∨ c.repeatBad o then .commandFormat
  else if chainBad (twice (o ++ [c])) kind then .chainLimit
  else if 512 ≤ l.depth then .resourceExhausted
  else if !(s.reg sp Reg.bneCtrl).getLsbD k ∨ s.unitState sp k ≠ 0 then .serviceUnavailable
  else .ok

/-- BNE_CMD_PUSH (R199 to R201): a write of CMD3. A refused push refuses its whole job with one completion, and later commands until the next
JOB. -/
def execBneCmdPush (sp : SpanId) (k w0 w1 w2 w3 : Nat) (s : State) : Host.Outcome State Fault Refusal :=
  if 8 ≤ k then .next s
  else
    let c : LaneCmd := ⟨w0 % 2 ^ 32, w1 % 2 ^ 32, w2 % 2 ^ 32, w3 % 2 ^ 32⟩
    let l := s.lane sp k
    let st := s.issueStatus sp k c
    let s := s.setFld sp (Fld.bneLanekIssueStatus k) st.code
    if st = .ok then .next (s.setLane sp k { l with queue := l.queue ++ [c], refusing := false })
    else
      let s := (s.bump sp (Fld.bneLanekRefusedCount k) 1).setBit sp Reg.bneEvt (24 + k) true
      let silent := l.refusing ∧ c.opcode ≠ 0
      let o := l.open_
      let s := s.setLane sp k { l with queue := l.queue.take (l.queue.length - o.length), refusing := true }
      if silent then .next s
      else
        match o.head?, c.opcode with
        | some j, _ => .next (s.addCpl sp k j.tag st c.opcode o.length 0 false)
        | none, 0 => .next (s.addCpl sp k c.tag st 0 0 0 false)
        | none, _ => .next s

/-! ### Starting (R205, R209) -/

/-- The first whole job in the queue: its commands, and what lies behind it. -/
def Lane.firstJob (l : Lane) : Option (List LaneCmd × List LaneCmd) :=
  let n := (l.queue.takeWhile fun c => !c.close).length
  if n < l.queue.length then some (l.queue.take (n + 1), l.queue.drop (n + 1)) else none

/-- A whole job starts: random values are drawn for its RAND bits (R205). It waits while the DRBG cannot supply, and completes with
SERVICE_UNAVAILABLE in the fatal state. -/
def State.startLane (s : State) (sp : SpanId) (k : Nat) : State :=
  let l := s.lane sp k
  match l.firstJob with
  | none => s
  | some (job, rest) =>
    let j := job.headD ⟨0, 0, 0, 0⟩
    if 64 ≤ l.cpls.length then s.setLane sp k { l with mode := .held }
    else if j.rand ≠ 0 ∧ s.entFatal sp then
      (s.setLane sp k { l with mode := .idle, queue := rest }).addCpl sp k j.tag .serviceUnavailable 0 0 0 false
    else
      match s.laneRandom sp j with
      | some (rnd, s) => (s.waitOver sp (.lane k)).setLane sp k (l.begin job rest rnd)
      | none => s.starved sp 1 (.lane k)

/-- LANE_JOB_START (R209): a whole job is queued on an idle lane. -/
def execLaneJobStart (sp : SpanId) (k : Nat) (s : State) : Host.Outcome State Fault Refusal :=
  let l := s.lane sp k
  if k < 8 ∧ l.mode = .idle ∧ s.unitState sp k = 0 ∧ l.nextGuest = none ∧ s.laneRoom sp then .next (s.startLane sp k) else .next s

/-- LANE_COMPLETION_POP (R209, R211): a read of CPL3 pops the head entry; a held lane starts its job. -/
def execLaneCompletionPop (sp : SpanId) (k : Nat) (s : State) : Host.Outcome State Fault Refusal :=
  let l := s.lane sp k
  if 8 ≤ k ∨ l.cpls = [] then .next s
  else
    let s := (s.setLane sp k { l with cpls := l.cpls.drop 1 }).showCpl sp k
    if l.mode = .held ∧ l.cpls.length ≤ 64 then
      let s := s.setLane sp k { s.lane sp k with mode := .idle }
      if s.laneRoom sp then .next (s.startLane sp k) else .next s
    else .next s

/-! ### Slots, groups and the way of a job -/

/-- A slot of a lane. -/
def Lane.slot (l : Lane) (i : Nat) : Nat := sparseGet 0 i l.slots

/-- Writes a slot; its chain of PMACs ends (R231). -/
def Lane.setSlot (l : Lane) (i v : Nat) : Lane :=
  { l with slots := sparseSet i v (decide (v ≠ 0)) l.slots, polyChain := l.polyChain.filter fun x => x.1 ≠ i }

/-- The group that a command names. -/
def Lane.groupOf (l : Lane) (c : LaneCmd) : Option Group := (l.groups.find? fun g => g.1 == c.group).map (·.2)

/-- REPEAT of the running job. -/
def Lane.repeats (l : Lane) : Bool := l.job.head?.any fun j => j.repeat_

/-- RAND of the running job. -/
def Lane.rand (l : Lane) : Nat := (l.job.head?.map LaneCmd.rand).getD 0

/-- The last command of a run is done (R209): the job goes to the wipe, to its second run, or to the comparison. A second run
without a command is over at once. -/
def Lane.endRun (l : Lane) (c : LaneCmd) : Lane :=
  let first := (l.job.takeWhile fun x => x.opcode != 0x01).length + 1
  let compare (l : Lane) : Lane := { l with mode := .comparing, endOpcode := c.opcode, endIndex := l.index }
  match l.mode with
  | .runSecond => compare l
  | _ =>
    if l.repeats then
      let l := { l with firstLoops := l.loops, loops := [], compared := 0, equal := true, reject := false }
      if l.job.length ≤ first then compare l else { l with mode := .runSecond, index := first }
    else l.endJob .ok c.opcode l.index

/-- A command is done, after some cycles: the next one follows, or the run ends. -/
def Lane.advance (l : Lane) (c : LaneCmd) (cycles : Nat) : Lane :=
  let l := { l with cycles := l.cycles + cycles }
  if c.close then l.endRun c else { l with index := l.index + 1 }

/-! ### Memory of a lane's owner, and the release of stores -/

/-- The physical address of a byte that a lane of the secure world, or of a guest, accesses; none if it is blocked. -/
def State.lanePa (s : State) (sp : SpanId) (k addr : Nat) (kind : AccessKind) : Option Nat :=
  let g := s.laneGuest sp k
  ((if g = 0 then some addr else s.translate sp g addr kind).filter fun pa => s.memAllows sp g pa kind)

/-- Bytes that a lane reads, or the first address that is blocked. -/
def State.laneRead (s : State) (sp : SpanId) (k addr n : Nat) : Except Nat (List Byte) :=
  (List.range n).mapM fun i =>
    match s.lanePa sp k (addr + i) .read with
    | some pa => .ok ((s.span sp).worlds.mem.read pa)
    | none => .error (addr + i)

/-- The end of a job with its stores (R196, R207, R209): they are released as the job goes into the wipe, all of them or, where one is blocked, none; then the job
ends with NOT_AUTHORISED at that STORE. What a vault job gives stays with it (R198). -/
def State.putLane (s : State) (sp : SpanId) (k : Nat) (l : Lane) : State :=
  if l.mode = .wiping ∧ l.release ∧ l.vault = none then
    let blocked (x : Staging) : Option Nat := ((List.range (8 * x.limbs)).map (x.addr + ·)).find? fun a => (s.lanePa sp k a .write).isNone
    let first := l.job.length - l.staging.length
    match (List.range l.staging.length).find? fun i => (l.staging[i]?).any fun x => (blocked x).isSome with
    | some i =>
      let s := s.setLane sp k { l.endJob .notAuthorised 0x03 (first + i) with staging := [] }
      s.violate sp (s.laneGuest sp k) (.lane k) .write none (((l.staging[i]?).bind blocked).getD 0)
    | none =>
      let write (w : Worlds) (x : Staging) : Worlds := { w with
        mem := (leBytes (8 * x.limbs) x.value).zipIdx.foldl (fun m b => m.write ((s.lanePa sp k (x.addr + b.2) .write).getD 0) b.1) w.mem }
      (s.updWorlds sp fun w => l.staging.foldl write w).setLane sp k { l with staging := [] }
  else s.setLane sp k l

/-! ### Running a command -/

/-- The value that a STORE takes (R207): the first run stages it, the second compares it with the staged one. -/
def Lane.store (l : Lane) (addr n v : Nat) : Lane :=
  if l.mode = .runFirst then { l with staging := l.staging ++ [⟨addr, n, v⟩] }
  else { l with compared := l.compared + 1, equal := l.equal && (l.staging[l.compared]?).any fun x => x.value == v }

/-- A command of a vault job (R198): its validation, the work that its arithmetic command stands for, and the STORE of its result. -/
def Lane.vaultStep (l : Lane) (j : VaultJob) (c : LaneCmd) : Lane :=
  if c.opcode = 0x01 then
    let l := { l with cycles := l.cycles + 40 + 6 * l.jobLimbs }
    if j.work.check = .ok then { l with mode := .runFirst }.advance c 0 else l.endJob j.work.check c.opcode l.index
  else if c.opcode = 0x03 then
    (l.store 0 0 (ofLe (match j.answer with | .ok f => f.flatten | .error _ => []))).advance c 0
  else if c.opcode = 0x00 then l.advance c 0
  else
    match j.answer with
    | .ok _ => l.advance c (Config.vaultCycles j.work l.index)
    | .error st => { l with cycles := l.cycles + Config.vaultCycles j.work l.index }.endJob st c.opcode l.index

/-- Runs the next command of a lane if it has an opcode and the lane is in a mode for it: the new lane, which goes into the wipe with the release of its
stores if the command was its last. -/
def State.laneCmd (s : State) (sp : SpanId) (k op : Nat) (modes : LaneMode → Bool) (f : Lane → LaneCmd → Lane) :
    Host.Outcome State Fault Refusal :=
  let l := s.lane sp k
  match l.next, l.vault with
  | some c, v => if k < 8 ∧ c.opcode = op ∧ modes l.mode then
      .next (s.putLane sp k (match v with | some j => l.vaultStep j c | none => f l c)) else .next s
  | none, _ => .next s

/-- A command that reads memory: a blocked access is a violation of the lane's world and ends the job with NOT_AUTHORISED (R196, R336). -/
def State.laneFetch (s : State) (sp : SpanId) (k op : Nat) (modes : LaneMode → Bool) (read : LaneCmd → Except Nat (List Byte))
    (f : Lane → LaneCmd → List Byte → Lane) : Host.Outcome State Fault Refusal :=
  let l := s.lane sp k
  match l.next with
  | some c =>
    match read c with
    | .ok bs => s.laneCmd sp k op modes fun l c => f l c bs
    | .error a =>
      if k < 8 ∧ c.opcode = op ∧ modes l.mode then
        .next ((s.setLane sp k (l.endJob .notAuthorised c.opcode l.index)).violate sp (s.laneGuest sp k) (.lane k) .read none a)
      else .next s
  | none => .next s

/-- The two runs. -/
def inRun : LaneMode → Bool
  | .runFirst | .runSecond => true
  | _ => false

/-- What an arithmetic command leaves where it ends its job: by default nothing, since the lane is wiped. -/
abbrev Spoil := Lane → LaneCmd → Lane

/-- An arithmetic command of a lane (R234): it takes its cycles, and gives a new lane or, at its end, ends the job with a status. -/
def Lane.arith (l : Lane) (c : LaneCmd) (cycles : Lane → LaneCmd → Group → Nat) (f : Lane → LaneCmd → Group → Arith Lane) (spoil : Spoil) : Lane :=
  match l.groupOf c with
  | none => l.endJob .commandFormat c.opcode l.index
  | some g =>
    match f l c g with
    | .ok l' => l'.advance c (cycles l c g)
    | .error st => { spoil l c with cycles := l.cycles + cycles l c g }.endJob st c.opcode l.index

/-- An arithmetic command by its opcode. -/
def State.arith (s : State) (sp : SpanId) (k op : Nat) (cycles : Lane → LaneCmd → Group → Nat) (f : Lane → LaneCmd → Group → Arith Lane)
    (spoil : Spoil := fun l _ => l) : Host.Outcome State Fault Refusal :=
  s.laneCmd sp k op inRun fun l c => l.arith c cycles f spoil

/-- A command that writes DST from the slots. -/
def State.arithDst (s : State) (sp : SpanId) (k op : Nat) (cycles : Lane → LaneCmd → Group → Nat) (f : Lane → LaneCmd → Group → Arith Nat) :
    Host.Outcome State Fault Refusal :=
  s.arith sp k op cycles fun l c g => (f l c g).map fun v => l.setSlot c.dst v

/-! ### Transfers -/

/-- JOB (R199): opens the job. -/
def execJob (sp : SpanId) (k : Nat) (s : State) : Host.Outcome State Fault Refusal :=
  s.laneCmd sp k 0x00 (· == .validating) fun l c => l.advance c 0

/-- LOAD (R196, R199): COUNT limbs from memory into DST. -/
def execLoad (sp : SpanId) (k : Nat) (s : State) : Host.Outcome State Fault Refusal :=
  s.laneFetch sp k 0x02 (· == .validating) (fun c => s.laneRead sp k c.addr (8 * c.count)) fun l c bs =>
    (l.setSlot c.dst (putLimbs (l.slot c.dst) 0 c.count (ofLe bs))).advance c 0

/-- LOADG (R202): the descriptor is read, its head first, and checked; it replaces G[GROUP] when the job passes. The descriptors of a lane occupy at
most 5,120 bytes. -/
def execLoadg (sp : SpanId) (k : Nat) (s : State) : Host.Outcome State Fault Refusal :=
  s.laneFetch sp k 0x04 (· == .validating)
    (fun c => (s.laneRead sp k c.addr 64).bind fun head => s.laneRead sp k c.addr (descriptorBytes head)) fun l c bs =>
    let l := { l with cycles := l.cycles + 16 + bs.length / 8 }
    let others := ((l.groups.filter fun x => x.1 ≠ c.group).map fun x => x.2.bytes).sum
    match parseGroup bs with
    | .error st => l.endJob st c.opcode l.index
    | .ok g =>
      if 5120 < others + bs.length then l.endJob .inputRange c.opcode l.index
      else { l with newGroup := some (c.group, g) }.endJob .ok c.opcode l.index

/-- What a descriptor that was still queued when a job was pushed decides at its validation (R201, log entry 55): COMMAND_FORMAT for a command that its group
does not fit, CHAIN_LIMIT for a chain too long for its kind. -/
def Lane.lateStatus (l : Lane) : Status :=
  let kind (x : LaneCmd) : Nat := ((l.groupOf x).map Group.kind).getD 7
  if l.job.any fun x => x.needsGroup && !((l.groupOf x).any fun g => !x.groupBad g) then .commandFormat
  else if chainBad (twice l.job) kind then .chainLimit else .ok

/-- VALIDATE (R203): 40 + 6k cycles; the first failure in the order of the slots ends the job. -/
def execValidate (sp : SpanId) (k : Nat) (s : State) : Host.Outcome State Fault Refusal :=
  s.laneCmd sp k 0x01 (· == .validating) fun l c =>
    let l := { l with cycles := l.cycles + 40 + 6 * l.jobLimbs }
    let checks : List Status := match l.groupOf c with
      | none => []
      | some g => [c.srcA, c.srcB, c.srcC, c.dst].zipIdx.map fun x => firstFail g (bitsOf c.w1 (8 * x.2 + 7) (8 * x.2)) (l.slot x.1)
    let st := ((l.lateStatus :: checks).find? fun x => x != .ok).getD .ok
    if st = .ok then { l with mode := .runFirst }.advance c 0 else l.endJob st c.opcode l.index

/-- STORE (R207). -/
def execStore (sp : SpanId) (k : Nat) (s : State) : Host.Outcome State Fault Refusal :=
  s.laneCmd sp k 0x03 inRun fun l c => (l.store c.addr c.count (limbs (l.slot c.srcA) 0 c.count)).advance c 0

/-! ### Modular commands (R213 to R225) -/

/-- MADD (R217). -/
def execMadd (sp : SpanId) (k : Nat) (s : State) : Host.Outcome State Fault Refusal :=
  s.arithDst sp k 0x10 (fun _ _ g => tAdd g.limbs) fun l c g => do
    let a ← modOperand g.limbs (l.slot c.srcA)
    let b ← modOperand g.limbs (l.slot c.srcB)
    .ok (modResult g.limbs (l.slot c.dst) (← madd g.p a b))

/-- MSUB (R217). -/
def execMsub (sp : SpanId) (k : Nat) (s : State) : Host.Outcome State Fault Refusal :=
  s.arithDst sp k 0x11 (fun _ _ g => tAdd g.limbs) fun l c g => do
    let a ← modOperand g.limbs (l.slot c.srcA)
    let b ← modOperand g.limbs (l.slot c.srcB)
    .ok (modResult g.limbs (l.slot c.dst) (← msub g.p a b))

/-- MMUL (R216). -/
def execMmul (sp : SpanId) (k : Nat) (s : State) : Host.Outcome State Fault Refusal :=
  s.arithDst sp k 0x12 (fun _ _ g => tMul g.limbs) fun l c g => do
    let a ← modOperand g.limbs (l.slot c.srcA)
    let b ← modOperand g.limbs (l.slot c.srcB)
    .ok (modResult g.limbs (l.slot c.dst) (← mmul g.p g.pInv g.limbs a b))

/-- MMAC (R218, R219, R222): E products into the accumulator; all of them count, whatever the command finds. -/
def execMmac (sp : SpanId) (k : Nat) (s : State) : Host.Outcome State Fault Refusal :=
  let counted (l : Lane) (c : LaneCmd) : Lane := { l with chain := (if c.chainStart then 0 else l.chain) + c.products }
  s.arith sp k 0x13 (fun _ c g => c.products * (g.limbs * c6 g.limbs + 2)) (spoil := counted) fun l c g => do
    let n := g.limbs + 1
    let acc ← (List.range c.products).foldlM (fun acc j => do
      let a ← modOperand g.limbs (limbs (l.slot c.srcA) (j * n) n)
      let b ← modOperand g.limbs (limbs (l.slot c.srcB) (j * n) n)
      below (acc + a * b) (2 ^ (128 * g.limbs + 16))) (if c.chainStart then 0 else l.acc)
    .ok { counted l c with acc := acc }

/-- MRED (R223): A mod p for A of up to 2k limbs. -/
def execMred (sp : SpanId) (k : Nat) (s : State) : Host.Outcome State Fault Refusal :=
  s.arithDst sp k 0x14 (fun _ _ g => 4 * tMul g.limbs + tAdd g.limbs) fun l c g => do
    let a ← wideOperand g.limbs (l.slot c.srcA)
    .ok (modResult g.limbs (l.slot c.dst) (a % g.p))

/-- MREDA (R219, R221). -/
def execMreda (sp : SpanId) (k : Nat) (s : State) : Host.Outcome State Fault Refusal :=
  let cleared (l : Lane) (_ : LaneCmd) : Lane := { l with acc := 0, chain := 0 }
  s.arith sp k 0x15 (fun _ _ g => g.limbs * c6 g.limbs + tAdd g.limbs + 8) (spoil := cleared) fun l c g => do
    let r ← mreda g.p g.pInv g.limbs l.acc
    .ok ((cleared l c).setSlot c.dst (modResult g.limbs (l.slot c.dst) r))

/-- MINV (R224). -/
def execMinv (sp : SpanId) (k : Nat) (s : State) : Host.Outcome State Fault Refusal :=
  s.arithDst sp k 0x16 (fun _ _ g => tInv g.limbs) fun l c g => do
    let a ← modOperand g.limbs (l.slot c.srcA)
    .ok (modResult g.limbs (l.slot c.dst) (← minv g.p g.limbs a))

/-- The exponent of a MEXP: COUNT bits, whose window has clear bits above them (R213). -/
def LaneCmd.exponent (c : LaneCmd) (v : Nat) : Arith Nat :=
  let e := limbs v 0 ((c.count + 63) / 64)
  below e (2 ^ c.count)

/-- The cycles of a MEXP (Timing): the binary method in the PUBLIC mode, the fixed window otherwise. -/
def mexpCycles (l : Lane) (c : LaneCmd) (g : Group) : Nat :=
  let e := limbs (l.slot c.srcB) 0 ((c.count + 63) / 64)
  let b := (c.count + (if l.rand.testBit 0 ∧ g.kind = 1 then 112 else 0) + 3) / 4 * 4
  if c.mode ≠ 0 then (bitLen e + popCount e c.count) * tMul g.limbs
  else (5 * b / 4 + 16) * tMul g.limbs + b / 4 * 16 * c6 g.limbs

/-- MEXP (R225). -/
def execMexp (sp : SpanId) (k : Nat) (s : State) : Host.Outcome State Fault Refusal :=
  s.arithDst sp k 0x17 mexpCycles fun l c g => do
    let a ← modOperand g.limbs (l.slot c.srcA)
    let a ← correct g.p 2 a
    let e ← c.exponent (l.slot c.srcB)
    .ok (modResult g.limbs (l.slot c.dst) (powMod g.p a e c.count))

/-- CONV_IN (R216, R217): MMUL by ρ² mod p. -/
def execConvIn (sp : SpanId) (k : Nat) (s : State) : Host.Outcome State Fault Refusal :=
  s.arithDst sp k 0x18 (fun _ _ g => tMul g.limbs) fun l c g => do
    let a ← modOperand g.limbs (l.slot c.srcA)
    .ok (modResult g.limbs (l.slot c.dst) (← mmul g.p g.pInv g.limbs a g.rho2))

/-- CONV_OUT (R216, R217): MMUL by 1. -/
def execConvOut (sp : SpanId) (k : Nat) (s : State) : Host.Outcome State Fault Refusal :=
  s.arithDst sp k 0x19 (fun _ _ g => tMul g.limbs) fun l c g => do
    let a ← modOperand g.limbs (l.slot c.srcA)
    .ok (modResult g.limbs (l.slot c.dst) (← mmul g.p g.pInv g.limbs a 1))

/-- A slot's value from a full product or sum, of which a slot holds 129 limbs (log entry 55). -/
def slotPart (old n v : Nat) : Nat := putLimbs old 0 (min n 129) (v % 2 ^ (64 * min n 129))

/-- IMUL (R214). -/
def execImul (sp : SpanId) (k : Nat) (s : State) : Host.Outcome State Fault Refusal :=
  s.arithDst sp k 0x1A (fun _ _ g => g.limbs * c6 g.limbs) fun l c g => do
    let a ← scalarOperand g.limbs (l.slot c.srcA)
    let b ← scalarOperand g.limbs (l.slot c.srcB)
    .ok (slotPart (l.slot c.dst) (2 * g.limbs) (a * b))

/-- IADD (R214): the carry goes to bit 0 of limb 2k. -/
def execIadd (sp : SpanId) (k : Nat) (s : State) : Host.Outcome State Fault Refusal :=
  s.arithDst sp k 0x1B (fun _ _ g => c6 (2 * g.limbs) + 4) fun l c g => do
    let a ← wideOperand g.limbs (l.slot c.srcA)
    let b ← wideOperand g.limbs (l.slot c.srcB)
    .ok (slotPart (l.slot c.dst) (2 * g.limbs + 1) (a + b))

/-! ### Curve commands (R225) -/

/-- The ladder length of a scalar command of the running job (R226). -/
def ladderOf (l : Lane) (g : Group) (blinds : Bool) : Nat := ladderLen g.orderBits (blinds && l.rand.testBit 0)

/-- ESMUL. -/
def execEsmul (sp : SpanId) (k : Nat) (s : State) : Host.Outcome State Fault Refusal :=
  s.arithDst sp k 0x20 (fun l _ g => ladderOf l g true * (22 * tMul g.limbs + 6 * tAdd g.limbs)) fun l c g =>
    esmul g (l.slot c.dst) (l.slot c.srcA) (l.slot c.srcB)

/-- DSMUL. -/
def execDsmul (sp : SpanId) (k : Nat) (s : State) : Host.Outcome State Fault Refusal :=
  s.arithDst sp k 0x21 (fun l _ g => ladderOf l g false * (58 * tMul g.limbs + 6 * tAdd g.limbs)) fun l c g =>
    dsmul g (l.slot c.dst) (l.slot c.srcA) (l.slot c.srcB) (l.slot c.srcC)

/-- EDMUL. -/
def execEdmul (sp : SpanId) (k : Nat) (s : State) : Host.Outcome State Fault Refusal :=
  s.arithDst sp k 0x22 (fun l _ g => ladderOf l g true * (16 * tMul g.limbs + 10 * tAdd g.limbs)) fun l c g =>
    edmul g (l.slot c.dst) (l.slot c.srcA) (l.slot c.srcB)

/-- XMUL. -/
def execXmul (sp : SpanId) (k : Nat) (s : State) : Host.Outcome State Fault Refusal :=
  s.arithDst sp k 0x23 (fun _ _ g => g.modBits * (10 * tMul g.limbs + 8 * tAdd g.limbs)) fun l c g =>
    xmul g (l.slot c.dst) (l.slot c.srcA) (l.slot c.srcB)

/-! ### Polynomial commands (R227 to R233) -/

/-- PNTT (R229). -/
def execPntt (sp : SpanId) (k : Nat) (s : State) : Host.Outcome State Fault Refusal :=
  s.arithDst sp k 0x30 (fun _ _ g => if g.kind = 6 then 528 else 464) fun l c g => pntt g (l.slot c.dst) (l.slot c.srcA)

/-- PINTT (R229). -/
def execPintt (sp : SpanId) (k : Nat) (s : State) : Host.Outcome State Fault Refusal :=
  s.arithDst sp k 0x31 (fun _ _ g => if g.kind = 6 then 672 else 608) fun l c g => pintt g (l.slot c.dst) (l.slot c.srcA)

/-- PMAC with its second operand from a slot, or streamed from memory as 1,024 bytes (R196, R231). -/
def execPmac (sp : SpanId) (k : Nat) (s : State) : Host.Outcome State Fault Refusal :=
  let cycles (_ : Lane) (c : LaneCmd) (g : Group) : Nat := (if g.kind = 6 then 144 else 336) + (if c.stream then 86 else 0)
  let run (l : Lane) (c : LaneCmd) (g : Group) (b : Nat) : Arith Lane := do
    let n := sparseGet 0 c.dst l.polyChain
    let v ← pmac g (l.slot c.dst) (l.slot c.srcA) b c.chainStart c.chainEnd n
    let m := if c.chainStart then 1 else n + 1
    .ok { l.setSlot c.dst v with polyChain := sparseSet c.dst m true l.polyChain }
  if (s.lane sp k).next.any fun c => c.stream then
    s.laneFetch sp k 0x32 inRun (fun c => s.laneRead sp k c.addr 1024) fun l c bs => l.arith c cycles (fun l c g => run l c g (ofLe bs)) fun l _ => l
  else s.arith sp k 0x32 cycles fun l c g => run l c g (l.slot c.srcB)

/-- PADD (R230). -/
def execPadd (sp : SpanId) (k : Nat) (s : State) : Host.Outcome State Fault Refusal :=
  s.arithDst sp k 0x33 (fun _ _ _ => 80) fun l c g => paddsub g false (l.slot c.dst) (l.slot c.srcA) (l.slot c.srcB)

/-- PSUB (R230). -/
def execPsub (sp : SpanId) (k : Nat) (s : State) : Host.Outcome State Fault Refusal :=
  s.arithDst sp k 0x34 (fun _ _ _ => 80) fun l c g => paddsub g true (l.slot c.dst) (l.slot c.srcA) (l.slot c.srcB)

/-- PROUND (R232, R233). -/
def execPround (sp : SpanId) (k : Nat) (s : State) : Host.Outcome State Fault Refusal :=
  s.arith sp k 0x35 (fun _ _ _ => 144) fun l c g => do
    let r ← pround g c.mode (l.slot c.dst) (l.slot c.srcA) (l.slot c.srcB)
    let l := match r.2 with | some v => l.setSlot c.srcB v | none => l
    .ok (l.setSlot c.dst r.1)

/-- PNORM (R230). -/
def execPnorm (sp : SpanId) (k : Nat) (s : State) : Host.Outcome State Fault Refusal :=
  s.arith sp k 0x36 (fun _ _ _ => 80) fun l c g => do
    .ok { l with reject := l.reject || (← pnorm g (l.slot c.srcA) (c.addr % 2 ^ 32)) }

/-- PCODE (log entry 53): packs or unpacks one polynomial; what is packed must be canonical (R234). -/
def execPcode (sp : SpanId) (k : Nat) (s : State) : Host.Outcome State Fault Refusal :=
  s.arithDst sp k 0x37 (fun _ _ _ => 114) fun l c g => do
    let v := l.slot c.srcA
    if Config.pcodePacks c.mode then
      let _ ← canonicalCoeffs g v
      .ok (Config.pcode c.mode g.kind v % 2 ^ (64 * 129))
    else .ok (canonicalSlot g (l.slot c.dst) (Config.pcode c.mode g.kind v))

/-- XOF (log entry 53): one absorb or squeeze, 1,278 cycles per permutation. -/
def execXof (sp : SpanId) (k : Nat) (s : State) : Host.Outcome State Fault Refusal :=
  s.laneCmd sp k 0x38 inRun fun l c =>
    let r := Config.xof c.mode c.count l.xof (l.slot c.srcA) (l.slot c.dst)
    ({ l with xof := r.1 }.setSlot c.dst (r.2.1 % 2 ^ (64 * 129))).advance c (1278 * r.2.2)

/-- SAMPLE (log entry 53): one polynomial from the XOF state. -/
def execSample (sp : SpanId) (k : Nat) (s : State) : Host.Outcome State Fault Refusal :=
  s.arith sp k 0x39 (fun l c g => (Config.sample c.mode g.kind l.xof).2.2) fun l c g =>
    let r := Config.sample c.mode g.kind l.xof
    .ok ({ l with xof := r.2.1 }.setSlot c.dst (canonicalSlot g (l.slot c.dst) r.1))

/-! ### Loops and comparison -/

/-- LOOP_MARK (R220). -/
def execLoopMark (sp : SpanId) (k : Nat) (s : State) : Host.Outcome State Fault Refusal :=
  s.laneCmd sp k 0x3A inRun fun l c => { l with mark := l.index }.advance c 0

/-- LOOP_BACK (R220): with REJECT set it clears it and returns to the mark, at most COUNT times. -/
def execLoopBack (sp : SpanId) (k : Nat) (s : State) : Host.Outcome State Fault Refusal :=
  s.laneCmd sp k 0x3B inRun fun l c =>
    let n := sparseGet 0 l.index l.loops
    if !l.reject then l.advance c 2
    else if c.count ≤ n then { l with cycles := l.cycles + 2 }.endJob .resourceExhausted c.opcode l.index
    else { l with reject := false, loops := sparseSet l.index (n + 1) true l.loops, index := l.mark, cycles := l.cycles + 2 }

/-- CMP: RESULT is set if COUNT limbs are equal. -/
def execCmp (sp : SpanId) (k : Nat) (s : State) : Host.Outcome State Fault Refusal :=
  s.laneCmd sp k 0x3C inRun fun l c =>
    let r := limbs (l.slot c.srcA) 0 c.count == limbs (l.slot c.srcB) 0 c.count
    { l with result := r }.advance c (4 * c.count + 2)

/-! ### Abort and wipe (R207 to R212) -/

/-- An uncorrectable error in the memory of a lane ends its job with FAULT_MISMATCH and source MEM_ECC (R208). -/
def State.laneMemError (s : State) (sp : SpanId) (k : Nat) : State :=
  let l := s.lane sp k
  if l.mode.running then
    s.setLane sp k ({ l with memErr := true }.endJob .faultMismatch ((l.next.map LaneCmd.opcode).getD l.endOpcode) l.index)
  else s

/-- LANE_ABORT (R209): the running job ends at the present command boundary. From 8 on the operand stands for what the memory of lane `k % 8` shows the
engine (R208): an uncorrectable error, which ends the job, or single-bit errors, which are corrected and counted (log entry 54). -/
def execLaneAbort (sp : SpanId) (k : Nat) (s : State) : Host.Outcome State Fault Refusal :=
  if k < 8 then .next (s.abortLane sp k .jobCancelled)
  else if k < 16 then .next (s.laneMemError sp (k - 8))
  else .next (s.bump sp Fld.bneEccCorrCount (k / 8 - 1))

/-- The comparison at the end of the second run (R207): 4k + 2 cycles, and FAULT_MISMATCH if a store or the number of returns differs. -/
def Lane.compare (l : Lane) : Lane :=
  let total (x : List (Nat × Nat)) : Nat := (x.map (·.2)).sum
  let ok := l.equal && l.compared == l.staging.length && total l.loops == total l.firstLoops
  { l with cycles := l.cycles + 4 * l.jobLimbs + 2 }.endJob (if ok then .ok else .faultMismatch) l.endOpcode l.endIndex

/-- The report detail of a lane (R212). -/
def State.laneDetail (s : State) (sp : SpanId) (k index opcode handle cycles : Nat) : List Byte :=
  leBytes 1 k ++ leBytes 1 index ++ leBytes 1 opcode ++ leBytes 1 (s.laneGuest sp k) ++ leBytes 8 handle ++ leBytes 4 cycles

/-- A guard failure, a mismatch or an uncorrectable memory error is counted, shown and reported, with the vault object that the job used (R208, R212). -/
def State.laneError (s : State) (sp : SpanId) (k : Nat) (l : Lane) : State :=
  let handle := (l.vault.bind fun j => j.handles.head?)
  let detail := s.laneDetail sp k l.endIndex l.endOpcode (handle.getD 0) l.cycles
  let own := if s.laneGuest sp k = 0 then none else some (s.laneGuest sp k)
  let report (s : State) (bank : Nat) : State := (s.setBit sp Reg.bneEvt (8 * bank + k) true).raise sp (0x300 + 8 * bank + k) l.endStatus detail handle own
  match l.endStatus with
  | .arithGuard => report (s.bump sp (Fld.bneLanekGuardCount k) 1) 0
  | .faultMismatch => report (s.bump sp (Fld.bneLanekMismatchCount k) 1) (if l.memErr then 2 else 1)
  | _ => s

/-- A lane joins the guest that an epoch switch gave it (R197): its descriptors are cleared, and it accepts that guest's commands only. -/
def State.joinGuest (s : State) (sp : SpanId) (k : Nat) : State :=
  let l := s.lane sp k
  match l.nextGuest with
  | none => s
  | some g => (s.setLane sp k { l with groups := [], nextGuest := none, refusing := false }).setLaneGuest sp k g

/-- The completion of the job that a lane has wiped (R209, R211): that of a guest in its queue; that of a vault job goes to the secure world, which takes
it at once; that of a job whose command is gone goes nowhere. A result that is not given is counted (R208). -/
def State.finishLane (s : State) (sp : SpanId) (k : Nat) (l : Lane) : State :=
  let l := { l with cycles := l.cycles + 512 }
  let groups := match l.newGroup with
    | some n => if l.endStatus = .ok then l.groups.filter (fun x => x.1 ≠ n.1) ++ [n] else l.groups
    | none => l.groups
  let s := s.setLane sp k { l.wiped with groups := groups }
  let s := match l.vault, l.job with
    | some j, _ => ((s.setLane sp k { s.lane sp k with seq := (l.seq + 1) % 65536 }).countJob sp k l.cycles).endVault sp j l.endStatus
    | none, [] => s.countJob sp k l.cycles
    | none, j :: _ => s.addCpl sp k j.tag l.endStatus l.endOpcode l.endIndex l.cycles l.result
  let s := if l.endStatus = .ok then s else s.bump sp (Fld.bneLanekWithheldCount k) 1
  s.laneError sp k l

/-- LANE_WIPE_DONE (R209): on a COMPARING lane the comparison is over, and the lane goes into the wipe; on a WIPING lane the 512 cycles of the wipe are over,
its job completes, and the lane is IDLE. -/
def execLaneWipeDone (sp : SpanId) (k : Nat) (s : State) : Host.Outcome State Fault Refusal :=
  let l := s.lane sp k
  if 8 ≤ k then .next s
  else
    match l.mode with
    | .comparing => .next (s.putLane sp k l.compare)
    | .wiping => .next ((s.finishLane sp k l).joinGuest sp k)
    | _ => .next s

end Sys2Proof.Machine
end

