-- ==== Sys2Proof/Machine/Reports.lean ====
section
/-!
DEFINITION. Reports and standard queues (R394 to R415): the intake of reports, the report queue and its registers, the ring of the secure world,
reports of the hub die, and the report commands.
-/

namespace Sys2Proof.Machine

/-- The 32 bytes of a report (R406). -/
def reportBytes (r : Report) : List Byte :=
  leBytes 2 r.seq ++ leBytes 2 (r.source % 4096 + 4096 * r.cls) ++ leBytes 2 r.code.code ++ leBytes 1 r.die.code ++
    leBytes 1 (boolNat r.suppressed) ++ leBytes 8 (tai64 r.time) ++ padBytes 16 r.detail

/-- Changes the error hub of a span. -/
def State.updErr (s : State) (sp : SpanId) (f : ErrHub → ErrHub) : State := s.upd sp fun x => { x with err := f x.err }

/-- Shows the report queue in its registers (Standard queue registers). -/
def State.showErrQ (s : State) (sp : SpanId) : State :=
  let q := (s.span sp).err.queue
  let s := s.setFld sp Fld.errQCountCount q.count
  (s.setFld sp Fld.errQSeqE q.e).setFld sp Fld.errQSeqW q.w

/-- Queues a report with the sequence number of the span's report queue (R396, R409); an entry that it overwrites is lost. -/
def State.queueReport (s : State) (sp : SpanId) (r : Report) : State :=
  let q := (s.span sp).err.queue
  let p := q.push reportDepth { r with seq := q.w }
  let s := s.updErr sp fun e => { e with queue := p.1 }
  let s := if p.2 then (s.bump sp Fld.errQLostLostCnt 1).setFld sp Fld.errEvtLost 1 else s
  (s.setFld sp Fld.errEvtQueued 1).showErrQ sp

/-- REPORT_INTAKE (R408, R410): in one FCLK cycle the oldest hub report, else the pending report of the lowest source, is queued. -/
def execReportIntake (sp : SpanId) (s : State) : Host.Outcome State Fault Refusal :=
  let e := (s.span sp).err
  match e.hubWait with
  | r :: t => .next ((s.updErr sp fun e => { e with hubWait := t }).queueReport sp r)
  | [] =>
    match e.srcs.find? fun x => x.pending.isSome with
    | none => .next s
    | some x =>
      match x.pending with
      | none => .next s
      | some r =>
        .next ((s.updErr sp fun e => { e with srcs := srcPut x.queue e.srcs }).queueReport sp { r with suppressed := x.suppressed })

/-- QUOTA_WINDOW_ROLL (R408): a new millisecond begins, and every source may queue eight reports again. The hub die counts its own
milliseconds. -/
def execQuotaWindowRoll (d : Die) (s : State) : Host.Outcome State Fault Refusal :=
  match d with
  | .span sp =>
    let w := s.now sp / ms
    if (s.span sp).err.window = w then .next s
    else .next (s.updErr sp fun e => { e with window := w, srcs := e.srcs.map fun x => { x with queued := 0 } })
  | .hub =>
    let w := s.elapsed / ms
    if s.hub.window = w then .next s
    else .next (s.updHub fun h => { h with window := w, srcs := h.srcs.map fun x => { x with queued := 0 } })

/-- HUB_REPORT_ARRIVAL (R20, R407, R410): a report of the hub die arrives: counter, class bit and response, and it waits for the intake. -/
def execHubReportArrival (sp : SpanId) (s : State) : Host.Outcome State Fault Refusal :=
  let l := match sp with | .a => s.hub.toA | .b => s.hub.toB
  match l with
  | [] => .next s
  | r :: t =>
    if !(s.span sp).cont.hubLink then .next s
    else
      let s := s.updHub fun h => match sp with | .a => { h with toA := t } | .b => { h with toB := t }
      let r := { r with time := s.now sp }
      let x := srcGet r.source (s.span sp).err.srcs
      let s := s.updErr sp fun e => { e with
        srcs := srcPut { x with count := satInc32 x.count 1, last := r.time } e.srcs, hubWait := e.hubWait ++ [r] }
      let s := s.bump64 sp Reg.errRaisedLo Reg.errRaisedHi 1
      let s := s.setReg sp Reg.errClassSticky (s.reg sp Reg.errClassSticky ||| (1 <<< r.cls))
      .next (s.respond sp r.source r.code none none)

/-- Puts an entry's words into the entry registers of the report queue. -/
def State.showErrEntry (s : State) (sp : SpanId) (r : Report) : State :=
  (List.range 8).foldl (fun s i => s.setReg sp (Reg.errQEntryn i) (BitVec.ofNat 32 (leField (reportBytes r) (4 * i) 4))) s

/-- One pop of the report queue through its registers (R395): at an empty queue the last value stays and UNDERRUN is set. -/
def State.popReport (s : State) (sp : SpanId) : State :=
  let p := (s.span sp).err.queue.pop
  match p.1 with
  | none => s.setFld sp Fld.errQCountUnderrun 1
  | some r => ((s.updErr sp fun e => { e with queue := p.2 }).showErrEntry sp r).showErrQ sp

/-- QUEUE_POP (R395, R404): a write of POP of the report queue, the module's register-read standard queue. -/
def execQueuePop (sp : SpanId) (s : State) : Host.Outcome State Fault Refusal := .next (s.popReport sp)

/-- The secure world of a span runs (R437). -/
def State.secureUp (s : State) (sp : SpanId) : Bool := decide (4 ≤ (s.span sp).boot.stage) && (s.span sp).boot.resetDue.isNone

/-- REPORT_DRAIN (R414): the secure world pops every entry into its ring, in order. -/
def execReportDrain (sp : SpanId) (s : State) : Host.Outcome State Fault Refusal :=
  if !s.secureUp sp then .next s
  else
    .next ((s.span sp).err.queue.entries.foldl (fun s r =>
      (s.popReport sp).updErr sp fun e => { e with ring := (e.ring.push ringDepth r).1 }) s)

/-- The entry of a ring with a sequence number, if its slot holds it (R396). -/
def StdQueue.slot {α : Type} (q : StdQueue α) (seq : Nat) : Option α :=
  let back := (q.w + 65536 - seq) % 65536
  if 1 ≤ back ∧ back ≤ q.entries.length then q.entries[q.entries.length - back]? else none

/-- Where a consumer stands in a dual-clock queue: the SEQ it expects, the entries lost so far, and whether it was lapped (R397). -/
structure Reader where
  e : Nat
  lost : Nat
  lapped : Bool
deriving DecidableEq, Repr

/-- One pop of a dual-clock queue of depth `d` (R397): the entry, or none if there is none; a lap moves the consumer on and the pop is repeated
once. -/
def StdQueue.lapPop {α : Type} (d : Nat) (q : StdQueue α) (r : Reader) : Option α × Reader :=
  let avail (e : Nat) := (q.w + 65536 - e) % 65536
  let try_ (e : Nat) : Option α := if avail e ≤ d then q.slot e else none
  if avail r.e = 0 then (none, r)
  else
    match try_ r.e with
    | some x => (some x, { r with e := (r.e + 1) % 65536 })
    | none =>
      let e := (q.w + 65536 - d + d / 4) % 65536
      let r := { r with e := e, lost := satInc32 r.lost ((e + 65536 - r.e) % 65536), lapped := true }
      match try_ e with
      | some x => (some x, { r with e := (e + 1) % 65536 })
      | none => (none, r)

/-- Up to `n` pops of a dual-clock queue: the entries, oldest first. -/
def StdQueue.lapRead {α : Type} (d : Nat) (q : StdQueue α) : Nat → Reader → List α × Reader
  | 0, r => ([], r)
  | n + 1, r =>
    match q.lapPop d r with
    | (none, r) => ([], r)
    | (some x, r) => let t := q.lapRead d n r; (x :: t.1, t.2)

/-- Who may use the report commands (R414, R415): any session on the management service, or the monitor with the REPORTS right. -/
def State.reportsMay (s : State) (c : Caller) : Bool :=
  match c.origin with
  | .monitor => s.monRight 0
  | .mgmt _ _ => ((s.span c.span).rep.sessionOf c).isSome
  | _ => false

/-- ERR_READ (R414, R397): from the ring of a span, from the caller's E on. -/
def execErrRead (c : Caller) (sp : SpanId) (e count : Nat) (s : State) : Host.Outcome State Fault Refusal :=
  s.monEntry c <|
  if !s.started c 0x0A02 [] then .next s
  else if (s.span c.span).rep.epoch = 0 ∧ !c.epochZero 0x0A02 then .next (s.complete c .staleEpoch [])
  else
    let s := (s.touch c).lineFor c sp
    if !s.reportsMay c then .next (s.complete c .notAuthorised [])
    else if count < 1 ∨ 256 < count ∨ 65536 ≤ e then .next (s.complete c .inputRange [])
    else if !s.secureUp sp then .next (s.complete c .serviceUnavailable [])
    else
      let r := (s.span sp).err.ring.lapRead ringDepth count ⟨e, 0, false⟩
      .next (s.complete c .ok (s.isolatedLine c sp ++ [r.1.flatMap reportBytes, num r.2.e, num r.2.lost]))

/-- ERR_ACK (R415). -/
def execErrAck (c : Caller) (mask : Nat) (s : State) : Host.Outcome State Fault Refusal :=
  .next (s.command c 0x0A03 (.errAck mask))

end Sys2Proof.Machine
end

