-- ==== Sys2Proof/Machine/Vault.lean ====
section
/-!
DEFINITION. The vault commands (chapter Key vault, key loading and object life): those under quorum, the uses (R192), counters (R189, R190),
and the later events of destruction (R186).
-/

namespace Sys2Proof.Machine

/-! ### Commands under quorum -/

/-- KEY_GENERATE (R174, R175, R192). -/
def execKeyGenerate (c : Caller) (a : KeyGenArgs) (s : State) : Host.Outcome State Fault Refusal := .next (s.direct c (.keyGenerate a))

/-- KEY_IMPORT_SEALED (R180). -/
def execKeyImportSealed (c : Caller) (a : KeyImportArgs) (s : State) : Host.Outcome State Fault Refusal :=
  .next (s.direct c (.keyImportSealed a))

/-- KEY_UNWRAP (R181). -/
def execKeyUnwrap (c : Caller) (a : KeyUnwrapArgs) (s : State) : Host.Outcome State Fault Refusal := .next (s.direct c (.keyUnwrap a))

/-- KEY_DERIVE (R182). -/
def execKeyDerive (c : Caller) (a : KeyDeriveArgs) (s : State) : Host.Outcome State Fault Refusal := .next (s.direct c (.keyDerive a))

/-- KEY_SET_USAGE (R175). -/
def execKeySetUsage (c : Caller) (handle usage flags : Nat) (s : State) : Host.Outcome State Fault Refusal :=
  .next (s.direct c (.keySetUsage handle usage flags))

/-- KEY_SET_STATE (R176). -/
def execKeySetState (c : Caller) (handle st : Nat) (s : State) : Host.Outcome State Fault Refusal := .next (s.direct c (.keySetState handle st))

/-- KEY_DESTROY (R186). -/
def execKeyDestroy (c : Caller) (handle : Nat) (s : State) : Host.Outcome State Fault Refusal := .next (s.direct c (.keyDestroy handle))

/-- CTR_CREATE (R188). -/
def execCtrCreate (c : Caller) (initial limit : Nat) (label : List Byte) (s : State) : Host.Outcome State Fault Refusal :=
  .next (s.direct c (.ctrCreate initial limit label))

/-- CTR_DESTROY (R188). -/
def execCtrDestroy (c : Caller) (handle : Nat) (s : State) : Host.Outcome State Fault Refusal := .next (s.direct c (.ctrDestroy handle))

/-! ### Destruction (R186) -/

/-- OBJECT_DESTROYED (R176, R186): a DRAINING object has no reference on either span; a peer that is lost holds none. -/
def execObjectDestroyed (handle : Nat) (s : State) : Host.Outcome State Fault Refusal :=
  .next (s.keystoneDo fun o k => ((o.span k).rep.obj handle).bind fun x =>
    if x.state = .draining ∧ (o.span k).refs handle = 0 ∧ ((o.span k.other).refs handle = 0 ∨ (o.span k).cont.peerLost) then
      let fin := (o.span k).rep.endLasting k (.keyDestroy handle) (o.now k) .ok
      some (.eff (.dropObj handle) :: fin.1,
        { devSlate 0x0504 .ok (.span k) handle (leBytes 4 (min ((o.now k - x.changed) / us) (2 ^ 32 - 1))) with owner := x.owner } :: fin.2)
    else none)

/-- KEY_DESTROY_TIMEOUT (R186): 1 s after it executed the object still has references; it stays DRAINING. -/
def execKeyDestroyTimeout (handle : Nat) (s : State) : Host.Outcome State Fault Refusal :=
  let late (o : State) (k : SpanId) : Bool :=
    ((o.span k).rep.lastingProp (.keyDestroy handle)).isSome && ((o.span k).rep.obj handle).any fun x =>
      x.state == .draining && decide (x.changed + sec ≤ o.now k)
  let fired := match s.keystone with | some k => late (s.ordered k) k | none => false
  let s := s.keystoneDo fun o k =>
    if late o k then some ((o.span k).rep.endLasting k (.keyDestroy handle) (o.now k) .deferredTimeout) else none
  match s.keystone with
  | some k => if fired then .next (s.setFld k Fld.vltEvtDrainTimeout 1) else .next s
  | none => .next s

/-! ### Uses (R192) -/

/-- Steps 1 to 3 of R192 for a use, on the receiving span. -/
def State.vaultBars (s : State) (c : Caller) (op : Nat) : Option Status :=
  if s.isolated c.span then some .spanIsolated
  else if s.lcState = 4 then some .lifecycleState
  else if !s.vaultOpen c.span then some .serviceUnavailable
  else s.bars c op []

/-- A use that is admitted: it runs, waits while the span seeks (R271), or ends with a status of steps 1 to 3. -/
def State.use (s : State) (c : Caller) (op : Nat) (vals : List (Option (List Byte))) (run : State → State) : State :=
  if !s.started c op vals then s
  else
    match s.vaultBars c op with
    | some st => s.complete c st []
    | none => if (s.span c.span).cont.mode = .seeking then s.deferCmd c else run (s.touch c)

/-- Completes a use with its decision: fields, or a status. -/
def State.finishUse (s : State) (c : Caller) (d : Except Denial (List (List Byte))) : State :=
  match d with
  | .ok f => s.complete c .ok f
  | .error d => s.complete c d.st []

/-- The values of a scheme in a command's input (R243): SCHEME, to which the spec gives no codes, and its salt length or context. -/
def Scheme.vals : Scheme → List (Option (List Byte))
  | .rsaPss salt => [none, some (num salt)]
  | .mlDsa context => [none, some context]
  | .ecdsa | .eddsa | .rsaPkcs1 => [none, some []]

/-- The values of the key that a KEY_VERIFY names: a handle, or 0 with an inline public key and its TYPE. -/
def keyVals (h t : Nat) (inlinePub : List Byte) : List (Option (List Byte)) :=
  [some (num h)] ++ if h = 0 then [some inlinePub, some (num t)] else [none, none]

/-- KEY_SIGN up to its job. -/
def Replica.signWork (r : Replica) (c : Caller) (h : Nat) (scheme : Scheme) (msg : List Byte) : Except Denial VaultWork := do
  let o ← r.reach c h
  o.usable
  refuseIf (!(o.usage.testBit 0 && scheme.fits o.type)) .usageDenied
  refuseIf (!scheme.takes o.type msg.length) .inputRange
  .ok (.sign scheme o.type o.material msg)

/-- KEY_SIGN (R192). -/
def execKeySign (c : Caller) (handle : Nat) (scheme : Scheme) (msg : List Byte) (s : State) : Host.Outcome State Fault Refusal :=
  .next (s.use c 0x0821 (some (num handle) :: scheme.vals ++ [some msg]) fun s =>
    s.admitJob c 0x0821 [handle] ((s.span c.span).rep.signWork c handle scheme msg))

/-- The private-type code and the public key that a KEY_VERIFY or KEY_ENCAP names: a stored object with a usage bit, or an inline public key of a
type. -/
def Replica.publicOf (r : Replica) (c : Caller) (h t : Nat) (inlinePub : List Byte) (bit : Nat) : Except Denial (Nat × List Byte) := do
  if h = 0 then
    let t' := if 0x80 ≤ t then t - 0x80 else t
    refuseIf (!(permitted (0x80 + t')).testBit bit) .usageDenied
    .ok (t', inlinePub)
  else
    let o ← r.reach c h
    o.usable
    refuseIf (!o.usage.testBit bit) .usageDenied
    .ok (if publicType o.type then o.type - 0x80 else o.type, o.public)

/-- KEY_VERIFY up to its job; an encoding of another form than its standard's is malformed (R192 step 7). -/
def Replica.verifyWork (r : Replica) (c : Caller) (h t : Nat) (inlinePub : List Byte) (scheme : Scheme) (msg sig : List Byte) :
    Except Denial VaultWork := do
  let k ← r.publicOf c h t inlinePub 1
  refuseIf (!scheme.fits k.1) .usageDenied
  refuseIf (!scheme.takes k.1 msg.length || !publicForm k.1 k.2 || !scheme.sigForm k.1 sig) .inputRange
  .ok (.verify scheme k.1 k.2 msg sig)

/-- The handles that a command names: none for 0. -/
def named (h : Nat) : List Nat := if h = 0 then [] else [h]

/-- KEY_VERIFY (R192). -/
def execKeyVerify (c : Caller) (handle type : Nat) (inlinePub : List Byte) (scheme : Scheme) (msg sig : List Byte) (s : State) :
    Host.Outcome State Fault Refusal :=
  .next (s.use c 0x0822 (keyVals handle type inlinePub ++ scheme.vals ++ [some msg, some sig]) fun s =>
    s.admitJob c 0x0822 (named handle) ((s.span c.span).rep.verifyWork c handle type inlinePub scheme msg sig))

/-- KEY_AGREE up to its job (R192, RFC 7748): a peer key of another length than the curve's is invalid. -/
def Replica.agreeWork (r : Replica) (c : Caller) (h : Nat) (peer : List Byte) : Except Denial VaultWork := do
  let o ← r.reach c h
  o.usable
  refuseIf (!(o.usage.testBit 2 && (o.type == 0x1A || o.type == 0x1B))) .usageDenied
  refuseIf (peer.length != (xBase o.type).length) .notOnCurve
  .ok (.agree o.type o.material peer)

/-- KEY_AGREE (R192). -/
def execKeyAgree (c : Caller) (handle : Nat) (peer : List Byte) (s : State) : Host.Outcome State Fault Refusal :=
  .next (s.use c 0x0823 [some (num handle), some peer] fun s =>
    s.admitJob c 0x0823 [handle] ((s.span c.span).rep.agreeWork c handle peer))

/-- KEY_ENCAP up to its job (R192): the length and modulus checks of FIPS 203. -/
def Replica.encapWork (r : Replica) (c : Caller) (h t : Nat) (inlinePub : List Byte) : Except Denial VaultWork := do
  let k ← r.publicOf c h t inlinePub 3
  refuseIf (k.1 != 0x30 && k.1 != 0x31) .usageDenied
  refuseIf (!(publicForm k.1 k.2 && mlkemModulus k.2)) .inputRange
  .ok (.encap k.1 k.2)

/-- KEY_ENCAP (R192): its inputs name no TYPE, so the length of an inline key tells its parameter set (FIPS 203). -/
def execKeyEncap (c : Caller) (handle _type : Nat) (inlinePub : List Byte) (s : State) : Host.Outcome State Fault Refusal :=
  .next (s.use c 0x0824 [some (num handle), if handle = 0 then some inlinePub else none] fun s =>
    s.admitJob c 0x0824 (named handle) ((s.span c.span).rep.encapWork c handle (if inlinePub.length = 1568 then 0x31 else 0x30) inlinePub))

/-- KEY_DECAP up to its job (R192): the ciphertext lengths of ML-KEM-768 and ML-KEM-1024. -/
def Replica.decapWork (r : Replica) (c : Caller) (h : Nat) (ct : List Byte) : Except Denial VaultWork := do
  let o ← r.reach c h
  o.usable
  refuseIf (!(o.usage.testBit 4 && (o.type == 0x30 || o.type == 0x31))) .usageDenied
  refuseIf (ct.length != mlkemCtLen o.type) .inputRange
  .ok (.decap o.type o.material ct)

/-- KEY_DECAP (R192). -/
def execKeyDecap (c : Caller) (handle : Nat) (ct : List Byte) (s : State) : Host.Outcome State Fault Refusal :=
  .next (s.use c 0x0825 [some (num handle), some ct] fun s => s.admitJob c 0x0825 [handle] ((s.span c.span).rep.decapWork c handle ct))

/-! ### The unit handle (R168) -/

/-- The only unit handle: the checkpoint key CPK. -/
def unitHandle : Nat := 0xFF00000001

/-- The attribute head of the unit handle (R168). -/
def State.cpkHead (s : State) (sp : SpanId) : List Byte :=
  leBytes 8 unitHandle ++ leBytes 1 0x11 ++ leBytes 1 1 ++ leBytes 1 4 ++ leBytes 1 0xFF ++ leBytes 4 1 ++ leBytes 4 0 ++ leBytes 4 0 ++
    leBytes 4 1 ++ leBytes 2 0 ++ leBytes 2 0 ++ zeroBytes 32 ++ padBytes 32 (asciiBytes "AKN-CPK") ++ sha256 (s.cpkPublic sp)

/-- KEY_PUBLIC (R168, R192). -/
def execKeyPublic (c : Caller) (handle : Nat) (s : State) : Host.Outcome State Fault Refusal :=
  .next (s.use c 0x0826 [some (num handle)] fun s =>
    if handle = unitHandle then s.complete c .ok [s.cpkPublic c.span]
    else s.finishUse c do
      let o ← (s.span c.span).rep.reach c handle
      refuseIf (symmetricType o.type) .usageDenied
      .ok [o.public])

/-- KEY_INFO (R168, R192). -/
def execKeyInfo (c : Caller) (handle : Nat) (s : State) : Host.Outcome State Fault Refusal :=
  .next (s.use c 0x0827 [some (num handle)] fun s =>
    if handle = unitHandle then s.complete c .ok [s.cpkHead c.span]
    else s.finishUse c do
      let o ← (s.span c.span).rep.reach c handle
      .ok [o.head ((s.span c.span).stream.slotRefs handle)])

/-- KEY_LIST (R192): the handles from a SERIAL on that the caller may address, each with its STATE. -/
def execKeyList (c : Caller) (first count : Nat) (s : State) : Host.Outcome State Fault Refusal :=
  .next (s.use c 0x0828 [some (num first), some (num count)] fun s =>
    let r := (s.span c.span).rep
    if count < 1 ∨ 256 < count then s.complete c .inputRange []
    else
      let l := (r.objs.filter fun o => r.mayAddress c o.owner && decide (first ≤ o.handle % 2 ^ 32)).take count
      s.complete c .ok [l.flatMap fun o => leBytes 8 o.handle ++ leBytes 8 o.state.code])

/-- CTR_READ (R190, R192). -/
def execCtrRead (c : Caller) (handle : Nat) (s : State) : Host.Outcome State Fault Refusal :=
  .next (s.use c 0x0829 [some (num handle)] fun s => s.finishUse c do
    let r := (s.span c.span).rep
    let k ← r.reachCtr (r.mayAddress c) handle
    .ok [num k.value, num k.limit])

/-- CTR_INCR (R189): ordered by the keystone span. -/
def execCtrIncr (c : Caller) (handle step : Nat) (s : State) : Host.Outcome State Fault Refusal :=
  .next (s.use c 0x082A (KCmd.ctrIncr handle step).inputs fun s =>
    let r := (s.span c.span).rep
    let check : Except Denial Unit := do
      let _ ← r.reachCtr (r.mayAddress c) handle
      refuseIf (decide (step < 1 ∨ 4096 < step)) .inputRange
    match check with
    | .error d => s.complete c d.st []
    | .ok _ => s.submit c.span (lateChange c.span (some c) (.ctrIncr handle step)))

/-- KEY_EXPORT_SEALED up to its nonce (R179). -/
def State.exportWork (s : State) (c : Caller) (wrapping h : Nat) : Except Denial VaultWork := do
  let r := (s.span c.span).rep
  let w ← r.reach c wrapping
  let o ← r.reach c h
  w.usable
  o.usable
  refuseIf (!(w.type == 2 && w.usage.testBit 5)) .usageDenied
  refuseIf (!(o.owner == w.owner && o.exportable)) .usageDenied
  .ok (.seal o (s.unitId c.span) w.material)

/-- KEY_EXPORT_SEALED (R179). -/
def execKeyExportSealed (c : Caller) (wrapping handle : Nat) (s : State) : Host.Outcome State Fault Refusal :=
  .next (s.use c 0x082B [some (num wrapping), some (num handle)] fun s =>
    s.admitJob c 0x082B [wrapping, handle] (s.exportWork c wrapping handle))

end Sys2Proof.Machine
end

