-- ==== Sys2Proof/Machine/Host.lean ====
section
/-!
DEFINITION. The host ports (R235 to R258): doorbells, fetch, the checks that start a descriptor, deferral, cancellation, configuration of queue
pairs, and function resets.
-/

namespace Sys2Proof.Machine

/-! ### Doorbells (R241) -/

/-- Sets an event bit of the host port. -/
def State.cfgRefused (s : State) (sp : SpanId) (fn : Nat) : State := s.hostEvt sp fn 3

/-- A doorbell write that is not accepted (R241). -/
def State.dbRange (s : State) (sp : SpanId) (fn : Nat) : State := (s.hostEvt sp fn 2).raiseQuiet sp 0x180 .inputRange []

/-- SQ_DOORBELL (R237, R241). -/
def execSqDoorbell (sp : SpanId) (fn queue v : Nat) (s : State) : Host.Outcome State Fault Refusal :=
  match s.localQueue sp fn queue with
  | none => .next s
  | some n =>
    let q := (s.span sp).host.queue n
    if q.enabled ∧ !q.draining ∧ v < q.size then .next (s.updHost sp fun h => h.setQueue { q with sqTail := v }) else .next (s.dbRange sp fn)

/-- CQ_DOORBELL (R237, R241): the head may move from where it is up to the tail. -/
def execCqDoorbell (sp : SpanId) (fn queue v : Nat) (s : State) : Host.Outcome State Fault Refusal :=
  match s.localQueue sp fn queue with
  | none => .next s
  | some n =>
    let q := (s.span sp).host.queue n
    let up := (v + q.size - q.cqHead) % q.size
    if q.enabled ∧ v < q.size ∧ up ≤ (q.cqTail + q.size - q.cqHead) % q.size then
      .next (s.updHost sp fun h => h.setQueue { q with cqHead := v })
    else .next (s.dbRange sp fn)

/-! ### Fetch (R242) -/

/-- The largest input (Descriptor, IN_LEN). -/
def inLenMax : Nat := 4198400

/-- A descriptor's 64 bytes as the in-flight entry that its fetch makes. -/
def descriptor (queue fn slot : Nat) (d : List Byte) (input : Option (List Byte)) (now : Nat) : InFlight :=
  { queue := queue, fn := fn, slot := slot, cid := leField d 4 2, opcode := leField d 0 2, flags := leField d 2 2
    reserved := decide (4 ≤ leField d 2 2) || leField d 6 2 != 0 || !((sliceBytes d 0x2C 20).all (· == 0))
    epoch := leField d 8 8, session := leField d 0x10 4, inLen := leField d 0x14 4, inAddr := leField d 0x18 8, outAddr := leField d 0x20 8
    outLen := leField d 0x28 4, input := input, stage := .fetched, since := now, silent := false, outFails := false, cqFails := false }

/-- The conditions of R242 for a fetch from a queue pair. -/
def State.mayFetch (s : State) (sp : SpanId) (n fn : Nat) : Bool :=
  let h := (s.span sp).host
  let q := h.queue n
  let f := h.fnState fn
  let mine := (h.inflight.filter fun d => d.queue == n).length
  let unread := (q.cqTail + q.size - q.cqHead) % q.size
  q.enabled && !q.draining && !q.error && q.sqHead != q.sqTail && decide (s.fld sp Fld.hostInflightSpanTotal < inflightMax) &&
    decide (s.fld sp (Fld.hostFnnCreditsInFlight fn) < s.fld sp (Fld.hostFnnCreditsCap fn)) && decide (mine + unread + 1 < q.size) &&
    s.fld sp Fld.hostCtrlFetchEn == 1 && f.d0 && f.busMaster && !f.flr

/-- The guest's queue pair may fetch: R242 with CAP in place of the function's credits and state RUNNING in place of condition 4 (R324). -/
def State.mayFetchGuest (s : State) (sp : SpanId) (g : Nat) (x : Guest) (q : QueuePair) : Bool :=
  let mine := (x.inflight.filter fun d => d.queue == q.n).length
  let unread := (q.cqTail + q.size - q.cqHead) % q.size
  q.enabled && !q.draining && !q.error && q.sqHead != q.sqTail && decide (s.fld sp Fld.hostInflightSpanTotal < inflightMax) &&
    decide (x.inflight.length < s.fld sp (Fld.kprGuestgInflightCap g)) && decide (mine + unread + 1 < q.size) &&
    s.fld sp (Fld.kprGuestgStateState g) == 2

/-- The fetch of a vault call (R324): descriptor and input are read from the guest's memory; a read that fails delivers zeros and is a
violation of the guest's world (R336). -/
def State.fetchGuest (s : State) (sp : SpanId) (g queue : Nat) : State :=
  match s.guest sp g with
  | none => s
  | some x =>
    let q := x.queue queue
    if !s.mayFetchGuest sp g x q then s
    else
      let at_ := q.sqBase + 64 * q.sqHead
      match s.guestRead sp g at_ 64 with
      | none =>
        (s.updGuest sp g fun x => x.setQueue { q with error := true }).violateGuest sp g .vcDma .read at_
      | some bs =>
        let d := descriptor queue (g - 1) q.sqHead bs none s.elapsed
        let input := if d.inLen ≤ inLenMax then s.guestRead sp g d.inAddr d.inLen else none
        let s := (s.updGuest sp g fun x =>
          { x.setQueue { q with sqHead := (q.sqHead + 1) % q.size } with inflight := x.inflight ++ [{ d with input := input }] }).showInflight sp
        if input = none ∧ d.inLen ≤ inLenMax then s.violateGuest sp g .vcDma .read d.inAddr else s

/-- The queue pair that a port serves next (R242): the pair of the running burst while it may go on and has had fewer than eight descriptors, else the
next pair in rotation that may fetch. -/
def State.nextFetch (s : State) (sp : SpanId) : Option Nat :=
  let h := (s.span sp).host
  let may (n : Nat) : Bool := (s.fnOfQueue sp n).any fun fn => s.mayFetch sp n fn
  if h.turn.2 < 8 ∧ may h.turn.1 then some h.turn.1
  else
    let l := (h.queues.map (·.n)).filter may
    match l.find? fun n => decide (h.turn.1 < n) with
    | some n => some n
    | none => l.head?

/-- DESCRIPTOR_FETCH (R242): the descriptor at the head of a queue pair and, unless its read fails, its input. The operands are what the host's
memory holds; a vault call of guest `g` is read from the guest's memory (R324). A pair whose turn it is not keeps its descriptor in the ring. -/
def execDescriptorFetch (sp : SpanId) (g : Option Nat) (queue : Nat) (desc : List Byte) (input : Option (List Byte)) (s : State) :
    Host.Outcome State Fault Refusal :=
  match g with
  | some g => .next (s.fetchGuest sp g queue)
  | none =>
    match s.fnOfQueue sp queue with
    | none => .next s
    | some fn =>
      if !s.mayFetch sp queue fn ∨ s.nextFetch sp ≠ some queue then .next s
      else
        let q := (s.span sp).host.queue queue
        let d := descriptor queue fn q.sqHead desc input s.elapsed
        let s := s.updHost sp fun h =>
          { h.setQueue { q with sqHead := (q.sqHead + 1) % q.size } with
            inflight := h.inflight ++ [d]
            turn := (queue, if (q.sqHead + 1) % q.size = q.sqTail then 8 else if h.turn.1 = queue ∧ h.turn.2 < 8 then h.turn.2 + 1 else 1) }
        .next (s.showInflight sp)

/-! ### The checks that start a descriptor (R243 to R247) -/

/-- What an input field holds (R243): a number or a byte string, or one of them that may be absent. -/
inductive FieldKind where
  | number
  | bytes
  | optNumber
  | optBytes
deriving DecidableEq, Repr

/-- The input fields of an opcode that a host port accepts, as its chapter lists its inputs; a scheme's salt length or context is a field
of its own that may be absent (log entry 42). None for an opcode that no host port accepts (R245). -/
def inputShape (op : Nat) : Option (List FieldKind) :=
  match op with
  | 0x0501 | 0x0502 | 0x0509 | 0x050A => some [.bytes]
  | 0x0503 | 0x0504 | 0x0507 | 0x0508 => some [.number]
  | 0x0505 => some []
  | 0x0506 => some [.number, .number, .number, .number, .bytes]
  | 0x0601 => some [.number, .number, .number]
  | 0x0602 => some [.bytes, .bytes]
  | 0x0603 | 0x0613 | 0x0614 | 0x0621 | 0x0622 | 0x0624 | 0x0631 => some [.number]
  | 0x0611 => some [.number, .number, .bytes, .bytes]
  | 0x0612 => some [.number, .number, .bytes]
  | 0x0623 => some [.number, .number, .bytes]
  | 0x0632 => some [.number, .number]
  | 0x0633 => some [.number, .bytes, .number, .number, .bytes]
  | 0x0634 => some []
  | 0x0701 => some (List.replicate 9 .number ++ [.bytes])
  | 0x0702 => some (List.replicate 6 .number)
  | 0x0703 => some [.number, .number]
  | 0x0704 | 0x0705 | 0x0706 | 0x0707 | 0x0708 | 0x0709 => some [.number]
  | 0x0801 => some [.number, .number, .number, .number, .bytes, .optNumber]
  | 0x0802 => some [.number, .bytes, .number]
  | 0x0803 => some [.number, .number, .bytes, .number, .number, .number, .bytes]
  | 0x0804 => some [.number, .number, .bytes, .bytes, .number, .number, .number, .bytes]
  | 0x0805 => some [.number, .number, .number]
  | 0x0806 => some [.number, .number]
  | 0x0807 | 0x080A | 0x0826 | 0x0827 | 0x0829 => some [.number]
  | 0x0809 => some [.number, .number, .bytes]
  | 0x0821 => some [.number, .number, .optBytes, .bytes]
  | 0x0822 => some [.number, .optBytes, .optNumber, .number, .optBytes, .bytes, .bytes]
  | 0x0823 => some [.number, .bytes]
  | 0x0824 => some [.number, .optBytes]
  | 0x0825 => some [.number, .bytes]
  | 0x0828 | 0x082A | 0x082B => some [.number, .number]
  | _ => none

/-- A field is of a kind. -/
def FieldKind.fits (k : FieldKind) (f : List Byte) : Bool :=
  match k with
  | .number => f.length == 8
  | .optNumber => f.length == 0 || f.length == 8
  | .bytes | .optBytes => true

/-- The input fields of an opcode at a host port, or in a vault call, where RNG_GET is allowed too (R325). -/
def shapeFor (guest : Bool) (op : Nat) : Option (List FieldKind) := if guest ∧ op = 0x0A10 then some [.number] else inputShape op

/-- The fields of an input that matches its opcode (R243, R244 step 4). -/
def matchInput (guest : Bool) (op : Nat) (input : List Byte) : Option (List (List Byte)) :=
  (shapeFor guest op).bind fun ks => (inputFields 16 input).filter fun fs => fs.length == ks.length && (ks.zip fs).all fun x => x.1.fits x.2

/-- Bytes of an output of given field lengths (R243). -/
def outSize (lens : List Nat) : Nat := (lens.map fun n => 8 + n + (8 - n % 8) % 8).sum

/-- The length of a signature under a private-key type code. -/
def signatureLen (t : Nat) : Nat :=
  match t with
  | 0x10 | 0x18 => 64
  | 0x11 => 96
  | 0x12 => 132
  | 0x19 => 114
  | 0x20 => 256
  | 0x21 => 384
  | 0x22 => 512
  | 0x28 => 2420
  | 0x29 => 3309
  | 0x2A => 4627
  | _ => 0

/-- The length of the public key of a private type, with an RSA exponent of three bytes (log entry 42). -/
def publicLen (t : Nat) : Nat :=
  if t ≤ 0x12 then 2 * (ecCurve t).bytes + 1
  else if t ≤ 0x19 then (edCurve t).bytes
  else if t ≤ 0x1B then (xBase t).length
  else if t ≤ 0x22 then 14 + rsaBytes t
  else latticePublicLen t

/-- The lengths of the result of a ceremony step: that of its command (R72). -/
def stepResult (op : Nat) (body : List Byte) : List Nat :=
  match op with
  | 0x0801 =>
    let t := ofLe (((inputFields 16 body).getD []).headD [])
    if symmetricType t then [8] else [8, publicLen t]
  | 0x0802 | 0x0803 | 0x0804 | 0x0805 | 0x0806 | 0x0809 => [8]
  | _ => []

/-- The opcode of a step of the ceremony that holds a lock; 0 if there is none. -/
def Replica.stepOpcode (r : Replica) (lock idx : Nat) : Nat :=
  match (r.locks.find? fun l => l.owner == lock).bind fun l => r.prop l.pid with
  | some p => match p.body with
    | .ceremony steps => (steps.getD (idx - 1) (0, [])).1
    | .single _ => 0
  | none => 0

/-- The output that a command will write, as its inputs fix it (R244 step 5). Nothing for a command that a host cannot have executed
directly (R64), and for one that names no object. -/
def State.outNeed (s : State) (sp : SpanId) (op : Nat) (fs : List (List Byte)) : Nat :=
  let r := (s.span sp).rep
  let arg (i : Nat) : Nat := ofLe (fs.getD i [])
  let obj : Option KeyObj := r.obj (arg 0)
  match op with
  | 0x0501 => outSize [8, 32]
  | 0x0502 | 0x0503 | 0x0602 | 0x0622 | 0x0624 | 0x0822 | 0x082A => outSize [8]
  | 0x0505 => outSize [8, 8, 32]
  | 0x0509 => outSize [48]
  | 0x0601 => outSize [32]
  | 0x0611 => outSize [8, 32, 8]
  | 0x0612 | 0x0621 | 0x0633 | 0x0829 => outSize [8, 8]
  | 0x0614 =>
    let one := outSize (List.replicate 9 8 ++ [32, 8])
    if arg 0 = 0 then one * (r.props.filter Proposal.open_).length else one
  | 0x0623 => outSize (stepResult (r.stepOpcode (arg 0) (arg 1)) (fs.getD 2 []))
  | 0x0632 => outSize [8, 128 * arg 1]
  | 0x0634 => outSize [8, 8, 8, 8, 8]
  | 0x0709 =>
    let x := (s.span sp).stream
    outSize [(ctxBytes (x.active.ctx (arg 0))).length, (slotHead (x.active.slot (arg 0) false)).length,
      (slotHead (x.active.slot (arg 0) true)).length, (recBytes (x.rec_ (arg 0))).length]
  | 0x0821 => (obj.map fun o => outSize [signatureLen o.type]).getD 0
  | 0x0823 => (obj.map fun o => outSize [if o.type = 0x1B then 56 else 32]).getD 0
  | 0x0824 =>
    let big : Bool := if arg 0 = 0 then (fs.getD 1 []).length == 1568 else obj.any fun o => o.type % 0x80 == 0x31
    outSize [if big then 1568 else 1088, 32]
  | 0x0825 => outSize [32]
  | 0x0826 => if arg 0 = unitHandle then outSize [(s.cpkPublic sp).length] else (obj.map fun o => outSize [o.public.length]).getD 0
  | 0x0827 => outSize [128]
  | 0x0828 => outSize [16 * arg 1]
  | 0x0A10 => outSize [arg 0]
  | 0x082B => ((r.obj (arg 1)).map fun o => outSize [0x90 + o.material.length + 16]).getD 0
  | _ => 0

/-- The refusals of R244, in order, with the output size that step 5 names. -/
def State.startRefusal (s : State) (sp : SpanId) (guest : Bool) (d : InFlight) : Option (Status × Nat) :=
  if (shapeFor guest d.opcode).isNone ∨ d.reserved ∨ inLenMax < d.inLen ∨ d.inAddr % 8 ≠ 0 ∨ d.outAddr % 8 ≠ 0 then some (.descriptorFormat, 0)
  else if d.fn ≠ 0 ∧ (d.opcode / 256 = 5 ∨ d.opcode / 16 = 0x063) then some (.notAuthorised, 0)
  else
    match d.input with
    | none => some (.bufferFault, 0)
    | some b =>
      if b.length ≠ d.inLen then some (.descriptorFormat, 0)
      else
        match matchInput guest d.opcode b with
        | none => some (.descriptorFormat, 0)
        | some fs => let n := s.outNeed sp d.opcode fs; if d.outLen < n then some (.descriptorFormat, n) else none

/-- The in-flight descriptors of a queue pair before one, oldest first. -/
def before (l : List InFlight) (d : InFlight) : List InFlight := (l.takeWhile fun x => x ≠ d).filter fun x => x.queue == d.queue

/-- The caller of an in-flight descriptor, or of a vault call of a guest. -/
def InFlight.caller (d : InFlight) (sp : SpanId) (g : Option Nat) : Caller :=
  ⟨sp, match g with | none => .host d.fn d.queue d.cid | some g => .guest g d.queue d.cid, d.session, d.epoch⟩

/-- The in-flight pool of the host port, or of a guest. -/
def State.inflightOf (s : State) (sp : SpanId) (g : Option Nat) : List InFlight :=
  match g with
  | none => (s.span sp).host.inflight
  | some g => ((s.guest sp g).map (·.inflight)).getD []

/-- Changes each descriptor of the in-flight pool of the host port, or of a guest. -/
def State.mapInflight (s : State) (sp : SpanId) (g : Option Nat) (f : InFlight → InFlight) : State :=
  match g with
  | none => s.updHost sp fun h => { h with inflight := h.inflight.map f }
  | some g => s.updGuest sp g fun x => { x with inflight := x.inflight.map f }

/-- COMMAND_START (R244 to R248, R324): the next descriptor of a queue pair starts, behind no barrier (R247), with the checks of R244; from then
on its command runs (log entry 7). The operands say whether host memory will take its output and its completion (R258). -/
def execCommandStart (sp : SpanId) (g : Option Nat) (queue slot : Nat) (outFails cqFails : Bool) (s : State) : Host.Outcome State Fault Refusal :=
  match (s.inflightOf sp g).find? fun d => d.queue == queue && d.slot == slot && d.stage == .fetched with
  | none => .next s
  | some d =>
    let l := before (s.inflightOf sp g) d
    if l.any (fun x => x.stage == .fetched || x.flags % 2 == 1) ∨ (d.flags % 2 = 1 ∧ l ≠ []) then .next s
    else
      let d' := { d with
        stage := if (s.span sp).worlds.hung.isEmpty then .started else .deferred
        since := s.elapsed, outFails := outFails, cqFails := cqFails }
      let s := s.mapInflight sp g fun x => if x = d then d' else x
      match s.startRefusal sp g.isSome d' with
      | none => .next s
      | some (st, n) =>
        let s := s.dropInflight (d'.caller sp g) d'
        match g with
        | none => .next (s.writeCq sp d' st n 0 false)
        | some g => .next (s.writeGuestCq sp g d' st n 0 false)

/-! ### Waiting, cancelling (R248, R250, R251) -/

/-- Callers are one command: the same span and door. -/
def Caller.same (c d : Caller) : Bool := c.span == d.span && c.origin == d.origin

/-- A command that waits, or runs on a lane, no longer does: its job and its change are dropped, and a lane that runs it is left without a
result to give. -/
def State.dropWait (s : State) (c : Caller) : State :=
  let s := s.upd c.span fun x => { x with
    vault := { x.vault with
      jobs := x.vault.jobs.filter fun j => !j.caller.same c
      waits := x.vault.waits.filter fun y => !y.1.same c }
    cont := { x.cont with deferred := x.cont.deferred.filter fun d => !(d.change.caller.any fun y => y.same c) } }
  let s := s.updEnt c.span fun e => { e with waiting := e.waiting.filter fun x => match x.2 with | .cmd y => !y.same c | .lane _ => true }
  ((s.dropVaultLanes c.span fun j => j.caller.same c).showJobs c.span).showEnt c.span

/-- The deferral limit of the host port (DEFER_MS), or of a guest (VC_DEFER_MS, R324), in nanoseconds. -/
def State.deferLimit (s : State) (sp : SpanId) (g : Option Nat) : Nat :=
  match g with
  | none => s.fld sp Fld.hostDeferDeferMs * ms
  | some g => (s.span sp).rep.config.world g 18 2 * ms

/-- DEFERRED_TIMEOUT (R248): DEFER_MS have passed since the start, and the command has not begun to execute. -/
def execDeferredTimeout (sp : SpanId) (g : Option Nat) (queue slot : Nat) (s : State) : Host.Outcome State Fault Refusal :=
  match (s.inflightOf sp g).find? fun d => d.queue == queue && d.slot == slot && d.stage == .deferred with
  | none => .next s
  | some d =>
    if s.elapsed < d.since + s.deferLimit sp g then .next s
    else .next ((s.dropWait (d.caller sp g)).complete (d.caller sp g) .deferredTimeout [])

/-- MSIX_AGG_TIMEOUT (R250, R324): AGG_TIME has passed since the oldest completion that no interrupt has signalled. -/
def execMsixAggTimeout (sp : SpanId) (g : Option Nat) (queue : Nat) (s : State) : Host.Outcome State Fault Refusal :=
  let q := match g with
    | none => (s.span sp).host.queue queue
    | some g => ((s.guest sp g).map fun (x : Guest) => x.queue queue).getD (QueuePair.reset queue)
  if 0 < q.unsignalled ∧ q.aggTime ≠ 0 ∧ q.oldest + q.aggTime * us ≤ s.elapsed then
    match g with
    | none => .next (s.signalQueue sp queue)
    | some g => .next ((s.updGuest sp g fun x => x.setQueue { q with unsignalled := 0 }).virq sp g (4 + queue))
  else .next s

/-- A cancellation of one in-flight command (R251). -/
def State.cancel (s : State) (c : Caller) (d : InFlight) : State :=
  match d.stage with
  | .fetched =>
    let d' := { d with stage := .started }
    let s := s.mapInflight c.span (match c.origin with | .guest g _ _ => some g | _ => none) fun y => if y = d then d' else y
    s.completeEntry c d' .commandCancelled false 0 []
  | .deferred => (s.dropWait c).completeEntry c d .commandCancelled false 0 []
  | .lane => (s.dropWait c).completeEntry c d .jobCancelled false 0 []
  | .started | .sent => s

/-- HOST_CANCEL (R237, R251, R252). -/
def execHostCancel (sp : SpanId) (fn queue cid : Nat) (s : State) : Host.Outcome State Fault Refusal :=
  match s.localQueue sp fn queue with
  | none => .next s
  | some n =>
    let l := (s.span sp).host.inflight.filter fun d => d.queue == n && d.cid == cid
    if l = [] then .next (s.hostEvt sp fn 5) else .next (l.foldl (fun s d => s.cancel (d.caller sp none) d) s)

/-! ### Configuration (R239, R240) -/

/-- The port queue pair that a function's `HOST_Q_SEL` selects. -/
def State.selected (s : State) (sp : SpanId) (fn : Nat) : Option Nat :=
  s.localQueue sp fn (if fn = 0 then s.fld sp Fld.hostQSelQueue else ((s.span sp).host.fnState fn).qsel)

/-- HOST_Q_ENABLE (R239, R255 step 6): pointers and phase are reset, and the queue's role epoch is the epoch in force. -/
def execHostQEnable (sp : SpanId) (fn : Nat) (s : State) : Host.Outcome State Fault Refusal :=
  match s.selected sp fn with
  | none => .next s
  | some n =>
    let q := (s.span sp).host.queue n
    if ((s.span sp).host.fnState fn).flr ∨ q.draining then .next (s.cfgRefused sp fn)
    else if q.enabled then .next s
    else
      .next (s.updHost sp fun h => h.setQueue { q with
        enabled := true, error := false, phase := true, sqHead := 0, sqTail := 0, cqHead := 0, cqTail := 0
        roleEpoch := (s.span sp).rep.epoch, unsignalled := 0, oldest := 0 })

/-- R255 steps 2 to 4 for the descriptors that a test picks: those that have not started are discarded, use commands are aborted with their
results withheld, changes that were sent complete without DMA. -/
def State.discard (s : State) (sp : SpanId) (p : InFlight → Bool) : State :=
  let l := (s.span sp).host.inflight.filter p
  let s := (l.filter fun d => d.stage == .lane || d.stage == .deferred).foldl (fun s d => s.dropWait (d.caller sp none)) s
  let s := s.updHost sp fun h => ({ h with
    inflight := (h.inflight.filter fun d => !p d || d.stage == .sent).map fun d => if p d then { d with silent := true } else d } : HostPort).settle
  s.showInflight sp

/-- HOST_Q_DISABLE (R239, R258): the queue pair drains; ENABLE reads 1 until the drain ends. -/
def execHostQDisable (sp : SpanId) (fn : Nat) (s : State) : Host.Outcome State Fault Refusal :=
  match s.selected sp fn with
  | none => .next s
  | some n =>
    let q := (s.span sp).host.queue n
    if !q.enabled then .next s
    else .next ((s.updHost sp fun h => h.setQueue { q with draining := true }).discard sp fun d => d.queue == n)

/-- HOST_FN_QUEUES_WRITE (R240): the PF rewrites a function's assignment while all its pairs are disabled and no VF is enabled. -/
def execHostFnQueuesWrite (sp : SpanId) (n : Nat) (v : Word32) (s : State) : Host.Outcome State Fault Refusal :=
  if 33 ≤ n then .next s
  else
    let first := getBits v 7 0
    let count := getBits v 24 16
    let old := s.fnQueues sp n
    let h := (s.span sp).host
    let busy := (List.range 256).any fun q =>
      ((old.1 ≤ q ∧ q < old.1 + old.2) ∨ (first ≤ q ∧ q < first + count)) && (h.queue q).enabled
    let overlap := (List.range 33).any fun m =>
      let r := s.fnQueues sp m
      m ≠ n && decide (0 < count ∧ 0 < r.2 ∧ r.1 < first + count ∧ first < r.1 + r.2)
    if busy ∨ h.vfEnable ∨ overlap ∨ 256 < first + count then .next (s.cfgRefused sp 0)
    else .next ((s.setFld sp (Fld.hostFnnQueuesQfirst n) first).setFld sp (Fld.hostFnnQueuesQcount n) count)

/-! ### Function resets (R255, R256) -/

/-- The reset of one function (R255): its queue pairs drain and signal nothing more, and its PCIe functions stand as after a PCIe reset (log
entry 43). -/
def State.resetFn (s : State) (sp : SpanId) (fn : Nat) : State :=
  let r := s.fnQueues sp fn
  let mine (q : Nat) : Bool := decide (r.1 ≤ q ∧ q < r.1 + r.2)
  let s := s.updHost sp fun h => { h with
    queues := h.queues.map fun q => if mine q.n then { q with draining := q.enabled, unsignalled := 0 } else q
    held := h.held.filter fun x => x.1 ≠ fn }
  let s := s.updHost sp fun h => h.setFn { FnState.reset fn with flr := true }
  let s := s.discard sp fun d => d.fn == fn
  s.endSessions fun x => x.span == sp && (match x.origin with | .host n _ _ => n == fn | _ => false)

/-- The HOST registers that a PF FLR resets: all but FETCH_EN, what follows it or the span's mode, and `HOST_CMDS` (HOST registers). -/
def flrRegs : List Nat :=
  [Reg.hostDefer, Reg.hostEvt, Reg.hostIen, Reg.hostQSel, Reg.hostStale, Reg.hostFormatErr, Reg.hostDmaErr, Reg.hostDeferTimeout] ++
    (List.range 33).flatMap fun n => [Reg.hostFnnQueues n, Reg.hostFnnCredits n]

/-- An FLR (R255): of the PF it resets every function and the registers. -/
def State.flr (s : State) (sp : SpanId) (fn : Nat) : State :=
  if fn ≠ 0 then s.resetFn sp fn
  else
    let s := (List.range 33).foldl (fun s n => s.resetFn sp n) s
    let s := flrRegs.foldl (fun s off => s.setReg sp off (resetWord off)) s
    let s := s.updHost sp fun h => { h with
      vfEnable := false, numVfs := 0, vfMem := false
      queues := h.queues.map fun q => { QueuePair.reset q.n with enabled := q.enabled, draining := q.draining, roleEpoch := q.roleEpoch } }
    (s.setFld sp Fld.hostStatusNumVfs 0).showInflight sp

/-- FUNCTION_LEVEL_RESET (R255). -/
def execFunctionLevelReset (sp : SpanId) (fn : Nat) (s : State) : Host.Outcome State Fault Refusal :=
  if 33 ≤ fn then .next s else .next (s.flr sp fn)

/-- VF Enable of 0 resets every VF (R255). -/
def State.vfsOff (s : State) (sp : SpanId) : State :=
  let s := (List.range 32).foldl (fun s i => s.resetFn sp (i + 1)) s
  (s.updHost sp fun h => { h with vfEnable := false }).setFld sp Fld.hostStatusNumVfs 0

/-- VF_ENABLE_CLEAR (R255). -/
def execVfEnableClear (sp : SpanId) (s : State) : Host.Outcome State Fault Refusal := .next (s.vfsOff sp)

/-- A loss of the PCIe link, as a PF FLR (R256). -/
def State.pcieDown (s : State) (sp : SpanId) : State := (s.flr sp 0).updHost sp fun h => { h with linkUp := false }

/-- PCIE_RESET (R256, R443). -/
def execPcieReset (sp : SpanId) (s : State) : Host.Outcome State Fault Refusal := .next (s.pcieDown sp)

/-- The writes and interrupts that were held for a function are issued in their order, once it masters the bus in D0 (R256). -/
def State.releaseHeld (s : State) (sp : SpanId) (fn : Nat) : State :=
  let f := (s.span sp).host.fnState fn
  if !(f.busMaster && f.d0) then s
  else
    let l := (s.span sp).host.held.filter fun x => x.1 == fn
    let s := s.updHost sp fun h => { h with held := h.held.filter fun x => x.1 ≠ fn }
    l.foldl (fun s x => s.emit x.2) s

/-- BUS_MASTER_RESTORE (R256): a function masters the bus in D0. -/
def execBusMasterRestore (sp : SpanId) (fn : Nat) (s : State) : Host.Outcome State Fault Refusal :=
  if 33 ≤ fn then .next s
  else
    let s := s.updHost sp fun h => { h.setFn { h.fnState fn with busMaster := true, d0 := true } with linkUp := true }
    .next (s.releaseHeld sp fn)

end Sys2Proof.Machine
end

