-- ==== Sys2Proof/Machine/Nor.lean ====
section
/-!
DEFINITION. The vault store of a span: page programs, erases, the flush at the power-fail warning (R364 to R373), and the readings, scans and
programs of the fuses (R375 to R377).
-/

namespace Sys2Proof.Machine

/-- Shows the NVS controller in `NVS_STATUS`: while the power-fail warning is in force only what it admitted runs (R367). -/
def State.showNvs (s : State) (sp : SpanId) : State :=
  let v := (s.span sp).nvs
  let flushed := s.fld sp Fld.nvsStatusFlushed == 1
  let s := s.setFld sp Fld.nvsStatusBusy (boolNat (!flushed && (v.progs != [] || (v.erases != [] && v.pfwAt.isNone))))
  let s := s.setFld sp Fld.nvsStatusErasing (boolNat (v.erases != []))
  s.setFld sp Fld.nvsStatusSuspended (boolNat (v.erases.any fun e => e.suspended))

/-- FLUSHED: the controller is idle after a warning (R367). -/
def State.flushed (s : State) (sp : SpanId) : State :=
  let us := (s.elapsed - ((s.span sp).nvs.pfwAt.getD s.elapsed)) / us
  ((s.setFld sp Fld.nvsStatusFlushed 1).setFld sp Fld.nvsFlushUsUs (min us 4095)).showNvs sp

/-- The flush of R367 begins on a span: no new program or erase is admitted, and an erase in progress is suspended. A warning that is already in
force keeps its flush (R444). -/
def State.beginFlush (s : State) (sp : SpanId) : State :=
  if (s.span sp).nvs.pfwAt.isSome then s
  else
    let s := s.updNvs sp fun v => ({ v with pfwAt := some s.elapsed } : Nvs).pace
    let s := (s.setFld sp Fld.nvsStatusPfw 1).setFld sp Fld.nvsStatusFlushed 0
    if (s.span sp).nvs.progs = [] then s.flushed sp else s.showNvs sp

/-- The warning ends: programs and erases go on. -/
def State.endFlush (s : State) (sp : SpanId) : State :=
  let s := s.updNvs sp fun v => ({ v with pfwAt := none } : Nvs).pace
  ((s.setFld sp Fld.nvsStatusPfw 0).setFld sp Fld.nvsStatusFlushed 0).showNvs sp

/-! ### Programs (R365, R306) -/

/-- A SALT_n page has been overwritten: m_n is destroyed, and the erases of the SALT_n and ORK_n sectors are queued, the salts of all the
owners first (R170, R306). -/
def State.saltGone (s : State) (sp : SpanId) (n : Nat) (t : Option Nat) : State :=
  let s := s.zeroiseNow sp (2 ^ n) t
  s.updNvs sp fun v =>
    let ork (e : EraseOp) : Bool := (match e.purpose with | .zeroise _ => true | _ => false) && decide (NorArea.owner.base + 0x30000 ≤ e.addr)
    let before := v.erases.filter fun e => !ork e
    let after := v.erases.filter ork
    let v' := ({ v with erases := before } : Nvs).pushErase .owner (NorArea.owner.base + 4096 * n) (.zeroise n)
    { v' with erases := v'.erases ++ after ++ [⟨.owner, NorArea.owner.base + 0x30000 + 4096 * n, 0, .zeroise n, false, none⟩] }

/-- A page program has ended and read back as its target. -/
def State.programmed (s : State) (sp : SpanId) (p : ProgOp) : State :=
  match p.salt with
  | some (n, t) => s.saltGone sp n t
  | none =>
    if !p.commitWord then s
    else if p.area = .log then s.upd sp fun x => x.pageDone p.csn
    else s.updNvs sp fun v => { v with
      home := v.home.map fun h => if h.area = p.area ∧ h.csn = p.csn then { h with torn := false } else h }

/-- A record whose program failed four times is written again at the next page (R365): slates of a page take new positions, a home record the next
position of its area. -/
def SpanState.writeAgain (x : SpanState) (p : ProgOp) : SpanState :=
  if p.salt.isSome then x
  else if p.area = .log then
    let torn := x.rep.log.entries.filter fun e => e.torn && e.page == p.csn
    let from_ := x.rep.log.wp
    let l : Log := torn.foldl (fun (l : Log) e => l.rewrite e true) x.rep.log
    let v : Nvs := { x.nvs with progs := x.nvs.progs.filter fun (q : ProgOp) => q.area != .log || q.csn != p.csn }
    { x with
      rep := { x.rep with log := l }
      nvs := v.programPages ((l.entries.filter fun e => decide (from_ ≤ e.pos)).map LogEntry.page).eraseDups }
  else
    let again := x.nvs.home.filter fun h => h.torn && h.area == p.area && h.csn == p.csn
    { x with nvs := again.foldl (fun (v : Nvs) h => ({ v with home := v.home.erase h } : Nvs).addHome h) x.nvs }

/-- NOR_PROGRAM_DONE (R365, R367, R387): a program that reads back wrong is repeated, and after four attempts the record is written again at
the next page. After a warning only a commit word that is due within 1.0 ms follows. -/
def execNorProgramDone (sp : SpanId) (ok : Bool) (s : State) : Host.Outcome State Fault Refusal :=
  let v := (s.span sp).nvs
  match v.progs with
  | [] => .next s
  | p :: t =>
    if v.pfwAt.isSome ∧ s.fld sp Fld.nvsStatusFlushed = 1 then .next s
    else if !ok then
      let fails := decide (3 ≤ p.attempts)
      let s := s.updNvs sp fun v => { v with progs := { p with attempts := if fails then 0 else p.attempts + 1 } :: t }
      let s := if fails then
          (((s.upd sp fun x => x.writeAgain p).bump sp Fld.nvsProgFailCount 1).setFld sp Fld.nvsEvtProgFail 1).raise sp 0x500 .ok [] none none
        else s
      if v.pfwAt.isSome then .next (s.flushed sp) else .next s
    else
      let s := ((s.updNvs sp fun v => { v with progs := t }).programmed sp p).updNvs sp Nvs.pace
      match v.pfwAt with
      | none => .next (s.showNvs sp)
      | some at_ =>
        let due : Bool := match t with
          | q :: _ => q.commitWord && !p.commitWord && q.area == p.area && q.csn == p.csn && decide (s.elapsed ≤ at_ + ms)
          | [] => false
        if due then .next (s.showNvs sp) else .next (s.flushed sp)

/-- FLUSH_LATE (R387): FLUSHED is not set within 2.5 ms of the warning. -/
def execFlushLate (sp : SpanId) (s : State) : Host.Outcome State Fault Refusal :=
  match (s.span sp).nvs.pfwAt with
  | some t =>
    if s.fld sp Fld.nvsStatusFlushed = 1 ∨ s.fld sp Fld.nvsEvtFlushLate = 1 ∨ s.elapsed < t + 2500 * us then .next s
    else .next ((s.setFld sp Fld.nvsEvtFlushLate 1).raise sp 0x505 .ok [] none none)
  | none => .next s

/-! ### Erases (R368, R425, R466) -/

/-- R425 in the REDUCED tier: at most one span erases at a time; Span A goes first. -/
def State.eraseWaits (s : State) (sp : SpanId) : Bool :=
  s.reducedLimits sp && sp == .b && s.a.nvs.erases != []

/-- Queues an erase on a span. -/
def State.erase (s : State) (sp : SpanId) (area : NorArea) (addr : Nat) (purpose : ErasePurpose) : State :=
  (s.updNvs sp fun v => v.pushErase area addr purpose).showNvs sp

/-- A log sector is erased (R466): it counts in F again, the wear is noted (R83), the COALESCED slates are written once F is above 64 (R80), and what
waited for room goes on (R468). -/
def State.logSectorErased (s : State) (sp : SpanId) (ok : Bool) : State :=
  let sector := (s.span sp).rep.log.tail % logSectors
  let s := s.updRep sp fun r => { r with log := r.log.sectorErased ok }
  let cs := ((s.ordered sp).span sp).rep.log.coalesced
  let s := if s.keystone = some sp ∧ (s.span sp).rep.log.mode ≠ .floor ∧ cs ≠ [] then
      s.submitMany sp .device [.clearCoalesced] (coalescedSlates (.span sp) cs)
    else s
  let n := sparseGet 0 sector (s.span sp).rep.log.erases
  let s := if n = 90000 ∨ n = 100000 then
      (s.raise sp 0x202 .ok [] none none).device sp [] [devSlate 0x0407 .ok (.span sp) sector (leBytes 4 n)]
    else s
  (s.showLog sp).drainDeferred sp

/-- What an erase was for, and whether its sector stays usable. After that of an ORK_n sector the sealed ORK is gone, and its ERASE_DONE records the
zeroisation as complete (R170, R306). -/
def State.erased (s : State) (sp : SpanId) (e : EraseOp) (ok : Bool) : State :=
  match e.purpose with
  | .logRelease => s.logSectorErased sp ok
  | .zeroise n =>
    if e.addr < NorArea.owner.base + 0x30000 then s else s.updNvs sp fun v => { v with home := v.home.filter fun h => h.area != .owner || h.key != n }
  | .reclaim => s.updNvs sp fun v => { v with home := v.home.filter fun h => !(h.area == e.area && h.area.base + 4096 * h.sector == e.addr && (h.voided || h.torn)) }
  | .floor =>
    if (s.span sp).nvs.erases.any fun x => x.purpose == .floor then s else s.setFld sp Fld.lcsStateFloorPending 0
  | .bank => s

/-- The erase at the head of the queue has ended: ERASE_DONE, what it was for, and the intent of the next one. -/
def State.eraseEnds (s : State) (sp : SpanId) (e : EraseOp) (rest : List EraseOp) (ok : Bool) : State :=
  let s := s.updNvs sp fun v => ({ v with erases := rest } : Nvs).addStatus .eraseDone e.area.code e.addr (e.half.getD 0)
  let s := s.erased sp e ok
  let s := match rest with
    | n :: _ => s.updNvs sp fun v => (v.addStatus .eraseIntent n.area.code n.addr 0).pace
    | [] => s.upd sp SpanState.logErase
  s.showNvs sp

/-- NOR_ERASE_DONE (R368): a sector in which some bits fail the margin read is erased again, up to three times; after that it is marked
unusable, and its area takes the next sector in turn. -/
def execNorEraseDone (sp : SpanId) (bad : Nat) (s : State) : Host.Outcome State Fault Refusal :=
  let v := (s.span sp).nvs
  match v.erases with
  | [] => .next s
  | e :: t =>
    if v.pfwAt.isSome ∨ e.suspended ∨ s.eraseWaits sp then .next s
    else if bad ≠ 0 ∧ e.repeats < 3 then .next (s.updNvs sp fun v => { v with erases := { e with repeats := e.repeats + 1 } :: t })
    else if bad ≠ 0 then
      let s := s.updNvs sp fun v => { v with unusable := v.unusable ++ [e.addr] }
      let s := (s.bump sp Fld.nvsEraseFailCount 1).setFld sp Fld.nvsEvtEraseFail 1
      let s := s.raise sp 0x501 .ok [] none none
      let s := s.device sp [] [devSlate 0x0B0C .ok (.span sp) e.addr (leBytes 1 e.area.code ++ leBytes 1 4 ++ leBytes 4 bad)]
      .next (s.eraseEnds sp e t false)
    else .next (s.eraseEnds sp e t true)

/-- Live records are copied forward to the write point of their area (R373): the old ones are superseded. -/
def Nvs.copyForward (v : Nvs) (live : List HomeRec) : Nvs :=
  live.foldl (fun (v : Nvs) h =>
    ({ v with home := v.home.map fun y => if y = h then { y with voided := true } else y } : Nvs).addHome h) v

/-- The live records of a sector of an area. -/
def Nvs.liveIn (v : Nvs) (area : NorArea) (sector : Nat) : List HomeRec :=
  v.home.filter fun h => h.area == area && h.sector == sector && !h.voided && !h.torn

/-- SUPERSEDED_RECLAIM (R373): live records of a sector of an area are copied forward, which is a change of its own, and the sector, whose
every record is then superseded or torn, is erased. The sector that the write point stands in, or that a copy would go to, is not reclaimed. -/
def execSupersededReclaim (sp : SpanId) (area : NorArea) (sector : Nat) (s : State) : Host.Outcome State Fault Refusal :=
  let v := (s.span sp).nvs
  let here := v.home.filter fun h => h.area == area && h.sector == sector
  let live := v.liveIn area sector
  if here.all (fun h => !h.voided && !h.torn) ∨ v.homeSector area = sector ∨ (v.copyForward live).liveIn area sector ≠ [] then .next s
  else
    let s := if live = [] then s else s.device sp [] []
    let s := s.updNvs sp fun v => v.copyForward live
    .next (s.erase sp area (area.base + 4096 * sector) .reclaim)

/-! ### Fuses (R375 to R377) -/

/-- Changes the fuses of a span. -/
def State.updFuses (s : State) (sp : SpanId) (f : Fuses → Fuses) : State := s.upd sp fun x => { x with fuses := f x.fuses }

/-- Puts the readings of a word into the array; words that read zero are not listed. -/
def putFuse (w : FuseWord) : List FuseWord → List FuseWord
  | [] => if w.norm = 0 ∧ w.low = 0 ∧ w.high = 0 then [] else [w]
  | y :: t =>
    if w.n < y.n then (if w.norm = 0 ∧ w.low = 0 ∧ w.high = 0 then y :: t else w :: y :: t)
    else if w.n = y.n then (if w.norm = 0 ∧ w.low = 0 ∧ w.high = 0 then t else w :: t)
    else y :: putFuse w t

/-- The readings of a word as 32-bit values. -/
def FuseWord.cut (w : FuseWord) : FuseWord := ⟨w.n, w.norm % 2 ^ 32, w.low % 2 ^ 32, w.high % 2 ^ 32⟩

/-- The copies of the critical words (R376): UNIT_ID, life-cycle codes, UR check word, revision, TMK and DAK digests. -/
def criticalCopies : List (Nat × Nat × Nat) :=
  ((List.range 4).map fun i => (i, 4 + i, 8 + i)) ++ ((List.range 5).map fun i => (12 + 3 * i, 13 + 3 * i, 14 + 3 * i)) ++
    ((List.range 2).map fun i => (27 + i, 29 + i, 31 + i)) ++ [(33, 34, 35)] ++ ((List.range 8).map fun i => (36 + i, 44 + i, 52 + i)) ++
    (List.range 8).map fun i => (60 + i, 68 + i, 76 + i)

/-- A critical word is unreadable (R376). -/
def Fuses.unreadable (f : Fuses) : Bool := criticalCopies.any fun c => (f.critical c.1 c.2.1 c.2.2).isNone

/-- A digest that eight critical words hold in three copies; none while one is unreadable. -/
def Fuses.digest (f : Fuses) (first : Nat) : Option (List Byte) :=
  (List.range 8).foldl (fun acc i => acc.bind fun l => (f.critical (first + i) (first + 8 + i) (first + 16 + i)).map fun v => l ++ leBytes 4 v) (some [])

/-- The die temperature of a span in 1/16 degree, signed, as its sensor shows it. -/
def State.dieTemp (s : State) (sp : SpanId) : Int := (BitVec.ofNat 16 (s.fld .a (Fld.tmpTempkValueTemp sp.num))).toInt

/-- A scan at both margins (R375): `changed` are the words whose readings have changed since they were last seen. Each marginal word is reported;
its slate is written again only after a clean reading. -/
def State.fuseScan (s : State) (sp : SpanId) (changed : List FuseWord) : State :=
  let before := (s.span sp).fuses.marginal
  let temp := s.dieTemp sp
  let s := s.updFuses sp fun f => { f with words := (changed.filter fun w => decide (w.n < 512)).foldl (fun l w => putFuse w.cut l) f.words }
  let f := (s.span sp).fuses
  let bad := f.words.filter fun w => !w.clean
  let ns := bad.map (·.n)
  let s := s.updFuses sp fun f => { f with scanTemp := temp, scanAt := s.elapsed, scanned := true, marginal := ns, scanWaits := false }
  let t16 := (BitVec.ofInt 16 temp).toNat
  let s := (s.setFld sp Fld.fuseStatusMarginal ns.length).setFld sp Fld.fuseStatusScanTemp t16
  let s := (s.setFld sp Fld.fuseFirstMarginalWord (ns.headD 0)).setFld sp Fld.fuseFirstMarginalValid (boolNat (ns != []))
  let s := s.setFld sp Fld.fuseEvtScanDone 1
  let s := if ns = [] then s else s.setFld sp Fld.fuseEvtMarginal 1
  let s := if f.unreadable then s.setFld sp Fld.fuseEvtUnreadable 1 else s
  let s := bad.foldl (fun s _ => s.raise sp 0x504 .fuseMarginal [] none none) s
  let fresh := bad.filter fun w => !before.contains w.n
  if fresh = [] then s
  else s.device sp [] (fresh.map fun w => devSlate 0x0B02 .fuseMarginal (.span sp) w.n
    (if w.n < 256 then leBytes 4 w.norm ++ leBytes 4 w.low ++ leBytes 4 w.high ++ leBytes 2 t16 else zeroBytes 12 ++ leBytes 2 t16))

/-- A scan that is due: it waits for a program in progress to end (R375). -/
def State.scanDue (s : State) (sp : SpanId) (changed : List FuseWord) : State :=
  if (s.span sp).fuses.progs = [] then s.fuseScan sp changed else s.updFuses sp fun f => { f with scanWaits := true }

/-- FUSE_SCAN (R375): OP 2 of `FUSE_OP`. -/
def execFuseScan (sp : SpanId) (changed : List FuseWord) (s : State) : Host.Outcome State Fault Refusal := .next (s.scanDue sp changed)

/-- FUSE_SCAN_PERIODIC (R375): 24 h have passed since the last scan, or the die temperature has moved 10 degrees. -/
def execFuseScanPeriodic (sp : SpanId) (changed : List FuseWord) (s : State) : Host.Outcome State Fault Refusal :=
  let f := (s.span sp).fuses
  if f.scanned ∧ (f.scanAt + 86400 * sec ≤ s.elapsed ∨ 160 ≤ (s.dieTemp sp - f.scanTemp).natAbs) then .next (s.scanDue sp changed) else .next s

/-- The three readings of a word as a register, a monitor command or a debug right shows them: helper words read zero (R377). -/
def Fuses.shown (f : Fuses) (n : Nat) : FuseWord := if n < 256 then f.word n else ⟨n, 0, 0, 0⟩

/-- FUSE_READ (R375): OP 1 of `FUSE_OP`, the readings of the word in `FUSE_ADDR`. -/
def execFuseRead (sp : SpanId) (s : State) : Host.Outcome State Fault Refusal :=
  let w := (s.span sp).fuses.shown (s.fld sp Fld.fuseAddrWord)
  .next (((s.setReg sp Reg.fuseDataNorm (BitVec.ofNat 32 w.norm)).setReg sp Reg.fuseDataLow (BitVec.ofNat 32 w.low)).setReg sp Reg.fuseDataHigh
    (BitVec.ofNat 32 w.high))

/-- Queues a fuse program (R377): the bits of a word to be set. -/
def State.programFuse (s : State) (sp : SpanId) (word bits : Nat) (monitor : Bool) : State :=
  s.updFuses sp fun f => { f with progs := f.progs ++ [⟨word, bits % 2 ^ 32, 0, monitor⟩] }

end Sys2Proof.Machine
end

