-- ==== Sys2Proof/Machine/Life.lean ====
section
/-!
DEFINITION. The life cycle (R378 to R382), debug certificates (R383, R384), the end of a monitor session (R453, R459), and the end of a fuse
program, which a transition waits for.
-/

namespace Sys2Proof.Machine

/-! ### Signatures of a transition request and of a debug certificate -/

/-- Signature entries from an offset: those of the roles MANUFACTURER and DEBUG_AUTHORITY carry their key of 97 bytes after the signature. -/
def keyedSigsFrom (img : List Byte) : Nat → Nat → Option (List (SigEntry × List Byte) × Nat)
  | 0, off => some ([], off)
  | n + 1, off =>
    let len := leField img (off + 4) 2
    let role := leField img (off + 1) 1
    let klen := if role = 3 ∨ role = 4 then 97 else 0
    let size := 16 + (len + klen + 7) / 8 * 8
    if img.length < off + size ∨ !zeroAt img (off + 6) 2 ∨ !zeroAt img (off + 16 + len + klen) (size - 16 - len - klen) then none
    else (keyedSigsFrom img n (off + size)).map fun r =>
      ((⟨leField img off 1, role, leField img (off + 2) 1, leField img (off + 3) 1, leField img (off + 8) 8, sliceBytes img (off + 16) len⟩,
        sliceBytes img (off + 16 + len) klen) :: r.1, r.2)

/-- An entry holds over a body: a producer or officer in force, or the key whose digest the fuses hold; ALG 0x1 only. -/
def keyedHolds (c : Storyboard) (f : Fuses) (magic : String) (body : List Byte) (e : SigEntry × List Byte) : Bool :=
  let key : Option (List Byte) :=
    if e.1.role = 1 ∧ e.1.owner = 0 then (c.officer 0 e.1.signer).map (·.key)
    else if e.1.role = 2 ∧ 0 < e.1.owner then ((c.officer e.1.owner e.1.signer).filter fun o => o.alg == 1).map (·.key)
    else if e.1.role = 3 then (if f.digest 36 = some (sha256 e.2) then some e.2 else none)
    else if e.1.role = 4 then (if f.digest 60 = some (sha256 e.2) then some e.2 else none) else none
  e.1.alg == 1 && key.any fun k => verifySig 1 k (asciiBytes magic ++ sha384 body ++ e.1.head) e.1.sig

/-- How many entries are by a role and owner. -/
def signedBy (sigs : List (SigEntry × List Byte)) (role owner : Nat) : Nat :=
  (sigs.filter fun e => e.1.role == role && e.1.owner == owner).length

/-- Each signer appears once. -/
def signersOnce (sigs : List (SigEntry × List Byte)) : Bool := decide (sigs.map fun e => (e.1.role, e.1.owner, e.1.signer)).Nodup

/-- PRODUCER_QUORUM of the SITE in force has signed. -/
def producersSigned (c : Storyboard) (sigs : List (SigEntry × List Byte)) : Bool :=
  decide (0 < c.producerQuorum ∧ c.producerQuorum ≤ signedBy sigs 1 0)

/-! ### Monitor sessions -/

/-- A slate of the monitor (R459): PLANE MANAGEMENT, PORT MONITOR, die HUB. -/
def monSlate (kind subject : Nat) (detail : List Byte) : SlateReq :=
  ⟨none, kind, .ok, .management, .hub, 9, 0xFF, 0xFF, 0xFF, 0, subject, detail⟩

/-- The slate log of a span has room for the slate of a monitor command, where one is written (R79, R459). -/
def State.monRoom (s : State) (sp : SpanId) (kind : Nat) : Bool := decide (s.lcState < 2) || (s.span sp).rep.log.admits (monSlate kind 0 [])

/-- A monitor command that the slate log has no room for (R79). -/
def State.monFull (s : State) (c : Caller) : State := (s.setFld c.span Fld.vltLogEvtRefused 1).complete c .logFull []

/-- Shows the session, its certificate and the halts in the MON, LCS and PIER registers of both spans. -/
def State.showMonitor (s : State) : State :=
  let m := s.hub.monitor
  let c := m.session.bind (·.cert)
  [SpanId.a, SpanId.b].foldl (fun s sp =>
    let mine := m.halts.filter fun h => h.span == sp && h.effective
    let s := (s.setFld sp Fld.monStatusSession (boolNat m.session.isSome)).setFld sp Fld.monStatusCert (boolNat c.isSome)
    let s := s.setFld sp Fld.monStatusHalted (mine.foldl (fun n h => n ||| 2 ^ (h.core - 2)) 0)
    let s := s.setFld sp Fld.monStatusRushes (boolNat (s.span sp).entropy.rushes.isSome)
    let s := s.setFld sp Fld.monSessionId ((m.session.map (·.id)).getD 0)
    let s := (s.setFld sp Fld.lcsDebugSession (boolNat c.isSome)).setFld sp Fld.lcsDebugRights ((c.map (·.rights)).getD 0)
    let g := (c.map (·.guests)).getD 0
    let s := (s.setFld sp Fld.lcsDebugGuestsLoGuestsLo g).setFld sp Fld.lcsDebugGuestsHiGuestsHi (g / 2 ^ 32)
    (List.range 6).foldl (fun s k =>
      let on := mine.any fun h => h.core == k && ((s.span sp).worlds.cores[k]?.bind (·.guest)) == some h.guest
      s.setFld sp (Fld.pierCorecStatusHalted k) (boolNat on)) s) s

/-- An event bit of `MON_EVT` on both spans. -/
def State.monEvt (s : State) (f : FieldRef) : State := (s.setFld .a f 1).setFld .b f 1

/-- Halts end (R457): the watchdog of a guest goes on from where it stood when its last halt ends. -/
def State.dropHalts (s : State) (p : Halt → Bool) : State :=
  let gone := s.hub.monitor.halts.filter fun h => p h && h.effective
  let left := s.hub.monitor.halts.filter fun h => !p h
  let s := s.updHub fun h => { h with monitor := { h.monitor with halts := left } }
  (gone.map fun h => (h.span, h.guest, h.since)).eraseDups.foldl (fun s (h : SpanId × Nat × Nat) =>
    if left.any fun k => k.effective && k.span == h.1 && k.guest == h.2.1 then s
    else s.updGuest h.1 h.2.1 fun x => { x with kicked := x.kicked + (s.elapsed - max h.2.2 x.kicked) }) s

/-- The session ends (R453) with reason 1 CLOSED, 2 EXPIRED or 3 LINK: halted cores resume, rushes mode ends (R295), and from SHIPPED on
MON_SUMMARY and DEBUG_END are written (R459). -/
def State.endMonSession (s : State) (reason : Nat) : State :=
  match s.hub.monitor.session with
  | none => s
  | some m =>
    let s := (s.endRushes .a).endRushes .b
    let was := s.hub.monitor.halts.filter fun h => h.effective
    let s := (s.dropHalts fun _ => true).updHub fun h => { h with monitor := { h.monitor with session := none } }
    let s := if 2 ≤ s.lcState then s.deviceBoth []
        [monSlate 0x0B0B m.id (leBytes 4 m.lines ++ leBytes 4 m.refused ++ padBytes 32 (Config.lineDigest m.id m.lines)),
         monSlate 0x0B05 m.id (leBytes 1 reason)] else s
    let s := [SpanId.a, SpanId.b].foldl (fun s sp => if was.any fun h => h.span == sp then s.setFld sp Fld.monEvtResume 1 else s) s
    let s := if m.cert.isSome then (s.setFld .a Fld.lcsEvtDebugEnd 1).setFld .b Fld.lcsEvtDebugEnd 1 else s
    (s.monEvt Fld.monEvtSessionEnd).showMonitor

/-! ### Debug certificates -/

/-- The checks of R384, in their order. -/
def State.certRefused (s : State) (sp : SpanId) (m : MonSession) (cert : List Byte) : Bool :=
  let f := (s.span sp).fuses
  let c := (s.span sp).rep.config
  let lc := s.lcState
  let rights := leField cert 8 4
  let guests := leField cert 80 8
  let from_ := ofTai64 (leField cert 64 8)
  let dest := ofTai64 (leField cert 72 8)
  let now := s.now sp
  let sigs := (keyedSigsFrom cert (leField cert 88 2) 96).bind fun r => if r.2 = cert.length then some r.1 else none
  if cert.length < 96 ∨ cert.take 8 ≠ asciiBytes "AKNDBG01" ∨ !zeroAt cert 13 3 ∨ !zeroAt cert 90 6 ∨ sliceBytes cert 16 16 ≠ s.unitId sp ∨
      sliceBytes cert 32 32 ≠ m.challenge ∨ m.challenge = zeroBytes 32 then true
  else if now < from_ ∨ dest < now ∨ from_ + 8 * 3600 * sec < dest then true
  else if !(leField cert 12 1).testBit lc ∨ rights &&& rightsIn lc ≠ rights then true
  else
    match sigs with
    | none => true
    | some sigs =>
      if !signersOnce sigs ∨ !sigs.all (fun e => e.1.role != 3 && keyedHolds c f "AKNDS-V1" (cert.take 96) e) then true
      else if signedBy sigs 4 0 = 0 then true
      else if (lc = 3 ∨ lc = 4) ∧ !producersSigned c sigs then true
      else
        lc == 3 && (rights.testBit 2 || rights.testBit 3) &&
          (List.range 34).any fun g => decide (2 ≤ g) && guests.testBit g &&
            !decide (0 < c.quorum (g - 1) ∧ c.quorum (g - 1) ≤ signedBy sigs 2 (g - 1))

/-- DBG_PRESENT (R384, R455): the certificate holds for its monitor session, and never beyond NOT_AFTER. -/
def execDbgPresent (c : Caller) (cert : List Byte) (s : State) : Host.Outcome State Fault Refusal :=
  s.monEntry c <|
  match s.hub.monitor.session with
  | none => .next (s.complete c .notAuthorised [])
  | some m =>
    if c.origin ≠ .monitor then .next (s.complete c .notAuthorised [])
    else if s.lcState < 2 ∨ 4 < s.lcState then .next (s.complete c .lifecycleState [])
    else if s.certRefused c.span m cert then .next (s.complete c .notAuthorised [])
    else if !s.monRoom c.span 0x0B04 then .next (s.monFull c)
    else
      let x : Cert := ⟨leField cert 8 4, leField cert 80 8, ofTai64 (leField cert 72 8), sha256 cert⟩
      let s := s.updHub fun h => { h with monitor := { h.monitor with session := some { m with cert := some x } } }
      let s := s.deviceBoth [] [monSlate 0x0B04 m.id (leBytes 1 x.rights ++ leBytes 5 x.guests ++ leBytes 4 (x.notAfter / sec) ++ x.digest)]
      let s := (s.setFld .a Fld.lcsEvtDebugStart 1).setFld .b Fld.lcsEvtDebugStart 1
      .next (s.showMonitor.complete c .ok [])

/-! ### Floors (R381) -/

/-- Shows the life-cycle states in `LCS_STATE` (R378). -/
def State.showLife (s : State) : State :=
  let joined := (s.a.cont.mode == .keystone && s.b.cont.mode == .follower) || (s.b.cont.mode == .keystone && s.a.cont.mode == .follower)
  [SpanId.a, SpanId.b].foldl (fun s sp =>
    let s := s.setFld sp Fld.lcsStateState (s.span sp).fuses.life
    if joined then s.setFld sp Fld.lcsStatePeerState (s.span sp.other).fuses.life else s) s

/-- Erases an area for a floor, as one bracketed erase that stands for those of its sectors (log entry 59). -/
def State.eraseArea (s : State) (sp : SpanId) (a : NorArea) : State := s.erase sp a a.base .floor

/-- The lanes of a span are wiped: running jobs end, and every lane loses its queue, groups and slots. -/
def State.wipeLanes (s : State) (sp : SpanId) : State :=
  (List.range 8).foldl (fun s k =>
    let l := s.lane sp k
    let s := if l.mode.running then s.abortLane sp k .jobCancelled else s
    match (s.lane sp k).mode with
    | .wiping => s.setLane sp k { s.lane sp k with queue := [], groups := [] }
    | _ => s.setLane sp k { Lane.empty with seq := l.seq }) s

/-- No replicated record is left (the floors of SHIPPED and SCRAP). -/
def State.forgetRecords (s : State) (sp : SpanId) (keep : HomeRec → Bool) : State :=
  let s := s.upd sp fun x => { x with
    rep := { Replica.reset with sessions := x.rep.sessions, pref := x.rep.pref }
    cont := { x.cont with journal := [], settled := [], side := [], sideChanges := [], sideCoalesced := [] }
    vault := { x.vault with mn := [], cache := [] }
    nvs := { x.nvs with home := x.nvs.home.filter keep, status := [], statusSeq := 0, salts := [], progs := [], storedFloor := 0, boot := ⟨0, none, 0⟩ } }
  ((s.showVault sp).showStaged sp).showLog sp

/-- Contexts become UNCONFIGURED on a span: banks, stream state and classification entries are gone. -/
def State.dropContexts (s : State) (sp : SpanId) : State :=
  let s := s.upd sp fun x => { x with stream := Stream.reset, cls := ⟨[], [], false, none, none, []⟩ }
  (s.setFld sp Fld.clsEmCountCount 0).setFld sp Fld.clsWcCountCount 0

/-- The floor of a life-cycle state on one span (R381). -/
def State.applyFloor (s : State) (sp : SpanId) (lc : Nat) : State :=
  match lc with
  | 2 =>
    let s := s.forgetRecords sp fun h => h.area == .calib || h.area == .firmware
    let s := s.setFld sp Fld.lcsStateFloorPending 1
    [NorArea.ident, .owner, .side, .guest, .config, .journal, .objects, .log].foldl (fun s a => s.eraseArea sp a) s
  | 4 =>
    let s := s.zeroiseOrder sp (2 ^ 33 - 1) (some (s.now sp))
    let s := s.updRep sp fun r => { r with
      config := r.config.filter fun x => x.type == 1, epochDigest := Storyboard.digest (r.config.filter fun x => x.type == 1), roles := [], staged := none, objs := [], ctrs := [], props := [], locks := [], orks := [] }
    let s := s.updNvs sp fun v => { v with home := v.home.filter fun h => h.area != .owner && h.area != .objects && h.area != .guest }
    let s := (s.span sp).worlds.guests.foldl (fun s x => (s.stopGuest sp x.g).setFld sp (Fld.kprGuestgStateState x.g) 4) s
    let s := (s.wipeLanes sp).dropContexts sp
    let s := (s.showVault sp).showStaged sp
    let s := s.setFld sp Fld.lcsStateFloorPending 1
    [NorArea.owner, .objects, .guest, .config].foldl (fun s a => s.eraseArea sp a) s
  | 5 =>
    let s := (s.forgetRecords sp fun _ => false).upd sp fun x => { x with
      vault := VaultLocal.reset, nvs := { x.nvs with bank0 := FwBank.none, bank1 := FwBank.none, calib := [] } }
    let s := (((s.wipeLanes sp).dropContexts sp).setFld sp Fld.vltStateVaultState 0).setFld sp Fld.lcsStateFloorPending 1
    let s := [NorArea.ident, .calib, .owner, .side, .firmware, .guest, .config, .journal, .objects, .log].foldl (fun s a => s.eraseArea sp a) s
    ((List.range 32).map (96 + ·) ++ (List.range 256).map (256 + ·)).foldl (fun s n => s.programFuse sp n 0xFFFFFFFF false) s
  | _ => s

/-! ### Transitions (R378 to R382) -/

/-- LC_CHALLENGE and LC_TRANSITION are accepted from the monitor, and from SHIPPED on from a producer session on the management service. At
epoch 0 no producer is in force and LC_CHALLENGE needs no session (R439, R440). -/
def State.lifeCaller (s : State) (c : Caller) : Bool :=
  match c.origin with
  | .monitor => s.hub.monitor.session.isSome
  | .mgmt _ _ => decide (2 ≤ s.lcState) && ((s.span c.span).rep.epoch == 0 || ((s.span c.span).rep.producerSession c).isSome)
  | _ => false

/-- The spans are joined as keystone and follower. -/
def State.spansJoined (s : State) : Bool :=
  (s.a.cont.mode == .keystone && s.b.cont.mode == .follower) || (s.b.cont.mode == .keystone && s.a.cont.mode == .follower)

/-- LC_CHALLENGE (R380): a challenge for 300 s and one request; a new one voids the previous one. -/
def execLcChallenge (c : Caller) (s : State) : Host.Outcome State Fault Refusal :=
  s.monEntry c <|
  if !s.started c 0x0B01 [] then .next s
  else
    match s.bars c 0x0B01 [] with
    | some st => .next (s.complete c st [])
    | none =>
      if !s.lifeCaller c then .next (s.complete c .notAuthorised [])
      else if s.lcState = 5 then .next (s.complete c .lifecycleState [])
      else .next (s.askRandom c .challenge)

/-- The signers of R379. -/
def lifeSigned (c : Storyboard) (src : Nat) (sigs : List (SigEntry × List Byte)) : Bool :=
  let maker := decide (0 < signedBy sigs 3 0)
  if src ≤ 1 then maker else if src ≤ 3 then producersSigned c sigs else producersSigned c sigs || maker

/-- Bits of word i, from 128 on, that a floor of n steps needs in the thermometer code (R446, R447). -/
def floorWord (n i : Nat) : Nat := 2 ^ (min 32 (n - 32 * i)) - 1

/-- The firmware that a span runs. -/
def SpanState.running (x : SpanState) : FwBank := if x.boot.bank = 0 then x.nvs.bank0 else x.nvs.bank1

/-- A bank of a span. -/
def Nvs.bank (v : Nvs) (i : Nat) : FwBank := if i = 0 then v.bank0 else v.bank1

/-- Consecutive ones of a word from bit 0 on, at most n of them. -/
def leadingOnes (v : Nat) : Nat → Nat → Nat
  | 0, _ => 0
  | n + 1, i => if v.testBit i then 1 + leadingOnes v n (i + 1) else 0

/-- The fused floor (R446): the consecutive programmed bits from bit 0 of word 128 upward; a marginal word at its low-margin reading. -/
def Fuses.floor (f : Fuses) : Nat :=
  leadingOnes (((List.range 8).map fun i =>
    let w := f.word (128 + i)
    (if w.clean then w.norm else w.low) * 2 ^ (32 * i)).sum) 256 0

/-- The floor in force (R446). -/
def SpanState.floorInForce (x : SpanState) : Nat := max x.fuses.floor x.nvs.storedFloor

/-- A bank verifies (R446). -/
def SpanState.bankOk (x : SpanState) (i : Nat) : Bool := (x.nvs.bank i).valid && decide (x.floorInForce ≤ (x.nvs.bank i).floor)

/-- The preparation of a transition on a span (R381, R447): the fused floor rises to that of the running image, and TESTED → SHIPPED programs
helper data and check words of the unit root. -/
def State.prepareLife (s : State) (sp : SpanId) (src : Nat) (root : List Byte) : State :=
  let fl := (s.span sp).running.floor
  let s := (List.range 8).foldl (fun s i => if floorWord fl i = 0 then s else s.programFuse sp (128 + i) (floorWord fl i) false) s
  if src ≠ 1 then s
  else
    let check := (sha256 (asciiBytes "AKN-URCHK" ++ root)).take 8
    let s := (List.range 256).foldl (fun s i => s.programFuse sp (256 + i) (pufHelper sp root i) false) s
    (List.range 3).foldl (fun s j => (List.range 2).foldl (fun s i => s.programFuse sp (27 + 2 * j + i) (leField check (4 * i) 4) false) s) s

/-- The programs of a new code into its three copies on a span. -/
def State.programLife (s : State) (sp : SpanId) (n : Nat) : State :=
  (List.range 3).foldl (fun s j => s.programFuse sp (9 + 3 * n + j) (lifeCode n) false) s

/-- The new code is programmed on both spans: if it is reached, the slate, then the floor of the state, and the command completes (R381). -/
def State.endLife (s : State) (w : LcWork) : State :=
  let s := (s.updHub fun h => { h with transition := none }).showLife
  if s.lcState ≠ w.dst then s.complete w.caller .fuseMarginal []
  else
    let r := (s.span w.caller.span).rep
    let slate := r.slate w.caller 0x0B01 .ok 0xFF w.dst (leBytes 1 w.src ++ leBytes 1 w.dst ++ leBytes 1 w.signers ++ w.challenge)
    let s := s.deviceBoth [] [slate]
    let s := (s.setFld .a Fld.lcsEvtTransition 1).setFld .b Fld.lcsEvtTransition 1
    let s := (s.applyFloor .a w.dst).applyFloor .b w.dst
    let s := s.complete w.caller .ok []
    let s := if w.dst = 3 then s.endMonSession 1 else s
    if w.dst = 5 then
      [SpanId.a, SpanId.b].foldl (fun s sp => (s.upd sp fun x => { x with boot := { x.boot with stage := 2 } }).setFld sp Fld.hubBootStage 2) s
    else s

/-- A transition goes on when the programs it waits for have ended: preparation on both spans, then the code on Span A, then on Span B. -/
def State.lifeGoesOn (s : State) (n : Nat) : State :=
  match n with
  | 0 => s
  | n + 1 =>
    match s.hub.transition with
    | none => s
    | some w =>
      let idle (sp : SpanId) : Bool := (s.span sp).fuses.progs == []
      let dest (s : State) (k : Nat) : State := s.updHub fun h => { h with transition := some { w with stage := k } }
      if w.stage = 0 then (if idle .a ∧ idle .b then ((dest s 1).programLife .a w.dst).lifeGoesOn n else s)
      else if w.stage = 1 then (if idle .a then ((dest s 2).programLife .b w.dst).lifeGoesOn n else s)
      else if idle .b then s.endLife w else s

/-- The checks of R380 up to the challenge; the status of the first that applies. -/
def State.lifeRefusal (s : State) (c : Caller) (req : List Byte) : Option Status :=
  let src := leField req 8 1
  if s.isolated c.span then some .spanIsolated
  else if !s.spansJoined then some .serviceUnavailable
  else if !s.lifeCaller c then some .notAuthorised
  else if src ≠ s.lcState ∨ leField req 9 1 ≠ src + 1 ∨ 4 < src then some .lifecycleState
  else if src = 2 ∧ (s.span c.span).rep.epoch = 0 then some .lifecycleState
  else none

/-- Step 4 of R380: the request is for this unit, with the challenge given out, at this time. -/
def State.lifeFresh (s : State) (c : Caller) (req : List Byte) : Bool :=
  decide (80 ≤ req.length) && req.take 8 == asciiBytes "AKNLC-V1" && zeroAt req 10 6 && zeroAt req 74 6 && sliceBytes req 16 16 == s.unitId c.span &&
    ((s.span c.span).vault.lcChallenge.any fun x => x.bytes == sliceBytes req 32 32 && decide (s.elapsed ≤ x.issued + 300 * sec)) &&
    decide (absDiff (ofTai64 (leField req 64 8)) (s.now c.span) ≤ 300 * sec)

/-- LC_TRANSITION (R380, R381): the command completes when the floor of the new state has been ordered. -/
def execLcTransition (c : Caller) (req : List Byte) (s : State) : Host.Outcome State Fault Refusal :=
  s.monEntry c <|
  if !s.started c 0x0B02 [] then .next s
  else
    match s.bars c 0x0B02 [], s.lifeRefusal c req with
    | some st, _ => .next (s.complete c st [])
    | none, some st => .next (s.complete c st [])
    | none, none =>
      let fresh := s.lifeFresh c req
      let r := (s.span c.span).rep
      let sigs := ((keyedSigsFrom req (leField req 72 2) 80).bind fun x => if x.2 = req.length then some x.1 else none).getD []
      let s := if fresh then s.upd c.span fun x => { x with vault := { x.vault with lcChallenge := none } } else s
      if !fresh then .next (s.complete c .notAuthorised [])
      else if !signersOnce sigs ∨ !sigs.all (fun e => (e.1.role == 1 || e.1.role == 3) && keyedHolds r.config (s.span c.span).fuses "AKNLS-V1" (req.take 80) e) ∨
          !lifeSigned r.config (leField req 8 1) sigs then .next (s.complete c .notAuthorised [])
      else if 2 ≤ s.lcState ∧ !r.log.roomOutsideReserve then .next ((s.setFld c.span Fld.vltLogEvtRefused 1).complete c .logFull [])
      else if s.hub.transition.isSome then .next (s.complete c .lockHeld [])
      else
        let src := leField req 8 1
        let d := if src = 1 then s.drawSpan c.span 32 else ([], s)
        let s := (d.2.touch c).updHub fun h => { h with transition := some ⟨src, src + 1, c, sigs.length, sliceBytes req 32 32, 0⟩ }
        let s := (s.prepareLife .a src d.1).prepareLife .b src d.1
        .next (s.lifeGoesOn 3)

/-- FUSE_PROGRAM_DONE (R377): a program has ended, with the readings of the word that it set; bits that do not read 1 are programmed again, up to
four times. Then a scan that waited starts (R375), and a transition goes on. -/
def execFuseProgramDone (sp : SpanId) (norm low high : Nat) (s : State) : Host.Outcome State Fault Refusal :=
  match (s.span sp).fuses.progs with
  | [] => .next s
  | p :: t =>
    let w := (s.span sp).fuses.word p.word
    let w' : FuseWord := ⟨p.word, w.norm ||| (norm &&& p.bits), w.low ||| (low &&& p.bits), w.high ||| (high &&& p.bits)⟩
    let done := decide (w'.norm &&& p.bits = p.bits ∧ w'.low &&& p.bits = p.bits ∧ w'.high &&& p.bits = p.bits)
    let s := s.updFuses sp fun f => { f with words := putFuse w' f.words }
    if !done ∧ p.attempts < 4 then .next (s.updFuses sp fun f => { f with progs := { p with attempts := p.attempts + 1 } :: t })
    else
      let s := s.updFuses sp fun f => { f with progs := t }
      let s := if p.monitor then
          s.complete ⟨sp, .monitor, (s.hub.monitor.session.map (·.id)).getD 0, 0⟩ (if done then .ok else .fuseMarginal) []
        else s
      let s := if t = [] ∧ (s.span sp).fuses.scanWaits then s.fuseScan sp [] else s
      .next (s.lifeGoesOn 3)

end Sys2Proof.Machine
end

