-- ==== Sys2Proof/Machine/Power.lean ====
section
/-!
DEFINITION. The field side and the reference clocks (R388, R389, R420 to R428): classification, the converter, telemetry and tiers, the
power-fail warning, and what a start without supply leaves (R443).
-/

namespace Sys2Proof.Machine

/-! ### Reference clocks (R388, R389) -/

/-- A switch of the PLLs of a die between SYSREF and its internal oscillator: the CLOCK_FALLBACK slate, direction 1 TO_INTERNAL or
2 TO_SYSREF, and the report of 0x520, or 0x524 on the hub die. -/
def State.clockSwitch (s : State) (d : Die) (toInternal : Bool) : State :=
  let dir := if toInternal then 1 else 2
  match d with
  | .span sp =>
    let s := (s.setFld sp Fld.clkStatusSysFallback (boolNat toInternal)).setFld sp Fld.clkStatusSysLock (boolNat (!toInternal))
    let s := if toInternal then s.setFld sp Fld.clkEvtSysLost 1 else s.setFld sp Fld.clkEvtSysRestored 1
    (s.raise sp 0x520 .ok [] none none).device sp [] [devSlate 0x0A10 .ok (.span sp) sp.code (leBytes 1 dir)]
  | .hub => ((s.updHub fun h => { h with fallback := toInternal }).raiseHub 0x524 .ok []).deviceBoth [] [devSlate 0x0A10 .ok .hub 3 (leBytes 1 dir)]

/-- SYSREF_LOST (R388): the PLLs of a die switch to its internal oscillator. -/
def execSysrefLost (d : Die) (s : State) : Host.Outcome State Fault Refusal :=
  match d with
  | .span sp => if s.fld sp Fld.clkStatusSysFallback = 1 then .next s else .next (s.clockSwitch d true)
  | .hub => if s.hub.fallback then .next s else .next (s.clockSwitch d true)

/-- SYSREF_RESTORED (R388): SYSREF has stayed within its limits for 100 ms, and the PLLs of a die return to it. -/
def execSysrefRestored (d : Die) (s : State) : Host.Outcome State Fault Refusal :=
  match d with
  | .span sp => if s.fld sp Fld.clkStatusSysFallback = 0 then .next s else .next (s.clockSwitch d false)
  | .hub => if s.hub.fallback then .next (s.clockSwitch d false) else .next s

/-- PCIE_REFCLK_LOST (R389): the host port's link goes down, as R256 says. -/
def execPcieRefclkLost (sp : SpanId) (s : State) : Host.Outcome State Fault Refusal :=
  let s := (s.setFld sp Fld.clkStatusPcieLock 0).setFld sp Fld.clkEvtPcieLost 1
  .next ((s.raise sp 0x521 .ok [] none none).pcieDown sp)

/-- SERDES_LOCK_FAIL (R389): the SerDes PLL of local port n cannot lock; lock and link go (R85, R87, R109). -/
def execSerdesLockFail (sp : SpanId) (n : Nat) (s : State) : Host.Outcome State Fault Refusal :=
  if 2 ≤ n then .next s
  else
    let s := (s.setReg sp Reg.clkStatus (putBits (s.reg sp Reg.clkStatus) (3 + n) (3 + n) 0)).setBit sp Reg.clkEvt (3 + n) true
    .next ((s.raise sp (0x522 + n) .ok [] none none).lockLost sp n)

/-! ### Tiers (R424, R425) -/

/-- The class that the straps ask for (R421): CLS2, CLS1 and CLS0 as bits 2 to 0, an open land being 1. -/
def strapClass (straps : Nat) : Nat :=
  if straps % 8 = 6 then 7 else if straps % 8 = 5 then 6 else if straps % 8 = 4 then 5 else if straps % 8 = 3 then 4 else 8

/-- The available tier (R424): 1 FULL, 2 REDUCED, 0 NONE. -/
def Power.tierOf (p : Power) : Nat :=
  if p.aux then 1
  else if p.poe ∧ 6 ≤ p.assigned then 1
  else if p.poe ∧ p.assigned = 5 then 2 else 0

/-- How much a tier allows, for comparing tiers. -/
def tierRank (t : Nat) : Nat := if t = 1 then 2 else if t = 2 then 1 else 0

/-- POWER_TIER of the configuration that the module runs; 0 at epoch 0. -/
def State.declaredTier (s : State) : Nat := (s.span s.ruling).rep.config.siteNat 5 1

/-- The assigned class as the registers and the reports show it: 0 without PoE. -/
def Power.shownClass (p : Power) : Nat := if p.poe then p.assigned else 0

/-- Shows the field side in the PWR registers of a span. -/
def State.showPower (s : State) (sp : SpanId) : State :=
  let p := s.hub.power
  let d := (s.span sp).rep.config.siteNat 5 1
  let s := (s.setFld sp Fld.pwrStatusSource p.source).setFld sp Fld.pwrStatusAuxPresent (boolNat p.aux)
  let s := (s.setFld sp Fld.pwrStatusPoePresent (boolNat p.poe)).setFld sp Fld.pwrStatusClassAssigned p.shownClass
  let s := (s.setFld sp Fld.pwrStatusClassRequested p.requested).setFld sp Fld.pwrStatusTierAvail p.tier
  let s := (s.setFld sp Fld.pwrStatusTierDeclared d).setFld sp Fld.pwrStatusPfw (boolNat p.pfw)
  s.setFld sp Fld.pwrStatusCapped (boolNat (decide (tierRank p.tier < tierRank d)))

/-- Shows the field side on both spans. -/
def State.showPowers (s : State) : State := (s.showPower .a).showPower .b

/-- The report detail of sources 0x540 and 0x541 (PWR registers). -/
def State.powerDetail (s : State) : List Byte :=
  let p := s.hub.power
  leBytes 2 p.vin ++ leBytes 2 p.vhold ++ leBytes 1 p.shownClass ++ leBytes 1 p.tier ++ leBytes 1 s.declaredTier ++ leBytes 1 p.source ++ zeroBytes 8

/-- An event bit of `PWR_EVT` on both spans. -/
def State.pwrEvt (s : State) (f : FieldRef) : State := (s.setFld .a f 1).setFld .b f 1

/-! ### The power-fail warning (R427) -/

/-- The warning is asserted: source 0x540, PFW_N low, the flush of R367 on both spans, and the gap start of R309. -/
def State.assertPfw (s : State) : State :=
  if s.hub.power.pfw then s
  else
    let s := (s.updHub fun h => { h with power := { h.power with pfw := true, above := none } }).showPowers
    let s := s.pwrEvt Fld.pwrEvtPfwAssert
    let s := (s.bump .a Fld.pwrPfwCountCount 1).bump .b Fld.pwrPfwCountCount 1
    let s := (s.raiseHub 0x540 .ok s.powerDetail).emit (.pfwN true)
    let s := (s.beginFlush .a).beginFlush .b
    let s := s.set64 .a Reg.tmpGapStartLo Reg.tmpGapStartHi (tai64 (s.now s.ruling))
    let s := ((s.setFld .a Fld.tmpGapInfoEvents 0).setFld .a Fld.tmpGapInfoOverflow 0).setFld .a Fld.tmpGapInfoVbakLost 0
    s.updTamper fun t => { t with gap := [], gapOpen := true, gapTick := s.aonTick, outage := false }

/-- PFW_ASSERT (R427): V_IN has fallen below the warning threshold. -/
def execPfwAssert (s : State) : Host.Outcome State Fault Refusal := .next s.assertPfw

/-- The rails of a span are on. -/
def State.railsOn (s : State) : SpanId → Bool
  | .a => s.hub.sup.spanRailsA
  | .b => s.hub.sup.spanRailsB

/-- The reset of a span whose rails start is released. -/
def State.releaseSpan (s : State) (sp : SpanId) : State :=
  if s.railsOn sp then s else s.upd sp fun x => { x with boot := { x.boot with stage := 0, released := s.elapsed } }

/-- The supervisor starts the span rails and releases the span resets (R435 step 6, R436): once the warning is released and the available tier
is not NONE. -/
def State.railsStart (s : State) : State :=
  if !s.hub.power.converter ∨ !s.hub.sup.running ∨ s.hub.power.pfw ∨ s.hub.power.tier = 0 then s
  else ((s.releaseSpan .a).releaseSpan .b).updHub fun h => { h with sup := { h.sup with spanRailsA := true, spanRailsB := true } }

/-- PFW_RELEASE (R427): V_IN has stayed above the release threshold for 100 ms. What waited goes on, and after a power-up the span rails start
(R435). A warning without an outage leaves no gap (R309). -/
def execPfwRelease (s : State) : Host.Outcome State Fault Refusal :=
  if !s.hub.power.pfw ∨ !(s.hub.power.above.any fun t => decide (t + 100 * ms ≤ s.elapsed)) then .next s
  else
    let s := (s.updHub fun h => { h with power := { h.power with pfw := false } }).showPowers
    let s := ((s.pwrEvt Fld.pwrEvtPfwRelease).emit (.pfwN false)).updTamper fun t => { t with gapOpen := t.gapOpen && t.outage }
    let s := (s.endFlush .a).endFlush .b
    .next (((s.drainDeferred .a).drainDeferred .b).railsStart)

/-! ### Inputs -/

/-- The available tier is evaluated (R425): each fall and each rise raises source 0x541; TIER_LOW and TIER_OK follow the declared tier; NONE while
the spans run asserts the warning at once. -/
def State.evalTier (s : State) : State :=
  let was := s.hub.power.tier
  let now := s.hub.power.tierOf
  if was = now then s.showPowers
  else
    let s := (s.updHub fun h => { h with power := { h.power with tier := now } }).showPowers
    let d := tierRank s.declaredTier
    let s := s.raiseHub 0x541 .ok s.powerDetail
    let s := if tierRank now < d ∧ d ≤ tierRank was then s.pwrEvt Fld.pwrEvtTierLow else s
    let s := if tierRank was < d ∧ d ≤ tierRank now then s.pwrEvt Fld.pwrEvtTierOk else s
    if now = 0 ∧ (s.hub.sup.spanRailsA ∨ s.hub.sup.spanRailsB) then s.assertPfw else s.railsStart

/-- CLASS_CHANGE when CLASS_ASSIGNED is no longer what it was. -/
def State.classChange (s : State) (was : Nat) : State := if s.hub.power.shownClass = was then s else s.pwrEvt Fld.pwrEvtClassChange

/-- POE_CLASSIFICATION (R421): the straps are read, and the PSE grants a class. -/
def execPoeClassification (straps granted : Nat) (s : State) : Host.Outcome State Fault Refusal :=
  let was := s.hub.power.shownClass
  let s := s.updHub fun h => { h with power := { h.power with requested := strapClass straps, assigned := min granted 8 } }
  .next (s.classChange was).evalTier

/-- INPUT_SOURCE_CHANGE (R423): the ideal diodes pass to another input: 0 NONE, 1 AUX, 2 POE. -/
def execInputSourceChange (source : Nat) (s : State) : Host.Outcome State Fault Refusal :=
  if 3 ≤ source ∨ s.hub.power.source = source then .next s
  else
    let s := s.updHub fun h => { h with power := { h.power with source := source } }
    .next (s.pwrEvt Fld.pwrEvtSourceChange).evalTier

/-- Shows a telemetry update on a span. -/
def State.showTelemetry (s : State) (sp : SpanId) : State :=
  let p := s.hub.power
  let s := (s.setFld sp Fld.pwrVoltsVin p.vin).setFld sp Fld.pwrVoltsVhold p.vhold
  let s := (s.setFld sp Fld.pwrInputsVaux p.vaux).setFld sp Fld.pwrInputsVpoe p.vpoe
  let s := (s.setFld sp Fld.pwrLoadPower p.power).setFld sp Fld.pwrLoadCurrent p.current
  s.setFld sp Fld.pwrPeakPower (max p.power (s.fld sp Fld.pwrPeakPower))

/-- PWR_TELEMETRY (R425): an update of the field controller; V_IN is the higher of the two inputs, and AUX counts as present above 36 V. The time
since which V_IN lies above the lowest release threshold goes on or starts anew. -/
def execPwrTelemetry (t : Telemetry) (s : State) : Host.Outcome State Fault Refusal :=
  let vin := max t.vaux t.vpoe
  let was := s.hub.power.shownClass
  let s := s.updHub fun h => { h with power := { h.power with
    vaux := t.vaux, vpoe := t.vpoe, vhold := t.vhold, power := t.power, current := t.current, vin := vin
    aux := decide (3600 < t.vaux), poe := decide (0 < t.vpoe)
    above := if vin ≤ 3850 then none else some (h.power.above.getD s.elapsed) } }
  let temp := (BitVec.ofInt 16 t.temp).toNat
  let s := ((s.showTelemetry .a).showTelemetry .b).setFld .a Fld.pwrFieldTempTemp temp
  .next ((s.setFld .b Fld.pwrFieldTempTemp temp).classChange was).evalTier

end Sys2Proof.Machine
end

