-- ==== Sys2Proof/Machine/Reset.lean ====
section
/-!
DEFINITION. The resets (R8, R443, R444): what a POR, a SPAN reset and a BLOCK reset leave, the converter, the supervisor's start, and the loss of
the always-on domain (R171, R268, R309).
-/

namespace Sys2Proof.Machine

/-! ### Registers (R8) -/

/-- What a register holds after a reset of some domain: the fields that the domain resets hold their reset values, the others are kept. -/
def resetReg (dom : RegField → Bool) (off : Nat) (v : Word32) : Word32 :=
  match findReg off with
  | none => resetWord off
  | some d => d.1.fields.foldl (fun w f => if dom f then w else putBits w f.hi f.lo (getBits v f.hi f.lo)) (resetWord off)

/-- The registers of some windows after a reset of some domain. -/
def resetRegs (dom : RegField → Bool) (hit : Nat → Bool) (l : List (Nat × Word32)) : List (Nat × Word32) :=
  (l.map fun x => if hit x.1 then (x.1, resetReg dom x.1 x.2) else x).filter fun x => decide (x.2 ≠ resetWord x.1)

/-! ### Spans -/

/-- What NOR keeps of a span's replication (R372): the journal with the records prepared above the highest committed CSN, the side segment, and
the records of an image that is prepared. -/
def Cont.durable (c : Cont) : Cont :=
  { Cont.reset with
    term := c.term, csn := c.csn, lastCsn := c.lastCsn, journal := c.journal, settled := c.settled
    open_ := c.open_.map fun r => { r with change := { r.change with caller := none } }
    nextId := c.nextId, side := c.side, sideChanges := c.sideChanges, prepared := c.prepared, decision := c.decision }

/-- What NOR keeps: a program that was cut off leaves its record torn (R365, R366), an erase that was cut off leaves its intent open (R369). An
overwrite of a SALT_n page that was ordered is done at the next boot (R306). -/
def Nvs.durable (v : Nvs) : Nvs :=
  { v with
    progs := v.progs.filter fun p => p.salt.isSome
    erases := v.erases.map fun e => { e with suspended := false, repeats := 0, half := none }
    pfwAt := none, sinceApplied := 0 }

/-- What a span keeps through a POR: NOR and fuses. -/
def SpanState.por (x : SpanState) (cause : Nat) : SpanState :=
  { SpanState.reset with
    regs := resetRegs (·.por) (fun _ => true) x.regs
    rep := x.rep
    cont := x.cont.durable
    nvs := x.nvs.durable
    fuses := { x.fuses with scanned := false, scanWaits := false, progs := [] }
    stream := { x.stream with shadow := x.stream.active, dirty := [], discarded := [], states := [], held := [] }
    boot := { BootState.reset with cause := cause } }

/-- What a span keeps through a SPAN reset: NOR, fuses, and in retention the stream state, the contexts and the key slots (R114, R444); a port
that a response retired stays so (R411). -/
def SpanState.spanReset (x : SpanState) (cause now : Nat) : SpanState :=
  { SpanState.reset with
    regs := resetRegs (·.span) (fun _ => true) x.regs
    rep := x.rep
    cont := x.cont.durable
    nvs := x.nvs.durable
    fuses := { x.fuses with scanned := false, scanWaits := false, progs := [] }
    stream := x.stream
    port0 := { StreamPort.reset with retired := x.port0.retired }
    port1 := { StreamPort.reset with retired := x.port1.retired }
    worlds := { Worlds.reset with
      guests := x.worlds.guests.map fun g => { g with
        timer := none, masked := 0, pending := 0, half := false, kicked := now, queues := [], inflight := [], restartedAt := now } }
    boot := { BootState.reset with cause := cause, released := now, slates := x.boot.slates } }

/-! ### POR (R443, R444) -/

/-- What the hub die keeps through a POR: the always-on domain and the field side; at a module reset the
supervisor, which carries it out, goes on (R444). -/
def HubState.por (h : HubState) (cause : Nat) (tmp : Bool) : HubState :=
  { h with
    regs := if tmp then resetRegs (·.por) (fun _ => true) h.regs else h.regs
    renews := [], votes := [], srcs := [], window := 0, toA := [], toB := []
    monitor := HubState.reset.monitor
    update := HubState.reset.update
    transition := none
    tamper := { h.tamper with test := none, tests := [], newPolicy := none, filters := h.tamper.filters.filter fun f => onVbak f.n }
    core := if cause = 1 then h.core else HubState.reset.core
    supMem := if cause = 1 then h.supMem else [] }

/-- A POR of the logic side with a cause of `HUB_RESET_CAUSE`: 0 POWER_ON or 1 MOD_RESET. A warning that stands goes on. -/
def State.por (s : State) (cause : Nat) (tmp : Bool) : State :=
  let s := { s with a := s.a.por cause, b := s.b.por cause, hub := s.hub.por cause tmp, deck := [] }
  let s := [SpanId.a, SpanId.b].foldl (fun s sp => s.setBit sp Reg.hubResetCause cause true) s
  let s := if s.hub.power.pfw then (s.beginFlush .a).beginFlush .b else s
  s.showPowers

/-- HOLD_CHARGED (R422, R435 step 2, R443): HOLD has reached 35.0 V, the converter starts, and the logic side takes a POR. -/
def execHoldCharged (s : State) : Host.Outcome State Fault Refusal :=
  if s.hub.power.converter then .next s
  else
    let s := s.updHub fun h => { h with power := { h.power with converter := true }, sup := HubState.reset.sup }
    .next (s.por 0 true)

/-- UVLO (R422): HOLD has fallen below 28.0 V and the converter stops. The logic side is without supply; the always-on domain goes on from
VBAK. -/
def execUvlo (s : State) : Host.Outcome State Fault Refusal :=
  if !s.hub.power.converter then .next s
  else
    let s := s.updHub fun h => { h with
      power := { h.power with converter := false, pfw := true, above := none }
      sup := HubState.reset.sup
      tamper := { h.tamper with outage := h.tamper.gapOpen } }
    .next (s.por 0 false)

/-- MODULE_RESET (R444): the flush of R367, and once both spans show FLUSHED, or 2.5 ms later, the POR of the logic side; the boot then follows
from the release of the span resets. -/
def execModuleReset (s : State) : Host.Outcome State Fault Refusal :=
  if !s.hub.power.converter then .next s
  else
    let s := (s.beginFlush .a).beginFlush .b
    let flushed : Bool := s.fld .a Fld.nvsStatusFlushed == 1 && s.fld .b Fld.nvsStatusFlushed == 1
    let began := min (s.a.nvs.pfwAt.getD s.elapsed) (s.b.nvs.pfwAt.getD s.elapsed)
    if flushed ∨ began + 2500 * us ≤ s.elapsed then
      let s := s.updHub fun h => { h with sup := { h.sup with spanRailsA := false, spanRailsB := false } }
      let s := s.por 1 true
      .next (s.loadLimits.railsStart)
    else .next s

/-- SUPERVISOR_START (R435 steps 3 to 6, R436, R446): the supervisor runs its ROM and loads the SUPERVISOR section of the active bank of Span A's
NOR, or of Span B's. It computes the temperature limits (R300) and starts the span rails if it may. -/
def execSupervisorStart (vbakOk : Bool) (s : State) : Host.Outcome State Fault Refusal :=
  if !s.hub.power.converter ∨ s.hub.sup.running then .next s
  else
    let good := (([s.a, s.b].filter fun x => x.bankOk x.nvs.boot.active).map fun x => x.nvs.bank x.nvs.boot.active).head?
    let s := s.updHub fun h => { h with
      sup := { h.sup with running := true, romOnly := good.isNone, section_ := (good.map (·.supervisor)).getD [] }
      core := PierCore.reset 1 0 0 s.elapsed }
    let s := [SpanId.a, SpanId.b].foldl (fun s sp => s.setFld sp Fld.hubBootSupRom (boolNat good.isNone)) s
    let s := s.setFld .a Fld.tmpStatusVbakOk (boolNat vbakOk)
    .next (s.loadLimits.railsStart)

/-! ### SPAN reset (R443) -/

/-- The slate of a span reset that no command ordered: cause and no proposal. -/
def spanResetSlate (sp : SpanId) (cause : Nat) : SlateReq := devSlate 0x0B09 .ok (.span sp) sp.code (leBytes 1 cause ++ leBytes 8 0)

/-- Drops the links of a span: both deck links, on both sides, with the slates of the span that goes on (R26, R259), its hub link, its stream ports
(R109) and its host port. The silence of such a link is the 100 us that R259 counts (log entry 108). -/
def State.dropLinks (s : State) (sp : SpanId) : State :=
  let up := [0, 1].filter fun n => (s.span sp).cont.linkUp n
  let s := up.foldl (fun s n => (s.setLink sp n false).setLink sp.other n false) { s with deck := [] }
  let s := up.foldl (fun s n => s.device sp.other [] [deckDownSlate sp.other n 0 100]) s
  let s := (s.linkDown sp 0).linkDown sp 1
  let s := s.updCont sp fun c => { c with hubLink := false }
  (s.showWitness .a).showWitness .b

/-- The TMP registers that a SPAN reset sets to their reset values (R8): those that show nothing present. The supervisor goes on, so the others show the
present levels, limits, filters and responses again at once (log entry 110). -/
def tmpSpanRegs : List Nat :=
  [Reg.tmpTest, Reg.tmpEvt, Reg.tmpIen, Reg.tmpGapEndLo, Reg.tmpGapEndHi] ++ (List.range 4).map Reg.tmpLoopnErr

/-- SPAN_RESET (R443, R444, R412): the span takes the reset that is due; an order other than a command's is recorded by the other span, or by the
span itself after its reset (R413). What the monitor and a life-cycle transition had begun on it ends. -/
def execSpanReset (sp : SpanId) (s : State) : Host.Outcome State Fault Refusal :=
  match (s.span sp).boot.resetDue with
  | none => .next s
  | some cause =>
    let m := (s.span sp.other).cont.mode
    let joined := m == .keystone || m == .follower || m == .solo
    let s := s.endRushes sp
    let s := match s.hub.transition with
      | some w => (s.updHub fun h => { h with transition := none }).complete w.caller .serviceUnavailable []
      | none => s
    let s := s.dropLinks sp
    let s := s.upd sp fun x => x.spanReset cause s.elapsed
    let s := tmpSpanRegs.foldl (fun s off => s.setReg sp off (resetWord off)) s
    let s := s.updHub fun h => { h with monitor := { h.monitor with halts := h.monitor.halts.filter fun y => y.span != sp } }
    let s := (s.setBit sp Reg.hubResetCause cause true).showPower sp
    let s := if s.hub.power.pfw then s.beginFlush sp else s
    let s := s.showMonitor
    if cause = 3 then .next s
    else if joined then .next (s.device sp.other [] [spanResetSlate sp cause])
    else .next (s.upd sp fun x => { x with boot := { x.boot with slates := x.boot.slates ++ [spanResetSlate sp cause] } })

/-! ### BLOCK reset (R443) -/

/-- The register windows that the bits of `HUB_BLOCK_RST` name: STE, CLS, BNE, HOST, RNG, TB, ERR, NVS. -/
def blockWindow (bit : Nat) : Nat := [0, 1, 2, 4, 6, 9, 8, 0xA].getD bit 0xFFFF

/-- BLOCK_RESET (R8, R443): a write of `HUB_BLOCK_RST` resets the register interfaces of the named blocks. A reset of BNE wipes every lane, and one
of HOST or ERR resets the queue pairs and the report queue that lie behind their registers. -/
def execBlockReset (sp : SpanId) (mask : Nat) (s : State) : Host.Outcome State Fault Refusal :=
  let hit (off : Nat) : Bool := (List.range 8).any fun b => mask.testBit b && off / 0x10000 == blockWindow b
  let s := s.upd sp fun x => { x with regs := resetRegs (·.block) hit x.regs }
  let s := if mask.testBit 2 then s.wipeLanes sp else s
  let s := if mask.testBit 3 then
      (s.updHost sp fun h => { h with
        queues := [], inflight := h.inflight.map fun d => { d with silent := true }
        fns := h.fns.map fun f => { f with qsel := 0, evt := 0, ien := 0 } }).showInflight sp
    else s
  let s := if mask.testBit 4 then s.showEnt sp else s
  let s := if mask.testBit 6 then (s.updErr sp fun e => { e with queue := StdQueue.empty, srcs := e.srcs.map fun x => { x with last := 0 } }).showErrQ sp else s
  .next (if mask.testBit 7 then s.showNvs sp else s)

/-! ### Loss of the always-on domain (R171, R268, R309) -/

/-- AON_LOSS: VBAK and the logic supplies are absent together. Everything in the always-on domain is cleared, and the anchor words are invalid. -/
def execAonLoss (s : State) : Host.Outcome State Fault Refusal :=
  if s.hub.power.converter then .next s
  else .next (s.updHub fun h => { h with
    regs := []
    witness := HubState.reset.witness
    anchors := []
    anchorsValid := false
    tamper := { HubState.reset.tamper with gapOpen := true, outage := true, aonLost := true } })

/-- SB_SPAN_RESET (R443): orders a span reset under producer quorum. -/
def execSbSpanReset (c : Caller) (sp : SpanId) (s : State) : Host.Outcome State Fault Refusal := .next (s.direct c (.sbSpanReset sp))

end Sys2Proof.Machine
end

