-- ==== Sys2Proof/Machine/Time.lean ====
section
/-!
DEFINITION. The time base of a span (R156 to R165): one tick, steps, sets, slews, QUALIFIED, the alignment of the two time bases,
1PPS and UTC.
-/

namespace Sys2Proof.Machine

/-! ### The tick -/

/-- The number of nanoseconds that a slew of a total has applied after some of its ticks, spread evenly (R156, R157). -/
def slewApplied (sl : Slew) (gone : Nat) : Nat := if sl.ticks = 0 then 0 else sl.total.natAbs * min gone sl.ticks / sl.ticks

/-- The time base after one TBCLK edge at an addend (R156): `acc`, the slew step and the seconds rollover. -/
def TimeBase.advance (t : TimeBase) (addend : Nat) : TimeBase :=
  let acc := t.frac + addend
  let gone := (t.slew.map fun sl => sl.gone + 1).getD 0
  let applied := (t.slew.map fun sl => slewApplied sl gone).getD 0
  let step : Int := match t.slew with
    | some sl => if sl.total < 0 then -((applied - sl.applied : Nat) : Int) else ((applied - sl.applied : Nat) : Int)
    | none => 0
  let ns := ((t.ns + acc / 2 ^ 28 : Nat) : Int) + step
  let slew := t.slew.map fun sl => { sl with gone := gone, applied := applied }
  if ns < 0 then { t with sec := t.sec - 1, ns := (ns + 1000000000).toNat, frac := acc % 2 ^ 28, slew := slew }
  else if 1000000000 ≤ ns then
    { t with sec := (t.sec + 1) % 2 ^ 48, ns := (ns - 1000000000).toNat, frac := acc % 2 ^ 28, slew := slew }
  else { t with ns := ns.toNat, frac := acc % 2 ^ 28, slew := slew }

/-- The time base at a given TAI time. -/
def TimeBase.at_ (t : TimeBase) (v : Nat) : TimeBase := { t with sec := v / 1000000000 % 2 ^ 48, ns := v % 1000000000 }

/-- QUALIFIED is cleared, if it was set: QUAL_LOST and its report (R159). -/
def State.unqualify (s : State) (sp : SpanId) : State :=
  if s.fld sp Fld.tbStatusQualified = 1 then
    ((s.setFld sp Fld.tbStatusQualified 0).setFld sp Fld.tbEvtQualLost 1).raiseQuiet sp 0x1C0 .ok []
  else s

/-- Applies a step or a set that waited for the tick; 100 ms or more clears QUALIFIED (R157). -/
def State.applyTime (s : State) (sp : SpanId) (v : Nat) : State :=
  let mag := absDiff (s.now sp) v
  let s := s.upd sp fun x => { x with tb := { x.tb.at_ v with step := none, set := none } }
  let s := s.setFld sp Fld.tbEvtStepApplied 1
  if 100 * ms ≤ mag then s.unqualify sp else s

/-- One TBCLK tick of a span: the advance of R156, then a step or a set that was written since the last tick (R157). -/
def State.tickSpan (s : State) (sp : SpanId) : State :=
  let s := s.upd sp fun x => { x with tb := x.tb.advance (s.fld sp Fld.tbAddendAddend) }
  let tb := (s.span sp).tb
  match tb.set, tb.step with
  | some v, _ => s.applyTime sp v
  | none, some d => s.applyTime sp (addSigned (s.now sp) d)
  | none, none => s

/-- One tick of the module: 8 ns pass on both spans (log entry 2). -/
def State.tick (s : State) : State :=
  { (s.tickSpan .a).tickSpan .b with elapsed := s.elapsed + 8 }

/-! ### Changing the time -/

/-- A span that is joined and does not hold the lease ignores servo writes (R160). -/
def State.servoIgnored (s : State) (sp : SpanId) : Bool := (s.span sp).cont.mode == .follower

/-- TB_STEP (R157): a signed step at the next tick. -/
def execTbStep (sp : SpanId) (v : Word32) (s : State) : Host.Outcome State Fault Refusal :=
  if s.servoIgnored sp then .next s
  else .next (s.upd sp fun x => { x with tb := { x.tb with step := some (x.tb.step.getD 0 + v.toInt) } })

/-- TB_SET (R157): a write of `TB_SET_SEC_HI` sets the time at the next tick. -/
def execTbSet (sp : SpanId) (v : Word32) (s : State) : Host.Outcome State Fault Refusal :=
  if s.servoIgnored sp then .next s
  else
    let s := s.setFld sp Fld.tbSetSecHiSec v.toNat
    let sec := s.fld sp Fld.tbSetSecLoSec + 2 ^ 32 * s.fld sp Fld.tbSetSecHiSec
    .next (s.upd sp fun x => { x with tb := { x.tb with set := some (sec * 1000000000 + s.fld sp Fld.tbSetNsNs) } })

/-- Starts a slew of a total over a number of ticks, at most 1 ns per tick; a running one is replaced, by nothing if both are zero (R157). -/
def State.slew (s : State) (sp : SpanId) (total : Int) (ticks : Nat) : State :=
  let n := max ticks total.natAbs
  if n = 0 then (s.upd sp fun x => { x with tb := { x.tb with slew := none } }).setFld sp Fld.tbStatusSlewing 0
  else (s.upd sp fun x => { x with tb := { x.tb with slew := some ⟨total, n, 0, 0⟩ } }).setFld sp Fld.tbStatusSlewing 1

/-- TB_SLEW (R157): a write of `TB_SLEW_TICKS` spreads `TB_SLEW_NS` over that many ticks. -/
def execTbSlew (sp : SpanId) (v : Word32) (s : State) : Host.Outcome State Fault Refusal :=
  if s.servoIgnored sp then .next s
  else .next ((s.setReg sp Reg.tbSlewTicks v).slew sp (s.reg sp Reg.tbSlewNs).toInt v.toNat)

/-- SLEW_COMPLETE (R157): the slew has run through its ticks and ends. -/
def execSlewComplete (sp : SpanId) (s : State) : Host.Outcome State Fault Refusal :=
  match (s.span sp).tb.slew with
  | some sl =>
    if sl.ticks ≤ sl.gone then
      .next ((s.upd sp fun x => { x with tb := { x.tb with slew := none } }).setFld sp Fld.tbStatusSlewing 0)
    else .next s
  | none => .next s

/-- TB_UNQUALIFY (R159). -/
def execTbUnqualify (sp : SpanId) (s : State) : Host.Outcome State Fault Refusal :=
  if s.servoIgnored sp then .next s else .next (s.unqualify sp)

/-- TB_REF_LOST (R158): TBCLK runs from the internal oscillator; REF_LOST is set and reported. QUALIFIED stays. -/
def execTbRefLost (sp : SpanId) (s : State) : Host.Outcome State Fault Refusal :=
  if s.fld sp Fld.tbCtrlRefSel = 0 ∨ s.fld sp Fld.tbStatusRefLock = 0 then .next s
  else .next (((s.setFld sp Fld.tbStatusRefLock 0).setFld sp Fld.tbEvtRefLost 1).raiseQuiet sp 0x1C1 .ok [])

/-! ### Two spans, one time -/

/-- The 32-bit two's complement of a signed offset, saturating (`TB_PEER_OFFSET`). -/
def offsetWord (d : Int) : Word32 := BitVec.ofInt 32 (max (-(2 ^ 31)) (min (2 ^ 31 - 1) d))

/-- QUALIFIED takes the master's value (R160, R161). -/
def State.followQualified (s : State) (sp : SpanId) : State :=
  if s.fld sp.other Fld.tbStatusQualified = 1 then s.setFld sp Fld.tbStatusQualified 1 else s.unqualify sp

/-- The offset of a span from the master's time, noted in `TB_PEER_OFFSET` and told to the master by TIME (R160). -/
def State.noteOffset (s : State) (sp : SpanId) (d : Int) : State :=
  let s := s.upd sp fun x => { x with tb := { x.tb with measuredAt := some s.elapsed } }
  (s.setReg sp Reg.tbPeerOffset (offsetWord d)).send sp.other (.time (s.now sp))

/-- TB_PEER_MEASURE (R160, R161): once per millisecond a span that follows the time master measures its offset, slews it out at 10 us per second, and takes
over QUALIFIED. A span that rejoins steps an offset above 1 ms, and QUALIFIED takes the master's value at the step. -/
def execTbPeerMeasure (sp : SpanId) (s : State) : Host.Outcome State Fault Refusal :=
  let m := (s.span sp).cont.mode
  let due := ((s.span sp).tb.measuredAt).all fun t => decide (t + ms ≤ s.elapsed)
  if (m = .follower ∨ m = .rejoining) ∧ s.fld sp.other Fld.tbStatusTimeMaster = 1 ∧ due then
    let d : Int := (s.now sp.other : Int) - (s.now sp : Int)
    let s := s.noteOffset sp d
    if m = .follower then
      let s := (s.slew sp d (d.natAbs * 12500)).followQualified sp
      .next ((s.setAligned sp (decide (d.natAbs ≤ 40))).setAligned sp.other (decide (d.natAbs ≤ 40)))
    else if d.natAbs ≤ 1 * ms then .next (s.slew sp d (d.natAbs * 12500))
    else
      let s := s.upd sp fun x => { x with tb := { x.tb.at_ (s.now sp.other) with slew := none } }
      .next (((s.setFld sp Fld.tbStatusSlewing 0).setFld sp Fld.tbEvtStepApplied 1).followQualified sp)
  else .next s

/-- TIME (R160): a measurement message arrives and the offset it shows is noted. -/
def execTimeMsg (sp : SpanId) (s : State) : Host.Outcome State Fault Refusal :=
  match s.receive sp (fun m => match m with | .time t => some t | _ => none) with
  | some (t, s) => .next (s.setReg sp Reg.tbPeerOffset (offsetWord ((t : Int) - (s.now sp : Int))))
  | none => .next s

/-! ### 1PPS and UTC -/

/-- UTC_OFFSET_CHANGE (R165): at the TAI second of `TB_UTC_AT_SEC_LO`. -/
def execUtcOffsetChange (sp : SpanId) (s : State) : Host.Outcome State Fault Refusal :=
  let atSec := s.fld sp Fld.tbUtcAtSecLoSec
  if atSec ≠ 0 ∧ (s.span sp).tb.sec % 2 ^ 32 = atSec then
    let s := s.setFld sp Fld.tbUtcOffsetOffset (s.fld sp Fld.tbUtcNextOffset)
    .next ((s.setFld sp Fld.tbEvtUtcChanged 1).setFld sp Fld.tbUtcAtSecLoSec 0)
  else .next s

/-- PPS_IN_EDGE (R164): the corrected timestamp of the edge. -/
def execPpsInEdge (sp : SpanId) (s : State) : Host.Outcome State Fault Refusal :=
  if s.fld sp Fld.tbCtrlPpsInEn = 1 then
    let t := (s.now sp * 16 - (s.fld sp Fld.tbPpsInLatLat + 320)) / 16
    let s := s.setFld sp Fld.tbPpsInNsNs (t % 1000000000)
    let s := s.setReg sp Reg.tbPpsInSecLo (BitVec.ofNat 32 (t / 1000000000))
    .next (s.setFld sp Fld.tbEvtPpsIn 1)
  else .next s

/-- Whether the present tick is the TBCLK edge nearest to a whole second less `TB_PPS_OUT_LAT` (R164). -/
def State.ppsDue (s : State) (sp : SpanId) : Bool :=
  let x := (s.now sp * 16 + s.fld sp Fld.tbPpsOutLatLat) % (16 * 1000000000)
  decide (x < 64 ∨ 16 * 1000000000 - 64 ≤ x)

/-- PPS_OUT_RISE (R164). -/
def execPpsOutRise (sp : SpanId) (s : State) : Host.Outcome State Fault Refusal :=
  if s.fld sp Fld.tbCtrlPpsOutEn = 1 ∧ (s.span sp).tb.ppsFall = none ∧ s.ppsDue sp then
    let s := s.upd sp fun x => { x with tb := { x.tb with ppsFall := some (s.elapsed + 8 * s.fld sp Fld.tbPpsOutWidthTicks) } }
    .next (s.emit (.pps sp true))
  else .next s

/-- PPS_OUT_FALL (R164): after `TB_PPS_OUT_WIDTH` ticks. -/
def execPpsOutFall (sp : SpanId) (s : State) : Host.Outcome State Fault Refusal :=
  match (s.span sp).tb.ppsFall with
  | some t =>
    if t ≤ s.elapsed then .next ((s.upd sp fun x => { x with tb := { x.tb with ppsFall := none } }).emit (.pps sp false))
    else .next s
  | none => .next s

end Sys2Proof.Machine
end

