-- ==== Sys2Proof/Machine/PierOps.lean ====
section
/-!
DEFINITION. The shared operations of the Pier cores: register operands and the window (R338 to R341), spills and fills (R343 to R347), which
memory a core reaches (R322, R332, R333), taking an exception (R355, R356, R358) and returning from one (R357).
-/

namespace Sys2Proof.Machine

/-! ### Cores -/

/-- A core. -/
def State.core (s : State) : CoreId → PierCore
  | .span sp c => (s.span sp).worlds.cores.getD c (PierCore.reset 1 0 0 0)
  | .supervisor => s.hub.core

/-- The highest level of a core (R339). -/
def CoreId.top : CoreId → Nat
  | .span _ c => if c < 2 then 1 else 2
  | .supervisor => 1

/-- Replaces a core, and shows it in `PIER_COREc_STATUS`. -/
def State.setCore (s : State) (i : CoreId) (x : PierCore) : State :=
  match i with
  | .supervisor => s.updHub fun h => { h with core := x }
  | .span sp c =>
    let s := s.updWorlds sp fun w => { w with cores := w.cores.set c x }
    let s := s.setFld sp (Fld.pierCorecStatusLevel c) x.v.level
    let s := s.setFld sp (Fld.pierCorecStatusSleep c) (match x.v.sleep with | .wfe | .waitc _ _ _ _ _ _ => 1 | _ => 0)
    s.setFld sp (Fld.pierCorecStatusDfault c) (boolNat x.dfault)

/-- Changes a core by a function. -/
def State.updCore (s : State) (i : CoreId) (f : PierCore → PierCore) : State := s.setCore i (f (s.core i))

/-- The world ID that an access of a core carries (R315). -/
def State.worldOn (s : State) (i : CoreId) : Nat :=
  match i with
  | .span _ c => if c < 2 then 0 else if (s.core i).v.level = 2 then 0x3C else (s.core i).wid
  | .supervisor => 0

/-- CYC: CCLK cycles since the core left reset. -/
def State.cyc (s : State) (i : CoreId) : Nat := (s.elapsed - (s.core i).start) * 6 / 5

/-! ### Registers (R338, R340, R341) -/

/-- A physical window register. -/
def VCore.p (v : VCore) (i : Nat) : Word64 := sparseGet 0 i v.phys

/-- Writes a physical window register. -/
def VCore.setP (v : VCore) (i : Nat) (x : Word64) : VCore := { v with phys := sparseSet i x (decide (x ≠ 0)) v.phys }

/-- g7 of a level (R340). -/
def PierCore.sp (x : PierCore) (level : Nat) : Word64 := if level = 0 then x.v.spU else if level = 1 then x.v.spK else x.spH

/-- Writes g7 of a level. -/
def PierCore.setSp (x : PierCore) (level : Nat) (y : Word64) : PierCore :=
  if level = 0 then { x with v := { x.v with spU := y } } else if level = 1 then { x with v := { x.v with spK := y } } else { x with spH := y }

/-- The value of a register operand (R338): g0 reads zero, g7 is the stack pointer of the level, w0 to w15 lie in the window. -/
def PierCore.reg (x : PierCore) (r : Nat) : Word64 :=
  if r = 0 then 0 else if r < 7 then sparseGet 0 r x.v.globals else if r = 7 then x.sp x.v.level
  else if r < 24 then x.v.p ((x.v.wcwp + (r - 8)) % 96) else if r = 24 then x.v.lk else 0

/-- Writes a register operand; a write of g0 is discarded. -/
def PierCore.setReg (x : PierCore) (r : Nat) (y : Word64) : PierCore :=
  if r < 7 then { x with v := x.v.setGlobal r y } else if r = 7 then x.setSp x.v.level y
  else if r < 24 then { x with v := x.v.setP ((x.v.wcwp + (r - 8)) % 96) y } else if r = 24 then { x with v := { x.v with lk := y } } else x

/-- PSR: LEVEL and IE. -/
def PierCore.psr (x : PierCore) : Word64 := BitVec.ofNat 64 (x.v.level + 4 * boolNat x.v.ie)

/-- The trap registers of a level. -/
def PierCore.trap (x : PierCore) (level : Nat) : Trap := if level = 2 then x.h else x.v.k

/-- Replaces the trap registers of a level. -/
def PierCore.setTrap (x : PierCore) (level : Nat) (t : Trap) : PierCore :=
  if level = 2 then { x with h := t } else { x with v := { x.v with k := t } }

/-- The spill pointer of a level (R345). -/
def PierCore.wsp (x : PierCore) (level : Nat) : Word64 := if level = 0 then x.v.wspU else if level = 1 then x.v.wspK else x.wspH

/-- Writes the spill pointer of a level. -/
def PierCore.setWsp (x : PierCore) (level : Nat) (y : Word64) : PierCore :=
  if level = 0 then { x with v := { x.v with wspU := y } } else if level = 1 then { x with v := { x.v with wspK := y } } else { x with wspH := y }

/-- The owner level of a group (R346). -/
def VCore.owner (v : VCore) (g : Nat) : Nat := v.wown / 2 ^ (2 * g) % 4

/-- Sets the owner level of a group in WOWN. -/
def setOwner (wown g level : Nat) : Nat := wown - wown / 2 ^ (2 * g) % 4 * 2 ^ (2 * g) + level % 4 * 2 ^ (2 * g)

/-- The next `n` registers above the resident ones pass from free to resident at a level (R341, R346): their values are free (log
entry 45). -/
def VCore.grow (v : VCore) (free n level : Nat) : VCore :=
  let idx := (List.range n).map fun j => (v.wrb + v.wres + j) % 96
  let v' := idx.zipIdx.foldl (fun (v : VCore) y => v.setP y.1 (Config.windowValue (free + y.2))) v
  { v' with wown := idx.foldl (fun w p => setOwner w (p / 6) level) v.wown, wres := v.wres + n }

/-- P[i] is resident (R341). -/
def VCore.resident (v : VCore) (i : Nat) : Bool := decide ((i + 96 - v.wrb) % 96 < v.wres)

/-! ### Trace (R458) -/

/-- The kinds of trace entries. -/
inductive TraceKind where
  | branch
  | exception
  | tret
  | takeStart
deriving DecidableEq, Repr

/-- The kind code of a trace entry. -/
def TraceKind.code : TraceKind → Nat
  | .branch => 1
  | .exception => 2
  | .tret => 3
  | .takeStart => 4

/-- The trace ring of a core. -/
def Worlds.ring (w : Worlds) (c : Nat) : StdQueue (List Byte) := ((w.trace.find? fun x => x.1 == c).map (·.2)).getD StdQueue.empty

/-- Writes an entry of a core's trace ring, during a take of a guest only (R458): SEQ, guest, kind, CYC, target PC. -/
def State.traceEntry (s : State) (i : CoreId) (k : TraceKind) : State :=
  match i with
  | .supervisor => s
  | .span sp c =>
    match (s.core i).guest with
    | none => s
    | some g =>
      s.updWorlds sp fun w =>
        let q := w.ring c
        let e := leBytes 2 q.w ++ leBytes 1 g ++ leBytes 1 k.code ++ leBytes 4 (s.cyc i) ++ leBytes 8 (s.core i).v.pc.toNat
        { w with trace := w.trace.filter (fun x => x.1 ≠ c) ++ [(c, (q.push ringDepth e).1)] }

/-! ### Causes (R355) -/

/-- The exception classes of TCAUSE. -/
inductive Cause where
  | illegal
  | scall
  | hcall
  | instrAbort
  | dataAbort
  | align
  | stage2Fault
  | irq
  | virq
  | timer
deriving DecidableEq, Repr

/-- The CLASS code. -/
def Cause.code : Cause → Nat
  | .illegal => 1
  | .scall => 2
  | .hcall => 3
  | .instrAbort => 4
  | .dataAbort => 5
  | .align => 6
  | .stage2Fault => 7
  | .irq => 0x10
  | .virq => 0x11
  | .timer => 0x12

/-- An interrupt: it enters at offset 0x080. -/
def Cause.isInterrupt : Cause → Bool
  | .irq | .virq | .timer => true
  | _ => false

/-- The target level of an exception that is taken at a level of a core (R355). -/
def Cause.target (c : Cause) (top level : Nat) : Nat :=
  match c with
  | .illegal | .scall | .instrAbort | .dataAbort | .align => if level = 2 then 2 else 1
  | .hcall | .stage2Fault | .timer => 2
  | .irq => top
  | .virq => 1

/-! ### Which memory a core reaches -/

/-- What stops an access: the exception class, the address that TADDR shows, and the violation it counts as. -/
structure Abort where
  cause : Cause
  addr : Nat
  world : Nat
  kind : AccessKind
  slot : Option Nat
  violation : Bool
deriving DecidableEq, Repr

/-- The physical address that an access of `n` bytes by a core reaches, or what stops it: ALIGN, then stage 2 (R322), then the gates (R332,
R333). The supervisor core has an internal map without gates. -/
def State.reachMem (s : State) (i : CoreId) (k : AccessKind) (addr n : Nat) : Except Abort Nat :=
  let w := s.worldOn i
  if addr % n ≠ 0 then .error ⟨.align, addr, w, k, none, false⟩
  else
    match i with
    | .supervisor => .ok addr
    | .span sp c =>
      let pa := if c < 2 ∨ (s.core i).v.level = 2 then some addr else s.translate sp w addr k
      match pa with
      | none => .error ⟨.stage2Fault, addr, w, k, none, true⟩
      | some pa =>
        let stop (slot : Option Nat) : Except Abort Nat :=
          .error ⟨if k = .fetch then .instrAbort else .dataAbort, addr, w, k, slot, true⟩
        match place pa with
        | .regs off => if n = 4 ∧ k ≠ .fetch ∧ s.slotAllows sp w off k then .ok pa else stop (slotOf off)
        | _ => if s.memAllows sp w pa k then .ok pa else stop none

/-- The memory that a core's plain accesses read. -/
def State.memOf (s : State) (i : CoreId) : Memory :=
  match i with
  | .span sp _ => (s.span sp).worlds.mem
  | .supervisor => s.hub.supMem

/-- Writes bytes at a physical address of a core's memory. -/
def State.putMem (s : State) (i : CoreId) (pa : Nat) (bs : List Byte) : State :=
  match i with
  | .span sp _ => s.updWorlds sp fun w => { w with mem := w.mem.setBytes pa bs }
  | .supervisor => s.updHub fun h => { h with supMem := h.supMem.setBytes pa bs }

/-! ### Spills and fills (R343 to R347) -/

/-- The six physical addresses of a group's slots from an address on, or what stops the first of them that is stopped. -/
def State.groupAddrs (s : State) (i : CoreId) (k : AccessKind) (addr : Word64) : Except Abort (List Nat) :=
  (List.range 6).mapM fun j => s.reachMem i k (addr + BitVec.ofNat 64 (8 * j)).toNat 8

/-- Spills the lowest resident group through the pointer of its owner (R343, R345, R347). -/
def State.spill (s : State) (i : CoreId) : Except Abort State := do
  let x := s.core i
  let g := x.v.wrb / 6
  let l := x.v.owner g
  let dest := x.wsp l - 48
  let pas ← s.groupAddrs i .write dest
  let s := pas.zipIdx.foldl (fun s y => s.putMem i y.1 (leBytes 8 (x.v.p (6 * g + y.2)).toNat)) s
  let s := s.updCore i fun x => { x.setWsp l dest with v := { (x.setWsp l dest).v with wrb := (x.v.wrb + 6) % 96, wres := x.v.wres - 6 } }
  .ok (match i with | .span sp c => s.bump sp (Fld.pierCorecSpillsCount c) 1 | .supervisor => s)

/-- Fills the group below the resident ones through the pointer of its owner (R344, R345, R347). -/
def State.fill (s : State) (i : CoreId) : Except Abort State := do
  let x := s.core i
  let wrb := (x.v.wrb + 90) % 96
  let g := wrb / 6
  let l := x.v.owner g
  let pas ← s.groupAddrs i .read (x.wsp l)
  let v := pas.zipIdx.foldl (fun (v : VCore) y => v.setP (6 * g + y.2) (BitVec.ofNat 64 (ofLe ((s.memOf i).bytes y.1 8)))) x.v
  let x := { x with v := { v with wrb := wrb, wres := v.wres + 6, wown := setOwner v.wown g v.level } }
  let s := s.setCore i (x.setWsp l (x.wsp l + 48))
  .ok (match i with | .span sp c => s.bump sp (Fld.pierCorecFillsCount c) 1 | .supervisor => s)

/-- Spills groups until `add` more registers fit below a limit (R343). Groups that are moved before a fault stay moved (R347). -/
def State.spillFor (i : CoreId) (limit add : Nat) : Nat → State → State × Option Abort
  | 0, s => (s, none)
  | n + 1, s =>
    if (s.core i).v.wres + add ≤ limit then (s, none)
    else match s.spill i with
      | .ok s => State.spillFor i limit add n s
      | .error a => (s, some a)

/-- Fills groups until a move down by `delta` leaves sixteen registers resident (R344). -/
def State.fillFor (i : CoreId) (delta : Nat) : Nat → State → State × Option Abort
  | 0, s => (s, none)
  | n + 1, s =>
    if delta + 16 ≤ (s.core i).v.wres then (s, none)
    else match s.fill i with
      | .ok s => State.fillFor i delta n s
      | .error a => (s, some a)

/-! ### Taking an exception (R355, R356, R358) -/

/-- A violation that an abort counts as (R336). -/
def State.countAbort (s : State) (i : CoreId) (a : Abort) : State :=
  match i with
  | .span sp c => if a.violation then s.violate sp a.world (.core c) a.kind a.slot a.addr else s
  | .supervisor => s

/-- A core stops because a spill at its exception entry faults (R358, R362): `at_` is TPC of the attempted entry. -/
def State.doubleFault (s : State) (i : CoreId) (at_ : Word64) (a : Abort) : State :=
  let x := s.core i
  let s := s.setCore i { x with dfault := true }
  match i with
  | .supervisor => s
  | .span sp c =>
    let wsp := x.wsp (x.v.owner (x.v.wrb / 6))
    let s := s.setBit sp Reg.pierEvt c true
    let s := s.raise sp (0x4C0 + c) .ok (leBytes 1 c ++ leBytes 1 x.v.level ++ leBytes 1 (s.worldOn i) ++ [0] ++ leBytes 8 at_.toNat ++
      leBytes 4 wsp.toNat) none none
    s.countAbort i a

/-- The value of TCAUSE. -/
def causeWord (c : Cause) (wtrap : Bool) (imm : Nat) : Word64 := BitVec.ofNat 64 (c.code + 64 * boolNat wtrap + 128 * imm)

/-- Exception entry at level `t` (R356): trap registers, level, a new window that shares no register with the interrupted one, and the vector. -/
def State.enter (s : State) (i : CoreId) (t : Nat) (c : Cause) (wtrap : Bool) (imm : Nat) (retPc addr : Word64) : State :=
  let x := s.core i
  let base := (x.v.wcwp + 21) / 6 * 6
  let delta := base - x.v.wcwp
  let off : Word64 := if c.isInterrupt then 0x80 else if x.v.level = t then 0 else 0x40
  let vec := (x.trap t).vec
  let y := x.setTrap t ⟨vec, x.psr, retPc, BitVec.ofNat 64 x.v.wcwp, causeWord c wtrap imm, addr⟩
  let y := { y with v := { y.v with level := t, ie := false } }
  match State.spillFor i 96 delta 16 (s.setCore i y) with
  | (s', some a) => s'.doubleFault i retPc a
  | (s', none) =>
    let s' := s'.updCore i fun z =>
      let v := z.v.grow s'.free delta t
      { z with v := { v with wcwp := base % 96, pc := (vec &&& ~~~ (0xFF : Word64)) + off } }
    let s' := ({ s' with free := s'.free + delta }).traceEntry i .exception
    match i with
    | .span sp n => s'.bump sp (Fld.pierCorecExceptionsCount n) 1
    | .supervisor => s'

/-- An exception at the instruction at PC, at the level that R355 gives: the return address is the instruction's for aborts, ALIGN and
ILLEGAL, the next one's for SCALL and HCALL; an interrupt is taken before the instruction at PC. -/
def State.takeTrap (s : State) (i : CoreId) (c : Cause) (wtrap : Bool) (imm : Nat) (addr : Word64) : State :=
  let x := s.core i
  let ret := match c with | .scall | .hcall => x.v.pc + 4 | _ => x.v.pc
  s.enter i (c.target i.top x.v.level) c wtrap imm ret addr

/-! ### Returning from one (R357) -/

/-- Writes of WCWP, WRB, WRES and WOWN take effect together at a TRET. -/
def VCore.installWindow (v : VCore) : VCore :=
  { v with
    wcwp := v.newWcwp.getD v.wcwp, wrb := v.newWrb.getD v.wrb, wres := v.newWres.getD v.wres, wown := v.newWown.getD v.wown
    newWcwp := none, newWrb := none, newWres := none, newWown := none }

/-- TRET at the core's level (R357): PC, PSR, and the window moved down to TCWP, filled if it is not resident (R344). The second result is
what stops a fill; the return then has not taken effect. -/
def State.trapReturn (s : State) (i : CoreId) : State × Option Abort :=
  let x := s.core i
  let t := x.trap x.v.level
  let s := s.updCore i fun x => { x with v := x.v.installWindow }
  let dest := t.cwp.toNat % 96
  let delta := ((s.core i).v.wcwp + 96 - dest) % 96
  match State.fillFor i delta 20 s with
  | (s, some a) => (s, some a)
  | (s, none) =>
    (s.updCore i fun z => { z with v := { z.v with
      wcwp := dest, wres := z.v.wres - delta, pc := t.pc, level := t.psr.toNat % 4, ie := t.psr.toNat / 4 % 2 == 1 } }, none)

/-- An access is stopped: the exception is taken, then the violation is counted. A stage-2 fault goes to the Keeper, which injects an abort
into the guest that runs (R322, R336). -/
def State.abort (s : State) (i : CoreId) (a : Abort) (wtrap : Bool) : State :=
  let addr := BitVec.ofNat 64 a.addr
  let s' := s.takeTrap i a.cause wtrap 0 addr
  let s' := if a.cause = .stage2Fault ∧ (s.core i).guest.isSome then
      (s'.trapReturn i).1.takeTrap i (if a.kind = .fetch then .instrAbort else .dataAbort) wtrap 0 addr
    else s'
  s'.countAbort i a

/-! ### Issuing an instruction -/

/-- The core is halted by the monitor, and no STEP is in progress (R457). -/
def State.haltedCore (s : State) (i : CoreId) : Bool :=
  match i with
  | .span sp c => s.hub.monitor.halts.any fun h => h.span == sp && h.core == c && h.effective && h.steps == 0 && (s.core i).guest == some h.guest
  | .supervisor => false

/-- The core exists, is not stopped, asleep or halted, and below the hypervisor level of cores 2 to 5 its guest's run period goes on (R317,
R353, R358). -/
def State.canRun (s : State) (i : CoreId) : Bool :=
  let x := s.core i
  let inTake : Bool := match i, x.take with
    | .span sp _, some (a, b) => x.v.level == 2 || decide (a + 4 * us ≤ s.now sp ∧ s.now sp < b)
    | _, _ => true
  (match i with | .span _ c => decide (c < 6) | .supervisor => true) && !x.dfault && x.v.sleep == .awake && !s.haltedCore i && inTake

/-- An instruction of a STEP has retired; after the last one the line is answered (R457). -/
def State.countStep (s : State) (sp : SpanId) (c : Nat) : State :=
  let mine (h : Halt) : Bool := h.span == sp && h.core == c && h.effective && decide (0 < h.steps) && (s.core (.span sp c)).guest == some h.guest
  match s.hub.monitor.halts.find? mine with
  | none => s
  | some h =>
    let s := s.updHub fun x => { x with monitor := { x.monitor with
      halts := x.monitor.halts.map fun y => if mine y then { y with steps := y.steps - 1, stepper := if y.steps = 1 then none else y.stepper } else y
      session := x.monitor.session.map fun m => { m with stepped := m.stepped + 1 } } }
    match h.steps, h.stepper with
    | 1, some id => s.complete ⟨sp, .monitor, id, 0⟩ .ok []
    | _, _ => s

/-- Counts one retired instruction. -/
def State.countRetired (s : State) (i : CoreId) : State :=
  match i with
  | .span sp c => (s.bump64 sp (Reg.pierCorecRetiredLo c) (Reg.pierCorecRetiredHi c) 1).countStep sp c
  | .supervisor => s

/-- One instruction has retired, and PC goes to an address. -/
def State.retire (s : State) (i : CoreId) (pc : Word64) : State :=
  (s.updCore i fun x => { x with v := { x.v with pc := pc } }).countRetired i

/-- An instruction at a core's PC (log entry 47): nothing happens on a core that does not run; a fetch that is misaligned or blocked and an
illegal instruction (R349) take their exceptions; otherwise it runs. -/
def State.issue (s : State) (i : CoreId) (legal : Bool) (run : State → State) : State :=
  if !s.canRun i then s
  else
    match s.reachMem i .fetch (s.core i).v.pc.toNat 4 with
    | .error a => s.abort i a false
    | .ok _ => if legal then run s else s.takeTrap i .illegal false 0 0

end Sys2Proof.Machine
end

