-- ==== Sys2Proof/Machine/Worlds.lean ====
section
/-!
DEFINITION. The Keeper and the gates (R315 to R337): takes, hypercalls, clock and power requests, watchdogs, guest images, and the shadow bank of
the gates.
-/

namespace Sys2Proof.Machine

/-! ### Takes (R317, R318) -/

/-- The guests with a virtual core on a core, in ascending order. -/
def Storyboard.onCore (c : Storyboard) (sp : SpanId) (core : Nat) : List Nat :=
  sortBy (fun a b => decide (a ≤ b)) (c.guests.filter fun g => (c.cores sp g).testBit core)

/-- The slots of a cycle of a core: guest and length in microseconds (R317). -/
def Storyboard.takeSlots (c : Storyboard) (sp : SpanId) (core : Nat) : List (Nat × Nat) :=
  (List.range 100).flatMap fun r => ((c.onCore sp core).filter fun g => decide (r < c.world g 6 1)).map fun g => (g, c.world g 8 2 + 4)

/-- The slot that holds an offset of the cycle, in microseconds from `start`: guest, start, end. -/
def slotAt : List (Nat × Nat) → Nat → Nat → Option (Nat × Nat × Nat)
  | [], _, _ => none
  | (g, n) :: t, start, off => if off < start + n then some (g, start, start + n) else slotAt t (start + n) off

/-- One cycle in nanoseconds. -/
def cycleNs : Nat := 10 * ms

/-- The slot that a core of a span is due in now: guest, start and end on the time base; none in the idle end of the cycle. -/
def State.slotNow (s : State) (sp : SpanId) (core : Nat) : Option (Nat × Nat × Nat) :=
  let c0 := s.now sp / cycleNs * cycleNs
  (slotAt ((s.span sp).rep.config.takeSlots sp core) 0 ((s.now sp - c0) / us)).map fun x => (x.1, c0 + x.2.1 * us, c0 + x.2.2 * us)

/-- Shows the guest in the take now running on a core; 0xFF if idle. -/
def State.showRunning (s : State) (sp : SpanId) (core : Nat) (g : Option Nat) : State :=
  s.setReg sp Reg.kprRunning (putBits (s.reg sp Reg.kprRunning) (8 * (core - 2) + 7) (8 * (core - 2)) (g.getD 0xFF))

/-- The Keeper takes the guest off a core and saves its registers (R318). At hypervisor level it first returns from the trap; a hypercall that
it has not answered is issued again in the guest's next take (log entry 49). -/
def State.saveTake (s : State) (sp : SpanId) (core : Nat) : State :=
  let i : CoreId := .span sp core
  match (s.core i).guest with
  | none => s
  | some g =>
    let hyper := decide ((s.core i).v.level = 2)
    let call := hyper && (s.core i).h.cause.toNat % 64 == 3
    let s := if hyper then (s.trapReturn i).1 else s
    let v := (s.core i).v
    let v := if call then { v with pc := v.pc - 4 } else v
    s.updWorlds sp fun w => { w with saved := w.saved.filter (fun y => !(y.1 == core && y.2.1 == g)) ++ [(core, g, v)] }

/-- The saved registers of a guest on a core; a guest that starts has its registers at reset, at kernel level and address 0 (log entry 50). -/
def State.savedCore (s : State) (sp : SpanId) (core g : Nat) : VCore :=
  match (s.span sp).worlds.saved.find? fun y => y.1 == core && y.2.1 == g with
  | some y => if y.2.2.sleep = .yield then { y.2.2 with sleep := .awake } else y.2.2
  | none => VCore.reset 1 0

/-- A core without a guest idles in WFE at hypervisor level (R317). -/
def idleCore : VCore := { VCore.reset 2 0 with sleep := .wfe }

/-- TAKE_SLOT_START (R317, R318): a slot of the core's cycle has begun, and the Keeper switches to its guest; the core idles in the slot of a
guest that is not RUNNING. -/
def execTakeSlotStart (sp : SpanId) (core : Nat) (s : State) : Host.Outcome State Fault Refusal :=
  let i : CoreId := .span sp core
  match s.slotNow sp core with
  | none => .next s
  | some (g, a, b) =>
    if core < 2 ∨ 6 ≤ core ∨ s.fld sp Fld.kprStatusKeeperUp = 0 ∨ (s.core i).take = some (a, b) then .next s
    else
      let s := s.saveTake sp core
      if s.fld sp (Fld.kprGuestgStateState g) = 2 then
        let v := s.savedCore sp core g
        let s := s.updCore i fun x => { x with
          v := v, guest := some g, take := some (a, b), wid := g, s2root := Config.stage2Root sp g
          l2mask := (s.span sp).rep.config.world g 12 2 }
        .next ((s.showRunning sp core (some g)).traceEntry i .takeStart)
      else
        let s := s.updCore i fun x => { x with v := idleCore, guest := none, take := some (a, b) }
        .next (s.showRunning sp core none)

/-- TAKE_SLOT_END (R317): after the last slot of the cycle the core idles until the next cycle. -/
def execTakeSlotEnd (sp : SpanId) (core : Nat) (s : State) : Host.Outcome State Fault Refusal :=
  let i : CoreId := .span sp core
  match s.slotNow sp core with
  | some _ => .next s
  | none =>
    if core < 2 ∨ 6 ≤ core ∨ s.fld sp Fld.kprStatusKeeperUp = 0 then .next s
    else
      let s := s.saveTake sp core
      let s := s.updCore i fun x => { x with v := idleCore, guest := none, take := none }
      .next (s.showRunning sp core none)

/-! ### Hypercalls (R323) -/

/-- The guest whose hypercall the Keeper now serves on a core: it came in by an HCALL exception with this number in g1. -/
def State.inCall (s : State) (sp : SpanId) (core n : Nat) : Option Nat :=
  let x := s.core (.span sp core)
  if 2 ≤ core ∧ core < 6 ∧ x.v.level = 2 ∧ x.h.cause.toNat % 64 = 3 ∧ (x.reg 1).toNat = n then x.guest else none

/-- Argument w_i of the hypercall being served. -/
def State.callArg (s : State) (sp : SpanId) (core i : Nat) : Nat :=
  let x := s.core (.span sp core)
  (x.v.p ((x.h.cwp.toNat + i) % 96)).toNat

/-- The Keeper returns to the guest with a status in g1 and results in w0 to w3 (R323). -/
def State.answerCall (s : State) (sp : SpanId) (core : Nat) (st : Status) (results : List Nat) : State :=
  let i : CoreId := .span sp core
  let s := s.updCore i fun x =>
    let v := results.zipIdx.foldl (fun (v : VCore) y => v.setP ((x.h.cwp.toNat + y.2) % 96) (BitVec.ofNat 64 y.1)) x.v
    { x with v := v.setGlobal 1 (BitVec.ofNat 64 st.code) }
  (s.trapReturn i).1.traceEntry i .tret

/-- Serves a hypercall of a guest, if the core is in one with this number. -/
def State.serve (s : State) (sp : SpanId) (core n : Nat) (f : Nat → State) : Host.Outcome State Fault Refusal :=
  match s.inCall sp core n with
  | some g => .next (f g)
  | none => .next s

/-- HC_INFO (R323). -/
def execHcInfo (sp : SpanId) (core : Nat) (s : State) : Host.Outcome State Fault Refusal :=
  s.serve sp core 1 fun g =>
    let lanes := ((List.range 8).map fun k => if s.laneGuest sp k = g then 2 ^ k else 0).sum
    s.answerCall sp core .ok [g, (s.span sp).rep.config.world g 10 2, lanes, (s.span sp).rep.epoch]

/-- HC_YIELD (R317): the rest of the take stays idle. -/
def execHcYield (sp : SpanId) (core : Nat) (s : State) : Host.Outcome State Fault Refusal :=
  s.serve sp core 2 fun _ =>
    (s.answerCall sp core .ok []).updCore (.span sp core) fun x => { x with v := { x.v with sleep := .yield } }

/-- HC_TIMER (R323): a deadline of 0 cancels; a deadline that has passed fires at once. -/
def execHcTimer (sp : SpanId) (core : Nat) (s : State) : Host.Outcome State Fault Refusal :=
  s.serve sp core 3 fun g =>
    let d := s.callArg sp core 0
    let s := s.updGuest sp g fun x => { x with timer := if d = 0 ∨ d ≤ tai64 (s.now sp) then none else some d }
    let s := if d ≠ 0 ∧ d ≤ tai64 (s.now sp) then s.virq sp g 0 else s
    s.answerCall sp core .ok []

/-- HC_TIMER_FIRE (R323). -/
def execHcTimerFire (sp : SpanId) (g : Nat) (s : State) : Host.Outcome State Fault Refusal :=
  match (s.guest sp g).bind (·.timer) with
  | some d =>
    if d ≤ tai64 (s.now sp) then .next ((s.updGuest sp g fun x => { x with timer := none }).virq sp g 0) else .next s
  | none => .next s

/-- HC_IRQ (R323): MASK, UNMASK or ACK of one virtual interrupt. -/
def execHcIrq (sp : SpanId) (core : Nat) (s : State) : Host.Outcome State Fault Refusal :=
  s.serve sp core 4 fun g =>
    let op := s.callArg sp core 0
    let n := s.callArg sp core 1
    if op < 1 ∨ 3 < op ∨ 48 ≤ n then s.answerCall sp core .inputRange []
    else
      let clear (v : Nat) : Nat := if v.testBit n then v - 2 ^ n else v
      let s := s.updGuest sp g fun x =>
        if op = 1 then { x with masked := x.masked ||| 2 ^ n }
        else if op = 2 then { x with masked := clear x.masked } else { x with pending := clear x.pending }
      let s := if op = 3 then s.updCore (.span sp core) fun x => { x with v := { x.v with vip := clear x.v.vip } } else s
      s.answerCall sp core .ok []

/-- HC_WDT_KICK (R328). -/
def execHcWdtKick (sp : SpanId) (core : Nat) (s : State) : Host.Outcome State Fault Refusal :=
  s.serve sp core 5 fun g =>
    (s.updGuest sp g fun x => { x with kicked := s.elapsed, half := false }).answerCall sp core .ok []

/-- Disabling a vault-call queue pair drains it under R255 steps 2 to 4 (R324). -/
def State.disableGuestQueue (s : State) (sp : SpanId) (g n : Nat) : State :=
  let l := (s.inflightOf sp (some g)).filter fun d => d.queue == n && (d.stage == .lane || d.stage == .deferred)
  let s := l.foldl (fun s d => s.dropWait (d.caller sp (some g))) s
  let s := s.updGuest sp g fun x =>
    let left := (x.inflight.filter fun d => !(d.queue == n) || d.stage == .sent).map fun d => if d.queue = n then { d with silent := true } else d
    { x with inflight := left, queues := x.queues.map fun q => ({ q with draining := q.draining || (q.n == n && q.enabled) } : QueuePair).settle left }
  s.showInflight sp

/-- HC_VC_CONFIG (R323, R324): enabling places the rings in the guest's memory and resets the pair (R239); an enabled pair keeps its
configuration. -/
def execHcVcConfig (sp : SpanId) (core : Nat) (s : State) : Host.Outcome State Fault Refusal :=
  s.serve sp core 6 fun g =>
    let c := (s.span sp).rep.config
    let n := s.callArg sp core 0
    let sq := s.callArg sp core 1
    let cq := s.callArg sp core 2
    let size := s.callArg sp core 3
    let agg := s.callArg sp core 4
    let en := s.callArg sp core 5
    if c.world g 14 1 ≤ n ∨ sq % 4096 ≠ 0 ∨ cq % 4096 ≠ 0 ∨ size < 4 ∨ 12 < size ∨ 2 ^ 16 ≤ agg ∨ 1 < en then s.answerCall sp core .inputRange []
    else if s.guestSize sp g < sq + 64 * 2 ^ size ∨ s.guestSize sp g < cq + 16 * 2 ^ size then s.answerCall sp core .notAuthorised []
    else
      let q := ((s.guest sp g).map fun (x : Guest) => x.queue n).getD (QueuePair.reset n)
      if en = 0 then ((if q.enabled then s.disableGuestQueue sp g n else s).answerCall sp core .ok [])
      else if q.enabled then s.answerCall sp core .ok []
      else
        let q' : QueuePair := { QueuePair.reset n with
          sqBase := sq, cqBase := cq, sizeLog2 := size, aggCount := agg % 256, aggTime := agg / 256, enabled := true
          roleEpoch := (s.span sp).rep.epoch }
        (s.updGuest sp g fun x => x.setQueue q').answerCall sp core .ok []

/-- HC_VC_CANCEL (R251, R324). -/
def execHcVcCancel (sp : SpanId) (core : Nat) (s : State) : Host.Outcome State Fault Refusal :=
  s.serve sp core 7 fun g =>
    let n := s.callArg sp core 0
    let cid := s.callArg sp core 1
    if (s.span sp).rep.config.world g 14 1 ≤ n ∨ 2 ^ 16 ≤ cid then s.answerCall sp core .inputRange []
    else
      let l := (s.inflightOf sp (some g)).filter fun d => d.queue == n && d.cid == cid
      (l.foldl (fun s d => s.cancel (d.caller sp (some g)) d) s).answerCall sp core .ok []

/-- HC_TIME (R323). -/
def execHcTime (sp : SpanId) (core : Nat) (s : State) : Host.Outcome State Fault Refusal :=
  s.serve sp core 9 fun _ => s.answerCall sp core .ok [tai64 (s.now sp), s.fld sp Fld.tbStatusQualified]

/-! ### Clock and power requests (R330, R331) -/

/-- A unit can be gated now: a port always, a lane when it is idle, and with nothing queued if a guest owns it. -/
def State.unitIdle (s : State) (sp : SpanId) (u : Nat) : Bool :=
  8 ≤ u || ((s.lane sp u).mode == .idle && (s.laneGuest sp u == 0 || (s.lane sp u).queue.isEmpty))

/-- A unit is gated or powered down for a guest; a return of its power ends. -/
def State.gateUnit (s : State) (sp : SpanId) (g u action : Nat) : State :=
  let s := s.updWorlds sp fun w => { w with
    gated := w.gated.filter (fun x => x.1 ≠ u) ++ [(u, g)], restoring := w.restoring.filter fun x => x.1 ≠ u }
  s.setUnit sp u (action - 1)

/-- HC_UNIT (R330): checked in the order of R330; a lane that is busy, or a unit that another request waits for, makes the virtual core wait. -/
def execHcUnit (sp : SpanId) (core : Nat) (s : State) : Host.Outcome State Fault Refusal :=
  s.serve sp core 8 fun g =>
    let u := s.callArg sp core 0
    let action := s.callArg sp core 1
    let limit := s.callArg sp core 2
    if 10 ≤ u ∨ action < 1 ∨ 3 < action ∨ limit < 1 ∨ 10000 < limit then s.answerCall sp core .inputRange []
    else if !(g == 1 || (decide (u < 8) && s.laneGuest sp u == g)) then s.answerCall sp core .notAuthorised []
    else if 8 ≤ u ∧ s.fld sp (Fld.clsPortnCfgMode (u - 8)) ≠ 4 then s.answerCall sp core .inputRange []
    else
      let waits := (s.span sp).worlds.requests.any fun r => r.unit == u
      if action = 1 ∧ !waits then
        let s := if s.unitState sp u = 0 ∨ (s.span sp).worlds.restoring.any (fun x => x.1 == u) then s else s.unitOn sp u
        s.answerCall sp core .ok [s.unitState sp u]
      else if !waits ∧ (s.unitState sp u ≠ 0 ∨ s.unitIdle sp u) then
        let s := s.gateUnit sp g u action
        s.answerCall sp core .ok [s.unitState sp u]
      else
        let s := (s.trapReturn (.span sp core)).1.updCore (.span sp core) fun x => { x with v := { x.v with sleep := .hyper } }
        s.updWorlds sp fun w => { w with requests := w.requests ++ [⟨g, core, u, action, s.elapsed + limit * ms⟩] }

/-- Answers a guest whose HC_UNIT waited: status and unit state. -/
def State.answerUnit (s : State) (sp : SpanId) (r : UnitReq) (st : Status) : State :=
  let u := s.unitState sp r.unit
  (s.updVCore sp r.core r.guest fun v => v.setP (v.wcwp % 96) (BitVec.ofNat 64 u)).answerGuest sp r.guest r.core st

/-- UNIT_GATE_GRANT (R330, R331): the oldest request for a unit that is now idle is served. -/
def execUnitGateGrant (sp : SpanId) (unit : Nat) (s : State) : Host.Outcome State Fault Refusal :=
  match (s.span sp).worlds.requests.find? fun r => r.unit == unit with
  | none => .next s
  | some r =>
    if r.action ≠ 1 ∧ s.unitState sp unit = 0 ∧ !s.unitIdle sp unit then .next s
    else
      let s := s.updWorlds sp fun w => { w with requests := w.requests.erase r }
      let s := if r.action = 1 then (if s.unitState sp unit = 0 then s else s.unitOn sp unit) else s.gateUnit sp r.guest unit r.action
      .next (s.answerUnit sp r .ok)

/-- UNIT_REQUEST_TIMEOUT (R330): the limit passes before the grant, and the unit stays as it is. -/
def execUnitRequestTimeout (sp : SpanId) (g core : Nat) (s : State) : Host.Outcome State Fault Refusal :=
  match (s.span sp).worlds.requests.find? fun r => r.guest == g && r.core == core with
  | none => .next s
  | some r =>
    if s.elapsed < r.deadline then .next s
    else
      let s := s.updWorlds sp fun w => { w with requests := w.requests.erase r }
      .next ((s.answerUnit sp r .deferredTimeout).setFld sp Fld.kprEvtUnitTimeout 1)

/-- UNIT_POWER_RESTORED (R330): 200 us after ON; lane memory is wiped but for the group descriptors. -/
def execUnitPowerRestored (sp : SpanId) (unit : Nat) (s : State) : Host.Outcome State Fault Refusal :=
  match (s.span sp).worlds.restoring.find? fun x => x.1 == unit with
  | none => .next s
  | some x =>
    if s.elapsed < x.2 + 200 * us then .next s
    else
      let s := s.updWorlds sp fun w => { w with restoring := w.restoring.filter fun x => x.1 ≠ unit }
      let s := s.setUnit sp unit 0
      if unit < 8 then
        let l := s.lane sp unit
        .next (s.setLane sp unit { Lane.empty with groups := l.groups, seq := l.seq, cpls := l.cpls, queue := l.queue })
      else .next s

/-! ### Doorbell and watchdogs -/

/-- A core's write to a KPR or GATE register goes through the peripheral gate and, for a guest, stage 2; a blocked one takes its abort. -/
def State.coreWrites (s : State) (sp : SpanId) (core off : Nat) (f : Nat → State) : Host.Outcome State Fault Refusal :=
  let i : CoreId := .span sp core
  if 6 ≤ core then .next s else
  match s.reachMem i .write (windowBase + off) 4 with
  | .error a => .next (s.abort i a false)
  | .ok _ => .next (f (s.worldOn i))

/-- KPR_VC_DB (R241, R324): a guest's new SQ tail or CQ head; the guest is taken from the world ID. -/
def execKprVcDb (sp : SpanId) (core : Nat) (v : Word32) (s : State) : Host.Outcome State Fault Refusal :=
  s.coreWrites sp core Reg.kprVcDb fun g =>
    match s.guest sp g with
    | none => s
    | some x =>
      let q := x.queue (getBits v 1 0)
      let val := getBits v 27 16
      let up := (val + q.size - q.cqHead) % q.size
      if getBits v 2 2 = 0 then
        if q.enabled ∧ !q.draining ∧ val < q.size then s.updGuest sp g fun x => x.setQueue { q with sqTail := val } else s.dbRange sp 0
      else if q.enabled ∧ val < q.size ∧ up ≤ (q.cqTail + q.size - q.cqHead) % q.size then
        s.updGuest sp g fun x => x.setQueue { q with cqHead := val }
      else s.dbRange sp 0

/-- The watchdog of core 0 or 1 begins a period. -/
def State.kickCore (s : State) (sp : SpanId) (core : Nat) : State :=
  s.updWorlds sp fun x => if core = 0 then { x with kick0 := s.elapsed } else { x with kick1 := s.elapsed }

/-- A core of the secure world is hung: until it kicks again or is restarted, the vault commands and vault calls that have not gone on defer (R327, log
entry 112). -/
def State.hangCore (s : State) (sp : SpanId) (core : Nat) : State :=
  let wait (d : InFlight) : InFlight := if d.stage = .started then { d with stage := .deferred } else d
  let s := s.updHost sp fun h => { h with inflight := h.inflight.map wait }
  s.updWorlds sp fun x => { x with
    hung := core :: x.hung.filter fun c => c ≠ core
    guests := x.guests.map fun g => { g with inflight := g.inflight.map wait } }

/-- KPR_SWDT_KICK (R326): world 0 restarts the watchdog of core 0 or 1 from that core. -/
def execKprSwdtKick (sp : SpanId) (core : Nat) (s : State) : Host.Outcome State Fault Refusal :=
  s.coreWrites sp core Reg.kprSwdtKick fun w =>
    if w ≠ 0 then s
    else
      let s := s.kickCore sp core
      let s := s.updWorlds sp fun x => { x with hung := x.hung.filter fun c => c ≠ core }
      s.setBit sp Reg.kprStatus (1 + core) true

/-- SWDT_EXPIRY (R326, R327): 1,000 ms without a kick; the watchdog restarts, and the response of source 0x470 runs. -/
def execSwdtExpiry (sp : SpanId) (core : Nat) (s : State) : Host.Outcome State Fault Refusal :=
  let w := (s.span sp).worlds
  let kick := if core = 0 then w.kick0 else w.kick1
  if 2 ≤ core ∨ !(s.reg sp Reg.kprStatus).getLsbD (1 + core) ∨ s.elapsed < kick + 1000 * ms then .next s
  else
    let s := (s.kickCore sp core).hangCore sp core
    .next ((s.setFld sp Fld.kprEvtSwdtExpired 1).raise sp 0x470 .ok [] none none)

/-- WDT_MS of a guest that runs, in nanoseconds; 0 if it has no watchdog. -/
def State.guestWdt (s : State) (sp : SpanId) (g : Nat) : Nat :=
  if s.fld sp (Fld.kprGuestgStateState g) = 2 then (s.span sp).rep.config.world g 20 2 * ms else 0

/-- The time on a guest's watchdog: it stands still while a virtual core of the guest is halted (R457). -/
def State.wdtNow (s : State) (sp : SpanId) (g : Nat) : Nat :=
  match s.hub.monitor.halts.find? fun h => h.effective && h.span == sp && h.guest == g with
  | some h => h.since
  | none => s.elapsed

/-- GUEST_WDT_HALF (R328). -/
def execGuestWdtHalf (sp : SpanId) (g : Nat) (s : State) : Host.Outcome State Fault Refusal :=
  match s.guest sp g with
  | none => .next s
  | some x =>
    let w := s.guestWdt sp g
    if w = 0 ∨ x.half ∨ s.wdtNow sp g < x.kicked + w / 2 then .next s
    else .next ((s.updGuest sp g fun x => { x with half := true }).virq sp g 16)

/-- A guest fault (R328): GUEST_FAULT, and source 0x480 + g with its response. -/
def State.guestFault (s : State) (sp : SpanId) (g : Nat) : State :=
  (s.setFld sp Fld.kprEvtGuestFault 1).raise sp (0x480 + g) .ok [] none (some g)

/-- GUEST_WDT_EXPIRY (R328): the period has passed without a kick, and the next one begins. -/
def execGuestWdtExpiry (sp : SpanId) (g : Nat) (s : State) : Host.Outcome State Fault Refusal :=
  match s.guest sp g with
  | none => .next s
  | some x =>
    let w := s.guestWdt sp g
    if w = 0 ∨ s.wdtNow sp g < x.kicked + w then .next s
    else .next ((s.updGuest sp g fun x => { x with kicked := s.elapsed, half := false }).guestFault sp g)

/-! ### Restart and image -/

/-- WORLD_RESTART (R329): under the quorum of the guest's owner. -/
def execWorldRestart (c : Caller) (g : Nat) (s : State) : Host.Outcome State Fault Refusal := .next (s.direct c (.worldRestart g))

/-- GUEST_IMAGE_LOADED (R328, R329 step 5): the image from the firmware store, by its SHA-256, is checked; the guest runs from its next take,
or becomes HALTED. -/
def execGuestImageLoaded (sp : SpanId) (g : Nat) (digest : List Byte) (s : State) : Host.Outcome State Fault Refusal :=
  let st := s.fld sp (Fld.kprGuestgStateState g)
  if st ≠ 1 ∧ st ≠ 3 then .next s
  else if some digest = ((s.span sp).rep.config.scene 8 g).map fun p => sliceBytes p 24 32 then
    .next ((s.updGuest sp g fun x => { x with kicked := s.elapsed, half := false }).setFld sp (Fld.kprGuestgStateState g) 2)
  else .next ((s.setFld sp (Fld.kprGuestgStateState g) 4).guestFault sp g)

/-! ### The shadow bank of the gates (R335) -/

/-- A GATE write that only one world makes: a write of another world is blocked. -/
def State.gateWrites (s : State) (sp : SpanId) (core off world : Nat) (f : State) : Host.Outcome State Fault Refusal :=
  let i : CoreId := .span sp core
  if 6 ≤ core then .next s
  else if s.worldOn i = world then .next f
  else .next (s.abort i ⟨.dataAbort, windowBase + off, s.worldOn i, .write, some 30, true⟩ false)

/-- GATE_FLIP (R335): written by the Keeper. -/
def execGateFlip (sp : SpanId) (core : Nat) (s : State) : Host.Outcome State Fault Refusal :=
  s.gateWrites sp core Reg.gateCtrl 0x3C (s.flipGates sp)

/-- A little-endian field of the data words. -/
def State.gateData (s : State) (sp : SpanId) (word n : Nat) : Nat :=
  ((List.range n).map fun i => (s.reg sp (Reg.gateWrDatan (word + i))).toNat * 2 ^ (32 * i)).sum

/-- The registers that `GATE_WR_INDEX` names in the shadow bank, with the words to put there; none for an index that names no entry. -/
def State.gateEntry (s : State) (sp : SpanId) (clear : Bool) : List (Nat × Word32) :=
  let x := s.fld sp Fld.gateWrIndexIndex
  if x ≤ 28 then if clear then slotWords x 0 0 else slotWords x (s.gateData sp 0 2) (s.gateData sp 2 2)
  else if 0x40 + 34 ≤ x ∧ x ≤ 0x40 + 63 then
    if clear then regionWords (x - 0x40) 0 0 0 0
    else
      let w := s.gateData sp 2 1
      regionWords (x - 0x40) (0x4000000 + s.gateData sp 0 2) (w % 256) (w / 256 % 256) (s.gateData sp 4 2)
  else []

/-- Writes an entry of the shadow bank, which then counts as written. -/
def State.shadowGate (s : State) (sp : SpanId) (ws : List (Nat × Word32)) : State :=
  if ws = [] then s
  else (s.updWorlds sp fun w => { w with gateShadow := ws.foldl (fun l x => sparseSet x.1 x.2 (decide (x.2 ≠ 0)) l) w.gateShadow }).setFld sp
    Fld.gateStatusShadowReady 1

/-- GATE_WR_WRITE (R335): written by the secure world. -/
def execGateWrWrite (sp : SpanId) (core : Nat) (s : State) : Host.Outcome State Fault Refusal :=
  s.gateWrites sp core Reg.gateWrOp 0 (s.shadowGate sp (s.gateEntry sp false))

/-- GATE_WR_CLEAR (R335): written by the secure world. -/
def execGateWrClear (sp : SpanId) (core : Nat) (s : State) : Host.Outcome State Fault Refusal :=
  s.gateWrites sp core Reg.gateWrOp 0 (s.shadowGate sp (s.gateEntry sp true))

end Sys2Proof.Machine
end

