-- ==== Sys2Proof/Machine/Boot.lean ====
section
/-!
DEFINITION. The boot of a span, step by step (R437 to R442), with the time condition of its last step (R162, R163), and the qualification of
the time base, which that step may wait for.
-/

namespace Sys2Proof.Machine

/-! ### Firmware banks (R438, R446) -/

/-- Shows firmware versions and floors in the HUB registers of a span. -/
def State.showFirmware (s : State) (sp : SpanId) : State :=
  let x := s.span sp
  let other := x.nvs.bank (1 - x.boot.bank)
  let s := (s.setFld sp Fld.hubFwVersionVersion x.running.version).setFld sp Fld.hubFwOtherVersion (if other.valid then other.version else 0)
  let s := (s.setFld sp Fld.hubFwFloorFused (min x.fuses.floor 255)).setFld sp Fld.hubFwFloorStored x.nvs.storedFloor
  let s := (s.setFld sp Fld.hubFwFloorImage x.running.floor).setFld sp Fld.hubBootBank x.boot.bank
  (s.setFld sp Fld.hubBootTrial (boolNat x.boot.trial)).setFld sp Fld.hubBootFallback (boolNat x.boot.fallback)

/-- The ROM's choice (R438): the bank, whether it is on trial, whether the chosen bank was passed over, and the boot pointer that is written. -/
def SpanState.chooseBank (x : SpanState) : Option (Nat × Bool × Bool × BootPointer) :=
  let p := x.nvs.boot
  let want : Nat × Bool × Bool × BootPointer := match p.trial with
    | some t =>
      if x.bankOk t ∧ p.trialCount = 0 then (t, true, false, { p with trialCount := 1 })
      else if x.bankOk t then (p.active, false, true, ⟨p.active, none, 0⟩)
      else (p.active, false, false, p)
    | none => (p.active, false, false, p)
  if x.bankOk want.1 then some want
  else if x.bankOk (1 - want.1) then some (1 - want.1, false, true, want.2.2.2)
  else none

/-! ### The steps of R437 -/

/-- The step of a span's boot that has been reached. -/
def State.stageTo (s : State) (sp : SpanId) (n : Nat) : State :=
  (s.upd sp fun x => { x with boot := { x.boot with stage := n } }).setFld sp Fld.hubBootStage n

/-- Step 1: core 0 runs the span boot ROM; the PLLs have locked. -/
def State.bootRom (s : State) (sp : SpanId) : State :=
  let s := if s.fld sp Fld.clkStatusSysFallback = 0 then s.setFld sp Fld.clkStatusSysLock 1 else s
  let s := (s.setFld sp Fld.clkStatusPcieLock 1).setFld sp Fld.clkStatusSerdesLock 3
  s.stageTo sp 1

/-- Step 2: the fuse scan and the life-cycle state (R375, R378); a peer one step ahead is matched first. In SCRAP the span stops and its rails are
removed (R382). None while a fuse program runs. -/
def State.bootFuses (s : State) (sp : SpanId) (changed : List FuseWord) : Option State :=
  if (s.span sp).fuses.progs ≠ [] then none
  else
    let s := s.fuseScan sp changed
    let own := (s.span sp).fuses.life
    if (s.span sp.other).fuses.life = own + 1 ∧ s.fld sp Fld.lcsEvtPeerMismatch = 0 then
      some ((s.setFld sp Fld.lcsEvtPeerMismatch 1).programLife sp (own + 1))
    else
      let s := s.showLife.stageTo sp 2
      if own = 5 then
        some (s.updHub fun h => { h with sup := match sp with | .a => { h.sup with spanRailsA := false } | .b => { h.sup with spanRailsB := false } })
      else some s

/-- Step 3: the boot bank (R438). Without a bank that verifies the span stays in its ROM, at stage 3. A changed boot pointer waits for the end of a
power-fail warning (R445). -/
def State.bootBank (s : State) (sp : SpanId) : Option State :=
  if (s.span sp).fuses.life = 5 then none
  else
    match (s.span sp).chooseBank with
    | none => some (s.stageTo sp 3)
    | some (i, trial, fb, p) =>
      if p ≠ (s.span sp).nvs.boot ∧ s.hub.power.pfw then none
      else
        let s := s.upd sp fun x => { x with nvs := { x.nvs with boot := p }, boot := { x.boot with bank := i, trial := trial, fallback := fb } }
        let s := if fb then s.setFld sp Fld.hubEvtFallback 1 else s
        some ((s.showFirmware sp).stageTo sp 3)

/-- The replay of the journal (R372): torn home records of committed changes, and torn slates, are written anew at the write points (R76, R365). None
while a warning keeps them from being written. Ceremonies that are open then are rolled back once the span orders changes (R75). -/
def State.replay (s : State) (sp : SpanId) : Option State :=
  let x := s.span sp
  let torn := x.nvs.home.filter fun h => h.torn
  let slates := x.rep.log.entries.filter fun e => e.torn
  let again := torn.filter fun h => decide (h.csn ≤ x.cont.csn) &&
    !(x.nvs.home.any fun y => y.area == h.area && y.key == h.key && !y.torn && decide (h.csn ≤ y.csn))
  if (again ≠ [] ∨ slates ≠ []) ∧ s.hub.power.pfw then none
  else
    let s := s.updNvs sp fun v => again.foldl (fun (v : Nvs) h => v.addHome { h with torn := false }) v
    let s := s.upd sp fun x => { x with
      rep := { x.rep with log := slates.foldl (fun (l : Log) e => l.rewrite e false) x.rep.log }
      boot := { x.boot with openLocks := x.rep.locks.map fun l => (l.owner, l.pid) } }
    let n := torn.length + slates.length
    let s := if n = 0 then s else (List.range n).foldl (fun s _ => s.raise sp 0x503 .ok [] none none)
      ((s.bump sp Fld.nvsTornCount n).setFld sp Fld.nvsEvtTorn 1)
    let s := if again = [] ∧ slates = [] then s else s.setFld sp Fld.nvsEvtReplayed 1
    let s := (s.set64 sp Reg.nvsAppliedLo Reg.nvsAppliedHi x.cont.csn).set64 sp Reg.nvsCommittedLo Reg.nvsCommittedHi x.cont.csn
    some ((s.set64 sp Reg.cntCsnLo Reg.cntCsnHi x.cont.csn).stageTo sp 4)

/-- Step 4: a half-erased sector is erased again first (R369), with the bits that read 0 in it; then the journal is replayed. None while that erase
runs, or waits for the end of a power-fail warning (R445). -/
def State.bootReplay (s : State) (sp : SpanId) (half : Nat) : Option State :=
  let v := (s.span sp).nvs
  if !(s.span sp).bankOk (s.span sp).boot.bank ∨ v.erases.any (fun e => e.half.isSome) then none
  else
    match v.erases with
    | [] => s.replay sp
    | e :: t =>
      if s.fld sp Fld.nvsEvtHalfErased = 1 ∨ !((openIntents v.status).any fun i => i.addr == e.addr) then s.replay sp
      else if s.hub.power.pfw then none
      else
        let s := s.updNvs sp fun v => { v with erases := { e with half := some half } :: t }
        let s := (s.bump sp Fld.nvsHalfErasedCount 1).setFld sp Fld.nvsEvtHalfErased 1
        let s := s.raise sp 0x502 .ok [] none none
        some ((s.device sp [] [devSlate 0x0B03 .ok (.span sp) e.addr (leBytes 1 e.area.code ++ leBytes 4 half)]).showNvs sp)

/-- Step 5: the floor of the life-cycle state is enforced again (R381): that of SHIPPED while no configuration has been applied, that of RETIRED always
(log entry 60). Owners that the hub holds in ZEROISE_PENDING have the pages of their salts overwritten (R306, R307). -/
def State.bootFloor (s : State) (sp : SpanId) : Option State :=
  if s.hub.power.pfw then none
  else
    let x := s.span sp
    let s := if x.fuses.life = 4 ∨ (x.fuses.life = 2 ∧ x.rep.epoch = 0) then s.applyFloor sp x.fuses.life else s
    let m := s.mask64 .a Reg.tmpPendingLo Reg.tmpPendingHi
    let s := if m = 0 then s else s.zeroiseOrder sp m none
    some (s.stageTo sp 5)

/-- The unit root is reconstructed and checked (R166, R167): from SHIPPED on, a failure is ROOT_FAIL, and the key slots are EMPTY. -/
def State.bootRoot (s : State) (sp : SpanId) : State :=
  let x := s.span sp
  let ur := pufRoot sp ((List.range 256).map fun i => (x.fuses.word (256 + i)).norm)
  let check := ((List.range 2).map fun i => x.fuses.critical (27 + i) (29 + i) (31 + i))
  let same := check == (List.range 2).map fun i => some (leField ((sha256 (asciiBytes "AKN-URCHK" ++ ur)).take 8) (4 * i) 4)
  if x.fuses.life < 2 ∨ x.fuses.unreadable then s.setFld sp Fld.vltStateVaultState 0
  else if same then
    (s.upd sp fun x => { x with vault := { x.vault with ur := ur, urOk := true } }).setFld sp Fld.vltStateVaultState 1
  else
    let s := (s.setFld sp Fld.vltStateVaultState 3).setFld sp Fld.vltEvtRootFail 1
    ((s.raise sp 0x200 .serviceUnavailable [] none none).device sp [] [devSlate 0x050B .ok (.span sp) sp.code []]).keepEmpty sp

/-- The owners whose keys the span finds gone at boot: all of them if the anchor words are invalid, else those that fired on VBAK alone. -/
def State.bootGone (s : State) (sp : SpanId) : Nat :=
  if (s.span sp).rep.config.anchored ∧ !s.hub.anchorsValid then 2 ^ 33 - 1 else s.hub.tamper.pendingOwners

/-- Step 6: the unit root, and under ANCHORED protection the anchor words (R171). Objects of owners whose keys are gone become ZEROISED: with the slate
ANCHOR_LOST, or OWNER_ZEROISED with cause TAMPER. -/
def State.bootAnchors (s : State) (sp : SpanId) : State :=
  let s := s.bootRoot sp
  let x := s.span sp
  let lost : Bool := x.rep.config.anchored && !s.hub.anchorsValid
  let m := s.bootGone sp
  let s := s.upd sp fun x => { x with vault := { x.vault with
    mn := ((if x.rep.config.anchored then s.hub.anchors else x.nvs.salts).filter fun y => !m.testBit y.1) } }
  let s := if lost then
      let s := (s.setFld sp Fld.vltStateAnchorLost 1).setFld sp Fld.vltEvtAnchorLost 1
      let s := (s.raise sp 0x201 .ok [] none none).device sp [.zeroise m] [devSlate 0x050C .ok (.span sp) 0 []]
      s.updHub fun h => { h with anchorsValid := s.fld sp.other Fld.vltStateAnchorLost == 1 }
    else if m = 0 then s
    else
      let s := s.device sp [.zeroise m] [zeroisedSlate .hub m 1 ((s.span sp).rep.zeroisable m)]
      s.updTamper fun t => { t with pendingOwners := 0 }
  (s.writeDark sp).stageTo sp 6

/-- A generator seed for each PRBS loop and the mesh, never zero (R299): drawn on Span A, or on Span B if A is absent. -/
def State.drawLoops (s : State) (sp : SpanId) : State :=
  if sp = .b ∧ s.railsOn .a then s
  else
    let d := s.drawSpan sp 20
    d.2.updTamper fun t => { t with prbs := (List.range 5).map fun i => max 1 (leField d.1 (4 * i) 4 % 2 ^ 31) }

/-- Puts the configuration in force into the units of a span, the ports excepted (R437 step 7). -/
def State.loadConfig (s : State) (sp : SpanId) : State :=
  let c := (s.span sp).rep.config
  let places := (placeGuests (s.span sp) sp c).getD []
  let s := if c = [] then s else ((s.adoptLanes sp c).adoptWorlds sp c c places).adoptGates sp c places
  let s := s.updCls sp fun k => { k with wc := wildEntries ((c.scene 11 sp.num).getD []) }
  let s := s.setFld sp Fld.clsWcCountCount ((s.span sp).cls.wc.length)
  let s := if c = [] then s else
    let code := if c.anchored then 1 else 2
    (s.setFld sp Fld.vltStateProtection code).setFld sp Fld.tmpStatusProtection code
  let s := s.setFld sp Fld.cntStatePref (((s.span sp).rep.pref.map SpanId.code).getD 0)
  let s := s.set64 sp Reg.cntTermLo Reg.cntTermHi (s.span sp).cont.term
  let s := s.setFld sp Fld.cntSideCount (s.span sp).cont.side.length
  (((s.showEpoch sp).showVault sp).showStaged sp).showLog sp

/-- The registers that the calibration records of NOR give at boot (R110, R164): record 0 and 1 hold TS_RX_LAT and 4 and 5 TS_TX_LAT of the two ports, 6 and
7 the latencies of 1PPS; the spec does not number them (log entry 107). -/
def State.loadCalib (s : State) (sp : SpanId) : State :=
  [(0, Fld.clsPortnTsRxLatLat 0), (1, Fld.clsPortnTsRxLatLat 1), (4, Fld.clsPortnTsTxLatLat 0), (5, Fld.clsPortnTsTxLatLat 1),
      (6, Fld.tbPpsInLatLat), (7, Fld.tbPpsOutLatLat)].foldl (fun s (x : Nat × FieldRef) =>
    match (s.span sp).nvs.calib.find? fun c => c.1 == x.1 with
    | some c => s.setFld sp x.2 (c.2 % 65536)
    | none => s) s

/-- The scene list that CONFIG holds differs from the newest epoch record's digest (R441). -/
def SpanState.listDiffers (x : SpanState) : Bool := decide (0 < x.rep.epoch) && x.rep.config.digest != x.rep.epochDigest

/-- VALUE := C of every counter (R190). -/
def State.skipCounters (s : State) (sp : SpanId) : State :=
  s.updRep sp fun r => { r with ctrs := r.ctrs.map fun c => { c with value := c.ceil } }

/-- The configuration in force goes into the units of a span, and its classification tables are built (R92, R437 step 7). -/
def State.putInForce (s : State) (sp : SpanId) : State :=
  let s := s.loadConfig sp
  (s.rebuildCls sp (s.span sp).stream.active 4096).commitCls sp

/-- Step 7: the scene list is checked (R441); epoch, log and vault registers, counters, the DRBG instances, the classification tables, the loop seeds;
the supervisor loads the tamper policy and sets ARMED (R305, R92, R190, R290). A list that does not match is not put in force. None while the entropy
unit has not instantiated its instances and still may. -/
def State.bootLoad (s : State) (sp : SpanId) : Option State :=
  let on : Bool := s.fld sp Fld.rngCtrlEnable == 1
  if !on then some ((s.setFld sp Fld.rngCtrlEnable 1).startSources sp)
  else
    let e := (s.span sp).entropy
    if !(e.d0.seeded && e.d1.seeded && e.d2.seeded) ∧ !s.entFatal sp then none
    else if (s.span sp).boot.restart then some (s.stageTo sp 7)
    else
      let bad := (s.span sp).listDiffers
      let s := s.loadCalib sp
      let s := if bad then s.upd sp fun x => { x with boot := { x.boot with mismatch := true } } else s.putInForce sp
      let s := if (s.span sp).boot.cause ≤ 1 then s.skipCounters sp else s
      let s := s.drawLoops sp
      let r := (s.span sp).rep
      let s := if r.epoch = 0 ∨ bad ∨ s.fld .a Fld.tmpStatusArmed = 1 then s else
        match r.config.scene 12 0 with | some p => s.adoptPolicy p | none => s
      some ((s.showPower sp).stageTo sp 7)

/-- Step 8: the span enters JOINING and says HELLO (R442). What it has to record waits for the join: sessions whose transport the reset has ended
(R63), and the slates of its reset. -/
def State.bootJoining (s : State) (sp : SpanId) : State :=
  let x := s.span sp
  let ended := if x.boot.restart then [] else x.rep.sessions.filter fun y => decide (x.boot.cause ≤ 1) || y.span == sp
  let s := ended.foldl (fun s y => s.submit sp (lateChange sp none (.sessionClose y.id 4))) s
  let s := if x.boot.slates = [] then s else s.device sp [] x.boot.slates
  let s := s.upd sp fun x => { x with boot := { x.boot with helloAt := some s.elapsed, slates := [] } }
  (if (s.span sp).cont.deckUp then s.sendHello sp else s).stageTo sp 8

/-- The join has ended: with the lease, as follower, or alone (R442). -/
def Mode.joined : Mode → Bool
  | .keystone | .follower | .solo | .isolated => true
  | _ => false

/-- Owners in ZEROISE_PENDING whose salts are gone on both spans leave the mask (R307). -/
def State.settlePending (s : State) : State :=
  let m := s.mask64 .a Reg.tmpPendingLo Reg.tmpPendingHi
  let left (sp : SpanId) (n : Nat) : Bool :=
    ((s.span sp).nvs.salts.any fun y => y.1 == n) || (s.span sp).nvs.progs.any fun p => p.salt.any fun y => y.1 == n
  let rest := ((List.range 33).filter fun n => m.testBit n && (left .a n || left .b n)).foldl (fun w n => w + 2 ^ n) 0
  (s.set64 .a Reg.tmpPendingLo Reg.tmpPendingHi rest).setFld .a Fld.tmpStatusPending (boolNat (rest != 0))

/-- A span whose scene list did not match goes on once it has become FOLLOWER: the keystone span has sent it every bucket that differs, the scene list
with them (R441). -/
def State.relist (s : State) (sp : SpanId) : Option State :=
  let x := s.span sp
  if !x.boot.mismatch then some s
  else if x.cont.mode = .follower ∧ !x.listDiffers then
    some ((s.upd sp fun x => { x with boot := { x.boot with mismatch := false } }).putInForce sp)
  else none

/-- Step 9: the vault opens if its root is good, the Keeper starts, guests are loaded, and FETCH_EN and READY are set (R242). None before the join has
ended, while the hub withholds the vault-open signal (R307), or while the scene list does not match (R441). -/
def State.bootOpen (s : State) (sp : SpanId) : Option State :=
  let s := s.settlePending
  if !(s.span sp).cont.mode.joined ∨ s.fld .a Fld.tmpStatusPending = 1 then none
  else match s.relist sp with
  | none => none
  | some s =>
    let b := (s.span sp).boot
    let s := if 2 ≤ b.cause ∧ !b.restart then
        if (s.span sp).cont.mode = .follower then s.updRep sp fun r => { r with ctrs := (s.span sp.other).rep.ctrs } else s.skipCounters sp
      else s
    let s := if s.fld sp Fld.vltStateVaultState = 1 then
        let pub := s.cpkPublic sp
        (List.range 24).foldl (fun s i => s.setReg sp (Reg.vltCpkPubn i) (BitVec.ofNat 32 (leField pub (1 + 4 * i) 4))) (s.setFld sp Fld.vltStateVaultState 2)
      else s
    let s := (s.setFld sp Fld.kprStatusKeeperUp 1).setFld sp Fld.kprStatusSwdtArmed 3
    let s := s.updWorlds sp fun w => { w with kick0 := s.elapsed, kick1 := s.elapsed, hung := [] }
    let s := if b.restart then s else
      (s.span sp).worlds.guests.foldl (fun s g => s.setFld sp (Fld.kprGuestgStateState g.g) 1) s
    let s := (s.setFld sp Fld.bneCtrlLaneEn 0xFF).setFld sp Fld.hostCtrlFetchEn 1
    let s := s.setFld sp Fld.hostStatusReady 1
    let s := s.setFld sp Fld.hubReadyMsMs (min ((s.elapsed - b.released) / ms) 65535)
    some (s.stageTo sp 9)

/-- The resume time of a POR (R163), and the GOOSE and ROUTABLE contexts in the SIGN direction that are held from then on
(R149). -/
def State.resume (s : State) (sp : SpanId) : State :=
  let x := s.span sp
  let t := s.now sp
  let live := x.stream.active.ctxs.filter fun e => e.2.state == .active || e.2.state == .suspended
  let held := (live.filter fun e => e.2.dir == 1 && x.rep.modeOf e.2 != 1 && decide (ofTai64 e.2.activated < t)).map (·.1)
  let s := s.updStream sp fun y => { y with held := held, resumed := y.resumed || live != [] }
  s.set64 sp Reg.tbResumeSecLo Reg.tbResumeSecHi (t / sec)

/-- The time condition of the last step: after a POR QUALIFIED (R163); after a SPAN reset the time of the master where the peer is reachable, and
QUALIFIED as it is otherwise (R162). -/
def State.bootTime (s : State) (sp : SpanId) : Option State :=
  let b := (s.span sp).boot
  if b.restart then some s
  else if b.cause ≤ 1 then (if s.fld sp Fld.tbStatusQualified = 1 then some (s.resume sp) else none)
  else if (s.span sp).cont.mode = .follower then
    some ((s.upd sp fun x => { x with tb := x.tb.at_ (s.now sp.other) }).followQualified sp)
  else some s

/-- Step 10: the stream ports and the tag engine are enabled, and the BOOT slate is written. None before the time condition, or while a floor is being
applied (R381). -/
def State.bootPorts (s : State) (sp : SpanId) : Option State :=
  if (s.span sp).nvs.erases.any fun e => e.purpose == .floor then none
  else
    match s.bootTime sp with
    | none => none
    | some s =>
      let b := (s.span sp).boot
      let c := (s.span sp).rep.config
      let s := if b.restart then s else ((s.adoptPort sp 0 c false).adoptPort sp 1 c false).setFld sp Fld.steCtrlEnable 1
      let fw := (s.span sp).running.version
      let slate := devSlate 0x0B06 .ok (.span sp) sp.code (leBytes 1 b.cause ++ leBytes 1 b.bank ++ leBytes 4 fw ++ leBytes 1 (boolNat b.fallback) ++
        leBytes 4 (s.fld sp Fld.hubReadyMsMs))
      let s := if b.restart then s else s.device sp [] [slate]
      let s := s.upd sp fun x => { x with boot := { x.boot with restart := false } }
      some ((s.setFld sp Fld.hubEvtBootDone 1).stageTo sp 10)

/-- The next step of a span's boot, if it can be taken. -/
def State.bootStep (s : State) (sp : SpanId) (half : Nat) (changed : List FuseWord) : Option State :=
  let b := (s.span sp).boot
  if !s.railsOn sp ∨ b.resetDue.isSome then none
  else if b.stage = 0 then some (s.bootRom sp)
  else if b.stage = 1 then s.bootFuses sp changed
  else if b.stage = 2 then s.bootBank sp
  else if b.stage = 3 then s.bootReplay sp half
  else if b.stage = 4 then s.bootFloor sp
  else if b.stage = 5 then some (s.bootAnchors sp)
  else if b.stage = 6 then s.bootLoad sp
  else if b.stage = 7 then some (s.bootJoining sp)
  else if b.stage = 8 then s.bootOpen sp
  else if b.stage = 9 then s.bootPorts sp
  else none

/-- Takes up to `n` steps of the boot, until one has to wait. -/
def State.bootRun (s : State) (sp : SpanId) (half : Nat) (changed : List FuseWord) : Nat → State
  | 0 => s
  | n + 1 => match s.bootStep sp half changed with | some s => s.bootRun sp half changed n | none => s

/-- SPAN_BOOT (R437): the boot goes on from the step it has reached to the first that has to wait: `changed` are the fuse words whose readings have
changed since they were last read, `half` the bits that read 0 in a sector found half-erased. -/
def execSpanBoot (sp : SpanId) (half : Nat) (changed : List FuseWord) (s : State) : Host.Outcome State Fault Refusal :=
  .next (s.bootRun sp half changed 16)

/-- TB_QUALIFY (R159): the QUALIFIED of a span that follows is the master's (R160). A span whose boot waits for it enables its data plane (R163). -/
def execTbQualify (sp : SpanId) (s : State) : Host.Outcome State Fault Refusal :=
  if s.servoIgnored sp then .next s
  else
    let s := (s.setFld sp Fld.tbStatusQualified 1).recordGap sp
    .next (if (s.span sp).boot.stage = 9 then s.bootRun sp 0 [] 1 else s)

end Sys2Proof.Machine
end

