-- ==== Sys2Proof/Machine/Operands.lean ====
section
/-!
DEFINITION. Operand forms and the arithmetic of the Pier core (R338, R349 to R352, Ordinary instructions): register specifiers, immediates and
offsets, comparisons, division, shifts, and the base profile.
-/

namespace Sys2Proof.Machine

/-! ### Operand forms -/

/-- A register specifier that names a register: 0 to 24 (R338). -/
def specOk (r : BitVec 5) : Bool := decide (r.toNat < 25)

/-- A sign-extended 16-bit immediate. -/
def simm (imm : BitVec 16) : Word64 := imm.signExtend 64

/-- A zero-extended 16-bit immediate. -/
def zimm (imm : BitVec 16) : Word64 := imm.setWidth 64

/-- The constant of HIK and PCK: a sign-extended 21-bit immediate times 2^16. -/
def upper (imm : BitVec 21) : Word64 := imm.signExtend 64 <<< 16

/-- A branch target: an offset in words from the branch. -/
def offTarget {n : Nat} (pc : Word64) (off : BitVec n) : Word64 := pc + (off.signExtend 64 <<< 2)

/-! ### Arithmetic -/

/-- A comparison writes 1 when it holds and 0 otherwise. -/
def truth (b : Bool) : Word64 := if b then 1 else 0

/-- SHL: the amount is the second operand's low six bits. -/
def shiftL (x y : Word64) : Word64 := x <<< (y.toNat % 64)
/-- SHR. -/
def shiftR (x y : Word64) : Word64 := x >>> (y.toNat % 64)
/-- SAR. -/
def shiftA (x y : Word64) : Word64 := x.sshiftRight (y.toNat % 64)

/-- MULHS: the high 64 bits of the signed product. -/
def mulHighS (x y : Word64) : Word64 := BitVec.ofInt 64 (x.toInt * y.toInt / 2 ^ 64)
/-- MULHU: the high 64 bits of the unsigned product. -/
def mulHighU (x y : Word64) : Word64 := BitVec.ofNat 64 (x.toNat * y.toNat / 2 ^ 64)

/-- QUO: rounds towards zero; 0 for a divisor of 0. -/
def quoS (x y : Word64) : Word64 := if y = 0 then 0 else BitVec.ofInt 64 (x.toInt.tdiv y.toInt)
/-- QUOU. -/
def quoU (x y : Word64) : Word64 := if y = 0 then 0 else BitVec.ofNat 64 (x.toNat / y.toNat)
/-- MOD: the remainder that goes with QUO; the dividend for a divisor of 0. -/
def modS (x y : Word64) : Word64 := if y = 0 then x else BitVec.ofInt 64 (x.toInt.tmod y.toInt)
/-- MODU. -/
def modU (x y : Word64) : Word64 := if y = 0 then x else BitVec.ofNat 64 (x.toNat % y.toNat)

/-- A 32-bit result, sign-extended to 64 bits. -/
def low32 (x : Word64) : Word64 := (x.setWidth 32).signExtend 64

/-! ### Base profile -/

/-- BFX (R350). -/
def bitField (x : Word64) (pos w : Nat) : Word64 := BitVec.ofNat 64 (x.toNat / 2 ^ pos % 2 ^ w)

/-- BFXS (R350). -/
def bitFieldS (x : Word64) (pos w : Nat) : Word64 :=
  let f := x.toNat / 2 ^ pos % 2 ^ w
  if 2 ^ (w - 1) ≤ f then BitVec.ofInt 64 ((f : Int) - 2 ^ w) else BitVec.ofNat 64 f

/-- BFI (R350). -/
def bitInsert (d x : Word64) (pos w : Nat) : Word64 :=
  let mask := (2 ^ w - 1) * 2 ^ pos
  BitVec.ofNat 64 (d.toNat - (d.toNat &&& mask) + x.toNat % 2 ^ w * 2 ^ pos)

/-- The number of zero bits above the highest set bit of an `n`-bit number (R351). -/
def leadZeros (n v : Nat) : Nat := if v = 0 then n else n - 1 - Nat.log2 v

/-- BPRM (R352): each nibble of the second operand selects one result byte. -/
def bytePermute (x y : Word64) : Word64 :=
  BitVec.ofNat 64 (((List.range 8).map fun i =>
    let s := y.toNat / 2 ^ (4 * i) % 16
    let b := if 8 ≤ s then 0 else x.toNat / 2 ^ (8 * s) % 256
    b * 2 ^ (8 * i)).sum)

/-- A loaded value of `n` bytes, extended with its sign or with zeros. -/
def extend (n : Nat) (signed : Bool) (v : Nat) : Word64 :=
  if signed ∧ 2 ^ (8 * n - 1) ≤ v then BitVec.ofInt 64 ((v : Int) - 2 ^ (8 * n)) else BitVec.ofNat 64 v

end Sys2Proof.Machine
end

