-- ==== Sys2Proof/Machine/Pcie.lean ====
section
/-!
DEFINITION. What a PCIe function reaches beside the HOST window: its MSI-X table and pending bits in BAR2 (R237, R238) and its configuration space
(R235), whose layout is that of the PCIe specification (log entry 43).
-/

namespace Sys2Proof.Machine

/-- Where BAR2 and configuration space of a function begin among the offsets that its accesses name (log entry 43). -/
def bar2Base : Nat := 0x10000000

/-- See `bar2Base`. -/
def cfgBase : Nat := 0x20000000

/-- BAR2: an entry has address low and high, data and the mask; the pending bits lie from 0x1800 (R237). -/
def State.bar2Word (s : State) (sp : SpanId) (fn off : Nat) : Word32 :=
  let f := (s.span sp).host.fnState fn
  let e := f.vector (off / 16)
  BitVec.ofNat 32 <|
    if off / 16 < vectorCount fn then
      match off % 16 / 4 with
      | 0 => e.addr
      | 1 => e.addr / 2 ^ 32
      | 2 => e.data
      | _ => boolNat e.masked
    else if off = 0x1800 then f.pbits else 0

/-- A write to BAR2: an entry of the table; a vector that is masked no more sends its pending message. The pending bits cannot be written. -/
def State.bar2Write (s : State) (sp : SpanId) (fn off : Nat) (v : Word32) : State :=
  let f := (s.span sp).host.fnState fn
  let n := off / 16
  let e := f.vector n
  let e' : MsixEntry := match off % 16 / 4 with
    | 0 => { e with addr := e.addr / 2 ^ 32 * 2 ^ 32 + v.toNat / 4 * 4 }
    | 1 => { e with addr := e.addr % 2 ^ 32 + v.toNat * 2 ^ 32 }
    | 2 => { e with data := v.toNat }
    | _ => { e with masked := v.getLsbD 0 }
  if n < vectorCount fn then
    (s.updHost sp fun h => h.setFn { f with vectors := f.vectors.filter (fun x => x.1 ≠ n) ++ [(n, e')] }).msixRelease sp fn
  else s

/-- The size of a memory BAR whose low half lies at an offset of configuration space (R237): BAR0 and BAR2 of the PF, and of the VFs in the
SR-IOV capability. -/
def barSize : Nat → Nat
  | 0x10 => 0x10000
  | 0x18 | 0x12C => 0x2000
  | 0x124 => 0x4000
  | _ => 0

/-- A BAR word as it is written: the high half whole, the low half by its size. -/
def isBarHigh (off : Nat) : Bool := [0x14, 0x1C, 0x128, 0x130].contains off

/-- A word of a function's configuration space (R235). -/
def State.cfgWord (s : State) (sp : SpanId) (fn off : Nat) : Word32 :=
  let h := (s.span sp).host
  let f := h.fnState fn
  let revision := ((s.span sp).fuses.critical 33 34 35).getD 0 % 256
  let plain := ((f.cfg.find? fun x => x.1 == off).map (·.2)).getD 0
  BitVec.ofNat 32 <|
    if off = 0x00 then 0x1F3C + 0x10000 * (if fn = 0 then 0x7420 else 0x7421)
    else if off = 0x04 then 2 * boolNat (fn == 0 && f.memSpace) + 4 * boolNat f.busMaster + 0x100000
    else if off = 0x08 then revision + 0x100 * 0x108000
    else if off = 0x34 then 0x40
    else if off = 0x40 then 0x5011 + 0x10000 * (vectorCount fn - 1) + 2 ^ 30 * boolNat f.fnMask + 2 ^ 31 * boolNat f.msixEnable
    else if off = 0x44 then 2
    else if off = 0x48 then 0x1800 + 2
    else if off = 0x50 then 0x6001
    else if off = 0x54 then 8 + 3 * boolNat (!f.d0)
    else if off = 0x60 then 0x0010
    else if off = 0x64 then 2 ^ 28
    else if fn ≠ 0 then 0
    else if 0 < barSize off then plain + 4
    else if isBarHigh off then plain
    else if off = 0x100 then 0x0010
    else if off = 0x108 then boolNat h.vfEnable + 8 * boolNat h.vfMem
    else if off = 0x10C then 32 + 0x10000 * 32
    else if off = 0x110 then h.numVfs
    else if off = 0x114 then 1 + 0x10000
    else if off = 0x118 then 0x10000 * 0x7421
    else 0

/-- A write of the SR-IOV control word: VF Enable and VF MSE. -/
def State.writeSriov (s : State) (sp : SpanId) (v : Word32) : State :=
  let h := (s.span sp).host
  let s := if h.vfEnable && !v.getLsbD 0 then s.vfsOff sp
    else if !h.vfEnable && v.getLsbD 0 then (s.updHost sp fun h => { h with vfEnable := true }).setFld sp Fld.hostStatusNumVfs h.numVfs
    else s
  s.updHost sp fun h => { h with vfMem := v.getLsbD 3 }

/-- A write to a function's configuration space (R235 to R238, R255, R256). -/
def State.cfgWrite (s : State) (sp : SpanId) (fn off : Nat) (v : Word32) : State :=
  let set (s : State) (g : FnState → FnState) : State := s.updHost sp fun h => h.setFn (g (h.fnState fn))
  let s := s.updHost sp fun h => { h with linkUp := true }
  if off = 0x04 then
    (set s fun f => { f with memSpace := decide (fn = 0) && v.getLsbD 1, busMaster := v.getLsbD 2 }).releaseHeld sp fn
  else if off = 0x40 then (set s fun f => { f with fnMask := v.getLsbD 30, msixEnable := v.getLsbD 31 }).msixRelease sp fn
  else if off = 0x54 then (if getBits v 1 0 = 0 ∨ getBits v 1 0 = 3 then (set s fun f => { f with d0 := decide (getBits v 1 0 = 0) }).releaseHeld sp fn else s)
  else if off = 0x68 then (if v.getLsbD 15 then s.flr sp fn else s)
  else if fn ≠ 0 then s
  else if 0 < barSize off then
    set s fun f => { f with cfg := f.cfg.filter (fun x => x.1 ≠ off) ++ [(off, v.toNat / barSize off * barSize off)] }
  else if isBarHigh off then set s fun f => { f with cfg := f.cfg.filter (fun x => x.1 ≠ off) ++ [(off, v.toNat)] }
  else if off = 0x108 then s.writeSriov sp v
  else if off = 0x110 then
    if (s.span sp).host.vfEnable ∨ 32 < getBits v 15 0 then s else s.updHost sp fun h => { h with numVfs := getBits v 15 0 }
  else s

/-- The memory BARs of a function answer (R237): Memory Space Enable of the PF, VF MSE for a VF, in D0. -/
def HostPort.answers (h : HostPort) (fn : Nat) : Bool :=
  h.exists_ fn && (h.fnState fn).d0 && if fn = 0 then (h.fnState 0).memSpace else h.vfMem

/-- A read by a function outside the HOST window. -/
def State.pcieRead (s : State) (sp : SpanId) (fn off : Nat) : State :=
  let h := (s.span sp).host
  if off % 4 ≠ 0 ∨ !h.exists_ fn then s
  else if off < cfgBase then
    if bar2Base ≤ off ∧ off < bar2Base + 0x2000 ∧ h.answers fn then s.emit (.readData sp off (s.bar2Word sp fn (off - bar2Base)).toNat) else s
  else if off < cfgBase + 0x1000 then s.emit (.readData sp off (s.cfgWord sp fn (off - cfgBase)).toNat) else s

/-- A write by a function outside the HOST window. -/
def State.pcieWrite (s : State) (sp : SpanId) (fn off : Nat) (v : Word32) : State :=
  let h := (s.span sp).host
  if off % 4 ≠ 0 ∨ !h.exists_ fn then s
  else if off < cfgBase then
    if bar2Base ≤ off ∧ off < bar2Base + 0x2000 ∧ h.answers fn then s.bar2Write sp fn (off - bar2Base) v else s
  else if off < cfgBase + 0x1000 then s.cfgWrite sp fn (off - cfgBase) v else s

end Sys2Proof.Machine
end

