-- ==== Sys2Proof/Machine/Random.lean ====
section
/-!
DEFINITION. The events of the entropy unit and its requests (chapter Entropy).
-/

namespace Sys2Proof.Machine

/-- RAW_BLOCK_COMPLETE (R282, R284, R285): a block of 1,024 bits that passes both tests is conditioned into the pool, unless the pool is full. -/
def execRawBlockComplete (sp : SpanId) (src : Nat) (block : List Byte) (s : State) : Host.Outcome State Fault Refusal :=
  let e := (s.span sp).entropy
  let x := e.src src
  let block := padBytes 128 block
  if 4 ≤ src ∨ !x.running ∨ x.startup then .next s
  else
    let bits := rawBits block
    let r := rctRun bits x.lastBit x.run false
    if r.2.2 then .next (s.sourceFails sp src 1)
    else if aptFails bits then .next (s.sourceFails sp src 2)
    else
      let s := s.updEnt sp fun e => e.setSrc src { x with lastBit := r.1, run := r.2.1 }
      if e.rushes.isSome ∨ 16 ≤ e.pool.length then .next s
      else .next ((((s.updEnt sp fun e => { e with pool := e.pool ++ [sha256 block] }).showEnt sp).entropyServed sp).serveWaits sp)

/-- SOURCE_STARTUP_DONE (R283): the start-up test has passed; its bits are discarded. -/
def execSourceStartupDone (sp : SpanId) (src : Nat) (s : State) : Host.Outcome State Fault Refusal :=
  let x := (s.span sp).entropy.src src
  if 4 ≤ src ∨ !x.running ∨ !x.startup then .next s
  else .next (s.updEnt sp fun e => e.setSrc src { x with startup := false })

/-- SOURCE_TEST_FAIL (R286, R287): test 1 RCT, 2 APT. -/
def execSourceTestFail (sp : SpanId) (src test : Nat) (s : State) : Host.Outcome State Fault Refusal :=
  if 4 ≤ src ∨ !((s.span sp).entropy.src src).running then .next s else .next (s.sourceFails sp src test)

/-- DRBG_GENERATE (R289, R290, R292): a request of up to 65,536 bits to an instance; what cannot be served waits, and is made anew by a later row. -/
def execDrbgGenerate (sp : SpanId) (i n : Nat) (pr : Bool) (s : State) : Host.Outcome State Fault Refusal :=
  if 3 ≤ i ∨ 8192 < n then .next s
  else
    match s.random sp i n pr with
    | some r => .next r.2
    | none => if s.entFatal sp then .next s else .next ((s.setFld sp Fld.rngEvtStarved 1).bump sp Fld.rngWaitsCount 1)

/-- DRBG_RESEED (R290): a reseed that is due, after 65,536 requests or 1 s, if the pool has a block. -/
def execDrbgReseed (sp : SpanId) (i : Nat) (s : State) : Host.Outcome State Fault Refusal :=
  let e := (s.span sp).entropy
  let d := e.drbg i
  if 3 ≤ i ∨ s.entFatal sp ∨ !d.seeded ∨ (d.reqs < 65536 ∧ s.elapsed < d.reseeded + sec) then .next s
  else
    match e.pool with
    | [] => .next s
    | b :: t => .next ((s.updEnt sp fun e => ({ e with pool := t } : Entropy).setDrbg i (d.reseed b s.elapsed)).showEnt sp)

/-- RNG_GET (R325): a guest's 1 to 8,192 bytes from instance 2. -/
def execRngGet (c : Caller) (n : Nat) (s : State) : Host.Outcome State Fault Refusal :=
  if !s.started c 0x0A10 [some (num n)] then .next s
  else
    match s.bars c 0x0A10 [] with
    | some st => .next (s.complete c st [])
    | none =>
      if n < 1 ∨ 8192 < n then .next (s.complete c .inputRange [])
      else .next (s.askRandom c (.rng n))

/-- RUSHES_CAPTURE_DONE (R294): 1,048,576 consecutive raw bits of the selected source stand in the capture region. -/
def execRushesCaptureDone (sp : SpanId) (bits : List Byte) (s : State) : Host.Outcome State Fault Refusal :=
  match (s.span sp).entropy.rushes with
  | none => .next s
  | some r =>
    if r.done then .next s
    else
      let s := s.updEnt sp fun e => { e with rushes := some { r with done := true, bits := padBytes 131072 bits } }
      .next (s.setFld sp Fld.rngRushesCountBits 1048576)

end Sys2Proof.Machine
end

