-- ==== Sys2Proof/Machine/Engine.lean ====
section
/-!
DEFINITION. The stream tag engine's frame paths (R127 to R131, R145 to R153), with their counters and reports.
-/

namespace Sys2Proof.Machine

/-- How a frame ends: its status, the slot used, the disposition that applies (0 for the normal path), and the frame with its FCS. -/
structure Verdict where
  status : Status
  slotB : Bool
  disp : Nat
  frame : List Byte
deriving DecidableEq, Repr

/-- The report of a frame that failed, with its counter and event bit (R148, R472). `reason` is the NONCE_ORDER reason, `slot` 0xFF where
none was chosen, `n` the nonce or zeros. -/
def State.frameFail (s : State) (sp : SpanId) (port ctx : Nat) (e : CtxEntry) (st : Status) (reason slot : Nat) (n : List Byte) : State :=
  let s := s.updStream sp fun x =>
    let r := x.rec_ ctx
    x.setRec ctx { r with framesFail := satInc32 r.framesFail 1 }
  let vf (s : State) : State := s.raiseQuiet sp 0x141 st (leBytes 2 ctx ++ leBytes 1 port ++ leBytes 1 slot ++ padBytes 12 n)
  match st with
  | .nonceOrder =>
    ((s.bump sp Fld.steNonceOrderCount 1).setFld sp Fld.steEvtNonceOrder 1).raiseQuiet sp 0x140 st
      (leBytes 2 ctx ++ leBytes 1 reason ++ leBytes 1 port ++ padBytes 12 n)
  | .tagFail => vf ((s.bump sp Fld.steTagFailCount 1).setFld sp Fld.steEvtTagFail 1)
  | .replay => vf (s.bump sp Fld.steReplayCount 1)
  | .staleFrame => vf (s.bump sp Fld.steStaleCount 1)
  | .keyIdUnknown => vf ((s.bump sp Fld.steKeyIdUnknownCount 1).setFld sp Fld.steEvtKeyIdUnknown 1)
  | .templateMismatch =>
    ((s.bump sp Fld.steTemplateMismatchCount 1).setFld sp Fld.steEvtTemplateMismatch 1).raiseQuiet sp 0x142 st
      (leBytes 2 ctx ++ leBytes 1 port ++ leBytes 1 e.template ++ leBytes 1 e.dir)
  | .noKey => (s.bump sp Fld.steNoKeyCount 1).raiseQuiet sp 0x143 st (leBytes 2 ctx ++ leBytes 1 port)
  | _ => s

/-- The slot that R130 chooses for a cut value: true for B. -/
def chooseSlot (a b : Slot) (cut : Nat) : Option Bool :=
  if b.load = .loaded ∧ b.fromSecond ≤ cut then some true else if a.load = .loaded then some false else none

/-- The slot that accepts a key ID (R131). -/
def acceptSlot (a b : Slot) (keyId cut overlap : Nat) : Option Bool :=
  if a.load = .loaded ∧ keyId = a.keyId ∧ (b.load = .loaded → cut < b.fromSecond + overlap) then some false
  else if b.load = .loaded ∧ keyId = b.keyId ∧ b.fromSecond ≤ cut + overlap then some true
  else none

/-- The era second and cut value of a frame: the era of R145 for SV, the era field for ROUTABLE, LOC_CUT for GOOSE; an error is the
NONCE_ORDER reason. -/
def State.cutOf (s : State) (sp : SpanId) (mode : Nat) (e : CtxEntry) (x : StreamRec) (t : Nat) (c : Counters) : Except Nat (Nat × Nat) :=
  match mode with
  | 1 =>
    match eraSecond x (s.fld sp Fld.tbStatusQualified == 1) t c.a e.rate with
    | .ok v => .ok (v, v)
    | .error r => .error r
  | 2 => .ok (0, c.cut)
  | _ => .ok (c.era, c.era)

/-- The order checks of the sign direction (R147, R149): the reason of a refusal. `bUsed` says that slot B was chosen. -/
def State.signOrder (s : State) (sp : SpanId) (ctx mode : Nat) (e : CtxEntry) (x : StreamRec) (b : Slot) (bUsed : Bool) (era n : Nat) :
    Option Nat :=
  let notAbove := x.hwValid && decide (nonceIndex mode e.rate n ≤ nonceIndex mode e.rate x.nonceHw)
  if mode = 1 then
    if era < max e.eraAnchor (s.resumeFloor sp) then some 2 else if notAbove then some 1 else none
  else if (s.span sp).stream.held.contains ctx ∧ ¬ (bUsed ∧ s.resumeFloor sp ≤ s.fromTai sp mode b) then some 5
  else if notAbove then some 1 else none

/-- A frame of a SIGN context (R127) under a bank and a configuration. `port` is P0 to P3 as 0 to 3, `keyless`, `order` and `nomat` the dispositions of the range and the
port, `t` the receive time. -/
def State.signFrame (s : State) (sp : SpanId) (bank : Bank) (cfg : Storyboard) (port ctx : Nat) (f : List Byte) (h : Header) (t keyless order nomat : Nat) :
    State × Verdict :=
  let e := bank.ctx ctx
  let x := (s.span sp).stream.rec_ ctx
  let a := bank.slot ctx false
  let b := bank.slot ctx true
  let fail (code : Status) (reason slot disp : Nat) (n : List Byte) (sb : Bool) : State × Verdict :=
    (s.frameFail sp port ctx e code reason slot n, ⟨code, sb, disp, f⟩)
  match cfg.template e.template with
  | none => fail .templateMismatch 0 0xFF e.failDisp [] false
  | some tm =>
    let dataEnd := f.length - 4
    let tail := if h.trailer.isSome then dataEnd - 6 else dataEnd
    let an := anchors f h tail dataEnd
    match tm.counters f an, tm.place f h an with
    | some c, some (d, an', blk) =>
      let body0 := overwrite d blk (tm.prefix_)
      if h.cls.code ≠ tm.frameClass ∨ (tm.mode = 1 ∧ e.rate ≤ c.a) ∨ (tm.covered body0 h an' blk).isNone then
        fail .templateMismatch 0 0xFF e.failDisp [] false
      else if 2000 < d.length + 4 then fail .frameLength 0 0xFF nomat [] false
      else if a.load ≠ .loaded ∧ b.load ≠ .loaded then fail .noKey 0 0xFF keyless [] false
      else
        match s.cutOf sp tm.mode e x t c with
        | .error r => fail .nonceOrder r 0xFF order [] false
        | .ok (era, cut) =>
          match chooseSlot a b cut with
          | none => fail .noKey 0 0xFF keyless [] false
          | some sb =>
            let sl := if sb then b else a
            let n := nonceBytes tm sl.salt era c
            match s.signOrder sp ctx tm.mode e x b sb era (ofBe n) with
            | some r => fail .nonceOrder r (boolNat sb) order n sb
            | none =>
              let body := overwrite body0 (blk + tm.prefixLen) (beBytes tm.keyIdBytes sl.keyId)
              let tag := sl.tag n ((tm.covered body h an' blk).getD []) tm.prefixed tm.tagBytes
              let body := overwrite body (blk + tm.prefixLen + tm.keyIdBytes) tag
              let body := udpFix d body h
              let s := s.updStream sp fun y => y.setRec ctx { x with
                nonceHw := ofBe n
                hwValid := true
                eraSecond := if tm.mode = 1 then era else x.eraSecond
                eraValid := x.eraValid || tm.mode == 1
                lastRx := t
                framesOk := satInc32 x.framesOk 1 }
              (s.bump64 sp Reg.steSignedLo Reg.steSignedHi 1, ⟨.ok, sb, 0, body ++ fcs body⟩)
    | _, _ => fail .templateMismatch 0 0xFF e.failDisp [] false

/-- The replay check of R151 at step 5. -/
def replayOk (x : StreamRec) (i hw : Nat) : Bool :=
  !x.hwValid || decide (hw < i) || (decide (hw ≤ i + 64 ∧ i < hw) && !(x.replayMap.testBit (hw - 1 - i)))

/-- The state after an accepted frame (R151 step 7, R146). -/
def acceptRec (x : StreamRec) (n i hw era t : Nat) (sv : Bool) : StreamRec :=
  let x := { x with framesOk := satInc32 x.framesOk 1 }
  let newer (map : Nat) : StreamRec := { x with
    nonceHw := n, hwValid := true, replayMap := map, lastRx := t
    eraSecond := if sv then era else x.eraSecond, eraValid := x.eraValid || sv }
  if x.hwValid = false then newer 0
  else if hw < i then newer (if i - hw ≤ 64 then (x.replayMap * 2 ^ (i - hw) + 2 ^ (i - hw - 1)) % 2 ^ 64 else 0)
  else { x with replayMap := x.replayMap + 2 ^ (hw - 1 - i) }

/-- The freshness check of R152: whether the frame is refused. -/
def State.stale (s : State) (sp : SpanId) (mode : Nat) (e : CtxEntry) (x : StreamRec) (c : Counters) (era i hw t : Nat) : Bool :=
  let fr := e.freshMs * 1000000
  if mode = 1 then decide (fr < absDiff t (era * 1000000000 + c.a * 1000000000 / e.rate))
  else
    let second := addSigned (if mode = 2 then c.cut else c.era) (s.utcOffset sp)
    decide (t + fr < second * 1000000000) || (x.hwValid && decide (i < hw ∧ x.lastRx + fr < t))

/-- A frame of a VERIFY context (R128) under a bank and a configuration. -/
def State.verifyFrame (s : State) (sp : SpanId) (bank : Bank) (cfg : Storyboard) (port ctx : Nat) (f : List Byte) (h : Header) (t keyless order : Nat) : State × Verdict :=
  let e := bank.ctx ctx
  let x := (s.span sp).stream.rec_ ctx
  let a := bank.slot ctx false
  let b := bank.slot ctx true
  let fail (code : Status) (reason slot disp : Nat) (n : List Byte) (sb : Bool) : State × Verdict :=
    (s.frameFail sp port ctx e code reason slot n, ⟨code, sb, disp, f⟩)
  match cfg.template e.template with
  | none => fail .templateMismatch 0 0xFF e.failDisp [] false
  | some tm =>
    let dataEnd := f.length - 4
    let an := anchors f h (if h.trailer.isSome then dataEnd - 6 else dataEnd) dataEnd
    match tm.counters f an, tm.blockAt f an with
    | some c, some blk =>
      match tm.covered f h an blk with
      | none => fail .templateMismatch 0 0xFF e.failDisp [] false
      | some cov =>
        if h.cls.code ≠ tm.frameClass ∨ (tm.mode = 1 ∧ e.rate ≤ c.a) then fail .templateMismatch 0 0xFF e.failDisp [] false
        else if a.load ≠ .loaded ∧ b.load ≠ .loaded then fail .noKey 0 0xFF keyless [] false
        else
          match s.cutOf sp tm.mode e x t c with
          | .error r => fail .nonceOrder r 0xFF order [] false
          | .ok (era, cut) =>
            let pick := if tm.keyIdBytes = 4 then acceptSlot a b (beField f (blk + tm.prefixLen) 4) cut e.overlapS else chooseSlot a b cut
            match pick with
            | none => if tm.keyIdBytes = 4 then fail .keyIdUnknown 0 0xFF e.failDisp [] false else fail .noKey 0 0xFF keyless [] false
            | some sb =>
              let sl := if sb then b else a
              let n := nonceBytes tm sl.salt era c
              let i := nonceIndex tm.mode e.rate (ofBe n)
              let hw := nonceIndex tm.mode e.rate x.nonceHw
              if sl.tag n cov tm.prefixed tm.tagBytes ≠ sliceBytes f (blk + tm.prefixLen + tm.keyIdBytes) tm.tagBytes then
                fail .tagFail 0 (boolNat sb) e.failDisp n sb
              else if replayOk x i hw = false then fail .replay 0 (boolNat sb) e.failDisp n sb
              else if s.stale sp tm.mode e x c era i hw t then fail .staleFrame 0 (boolNat sb) e.failDisp n sb
              else
                let s := s.updStream sp fun y => y.setRec ctx (acceptRec x (ofBe n) i hw era t (tm.mode == 1))
                (s.bump64 sp Reg.steVerifiedLo Reg.steVerifiedHi 1, ⟨.ok, sb, 2, f⟩)
    | _, _ => fail .templateMismatch 0 0xFF e.failDisp [] false

end Sys2Proof.Machine
end

