-- ==== Sys2Proof/Machine/Stream.lean ====
section
/-!
DEFINITION. The stream ports (chapter Stream ports): reception and classification of a frame, its return, PAUSE, PTP frames, link and
training, reservations, and the classification registers.
-/

namespace Sys2Proof.Machine

/-! ### Port state -/

/-- A port can carry frames: it has link, it is not retired and its mode is not DISABLED. -/
def State.portUp (s : State) (sp : SpanId) (n : Nat) : Bool :=
  s.fld sp (Fld.clsPortnStatusLink n) == 1 && !((s.span sp).port n).retired && s.fld sp (Fld.clsPortnCfgMode n) != 4

/-- A port is in a 1 Gb/s mode. -/
def State.portSlow (s : State) (sp : SpanId) (n : Nat) : Bool := s.fld sp (Fld.clsPortnCfgMode n) == 3

/-- The transmit line is stopped by the partner's PAUSE (R108). -/
def State.partnerPaused (s : State) (sp : SpanId) (n : Nat) : Bool :=
  match ((s.span sp).port n).pausedUntil with
  | some t => decide (s.elapsed < t)
  | none => false

/-- The capture at the PCS that a crossing now gives, in units of 2^-28 ns times 80 (R110): the value of the time base at the last tick and the interval
since, measured to the byte lane (0.8 ns at 10 Gb/s, a whole tick in BASEX_1G) and scaled by the running TB_ADDEND. -/
def State.capture (s : State) (sp : SpanId) (n : Nat) (tx : Bool) : Nat :=
  let lane := if s.portSlow sp n then 0 else Config.byteLane sp n tx s.elapsed % 10
  (s.now sp * 2 ^ 28 + (s.span sp).tb.frac) * 80 + lane * 8 * s.fld sp Fld.tbAddendAddend

/-- Rounds a capture to the nearest whole nanosecond (R110). -/
def roundCapture (v : Nat) : Nat := (v + 40 * 2 ^ 28) / (80 * 2 ^ 28)

/-- A latency in sixteenths of a nanosecond, in the unit of a capture. -/
def latUnits (lat : Nat) : Nat := lat * 5 * 2 ^ 28

/-- The receive timestamp of a frame that arrives now (R110). -/
def State.rxTime (s : State) (sp : SpanId) (n : Nat) : Nat :=
  roundCapture (s.capture sp n false - latUnits (s.fld sp (Fld.clsPortnTsRxLatLat n)))

/-- The transmit timestamp of a frame that leaves now (R110). -/
def State.txTime (s : State) (sp : SpanId) (n : Nat) : Nat :=
  roundCapture (s.capture sp n true + latUnits (s.fld sp (Fld.clsPortnTsTxLatLat n)))

/-- Queues an admitted frame for return (R106). -/
def State.queueFrame (s : State) (sp : SpanId) (n : Nat) (out : List Byte) (ctx : Option Nat) (hd len : Nat) : State :=
  (s.updPort sp n fun p => { p with frames := p.frames ++ [⟨out, ctx, hd, (len + 63) / 64⟩] }).spaceChanged sp

/-! ### Classification (R99) -/

/-- What classification gives a frame. -/
inductive Classified where
  | context (n : Nat)
  | disposition (d : Nat)
deriving DecidableEq, Repr

/-- Whether the range of a context in a configuration includes a module port P0 to P3. -/
def Storyboard.rangeHasPort (c : Storyboard) (ctx p : Nat) : Bool :=
  match c.range ctx with
  | some r => (leField r 5 1).testBit p
  | none => false

/-- The wildcard entry that applies to a key at a local port (R99 step 4). -/
def wcMatch (l : List WcEntry) (n key : Nat) : Option WcEntry :=
  l.find? fun w => w.portMask.testBit n && decide (key &&& w.mask = w.value &&& w.mask)

/-- Classification of a frame at a local port (R93, R99), with its counters: NOMATCH is counted where the disposition is taken. -/
def State.classifyFrame (s : State) (sp : SpanId) (n : Nat) (f : List Byte) (h : Header) : State × Classified :=
  let v := s.portView sp n
  let tbl : EmTable := v.table
  let key := classKey f h
  let tagged := h.cls = .svEth ∨ h.cls = .gooseEth ∨ h.cls = .svUdp ∨ h.cls = .gooseUdp
  let idx := (emSlots v.seed0 0 key ++ emSlots v.seed1 1 key).filter fun i => (tbl.get i).valid && (tbl.get i).key == key
  let hits := if tagged then idx else []
  let s := match hits with
    | i :: _ :: _ =>
      (s.setFld sp Fld.clsEvtDupHit 1).raiseQuiet sp 0x104 .ok
        (leBytes 1 (portNo sp n) ++ leBytes 1 hits.length ++ leBytes 2 (tbl.get i).ctx ++ leBytes 2 i)
    | _ => s
  let wild (s : State) : State × Classified :=
    match wcMatch v.wc n key with
    | some w =>
      let s := s.bump64 sp (Reg.clsPortnMatchWildLo n) (Reg.clsPortnMatchWildHi n) 1
      if w.action = 1 then (s, .context w.ctx) else (s, .disposition w.disp)
    | none => (s, .disposition v.disp)
  match hits with
  | i :: _ =>
    let x := (tbl.get i).ctx
    if Storyboard.rangeHasPort v.config x (portNo sp n) then
      (s.bump64 sp (Reg.clsPortnMatchExactLo n) (Reg.clsPortnMatchExactHi n) 1, .context x)
    else wild s
  | [] => wild s

/-- The verdict word (R102). -/
def verdictWord (st : Status) (slotB : Bool) (ctx : Option Nat) : List Byte :=
  beBytes 2 st.code ++ beBytes 2 (match ctx with
    | some c => (if slotB then 2 ^ 14 else 0) + c
    | none => 2 ^ 15)

/-- Counts and reports a frame that meets R101 or ends in FRAME_LENGTH, once. -/
def State.lenLimit (s : State) (sp : SpanId) (n : Nat) (st : Status) (ctx : Option Nat) (len : Nat) : State :=
  (s.bump sp (Fld.clsPortnLenLimitCount n) 1).raiseQuiet sp (0x102 + n) .frameLength
    (leBytes 2 st.code ++ leBytes 2 (ctx.getD 0) ++ leBytes 1 (boolNat ctx.isNone) ++ leBytes 1 (portNo sp n) ++ leBytes 2 len)

/-- A disposition (R101, R103): 1 returns the frame unchanged, 2 with the verdict word, 3 drops it. -/
def State.dispose (s : State) (sp : SpanId) (n d : Nat) (st : Status) (slotB : Bool) (ctx : Option Nat) (hd : Nat) (f : List Byte) : State :=
  if d = 3 then
    let s := if st = .frameLength then s.lenLimit sp n st ctx f.length else s
    s.bump64 sp (Reg.clsPortnDispDropLo n) (Reg.clsPortnDispDropHi n) 1
  else if d = 2 then
    if 2000 < f.length + 4 then (s.lenLimit sp n st ctx f.length).queueFrame sp n f ctx hd f.length
    else
      let s := if st = .frameLength then s.lenLimit sp n st ctx f.length else s
      let body := f.take (f.length - 4) ++ verdictWord st slotB ctx
      s.queueFrame sp n (body ++ fcs body) ctx hd f.length
  else
    let s := if st = .frameLength then s.lenLimit sp n st ctx f.length else s
    s.queueFrame sp n f ctx hd f.length

/-- A frame without a context in service: status `NO_CONTEXT` (R99 step 5). -/
def State.noContext (s : State) (sp : SpanId) (n d : Nat) (f : List Byte) : State :=
  (s.bump64 sp (Reg.clsPortnNomatchLo n) (Reg.clsPortnNomatchHi n) 1).dispose sp n d .noContext false none 0 f

/-- The tag engine and the disposition of a classified frame (R99, R115, R127, R128). -/
def State.serveFrame (s : State) (sp : SpanId) (n ctx : Nat) (f : List Byte) (h : Header) (t : Nat) : State :=
  let w := s.portView sp n
  let bank := w.bank.getD (s.span sp).stream.active
  let nom := w.disp
  let e := bank.ctx ctx
  let r := (Storyboard.range w.config ctx).getD []
  let keyless := leField r 6 1
  if e.state ≠ .active then s.noContext sp n nom f
  else if s.fld sp Fld.steCtrlEnable = 0 then
    (s.frameFail sp (portNo sp n) ctx e .noKey 0 0xFF []).dispose sp n keyless .noKey false (some ctx) 0 f
  else
    let v := if e.dir = 1 then s.signFrame sp bank w.config (portNo sp n) ctx f h t keyless (leField r 7 1) nom
      else s.verifyFrame sp bank w.config (portNo sp n) ctx f h t keyless (leField r 7 1)
    let hd := (bank.slot ctx v.2.slotB).handle
    if v.2.status = .ok ∧ v.2.disp = 0 then v.1.queueFrame sp n v.2.frame (some ctx) hd f.length
    else v.1.dispose sp n v.2.disp v.2.status v.2.slotB (some ctx) hd v.2.frame

/-! ### PTP and MAC Control -/

/-- A blocked or failed entry of a PTP queue is counted as lost (R401). -/
def State.ptpLost (s : State) (sp : SpanId) (n : Nat) : State := s.bump sp (Fld.clsPortnPtpRxLostCount n) 1

/-- A PTP frame is consumed into the receive queue in station-guest memory (R111, R396). A push at a full ring whose write is blocked counts two lost
entries, the displaced one and its own (log entry 104). -/
def State.ptpConsume (s : State) (sp : SpanId) (n : Nat) (f : List Byte) (h : Header) (t : Nat) : State :=
  let body := f.take (f.length - 4)
  let seq := s.fld sp (Fld.clsPortnPtpRxqSeqNext n)
  let base := (s.reg sp (Reg.clsPortnPtpRxqLo n)).toNat + 2 ^ 32 * (s.reg sp (Reg.clsPortnPtpRxqHi n)).toNat
  let trunc := decide (248 < body.length)
  let bytes := leBytes 2 seq ++ leBytes 2 body.length ++ leBytes 1 (boolNat trunc + 2 * boolNat h.trailer.isSome) ++ zeroBytes 3 ++
    leBytes 8 (tai64 t) ++ padBytes 240 body
  let full := decide (64 ≤ ((s.span sp).port n).rxPushed)
  let s := s.bump sp (Fld.clsPortnPtpRxCount n) 1
  let s := s.setFld sp (Fld.clsPortnPtpRxqSeqNext n) (seq + 1)
  let s := s.updPort sp n fun p => { p with rxPushed := min 64 (p.rxPushed + 1) }
  let s := if full then s.ptpLost sp n else s
  match s.guestWrite sp 1 (base + 256 * (seq % 64)) bytes with
  | some s => s
  | none => (s.ptpLost sp n).violate sp 1 .ptpDma .write none (base + 256 * (seq % 64))

/-- A MAC Control frame is consumed; a PAUSE stops the transmit line for its time (R108). -/
def State.macControl (s : State) (sp : SpanId) (n : Nat) (f : List Byte) (h : Header) : State :=
  if beField f h.etypeEnd 2 = 1 then
    let q := beField f (h.etypeEnd + 2) 2
    let s := s.bump sp (Fld.clsPortnPauseRxCount n) 1
    if s.fld sp (Fld.clsPortnCtrlPauseRxEn n) = 1 then
      let dur := if s.portSlow sp n then q * 512 else q * 512 / 10
      let s := s.updPort sp n fun p => { p with pausedUntil := if q = 0 then none else some (s.elapsed + dur) }
      s.setFld sp (Fld.clsPortnStatusPartnerPause n) (boolNat (q != 0))
    else s
  else s

/-! ### Rows -/

/-- FRAME_RECEIVED (R88 to R91, R99, R108, R111): a whole frame arrives at a local port; `cut` says that a code error cut it off. -/
def execFrameReceived (sp : SpanId) (n : Nat) (f : List Byte) (cut : Bool) (s : State) : Host.Outcome State Fault Refusal :=
  let len := f.length
  if 2 ≤ n ∨ s.portUp sp n = false then .next s
  else if cut ∨ len < 64 then .next ((s.bump sp (Fld.clsPortnRxRuntCount n) 1).portReport sp n 1 len 1)
  else if 2000 < len then .next (((s.bump sp (Fld.clsPortnRxOversizeCount n) 1).portEvt sp n 4).portReport sp n 2 len 1)
  else if s.space sp n < (len + 63) / 64 then
    .next (((s.bump sp (Fld.clsPortnRxNobufCount n) 1).portEvt sp n 3).portReport sp n 4 len 1)
  else if fcsValid f = false then .next ((s.bump sp (Fld.clsPortnRxFcsErrCount n) 1).portReport sp n 3 len 1)
  else
    let t := s.rxTime sp n
    let s := s.bump64 sp (Reg.clsPortnRxFramesLo n) (Reg.clsPortnRxFramesHi n) 1
    let s := s.bump64 sp (Reg.clsPortnRxBytesLo n) (Reg.clsPortnRxBytesHi n) len
    let h := parseFrame f (s.fld sp Fld.clsUdpSiUdpPort) (s.fld sp Fld.clsUdpSiSiSv) (s.fld sp Fld.clsUdpSiSiGoose)
      (s.fld sp (Fld.clsPortnCfgPtp n) == 1)
    if h.etype = 0x8808 then .next (s.macControl sp n f h)
    else
      let role := s.fld sp (Fld.clsPortnCfgLanRole n)
      let s := if (role = 1 ∧ h.trailer = some 0xB) ∨ (role = 2 ∧ h.trailer = some 0xA) then
          ((s.bump sp (Fld.clsPortnLanMismatchCount n) 1).portEvt sp n 5).portReport sp n 5 len 1 else s
      if h.cls = .ptp then .next (s.ptpConsume sp n f h t)
      else
        match s.classifyFrame sp n f h with
        | (s, .context c) => .next (s.serveFrame sp n c f h t)
        | (s, .disposition d) => .next (s.noContext sp n d f)

/-- Counts a transmitted frame. -/
def State.transmit (s : State) (sp : SpanId) (n : Nat) (f : List Byte) : State :=
  let s := s.emit (.frame sp (portNo sp n) f)
  let s := s.bump64 sp (Reg.clsPortnTxFramesLo n) (Reg.clsPortnTxFramesHi n) 1
  s.bump64 sp (Reg.clsPortnTxBytesLo n) (Reg.clsPortnTxBytesHi n) f.length

/-- FRAME_RETURN (R106, R112): the oldest frame of a port leaves, and its cells are free; a rung PTP slot goes first, unless the frame before was one. -/
def execFrameReturn (sp : SpanId) (n : Nat) (s : State) : Host.Outcome State Fault Refusal :=
  match ((s.span sp).port n).frames with
  | f :: rest =>
    if 2 ≤ n ∨ s.portUp sp n = false ∨ s.partnerPaused sp n ∨
        (((s.span sp).port n).txBusy ≠ [] ∧ ((s.span sp).port n).inserted = false) then .next s
    else .next (((s.transmit sp n f.out).updPort sp n fun p => { p with frames := rest, inserted := false }).spaceChanged sp)
  | [] => .next s

/-- PAUSE_REPEAT (R107): every 1.6 ms, or 16 ms in BASEX_1G, while space stays below XON; also after PAUSE_TX_EN has been cleared during the pause (log
entry 104). -/
def execPauseRepeat (sp : SpanId) (n : Nat) (s : State) : Host.Outcome State Fault Refusal :=
  let period := if s.portSlow sp n then 16000000 else 1600000
  if 2 > n ∧ s.portUp sp n ∧ s.fld sp (Fld.clsPortnStatusXoff n) = 1 ∧ s.space sp n < s.fld sp (Fld.clsPortnBufThrXon n) ∧
      ((s.span sp).port n).lastPause + period ≤ s.elapsed then .next (s.sendPause sp n 0xFFFF)
  else .next s

/-- PARTNER_PAUSE_EXPIRY (R108). -/
def execPartnerPauseExpiry (sp : SpanId) (n : Nat) (s : State) : Host.Outcome State Fault Refusal :=
  match ((s.span sp).port n).pausedUntil with
  | some t =>
    if 2 > n ∧ t ≤ s.elapsed then
      .next ((s.updPort sp n fun p => { p with pausedUntil := none }).setFld sp (Fld.clsPortnStatusPartnerPause n) 0)
    else .next s
  | none => .next s

/-- A write of the PTP transmit doorbell: a slot that is not busy becomes busy (R112). -/
def State.ptpDoorbell (s : State) (sp : SpanId) (n slot : Nat) : State :=
  s.updPort sp n fun p => if p.txBusy.contains slot || p.txStuck.contains slot then p else { p with txBusy := p.txBusy ++ [slot] }

/-- PTP_TX_DOORBELL (R112). -/
def execPtpTxDoorbell (sp : SpanId) (n slot : Nat) (s : State) : Host.Outcome State Fault Refusal :=
  if 2 ≤ n ∨ 8 ≤ slot then .next s else .next (s.ptpDoorbell sp n slot)

/-- PTP_FRAME_INSERT (R110, R112): the slot of the oldest doorbell is read, sent ahead of returned frames, at most one between two of
them, and its timestamp and DONE are written. A slot whose DMA is blocked gets no DONE and stays busy. -/
def execPtpFrameInsert (sp : SpanId) (n : Nat) (s : State) : Host.Outcome State Fault Refusal :=
  let p := (s.span sp).port n
  match p.txBusy with
  | [] => .next s
  | slot :: rest =>
    if 2 ≤ n ∨ s.portUp sp n = false ∨ s.partnerPaused sp n ∨ (p.inserted ∧ p.frames ≠ []) then .next s
    else
      let base := (s.reg sp (Reg.clsPortnPtpTxqLo n)).toNat + 2 ^ 32 * (s.reg sp (Reg.clsPortnPtpTxqHi n)).toNat + 256 * slot
      let s := s.updPort sp n fun p => { p with txBusy := rest }
      let stuck (s : State) : State := s.updPort sp n fun p => { p with txStuck := p.txStuck ++ [slot] }
      match s.guestRead sp 1 base 256 with
      | none => .next ((stuck s).violate sp 1 .ptpDma .read none base)
      | some bs =>
        let body := sliceBytes bs 16 (min 240 (leField bs 2 2))
        let t := s.txTime sp n
        let s := (s.transmit sp n (body ++ fcs body)).bump sp (Fld.clsPortnPtpTxCount n) 1
        let s := s.updPort sp n fun p => { p with inserted := true }
        match (s.guestWrite sp 1 (base + 8) (leBytes 8 (tai64 t))).bind
            fun s => s.guestWrite sp 1 (base + 4) (leBytes 1 (leField bs 4 1 ||| 0x80)) with
        | some s => .next s
        | none => .next ((stuck s).violate sp 1 .ptpDma .write none (base + 8))

/-- What a BASEX_1G port advertises: full duplex, and symmetric PAUSE if it may send or heed PAUSE frames (R86). -/
def State.advertise (s : State) (sp : SpanId) (n : Nat) : State :=
  s.emit (.advert sp n true (s.fld sp (Fld.clsPortnCtrlPauseTxEn n) == 1 || s.fld sp (Fld.clsPortnCtrlPauseRxEn n) == 1))

/-- LINK_CHANGE (R85 to R87, R109): the PCS of a port gains or loses lock, or sees a high bit error ratio; in BASEX_1G lock stands for synchronisation and
auto-negotiation. -/
def execLinkChange (sp : SpanId) (n : Nat) (lock hiBer : Bool) (s : State) : Host.Outcome State Fault Refusal :=
  if 2 ≤ n ∨ ((s.span sp).port n).retired ∨ s.fld sp (Fld.clsPortnCfgMode n) = 4 then .next s
  else
    let s := if hiBer ∧ s.fld sp (Fld.clsPortnStatusHiBer n) = 0 then s.portEvt sp n 1 else s
    let s := s.setFld sp (Fld.clsPortnStatusHiBer n) (boolNat hiBer)
    if lock = false then .next (s.lockLost sp n)
    else
      let s := if s.portSlow sp n ∧ s.fld sp (Fld.clsPortnStatusBlockLock n) = 0 then s.advertise sp n else s
      let s := s.setFld sp (Fld.clsPortnStatusBlockLock n) 1
      let s := if s.fld sp (Fld.clsPortnCfgMode n) = 2 then
          ((s.updPort sp n fun p => { p with trainStart := none, trainFailed := none }).setFld sp (Fld.clsPortnStatusTrainDone n) 1).setFld sp
            (Fld.clsPortnStatusTrainFail n) 0
        else s
      if hiBer then .next (s.linkDown sp n)
      else if s.fld sp (Fld.clsPortnStatusLink n) = 1 then .next s
      else .next (((s.setFld sp (Fld.clsPortnStatusLink n) 1).portEvt sp n 0).linkReport sp n 1)

/-- TRAIN_TIMEOUT (R85): 500 ms without completion. -/
def execTrainTimeout (sp : SpanId) (n : Nat) (s : State) : Host.Outcome State Fault Refusal :=
  match ((s.span sp).port n).trainStart with
  | some t =>
    if 2 > n ∧ t + 500 * ms ≤ s.elapsed ∧ s.fld sp (Fld.clsPortnCfgMode n) = 2 then
      let s := s.updPort sp n fun p => { p with trainStart := none, trainFailed := some s.elapsed }
      .next (((s.setFld sp (Fld.clsPortnStatusTrainFail n) 1).portEvt sp n 2).linkReport sp n 3)
    else .next s
  | none => .next s

/-- TRAIN_RESTART (R85): 1 s after the timeout. -/
def execTrainRestart (sp : SpanId) (n : Nat) (s : State) : Host.Outcome State Fault Refusal :=
  match ((s.span sp).port n).trainFailed with
  | some t => if 2 > n ∧ t + sec ≤ s.elapsed then .next (s.trainPort sp n) else .next s
  | none => .next s

/-- A write of RETRAIN restarts Clause 72 training, which exists in KR_10G; the bit reads 0 once it has started (R85). -/
def State.retrain (s : State) (sp : SpanId) (n : Nat) : State :=
  if s.fld sp (Fld.clsPortnCfgMode n) = 2 ∧ ((s.span sp).port n).retired = false then s.trainPort sp n
  else s.setFld sp (Fld.clsPortnCtrlRetrain n) 1

/-- RETRAIN (R85). -/
def execRetrain (sp : SpanId) (n : Nat) (s : State) : Host.Outcome State Fault Refusal := if 2 ≤ n then .next s else .next (s.retrain sp n)

/-- A write of RSV_CELLS (R104). -/
def State.writeRsv (s : State) (sp : SpanId) (n v : Nat) : State :=
  let v := v % 65536
  let old := s.rsvCells sp n
  if 32704 < v + s.rsvCells sp (1 - n) then s
  else if v ≤ old ∨ v - old ≤ s.freePool sp then
    ((s.updPort sp n fun p => { p with heldRsv := none }).setFld sp (Fld.clsPortnBufRsvRsvCells n) v).spaceChanged sp
  else s.updPort sp n fun p => { p with heldRsv := some v }

/-- BUF_RSV_WRITE (R104). -/
def execBufRsvWrite (sp : SpanId) (n : Nat) (v : Word32) (s : State) : Host.Outcome State Fault Refusal :=
  if 2 ≤ n then .next s else .next (s.writeRsv sp n v.toNat)

/-- BUF_RSV_RAISE_APPLY (R104): a held raise takes effect once the pool has room. -/
def execBufRsvRaiseApply (sp : SpanId) (n : Nat) (s : State) : Host.Outcome State Fault Refusal :=
  match ((s.span sp).port n).heldRsv with
  | some v => if 2 ≤ n then .next s else .next (s.writeRsv sp n v)
  | none => .next s

/-- READ of `CLS_EM_OP`: the active entry into the data registers (R92). -/
def State.emRead (s : State) (sp : SpanId) : State :=
  let e := EmTable.get (s.span sp).cls.active (s.fld sp Fld.clsEmIndexIndex)
  let s := (List.range 8).foldl (fun s i => s.setReg sp (Reg.clsEmKeyn i) (BitVec.ofNat 32 (e.key / 2 ^ (32 * i)))) s
  (s.setFld sp Fld.clsEmResultContext e.ctx).setFld sp Fld.clsEmResultValid (boolNat e.valid)

/-- The entry that the data registers hold. -/
def State.emData (s : State) (sp : SpanId) : EmEntry :=
  ⟨((List.range 8).map fun i => (s.reg sp (Reg.clsEmKeyn i)).toNat * 2 ^ (32 * i)).sum, s.fld sp Fld.clsEmResultContext,
    s.fld sp Fld.clsEmResultValid == 1⟩

/-- A write of a shadow entry (R94). -/
def State.emPut (s : State) (sp : SpanId) (e : EmEntry) : State :=
  let i := s.fld sp Fld.clsEmIndexIndex
  s.updCls sp fun c => { c with shadow := EmTable.put c.shadow i e, dirty := true }

/-- CLS_EM_READ (R92). -/
def execClsEmRead (sp : SpanId) (s : State) : Host.Outcome State Fault Refusal := .next (s.emRead sp)
/-- CLS_EM_WRITE (R94). -/
def execClsEmWrite (sp : SpanId) (s : State) : Host.Outcome State Fault Refusal := .next (s.emPut sp (s.emData sp))
/-- CLS_EM_CLEAR (R94). -/
def execClsEmClear (sp : SpanId) (s : State) : Host.Outcome State Fault Refusal := .next (s.emPut sp EmEntry.empty)

/-- A write of GO; it has no effect while PENDING is 1 (R95). -/
def State.clsGo (s : State) (sp : SpanId) : State := if s.fld sp Fld.clsCommitPending = 1 then s else s.commitCls sp

/-- CLS_COMMIT (R95). -/
def execClsCommit (sp : SpanId) (s : State) : Host.Outcome State Fault Refusal := .next (s.clsGo sp)

/-- PORT_BANK_ADOPT (R95): a port adopts the new active bank; once both have, the commit is complete. -/
def execPortBankAdopt (sp : SpanId) (n : Nat) (s : State) : Host.Outcome State Fault Refusal :=
  let s := s.updCls sp fun c => if n = 0 then { c with old0 := none } else if n = 1 then { c with old1 := none } else c
  let c := (s.span sp).cls
  if c.old0 = none ∧ c.old1 = none ∧ s.fld sp Fld.clsCommitPending = 1 then
    .next ((s.setFld sp Fld.clsCommitPending 0).setFld sp Fld.clsEvtCommitted 1)
  else .next s

end Sys2Proof.Machine
end

