-- ==== Sys2Proof/Machine/RegAccess.lean ====
section
/-!
DEFINITION. Accesses to the register window (R5 to R7, R461 to R463): what a read returns and what it changes, what a write does, who may make it,
and the interrupt lines of the blocks.
-/

namespace Sys2Proof.Machine

/-! ### Pairs (R7) -/

/-- The `_LO` halves of the 64-bit pairs, as families: first offset, stride, count. Each `_HI` half lies at the next word. -/
def pairTable : List (Nat × Nat × Nat) :=
  [(Reg.cntEpochLo, 4, 1), (Reg.cntStageEpochLo, 4, 1), (Reg.cntSwitchTimeLo, 4, 1), (Reg.cntTermLo, 4, 1), (Reg.cntCsnLo, 4, 1),
   (Reg.cntPeerCsnLo, 4, 1), (Reg.cntDigestCsnLo, 4, 1), (Reg.vltLogHeadLo, 4, 1), (Reg.vltLogAckLo, 4, 1), (Reg.vltLockHeldLo, 4, 1),
   (Reg.vltKekLo, 4, 1), (Reg.vltZeroisedLo, 4, 1), (Reg.vltZeroiseTimeLo, 4, 1), (Reg.clsPortnPtpRxqLo 0, 0x400, 2),
   (Reg.clsPortnPtpTxqLo 0, 0x400, 2), (Reg.clsPortnRxFramesLo 0, 0x400, 2), (Reg.clsPortnRxBytesLo 0, 0x400, 2)] ++
  [(Reg.clsPortnTxFramesLo 0, 0x400, 2), (Reg.clsPortnTxBytesLo 0, 0x400, 2), (Reg.clsPortnMatchExactLo 0, 0x400, 2),
   (Reg.clsPortnMatchWildLo 0, 0x400, 2), (Reg.clsPortnNomatchLo 0, 0x400, 2), (Reg.clsPortnDispDropLo 0, 0x400, 2), (Reg.steSignedLo, 4, 1),
   (Reg.steVerifiedLo, 4, 1), (Reg.tbTimeSecLo, 4, 1), (Reg.tbSetSecLo, 4, 1), (Reg.tbResumeSecLo, 4, 1), (Reg.bneLanekJobsLo 0, 0x100, 8),
   (Reg.hostEpochLo, 4, 1), (Reg.hostQSqBaseLo, 4, 1), (Reg.hostQCqBaseLo, 4, 1), (Reg.hostCmdsLo, 4, 1)] ++
  [(Reg.rngOutBitsLo, 4, 1), (Reg.tmpPendingLo, 4, 1), (Reg.tmpGapStartLo, 4, 1), (Reg.tmpGapEndLo, 4, 1), (Reg.gateViolAddrLo, 4, 1),
   (Reg.gateSlotsRdLo 0, 16, 33), (Reg.gateSlotsWrLo 0, 16, 33), (Reg.gateRegionrWorldsLo 0, 16, 64), (Reg.pierCorecRstvecLo 0, 0x40, 6),
   (Reg.pierCorecRetiredLo 0, 0x40, 6), (Reg.nvsAppliedLo, 4, 1), (Reg.nvsCommittedLo, 4, 1), (Reg.lcsDebugGuestsLo, 4, 1),
   (Reg.errRaisedLo, 4, 1), (Reg.errSrcLastLo, 4, 1)]

/-- The offset is the `_LO` half of a pair. -/
def isLo (off : Nat) : Bool :=
  pairTable.any fun p => decide (p.1 ≤ off) && (off - p.1) % p.2.1 == 0 && decide ((off - p.1) / p.2.1 < p.2.2)

/-- The offset is the `_HI` half of a pair. -/
def isHi (off : Nat) : Bool := decide (4 ≤ off) && isLo (off - 4)

/-! ### Access codes (R5) -/

/-- The fields of the register at an offset. -/
def fieldsAt (off : Nat) : List RegField := match findReg off with | some (d, _) => d.fields | none => []

/-- What a read shows of a register: WO fields read zero. -/
def shown (fs : List RegField) (w : Word32) : Word32 := fs.foldl (fun w f => if f.acc = .wo then putBits w f.hi f.lo 0 else w) w

/-- A register after a read: RC fields are cleared. -/
def afterRead (fs : List RegField) (w : Word32) : Word32 := fs.foldl (fun w f => if f.acc = .rc then putBits w f.hi f.lo 0 else w) w

/-- A field after a write of a word; what a WO field acts on is kept only where it is data of a later operation. -/
def writeField (keep : Bool) (v : Word32) (w : Word32) (f : RegField) : Word32 :=
  let new := getBits v f.hi f.lo
  let old := getBits w f.hi f.lo
  match f.acc with
  | .rw => putBits w f.hi f.lo new
  | .wo => if keep then putBits w f.hi f.lo new else w
  | .w1c => putBits w f.hi f.lo (old - (old &&& new))
  | .w1s => putBits w f.hi f.lo (old ||| new)
  | .ro | .rc => w

/-- The write-only registers whose words a later operation takes: `STE_KS_DATAn`, the first three command words of a lane, `GATE_WR_DATAn`. -/
def keepsData (off : Nat) : Bool :=
  decide (Reg.steKsDatan 0 ≤ off ∧ off < Reg.steKsDatan 96) || decide (Reg.bneLanekCmd0 0 ≤ off ∧ off < 0x21800 ∧ off % 0x100 < 0xC) ||
    decide (Reg.gateWrDatan 0 ≤ off ∧ off < Reg.gateWrDatan 6)

/-- A write of a register by the access codes of its fields alone (R5). -/
def State.plainWrite (s : State) (sp : SpanId) (off : Nat) (v : Word32) : State :=
  let fs := fieldsAt off
  if fs = [] then s else s.setReg sp off (fs.foldl (writeField (keepsData off) v) (s.reg sp off))

/-! ### Live values -/

/-- The function whose view of HOST a master has: the PF's for all but a VF. -/
def Master.fnNo : Master → Nat
  | .fn n => n
  | _ => 0

/-- HOST registers that only the PF's view shows (R237). -/
def pfOnly (off : Nat) : Bool :=
  off == Reg.hostInflight || off == Reg.hostDefer || (decide (0x40100 ≤ off ∧ off < 0x40300)) || (decide (0x40400 ≤ off ∧ off < 0x40418))

/-- The queue configuration registers as a queue pair shows them. -/
def State.queueWord (s : State) (sp : SpanId) (n off : Nat) : Word32 :=
  let q := (s.span sp).host.queue n
  let busy := ((s.span sp).host.inflight.filter fun d => d.queue == n).length
  BitVec.ofNat 32 <|
    if off = Reg.hostQSqBaseLo then q.sqBase
    else if off = Reg.hostQSqBaseHi then q.sqBase / 2 ^ 32
    else if off = Reg.hostQCqBaseLo then q.cqBase
    else if off = Reg.hostQCqBaseHi then q.cqBase / 2 ^ 32
    else if off = Reg.hostQCfg then q.sizeLog2 + 0x100 * q.vector + 0x10000 * q.aggCount + 0x1000000 * q.aggTime
    else if off = Reg.hostQCtrl then boolNat q.enabled + 2 * boolNat q.error + 4 * boolNat q.phase
    else if off = Reg.hostQSqState then q.sqHead + 0x10000 * (busy % 4096)
    else if off = Reg.hostQCqState then q.cqTail + 0x10000 * q.cqHead
    else 0

/-- A HOST register in a master's view (R237, HOST registers). -/
def State.hostWord (s : State) (sp : SpanId) (m : Master) (off : Nat) : Word32 :=
  let fn := m.fnNo
  let h := (s.span sp).host
  if fn ≠ 0 ∧ pfOnly off then 0
  else if off = Reg.hostStatus then
    let w := putBits (s.reg sp off) 0 0 (s.fld sp Fld.hostCtrlFetchEn)
    let w := if h.linkUp then putBits (putBits w 4 2 (Config.linkSpeed sp % 4 + 1)) 7 5 (2 ^ (Config.linkWidth sp % 3)) else w
    if fn = 0 then w else putBits w 13 8 0
  else if off = Reg.hostEpochLo then s.reg sp Reg.cntEpochLo
  else if off = Reg.hostEpochHi then s.reg sp Reg.cntEpochHi
  else if off = Reg.hostEvt ∧ fn ≠ 0 then BitVec.ofNat 32 (h.fnState fn).evt
  else if off = Reg.hostIen ∧ fn ≠ 0 then BitVec.ofNat 32 (h.fnState fn).ien
  else if off = Reg.hostQSel ∧ fn ≠ 0 then BitVec.ofNat 32 (h.fnState fn).qsel
  else if Reg.hostQSqBaseLo ≤ off ∧ off ≤ Reg.hostQCqState then
    match s.selected sp fn with
    | some n => s.queueWord sp n off
    | none => 0
  else s.reg sp off

/-- Vault registers that follow the state (VLT registers): the selected owner, the cache, the slate rate, UNIT_ID. -/
def State.vaultWord (s : State) (sp : SpanId) (off : Nat) : Word32 :=
  let r := (s.span sp).rep
  let o := s.fld sp Fld.vltOwnerSelOwner
  let q := r.config.quota o
  if off = Reg.vltOwnerObj then putBits (BitVec.ofNat 32 ((r.objs.filter fun x => x.owner == o).length % 2 ^ 15)) 30 16 q.1
  else if off = Reg.vltOwnerCtr then putBits (BitVec.ofNat 32 ((r.ctrs.filter fun x => ownerOf x.handle == o).length % 2 ^ 11)) 26 16 q.2
  else if off = Reg.vltCache then
    let bytes := (((s.span sp).vault.cache.filterMap fun h => r.obj h).map fun x => x.material.length).sum
    BitVec.ofNat 32 (min 1024 ((bytes + 1023) / 1024))
  else if off = Reg.vltLogRate then
    let n := (r.log.entries.filter fun e => decide (s.now sp < e.slate.time + 86400 * sec)).length
    BitVec.ofNat 32 (min 65535 (n * 16 / 86400))
  else if Reg.vltUnitIdn 0 ≤ off ∧ off < Reg.vltUnitIdn 4 then BitVec.ofNat 32 (leField (s.unitId sp) (off - Reg.vltUnitIdn 0) 4)
  else s.reg sp off

/-- Error registers of the source in `ERR_SRC_SEL` (ERR registers). -/
def State.errWord (s : State) (sp : SpanId) (off : Nat) : Word32 :=
  let n := s.fld sp Fld.errSrcSelSource
  let x := srcGet n (s.span sp).err.srcs
  if off = Reg.errSrcCount then BitVec.ofNat 32 x.count
  else if off = Reg.errSrcInfo then
    match srcClass n with
    | none => 0
    | some c =>
      let act := if ((s.span sp).rep.config.scene 13 0).isSome then ((s.span sp).rep.config.errorPolicy n).1 else 0
      BitVec.ofNat 32 (c % 16 + 16 * (act % 8) + 128 + 256 * boolNat x.pending.isSome)
  else if off = Reg.errSrcLastLo then BitVec.ofNat 32 (x.last % 1000000000)
  else if off = Reg.errSrcLastHi then BitVec.ofNat 32 (x.last / 1000000000)
  else s.reg sp off

/-- Milliseconds left of a watchdog period. -/
def State.msLeft (s : State) (start period : Nat) : Nat := (start + period - s.elapsed) / ms

/-- KPR registers that follow time: the watchdogs (R326, R328). -/
def State.kprWord (s : State) (sp : SpanId) (off : Nat) : Word32 :=
  let w := (s.span sp).worlds
  if off = Reg.kprSwdtLeft then
    let left (c kick : Nat) : Nat := if (s.reg sp Reg.kprStatus).getLsbD (1 + c) then s.msLeft kick (1000 * ms) else 1000
    BitVec.ofNat 32 (left 0 w.kick0 % 1024 + 0x10000 * (left 1 w.kick1 % 1024))
  else if Reg.kprGuestgState 0 ≤ off ∧ off < Reg.kprGuestgState 34 ∧ off % 16 = 0 then
    let g := (off - Reg.kprGuestgState 0) / 16
    match s.guest sp g with
    | some x => if s.guestWdt sp g = 0 then s.reg sp off else putBits (s.reg sp off) 31 16 ((x.kicked + s.guestWdt sp g - s.wdtNow sp g) / ms)
    | none => s.reg sp off
  else s.reg sp off

/-- Classification registers that show a wildcard entry (`CLS_WC_INDEX`). -/
def State.wcWord (s : State) (sp : SpanId) (off : Nat) : Word32 :=
  match (s.span sp).cls.wc[s.fld sp Fld.clsWcIndexIndex]? with
  | none => 0
  | some e =>
    if off = Reg.clsWcResult then BitVec.ofNat 32 (e.ctx % 4096 + 0x1000 * (e.disp % 4) + 0x4000 * (e.action % 4) + 0x10000 * (e.portMask % 4))
    else if off < Reg.clsWcMaskn 0 then BitVec.ofNat 32 (e.value / 2 ^ (8 * (off - Reg.clsWcValuen 0)))
    else BitVec.ofNat 32 (e.mask / 2 ^ (8 * (off - Reg.clsWcMaskn 0)))

/-- `CLK_GATE` as the units stand (R330). -/
def State.clkGate (s : State) (sp : SpanId) : Word32 :=
  let bit (n u v : Nat) : Nat := if s.unitState sp u = v then 2 ^ n else 0
  BitVec.ofNat 32 (((List.range 8).map fun k => bit k k 1 + bit (8 + k) k 2).sum + ((List.range 2).map fun n => bit (16 + n) (8 + n) 2).sum)

/-- `RNG_SRCn_FAILS`: RECENT counts the failures within the last 600 s (R287, RNG registers). -/
def State.failsWord (s : State) (sp : SpanId) (off : Nat) : Word32 :=
  let x := (s.span sp).entropy.src ((off - Reg.rngSrcnFails 0) / 4)
  putBits (s.reg sp off) 17 16 (min (x.fails.filter fun t => decide (s.now sp < t + 600 * sec)).length 3)

/-- What a register holds, as a master reads it. -/
def State.liveWord (s : State) (sp : SpanId) (m : Master) (off : Nat) : Word32 :=
  match off / 0x10000 with
  | 0 =>
    if Reg.steCtxStaten 0 ≤ off ∧ off < Reg.steCtxStaten 12 then
      BitVec.ofNat 32 (leField (recBytes ((s.span sp).stream.rec_ (s.selCtx sp))) (off - Reg.steCtxStaten 0) 4)
    else s.reg sp off
  | 1 => if off = Reg.clsWcResult ∨ (Reg.clsWcValuen 0 ≤ off ∧ off < Reg.clsWcMaskn 8) then s.wcWord sp off else s.reg sp off
  | 3 => s.vaultWord sp off
  | 4 => s.hostWord sp m off
  | 5 =>
    if off = Reg.cntLease then
      let c := (s.span sp).cont
      BitVec.ofNat 32 (if c.mode = .keystone ∨ c.mode = .solo then min 2047 ((c.leaseEnd - s.now sp) / ms) else 0)
    else s.reg sp off
  | 6 =>
    if Reg.rngSrcnFails 0 ≤ off ∧ off < Reg.rngSrcnFails 4 then s.failsWord sp off
    else if off = Reg.rngRushesCount then BitVec.ofNat 32 (((s.span sp).entropy.rushes.map fun r => r.captured s.elapsed).getD 0)
    else s.reg sp off
  | 8 => s.errWord sp off
  | 9 =>
    let t := (s.span sp).tb
    if off = Reg.tbTimeNs then BitVec.ofNat 32 t.ns
    else if off = Reg.tbTimeSecLo then BitVec.ofNat 32 t.sec
    else if off = Reg.tbTimeSecHi then BitVec.ofNat 32 (t.sec / 2 ^ 32)
    else s.reg sp off
  | 13 => if off = Reg.clkGate then s.clkGate sp else s.reg sp off
  | 19 => s.kprWord sp off
  | _ => s.reg sp off

/-! ### Reads -/

/-- The shadow of a `_HI` half that a master has (R7, R462 step 3). -/
def State.shadowOf (s : State) (sp : SpanId) (m : Master) (off : Nat) : Option Word32 :=
  ((s.span sp).shadows.find? fun x => x.1 == m && x.2.1 == off).map (·.2.2)

/-- Drops a shadow. -/
def State.dropShadow (s : State) (sp : SpanId) (m : Master) (off : Nat) : State :=
  s.upd sp fun x => { x with shadows := x.shadows.filter fun y => !(y.1 == m && y.2.1 == off) }

/-- Puts a shadow. -/
def State.putShadow (s : State) (sp : SpanId) (m : Master) (off : Nat) (v : Word32) : State :=
  (s.dropShadow sp m off).upd sp fun x => { x with shadows := x.shadows ++ [(m, off, v)] }

/-- The state of an outcome; an outcome without one leaves the state. -/
def State.from (s : State) (o : Host.Outcome State Fault Refusal) : State := match o with | .next t => t | _ => s

/-- The TMP window is out of reach while the span's hub link is down (R462 step 4). -/
def State.tmpGone (s : State) (sp : SpanId) (off : Nat) : Bool := inTmp off && !(s.span sp).cont.hubLink

/-- What a read changes beside shadows: RC fields are cleared, a read of CPL3 pops a completion, `ERR_SRC_COUNT` clears the source's counter. -/
def State.readEffect (s : State) (sp : SpanId) (off : Nat) : State :=
  if Reg.bneLanekCpl3 0 ≤ off ∧ off < 0x21800 ∧ off % 0x100 = 0x2C then s.from (execLaneCompletionPop sp ((off - 0x21000) / 0x100) s)
  else if off = Reg.errSrcCount then
    let x := srcGet (s.fld sp Fld.errSrcSelSource) (s.span sp).err.srcs
    if x.count = 0 then s else s.updErr sp fun e => { e with srcs := srcPut { x with count := 0 } e.srcs }
  else
    let fs := fieldsAt off
    if fs.any fun f => f.acc == .rc then s.setReg sp off (afterRead fs (s.reg sp off)) else s

/-- A read of a register by a master: the value and the state after it (R5, R7, R462). -/
def State.readReg (s : State) (sp : SpanId) (m : Master) (off : Nat) : Word32 × State :=
  if s.tmpGone sp off ∨ fieldsAt off = [] then (0, s)
  else
    match s.shadowOf sp m off with
    | some v => (v, s.dropShadow sp m off)
    | none =>
      let v := shown (fieldsAt off) (s.liveWord sp m off)
      let hi (s : State) (o : Nat) : State := s.putShadow sp m o (s.liveWord sp m o)
      let s' := if m.fnNo ≠ 0 ∧ pfOnly off then s else s.readEffect sp off
      (v, if off = Reg.tbTimeNs then hi (hi s' Reg.tbTimeSecLo) Reg.tbTimeSecHi else if isLo off then hi s' (off + 4) else s')

/-! ### Writes -/

/-- A core starts at its reset vector at its highest level, and DFAULT clears (PIER registers, R358); its other registers keep their values
(log 28). -/
def State.restartCore (s : State) (sp : SpanId) (c : Nat) : State :=
  let vec := s.mask64 sp (Reg.pierCorecRstvecLo c) (Reg.pierCorecRstvecHi c)
  let i : CoreId := .span sp c
  s.updCore i fun x => { x with dfault := false, v := { x.v with level := i.top, pc := BitVec.ofNat 64 vec, sleep := .awake } }

/-- A write of a queue pair's configuration (R239): an enabled pair keeps it and CFG_REFUSED is set. -/
def State.writeQueue (s : State) (sp : SpanId) (fn : Nat) (f : QueuePair → QueuePair) : State :=
  match s.selected sp fn with
  | none => s
  | some n =>
    let q := (s.span sp).host.queue n
    if q.enabled then s.cfgRefused sp fn else s.updHost sp fun h => h.setQueue (f q)

/-- A write to a HOST register (R237 to R241, R251, HOST registers). -/
def State.writeHost (s : State) (sp : SpanId) (m : Master) (world off : Nat) (v : Word32) : State :=
  let fn := m.fnNo
  let host : Bool := match m with | .fn _ => true | _ => false
  if fn ≠ 0 ∧ pfOnly off then s
  else if off = Reg.hostCtrl then
    if host ∨ world ≠ 0 then s else (s.plainWrite sp off v).setFld sp Fld.hostStatusReady (getBits v 0 0)
  else if off = Reg.hostDefer then (if 10 ≤ getBits v 13 0 ∧ getBits v 13 0 ≤ 10000 then s.plainWrite sp off v else s)
  else if off = Reg.hostCancel then s.from (execHostCancel sp fn (getBits v 7 0) (getBits v 31 16) s)
  else if fn ≠ 0 ∧ off = Reg.hostEvt then
    s.updHost sp fun h => let f := h.fnState fn; h.setFn { f with evt := f.evt - (f.evt &&& v.toNat) }
  else if fn ≠ 0 ∧ off = Reg.hostIen then s.updHost sp fun h => h.setFn { h.fnState fn with ien := getBits v 5 0 }
  else if fn ≠ 0 ∧ off = Reg.hostQSel then s.updHost sp fun h => h.setFn { h.fnState fn with qsel := getBits v 7 0 }
  else if off = Reg.hostQCfg then
    let size := getBits v 3 0
    s.writeQueue sp fn fun q => { q with
      sizeLog2 := if 4 ≤ size ∧ size ≤ 12 then size else 4
      vector := getBits v 12 8, aggCount := getBits v 23 16, aggTime := getBits v 31 24 }
  else if off = Reg.hostQCtrl then s.from (if v.getLsbD 0 then execHostQEnable sp fn s else execHostQDisable sp fn s)
  else if 0x40100 ≤ off ∧ off < 0x40200 then s.from (execHostFnQueuesWrite sp ((off - 0x40100) / 4) v s)
  else if 0x40200 ≤ off ∧ off < 0x40300 then (if getBits v 15 0 ≤ 32768 then s.plainWrite sp off v else s)
  else if 0x41000 ≤ off ∧ off < 0x41800 then
    s.from (if off % 8 = 0 then execSqDoorbell sp fn ((off - 0x41000) / 8) (getBits v 11 0) s
      else execCqDoorbell sp fn ((off - 0x41000) / 8) (getBits v 11 0) s)
  else s.plainWrite sp off v

/-- A write to a TB register (R157 to R160). A write of both QUALIFY and UNQUALIFY clears, and a follower ignores servo writes. -/
def State.writeTb (s : State) (sp : SpanId) (world off : Nat) (v : Word32) : State :=
  if off = Reg.tbCtrl then
    let s := if v.getLsbD 1 then s.from (execTbUnqualify sp s) else if v.getLsbD 0 then s.from (execTbQualify sp s) else s
    if world ≠ 0 then s
    else
      let s := s.setReg sp off (putBits (s.reg sp off) 5 2 (getBits v 5 2))
      s.setFld sp Fld.tbStatusRefLock (boolNat (getBits v 3 2 ≠ 0))
  else if off = Reg.tbAddend then (if s.servoIgnored sp then s else s.plainWrite sp off v)
  else if off = Reg.tbStep then s.from (execTbStep sp v s)
  else if off = Reg.tbSetSecHi then s.from (execTbSet sp v s)
  else if off = Reg.tbSlewTicks then s.from (execTbSlew sp v s)
  else s.plainWrite sp off v

/-- A write of `CLK_GATE` by the secure world (R330): lanes by clock and power, a SerDes only while its port is DISABLED. -/
def State.writeClkGate (s : State) (sp : SpanId) (v : Word32) : State :=
  let dest (s : State) (u x : Nat) : State :=
    if s.unitState sp u = x then s else if x = 0 then s.unitOn sp u else s.setUnit sp u x
  let s := (List.range 8).foldl (fun s k => dest s k (if v.getLsbD (8 + k) then 2 else if v.getLsbD k then 1 else 0)) s
  (List.range 2).foldl (fun s n => if s.fld sp (Fld.clsPortnCfgMode n) = 4 then dest s (8 + n) (if v.getLsbD (16 + n) then 2 else 0) else s) s

/-- A write to a CLS register (R85, R92, R94, R95, R104, R112). -/
def State.writeCls (s : State) (sp : SpanId) (off : Nat) (v : Word32) : State :=
  if off = Reg.clsEmOp then
    match getBits v 1 0 with
    | 1 => s.emRead sp
    | 2 => s.emPut sp (s.emData sp)
    | 3 => s.emPut sp EmEntry.empty
    | _ => s
  else if off = Reg.clsCommit then (if v.getLsbD 0 then s.clsGo sp else s)
  else
    let n := (off - 0x11000) / 0x400
    if off = Reg.clsPortnCtrl n then
      let s := s.setReg sp off (putBits (s.reg sp off) 1 0 (getBits v 1 0))
      if v.getLsbD 2 then s.retrain sp n else s
    else if off = Reg.clsPortnBufRsv n then s.writeRsv sp n (getBits v 15 0)
    else if off = Reg.clsPortnPtpTxDb n then s.ptpDoorbell sp n (getBits v 2 0)
    else s.plainWrite sp off v

/-- A write to an STE register (STE registers). -/
def State.writeSte (s : State) (sp : SpanId) (off : Nat) (v : Word32) : State :=
  if off = Reg.steCtxOp then
    match getBits v 2 0 with
    | 1 => s.from (execSteCtxReadActive sp s)
    | 2 => s.from (execSteCtxWriteShadow sp s)
    | 3 => s.from (execSteCtxReadShadow sp s)
    | 4 => s.from (execSteCtxCommit sp s)
    | 5 => s.from (execSteCtxClearState sp s)
    | _ => s
  else if off = Reg.steKsOp then
    match getBits v 1 0 with
    | 1 => s.from (execSteKsWriteShadow sp s)
    | 2 => s.from (execSteKsClearShadow sp s)
    | 3 => s.from (execSteKsReadHead sp s)
    | _ => s
  else s.plainWrite sp off v

/-- A write to a BNE register (R199, R209). -/
def State.writeBne (s : State) (sp : SpanId) (off : Nat) (v : Word32) : State :=
  let k := (off - 0x21000) / 0x100
  if 0x21000 ≤ off ∧ off = Reg.bneLanekCmd3 k then
    let w (r : Nat) : Nat := (s.reg sp r).toNat
    s.from (execBneCmdPush sp k (w (Reg.bneLanekCmd0 k)) (w (Reg.bneLanekCmd1 k)) (w (Reg.bneLanekCmd2 k)) v.toNat s)
  else if 0x21000 ≤ off ∧ off = Reg.bneLanekCtrl k then (if v.getLsbD 0 then s.from (execLaneAbort sp k s) else s)
  else s.plainWrite sp off v

/-- A write to a GATE register (R335): FLIP by the Keeper, the shadow entry and its data by the secure world. -/
def State.writeGate (s : State) (sp : SpanId) (m : Master) (off : Nat) (v : Word32) : State :=
  match m with
  | .core c =>
    if off = Reg.gateCtrl then (if v.getLsbD 0 then s.from (execGateFlip sp c s) else s)
    else if off = Reg.gateWrOp then
      match getBits v 1 0 with
      | 1 => s.from (execGateWrWrite sp c s)
      | 2 => s.from (execGateWrClear sp c s)
      | _ => s
    else if Reg.gateWrIndex ≤ off ∧ off < Reg.gateWrDatan 6 then s.from (s.gateWrites sp c off 0 (s.plainWrite sp off v))
    else s.plainWrite sp off v
  | _ => s

/-- A write to a KPR register (R324, R326). -/
def State.writeKpr (s : State) (sp : SpanId) (m : Master) (off : Nat) (v : Word32) : State :=
  match m with
  | .core c =>
    if off = Reg.kprSwdtKick then s.from (execKprSwdtKick sp c s)
    else if off = Reg.kprVcDb then s.from (execKprVcDb sp c v s)
    else s.plainWrite sp off v
  | _ => s.plainWrite sp off v

/-- A write of one register that is no `_LO` half. -/
def State.writeWord (s : State) (sp : SpanId) (m : Master) (world off : Nat) (v : Word32) : State :=
  match off / 0x10000 with
  | 0 => s.writeSte sp off v
  | 1 => s.writeCls sp off v
  | 2 => s.writeBne sp off v
  | 4 => s.writeHost sp m world off v
  | 6 =>
    let was := s.fld sp Fld.rngCtrlEnable
    let s := s.plainWrite sp off v
    if off ≠ Reg.rngCtrl then s
    else if was = 0 then s.startSources sp
    else if s.fld sp Fld.rngCtrlEnable = 0 then s.stopSources sp else s
  | 8 => if off = Reg.errQPop then (if v.getLsbD 0 then s.popReport sp else s) else s.plainWrite sp off v
  | 9 => s.writeTb sp world off v
  | 11 =>
    if off = Reg.fuseOp then
      match getBits v 1 0 with
      | 1 => s.from (execFuseRead sp s)
      | 2 => s.from (execFuseScan sp [] s)
      | _ => s
    else s.plainWrite sp off v
  | 13 => if off = Reg.clkGate then s.writeClkGate sp v else s.plainWrite sp off v
  | 15 => if off = Reg.hubBlockRst then s.from (execBlockReset sp (getBits v 7 0) s) else s.plainWrite sp off v
  | 17 =>
    let c := (off - 0x110100) / 0x40
    if 0x110100 ≤ off ∧ off = Reg.pierCorecCtrl c then (if v.getLsbD 0 then s.restartCore sp c else s) else s.plainWrite sp off v
  | 18 => s.writeGate sp m off v
  | 19 => s.writeKpr sp m off v
  | _ => s.plainWrite sp off v

/-- A 64-bit value takes effect when its `_HI` half is written (R7). The base addresses of a queue have bits [11:0] zero, and a reset vector has
bits [1:0] zero. -/
def State.writePair (s : State) (sp : SpanId) (m : Master) (world lo : Nat) (low : Option Word32) (v : Word32) : State :=
  if lo = Reg.hostQSqBaseLo then
    s.writeQueue sp m.fnNo fun q => { q with
      sqBase := ((low.map fun x => x.toNat / 4096 * 4096).getD (q.sqBase % 2 ^ 32)) + 2 ^ 32 * v.toNat }
  else if lo = Reg.hostQCqBaseLo then
    s.writeQueue sp m.fnNo fun q => { q with
      cqBase := ((low.map fun x => x.toNat / 4096 * 4096).getD (q.cqBase % 2 ^ 32)) + 2 ^ 32 * v.toNat }
  else if lo = Reg.tbSetSecLo ∧ s.servoIgnored sp then s
  else
    let s := match low with
      | some x => s.plainWrite sp lo (if lo / 0x10000 = 17 then x &&& 0xFFFFFFFC else x)
      | none => s
    s.writeWord sp m world (lo + 4) v

/-- The fields of a pair's `_LO` half can be written. -/
def writable (off : Nat) : Bool := (fieldsAt off).any fun f => f.acc == .rw

/-- A write of a register by a master that carries a world (R5, R7, R462). -/
def State.writeReg (s : State) (sp : SpanId) (m : Master) (world off : Nat) (v : Word32) : State :=
  if s.tmpGone sp off ∨ fieldsAt off = [] then s
  else if isLo off then
    if !writable off then s
    else s.upd sp fun x => { x with holds := (x.holds.filter fun y => !(y.1 == m && y.2.1 == off)) ++ [(m, off, v)] }
  else if isHi off then
    if !writable off then s
    else
      let low := ((s.span sp).holds.find? fun y => y.1 == m && y.2.1 == off - 4).map (·.2.2)
      let s := s.upd sp fun x => { x with holds := x.holds.filter fun y => !(y.1 == m && y.2.1 == off - 4) }
      s.writePair sp m world (off - 4) low v
  else s.writeWord sp m world off v

/-! ### Who reaches a register (R333, R336, R462, R463) -/

/-- An access of a master to an offset of the window, with the world it carries. A core's passes stage 2 and the peripheral gate, the hub link's
passes the gate as world 0x3D, and a PCIe function that answers reaches the HOST window through its BAR0 (R237). -/
def State.access (s : State) (sp : SpanId) (m : Master) (k : AccessKind) (off : Nat) (f : Nat → State) : State :=
  match m with
  | .core c =>
    if 6 ≤ c then s
    else match s.reachMem (.span sp c) k (windowBase + off) 4 with
      | .error a => s.abort (.span sp c) a false
      | .ok pa => if pa = windowBase + off ∧ off < 0x10000000 then f (s.worldOn (.span sp c)) else s
  | .hub =>
    if off % 4 = 0 ∧ s.slotAllows sp 0x3D off k then f 0x3D else s.violate sp 0x3D .hub k (slotOf off) (windowBase + off)
  | .fn n => if n < 33 ∧ (s.span sp).host.answers n ∧ off / 0x10000 = 4 ∧ off % 4 = 0 ∧ (n = 0 ∨ off < 0x44000) then f 0x3F else s

/-- The function of an access that lies outside the register window: BAR2 or configuration space. -/
def Master.pcie (m : Master) (off : Nat) : Option Nat :=
  match m with
  | .fn n => if bar2Base ≤ off ∧ n < 33 then some n else none
  | _ => none

/-- A read command: the value leaves the module. -/
def State.readCmd (s : State) (sp : SpanId) (m : Master) (off : Nat) : State :=
  match m.pcie off with
  | some n => s.pcieRead sp n off
  | none => s.access sp m .read off fun _ => let r := s.readReg sp m off; r.2.emit (.readData sp off r.1.toNat)

/-- A write command. -/
def State.writeCmd (s : State) (sp : SpanId) (m : Master) (off : Nat) (v : Word32) : State :=
  match m.pcie off with
  | some n => s.pcieWrite sp n off v
  | none => s.access sp m .write off fun w => s.writeReg sp m w off v

/-- REGISTER_WRITE (R5). -/
def execRegisterWrite (sp : SpanId) (m : Master) (off : Nat) (v : Word32) (s : State) : Host.Outcome State Fault Refusal :=
  .next (s.writeCmd sp m off v)

/-- RC_READ (R5, R6): a read of a register. -/
def execRcRead (sp : SpanId) (m : Master) (off : Nat) (s : State) : Host.Outcome State Fault Refusal := .next (s.readCmd sp m off)

/-- LO_READ_SHADOW (R7): a read of the `_LO` half of a pair; on another register it reads that register. -/
def execLoReadShadow (sp : SpanId) (m : Master) (off : Nat) (s : State) : Host.Outcome State Fault Refusal := .next (s.readCmd sp m off)

/-- LO_WRITE_HOLD (R7): a write of the `_LO` half of a pair. -/
def execLoWriteHold (sp : SpanId) (m : Master) (off : Nat) (v : Word32) (s : State) : Host.Outcome State Fault Refusal :=
  .next (s.writeCmd sp m off v)

/-- HI_WRITE_COMMIT (R7): a write of the `_HI` half of a pair. -/
def execHiWriteCommit (sp : SpanId) (m : Master) (off : Nat) (v : Word32) (s : State) : Host.Outcome State Fault Refusal :=
  .next (s.writeCmd sp m off v)

/-! ### Interrupt lines -/

/-- The event and enable registers behind the interrupt line of a peripheral slot. -/
def slotEvents : Nat → List (Nat × Nat)
  | 0 => [(Reg.steEvt, Reg.steIen)]
  | 2 => [(Reg.clsEvt, Reg.clsIen)]
  | 3 => [(Reg.clsPortnEvt 0, Reg.clsPortnIen 0)]
  | 4 => [(Reg.clsPortnEvt 1, Reg.clsPortnIen 1)]
  | 5 => [(Reg.bneEvt, Reg.bneIen)]
  | 14 => [(Reg.vltEvt, Reg.vltIen), (Reg.vltLogEvt, Reg.vltLogIen)]
  | 16 => [(Reg.cntEvt, Reg.cntIen), (Reg.cntEpochEvt, Reg.cntEpochIen)]
  | 17 => [(Reg.rngEvt, Reg.rngIen)]
  | 18 => [(Reg.tmpEvt, Reg.tmpIen)]
  | 19 => [(Reg.errEvt, Reg.errIen), (Reg.errClassSticky, Reg.errClassIen)]
  | 20 => [(Reg.tbEvt, Reg.tbIen)]
  | 22 => [(Reg.nvsEvt, Reg.nvsIen)]
  | 23 => [(Reg.fuseEvt, Reg.fuseIen)]
  | 24 => [(Reg.lcsEvt, Reg.lcsIen)]
  | 25 => [(Reg.clkEvt, Reg.clkIen)]
  | 26 => [(Reg.pwrEvt, Reg.pwrIen)]
  | 27 => [(Reg.hubEvt, Reg.hubIen)]
  | 28 => [(Reg.monEvt, Reg.monIen)]
  | 29 => [(Reg.pierEvt, Reg.pierIen)]
  | 30 => [(Reg.gateEvt, Reg.gateIen)]
  | 31 => [(Reg.kprEvt, Reg.kprIen)]
  | _ => []

/-- The interrupt line of a slot is up: an enabled event bit is set. -/
def State.line (s : State) (sp : SpanId) (slot : Nat) : Bool :=
  (slotEvents slot).any fun x => (s.reg sp x.1 &&& s.reg sp x.2) ≠ 0

/-- Some interrupt line of a span is up. -/
def State.irq (s : State) (sp : SpanId) : Bool := (List.range 33).any fun n => s.line sp n

/-- The Keeper makes the virtual interrupts pending that the WORLD scenes route from the lines that are up (WORLD scene). -/
def State.routeLines (s : State) (sp : SpanId) : State :=
  let c := (s.span sp).rep.config
  (s.span sp).worlds.guests.foldl (fun s x =>
    (List.range (c.world x.g 7 1)).foldl (fun s i =>
      if s.line sp (c.world x.g (64 + 8 * i) 1) then s.virq sp x.g (c.world x.g (65 + 8 * i) 1) else s) s) s

end Sys2Proof.Machine
end

