-- ==== Sys2Proof/Machine/Pier.lean ====
section
/-!
DEFINITION. The Pier core instruction set (R338 to R362): what each instruction does on the core that issues it, sleeping and waking, special
registers, interrupts, and the word decoder of the instruction formats.
-/

namespace Sys2Proof.Machine

/-! ### Shapes of instructions -/

/-- An instruction that writes a value computed from the core into a register. -/
def State.compute (s : State) (i : CoreId) (legal : Bool) (rd : BitVec 5) (f : PierCore → Word64) : State :=
  s.issue i legal fun s =>
    let pc := (s.core i).v.pc
    (s.updCore i fun x => x.setReg rd.toNat (f x)).retire i (pc + 4)

/-- Format RR with two source registers. -/
def State.opRR (s : State) (i : CoreId) (rd rs1 rs2 : BitVec 5) (f : Word64 → Word64 → Word64) : State :=
  s.compute i (specOk rd && specOk rs1 && specOk rs2) rd fun x => f (x.reg rs1.toNat) (x.reg rs2.toNat)

/-- Format RI with a source register and an extended immediate. -/
def State.opRI (s : State) (i : CoreId) (rd rs1 : BitVec 5) (imm : Word64) (f : Word64 → Word64 → Word64) : State :=
  s.compute i (specOk rd && specOk rs1) rd fun x => f (x.reg rs1.toNat) imm

/-- A load of `n` bytes: from memory, or from a register, which it reads as the core (R5, R6). -/
def State.load (s : State) (i : CoreId) (rd rs1 : BitVec 5) (imm : BitVec 16) (n : Nat) (signed : Bool) : State :=
  s.issue i (specOk rd && specOk rs1) fun s =>
    let pc := (s.core i).v.pc
    match s.reachMem i .read ((s.core i).reg rs1.toNat + simm imm).toNat n with
    | .error a => s.abort i a false
    | .ok pa =>
      let r : Nat × State :=
        match i, place pa with
        | .span sp c, .regs off => let r := s.readReg sp (.core c) off; (r.1.toNat, r.2)
        | _, _ => (ofLe ((s.memOf i).bytes pa n), s)
      (r.2.updCore i fun x => x.setReg rd.toNat (extend n signed r.1)).retire i (pc + 4)

/-- A store of the low `n` bytes of rd: to memory, or to a register, which it writes as the core. A register write that takes an exception
or restarts the core does not retire. -/
def State.store (s : State) (i : CoreId) (rd rs1 : BitVec 5) (imm : BitVec 16) (n : Nat) : State :=
  s.issue i (specOk rd && specOk rs1) fun s =>
    let x := s.core i
    let v := x.reg rd.toNat
    match s.reachMem i .write (x.reg rs1.toNat + simm imm).toNat n with
    | .error a => s.abort i a false
    | .ok pa =>
      match i, place pa with
      | .span sp c, .regs off =>
        let s' := s.writeReg sp (.core c) (s.worldOn i) off (v.setWidth 32)
        if (s'.core i).v = x.v then s'.retire i (x.v.pc + 4) else s'
      | _, _ => (s.putMem i pa (leBytes n v.toNat)).retire i (x.v.pc + 4)

/-- A jump to an address: it retires, and the trace ring of the core records it (R458). -/
def State.jumpTo (s : State) (i : CoreId) (target : Word64) : State := (s.retire i target).traceEntry i .branch

/-- A conditional branch. -/
def State.branch (s : State) (i : CoreId) (rs1 rs2 : BitVec 5) (off : BitVec 16) (p : Word64 → Word64 → Bool) : State :=
  s.issue i (specOk rs1 && specOk rs2) fun s =>
    let x := s.core i
    if p (x.reg rs1.toNat) (x.reg rs2.toNat) then s.jumpTo i (offTarget x.v.pc off) else s.retire i (x.v.pc + 4)

/-- The window limit of a level on a core (R343). -/
def wlim (top level : Nat) : Nat := 96 - 21 * (top - level)

/-- A call (R342, R343): the window moves up by ten after the spills it needs. -/
def State.callTo (s : State) (i : CoreId) (target : Word64) : State :=
  let pc := (s.core i).v.pc
  match State.spillFor i (wlim i.top (s.core i).v.level) 10 16 s with
  | (s, some a) => s.abort i a true
  | (s, none) =>
    let s := s.updCore i fun x =>
      let v := { x.v with lk := pc + 4 }.grow s.free 10 x.v.level
      { x with v := { v with wcwp := (v.wcwp + 10) % 96 } }
    ({ s with free := s.free + 10 }).jumpTo i target

/-- A return to an address (R342, R344): the window moves down by ten after the fills it needs. -/
def State.returnTo (s : State) (i : CoreId) (target : Word64) : State :=
  match State.fillFor i 10 16 s with
  | (s, some a) => s.abort i a true
  | (s, none) =>
    let s := s.updCore i fun x => { x with v := { x.v with wcwp := (x.v.wcwp + 86) % 96, wres := x.v.wres - 10 } }
    s.jumpTo i target

/-! ### Ordinary instructions -/

/-- ADD. -/
def execAdd (i : CoreId) (rd rs1 rs2 : BitVec 5) (s : State) : Host.Outcome State Fault Refusal := .next (s.opRR i rd rs1 rs2 fun x y => x + y)
/-- SUB. -/
def execSub (i : CoreId) (rd rs1 rs2 : BitVec 5) (s : State) : Host.Outcome State Fault Refusal := .next (s.opRR i rd rs1 rs2 fun x y => x - y)
/-- AND. -/
def execAndOp (i : CoreId) (rd rs1 rs2 : BitVec 5) (s : State) : Host.Outcome State Fault Refusal := .next (s.opRR i rd rs1 rs2 fun x y => x &&& y)
/-- OR. -/
def execOrOp (i : CoreId) (rd rs1 rs2 : BitVec 5) (s : State) : Host.Outcome State Fault Refusal := .next (s.opRR i rd rs1 rs2 fun x y => x ||| y)
/-- XOR. -/
def execXorOp (i : CoreId) (rd rs1 rs2 : BitVec 5) (s : State) : Host.Outcome State Fault Refusal := .next (s.opRR i rd rs1 rs2 fun x y => x ^^^ y)
/-- ANDN: rs1 and not rs2. -/
def execAndn (i : CoreId) (rd rs1 rs2 : BitVec 5) (s : State) : Host.Outcome State Fault Refusal := .next (s.opRR i rd rs1 rs2 fun x y => x &&& ~~~ y)
/-- SHL. -/
def execShl (i : CoreId) (rd rs1 rs2 : BitVec 5) (s : State) : Host.Outcome State Fault Refusal := .next (s.opRR i rd rs1 rs2 shiftL)
/-- SHR. -/
def execShr (i : CoreId) (rd rs1 rs2 : BitVec 5) (s : State) : Host.Outcome State Fault Refusal := .next (s.opRR i rd rs1 rs2 shiftR)
/-- SAR. -/
def execSar (i : CoreId) (rd rs1 rs2 : BitVec 5) (s : State) : Host.Outcome State Fault Refusal := .next (s.opRR i rd rs1 rs2 shiftA)
/-- CMPEQ. -/
def execCmpeq (i : CoreId) (rd rs1 rs2 : BitVec 5) (s : State) : Host.Outcome State Fault Refusal :=
  .next (s.opRR i rd rs1 rs2 fun x y => truth (x == y))
/-- CMPLT. -/
def execCmplt (i : CoreId) (rd rs1 rs2 : BitVec 5) (s : State) : Host.Outcome State Fault Refusal :=
  .next (s.opRR i rd rs1 rs2 fun x y => truth (x.slt y))
/-- CMPLTU. -/
def execCmpltu (i : CoreId) (rd rs1 rs2 : BitVec 5) (s : State) : Host.Outcome State Fault Refusal :=
  .next (s.opRR i rd rs1 rs2 fun x y => truth (x.ult y))
/-- MIN. -/
def execMinOp (i : CoreId) (rd rs1 rs2 : BitVec 5) (s : State) : Host.Outcome State Fault Refusal :=
  .next (s.opRR i rd rs1 rs2 fun x y => if y.slt x then y else x)
/-- MINU. -/
def execMinu (i : CoreId) (rd rs1 rs2 : BitVec 5) (s : State) : Host.Outcome State Fault Refusal :=
  .next (s.opRR i rd rs1 rs2 fun x y => if y.ult x then y else x)
/-- MAX. -/
def execMaxOp (i : CoreId) (rd rs1 rs2 : BitVec 5) (s : State) : Host.Outcome State Fault Refusal :=
  .next (s.opRR i rd rs1 rs2 fun x y => if x.slt y then y else x)
/-- MAXU. -/
def execMaxu (i : CoreId) (rd rs1 rs2 : BitVec 5) (s : State) : Host.Outcome State Fault Refusal :=
  .next (s.opRR i rd rs1 rs2 fun x y => if x.ult y then y else x)
/-- MUL: the low 64 bits. -/
def execMul (i : CoreId) (rd rs1 rs2 : BitVec 5) (s : State) : Host.Outcome State Fault Refusal := .next (s.opRR i rd rs1 rs2 fun x y => x * y)
/-- MULHS. -/
def execMulhs (i : CoreId) (rd rs1 rs2 : BitVec 5) (s : State) : Host.Outcome State Fault Refusal := .next (s.opRR i rd rs1 rs2 mulHighS)
/-- MULHU. -/
def execMulhu (i : CoreId) (rd rs1 rs2 : BitVec 5) (s : State) : Host.Outcome State Fault Refusal := .next (s.opRR i rd rs1 rs2 mulHighU)
/-- QUO. -/
def execQuo (i : CoreId) (rd rs1 rs2 : BitVec 5) (s : State) : Host.Outcome State Fault Refusal := .next (s.opRR i rd rs1 rs2 quoS)
/-- QUOU. -/
def execQuou (i : CoreId) (rd rs1 rs2 : BitVec 5) (s : State) : Host.Outcome State Fault Refusal := .next (s.opRR i rd rs1 rs2 quoU)
/-- MOD. -/
def execModOp (i : CoreId) (rd rs1 rs2 : BitVec 5) (s : State) : Host.Outcome State Fault Refusal := .next (s.opRR i rd rs1 rs2 modS)
/-- MODU. -/
def execModu (i : CoreId) (rd rs1 rs2 : BitVec 5) (s : State) : Host.Outcome State Fault Refusal := .next (s.opRR i rd rs1 rs2 modU)
/-- ADD32. -/
def execAdd32 (i : CoreId) (rd rs1 rs2 : BitVec 5) (s : State) : Host.Outcome State Fault Refusal :=
  .next (s.opRR i rd rs1 rs2 fun x y => low32 (x + y))
/-- SUB32. -/
def execSub32 (i : CoreId) (rd rs1 rs2 : BitVec 5) (s : State) : Host.Outcome State Fault Refusal :=
  .next (s.opRR i rd rs1 rs2 fun x y => low32 (x - y))
/-- ADDK. -/
def execAddk (i : CoreId) (rd rs1 : BitVec 5) (imm : BitVec 16) (s : State) : Host.Outcome State Fault Refusal :=
  .next (s.opRI i rd rs1 (simm imm) fun x y => x + y)
/-- ANDK. -/
def execAndk (i : CoreId) (rd rs1 : BitVec 5) (imm : BitVec 16) (s : State) : Host.Outcome State Fault Refusal :=
  .next (s.opRI i rd rs1 (zimm imm) fun x y => x &&& y)
/-- ORK. -/
def execOrk (i : CoreId) (rd rs1 : BitVec 5) (imm : BitVec 16) (s : State) : Host.Outcome State Fault Refusal :=
  .next (s.opRI i rd rs1 (zimm imm) fun x y => x ||| y)
/-- XORK. -/
def execXork (i : CoreId) (rd rs1 : BitVec 5) (imm : BitVec 16) (s : State) : Host.Outcome State Fault Refusal :=
  .next (s.opRI i rd rs1 (zimm imm) fun x y => x ^^^ y)
/-- CMPLTK. -/
def execCmpltk (i : CoreId) (rd rs1 : BitVec 5) (imm : BitVec 16) (s : State) : Host.Outcome State Fault Refusal :=
  .next (s.opRI i rd rs1 (simm imm) fun x y => truth (x.slt y))
/-- CMPLTUK. -/
def execCmpltuk (i : CoreId) (rd rs1 : BitVec 5) (imm : BitVec 16) (s : State) : Host.Outcome State Fault Refusal :=
  .next (s.opRI i rd rs1 (zimm imm) fun x y => truth (x.ult y))
/-- SHLK. -/
def execShlk (i : CoreId) (rd rs1 : BitVec 5) (sh : BitVec 6) (s : State) : Host.Outcome State Fault Refusal :=
  .next (s.opRI i rd rs1 (sh.setWidth 64) shiftL)
/-- SHRK. -/
def execShrk (i : CoreId) (rd rs1 : BitVec 5) (sh : BitVec 6) (s : State) : Host.Outcome State Fault Refusal :=
  .next (s.opRI i rd rs1 (sh.setWidth 64) shiftR)
/-- SARK. -/
def execSark (i : CoreId) (rd rs1 : BitVec 5) (sh : BitVec 6) (s : State) : Host.Outcome State Fault Refusal :=
  .next (s.opRI i rd rs1 (sh.setWidth 64) shiftA)
/-- HIK. -/
def execHik (i : CoreId) (rd : BitVec 5) (imm : BitVec 21) (s : State) : Host.Outcome State Fault Refusal :=
  .next (s.compute i (specOk rd) rd fun _ => upper imm)
/-- PCK. -/
def execPck (i : CoreId) (rd : BitVec 5) (imm : BitVec 21) (s : State) : Host.Outcome State Fault Refusal :=
  .next (s.compute i (specOk rd) rd fun x => x.v.pc + upper imm)

/-- LD64. -/
def execLd64 (i : CoreId) (rd rs1 : BitVec 5) (imm : BitVec 16) (s : State) : Host.Outcome State Fault Refusal := .next (s.load i rd rs1 imm 8 false)
/-- LD32S. -/
def execLd32s (i : CoreId) (rd rs1 : BitVec 5) (imm : BitVec 16) (s : State) : Host.Outcome State Fault Refusal := .next (s.load i rd rs1 imm 4 true)
/-- LD32U. -/
def execLd32u (i : CoreId) (rd rs1 : BitVec 5) (imm : BitVec 16) (s : State) : Host.Outcome State Fault Refusal := .next (s.load i rd rs1 imm 4 false)
/-- LD16S. -/
def execLd16s (i : CoreId) (rd rs1 : BitVec 5) (imm : BitVec 16) (s : State) : Host.Outcome State Fault Refusal := .next (s.load i rd rs1 imm 2 true)
/-- LD16U. -/
def execLd16u (i : CoreId) (rd rs1 : BitVec 5) (imm : BitVec 16) (s : State) : Host.Outcome State Fault Refusal := .next (s.load i rd rs1 imm 2 false)
/-- LD8S. -/
def execLd8s (i : CoreId) (rd rs1 : BitVec 5) (imm : BitVec 16) (s : State) : Host.Outcome State Fault Refusal := .next (s.load i rd rs1 imm 1 true)
/-- LD8U. -/
def execLd8u (i : CoreId) (rd rs1 : BitVec 5) (imm : BitVec 16) (s : State) : Host.Outcome State Fault Refusal := .next (s.load i rd rs1 imm 1 false)
/-- ST64. -/
def execSt64 (i : CoreId) (rd rs1 : BitVec 5) (imm : BitVec 16) (s : State) : Host.Outcome State Fault Refusal := .next (s.store i rd rs1 imm 8)
/-- ST32. -/
def execSt32 (i : CoreId) (rd rs1 : BitVec 5) (imm : BitVec 16) (s : State) : Host.Outcome State Fault Refusal := .next (s.store i rd rs1 imm 4)
/-- ST16. -/
def execSt16 (i : CoreId) (rd rs1 : BitVec 5) (imm : BitVec 16) (s : State) : Host.Outcome State Fault Refusal := .next (s.store i rd rs1 imm 2)
/-- ST8. -/
def execSt8 (i : CoreId) (rd rs1 : BitVec 5) (imm : BitVec 16) (s : State) : Host.Outcome State Fault Refusal := .next (s.store i rd rs1 imm 1)

/-- BREQ. -/
def execBreq (i : CoreId) (rs1 rs2 : BitVec 5) (off : BitVec 16) (s : State) : Host.Outcome State Fault Refusal :=
  .next (s.branch i rs1 rs2 off fun x y => x == y)
/-- BRNE. -/
def execBrne (i : CoreId) (rs1 rs2 : BitVec 5) (off : BitVec 16) (s : State) : Host.Outcome State Fault Refusal :=
  .next (s.branch i rs1 rs2 off fun x y => x != y)
/-- BRLT. -/
def execBrlt (i : CoreId) (rs1 rs2 : BitVec 5) (off : BitVec 16) (s : State) : Host.Outcome State Fault Refusal :=
  .next (s.branch i rs1 rs2 off fun x y => x.slt y)
/-- BRGE. -/
def execBrge (i : CoreId) (rs1 rs2 : BitVec 5) (off : BitVec 16) (s : State) : Host.Outcome State Fault Refusal :=
  .next (s.branch i rs1 rs2 off fun x y => !x.slt y)
/-- BRLTU. -/
def execBrltu (i : CoreId) (rs1 rs2 : BitVec 5) (off : BitVec 16) (s : State) : Host.Outcome State Fault Refusal :=
  .next (s.branch i rs1 rs2 off fun x y => x.ult y)
/-- BRGEU. -/
def execBrgeu (i : CoreId) (rs1 rs2 : BitVec 5) (off : BitVec 16) (s : State) : Host.Outcome State Fault Refusal :=
  .next (s.branch i rs1 rs2 off fun x y => !x.ult y)
/-- JMP. -/
def execJmp (i : CoreId) (off : BitVec 26) (s : State) : Host.Outcome State Fault Refusal :=
  .next (s.issue i true fun s => s.jumpTo i (offTarget (s.core i).v.pc off))
/-- CALL (R342). -/
def execCall (i : CoreId) (off : BitVec 26) (s : State) : Host.Outcome State Fault Refusal :=
  .next (s.issue i true fun s => s.callTo i (offTarget (s.core i).v.pc off))
/-- CALLR (R342). -/
def execCallr (i : CoreId) (rs1 : BitVec 5) (s : State) : Host.Outcome State Fault Refusal :=
  .next (s.issue i (specOk rs1) fun s => s.callTo i ((s.core i).reg rs1.toNat))
/-- RET (R342). -/
def execRet (i : CoreId) (rs1 : BitVec 5) (s : State) : Host.Outcome State Fault Refusal :=
  .next (s.issue i (specOk rs1) fun s => s.returnTo i ((s.core i).reg rs1.toNat))
/-- JMPR. -/
def execJmpr (i : CoreId) (rs1 : BitVec 5) (s : State) : Host.Outcome State Fault Refusal :=
  .next (s.issue i (specOk rs1) fun s => s.jumpTo i ((s.core i).reg rs1.toNat))

/-! ### Base profile -/

/-- BFX (R350). -/
def execBfx (i : CoreId) (rd rs1 : BitVec 5) (pos wm1 : BitVec 6) (s : State) : Host.Outcome State Fault Refusal :=
  .next (s.compute i (specOk rd && specOk rs1 && decide (pos.toNat + wm1.toNat + 1 ≤ 64)) rd fun x =>
    bitField (x.reg rs1.toNat) pos.toNat (wm1.toNat + 1))
/-- BFXS (R350). -/
def execBfxs (i : CoreId) (rd rs1 : BitVec 5) (pos wm1 : BitVec 6) (s : State) : Host.Outcome State Fault Refusal :=
  .next (s.compute i (specOk rd && specOk rs1 && decide (pos.toNat + wm1.toNat + 1 ≤ 64)) rd fun x =>
    bitFieldS (x.reg rs1.toNat) pos.toNat (wm1.toNat + 1))
/-- BFI (R350). -/
def execBfi (i : CoreId) (rd rs1 : BitVec 5) (pos wm1 : BitVec 6) (s : State) : Host.Outcome State Fault Refusal :=
  .next (s.compute i (specOk rd && specOk rs1 && decide (pos.toNat + wm1.toNat + 1 ≤ 64)) rd fun x =>
    bitInsert (x.reg rd.toNat) (x.reg rs1.toNat) pos.toNat (wm1.toNat + 1))
/-- CLZ (R351). -/
def execClz (i : CoreId) (rd rs1 : BitVec 5) (s : State) : Host.Outcome State Fault Refusal :=
  .next (s.compute i (specOk rd && specOk rs1) rd fun x => BitVec.ofNat 64 (leadZeros 64 (x.reg rs1.toNat).toNat))
/-- CLZW (R351). -/
def execClzw (i : CoreId) (rd rs1 : BitVec 5) (s : State) : Host.Outcome State Fault Refusal :=
  .next (s.compute i (specOk rd && specOk rs1) rd fun x => BitVec.ofNat 64 (leadZeros 32 ((x.reg rs1.toNat).toNat % 2 ^ 32)))
/-- BPRM (R352). -/
def execBprm (i : CoreId) (rd rs1 rs2 : BitVec 5) (s : State) : Host.Outcome State Fault Refusal := .next (s.opRR i rd rs1 rs2 bytePermute)

/-! ### Interrupts (R355) -/

/-- VIP as the core shows it: what is in the register, and the unmasked interrupts pending for the guest in the take. -/
def State.vip (s : State) (i : CoreId) : Nat :=
  let x := s.core i
  match i, x.guest with
  | .span sp _, some g => x.v.vip ||| ((s.guest sp g).map fun y => y.pending - (y.pending &&& y.masked)).getD 0
  | _, _ => x.v.vip

/-- An interrupt is pending at a core: an interrupt line of the span, VIP, or CYC at HTCMP. -/
def State.intPending (s : State) (i : CoreId) (n : Interrupt) : Bool :=
  match n, i with
  | .irq, .span sp _ => s.irq sp
  | .irq, .supervisor => false
  | .virq, _ => decide (i.top = 2) && s.vip i != 0
  | .timer, _ => decide (i.top = 2 ∧ (s.core i).htcmp ≠ 0 ∧ (s.core i).htcmp.toNat ≤ s.cyc i)

/-- The exception class of an interrupt. -/
def Interrupt.cause : Interrupt → Cause
  | .irq => .irq
  | .virq => .virq
  | .timer => .timer

/-- A pending interrupt is taken if its target level lies above the current one, or is the current one with IE (R355). -/
def State.takeable (s : State) (i : CoreId) (n : Interrupt) : Bool :=
  let v := (s.core i).v
  let t := n.cause.target i.top v.level
  s.intPending i n && (decide (v.level < t) || (decide (v.level = t) && v.ie))

/-- Some interrupt is takeable. -/
def State.anyTakeable (s : State) (i : CoreId) : Bool := [Interrupt.irq, .virq, .timer].any fun n => s.takeable i n

/-- The core runs or sleeps in WFE or WAITC. -/
def State.alive (s : State) (i : CoreId) : Bool :=
  match (s.core i).v.sleep with
  | .awake | .wfe | .waitc _ _ _ _ _ _ => (s.updCore i fun x => { x with v := { x.v with sleep := .awake } }).canRun i
  | _ => false

/-- A sleeping core leaves its sleep for an interrupt (R353): WFE completes; WAITC keeps the remaining timeout in rd and will run again. -/
def State.wakeFor (s : State) (i : CoreId) : State :=
  match (s.core i).v.sleep with
  | .wfe => (s.updCore i fun x => { x with v := { x.v with sleep := .awake } }).retire i ((s.core i).v.pc + 4)
  | .waitc rd _ _ deadline _ _ =>
    s.updCore i fun x => ({ x with v := { x.v with sleep := .awake } } : PierCore).setReg rd (BitVec.ofNat 64 (deadline - s.cyc i))
  | _ => s

/-- An interrupt that is takeable is taken (R355, R356). Taking IRQ on cores 2 to 5, the Keeper makes the routed virtual interrupts pending. -/
def State.interrupt (s : State) (i : CoreId) (n : Interrupt) : State :=
  if s.alive i ∧ s.takeable i n then
    let s := (s.wakeFor i).takeTrap i n.cause false 0 0
    match n, i with
    | .irq, .span sp c => if 2 ≤ c then s.routeLines sp else s
    | _, _ => s
  else s

/-- INTERRUPT_TAKEN (R355, R356, R360). -/
def execInterruptTaken (i : CoreId) (n : Interrupt) (s : State) : Host.Outcome State Fault Refusal := .next (s.interrupt i n)

/-- HTCMP_TIMER (R355): CYC reaches HTCMP. -/
def execHtcmpTimer (i : CoreId) (s : State) : Host.Outcome State Fault Refusal := .next (s.interrupt i .timer)

/-! ### System profile -/

/-- WFE (R353). -/
def execWfe (i : CoreId) (s : State) : Host.Outcome State Fault Refusal :=
  .next (s.issue i true fun s =>
    let x := s.core i
    if x.v.ev then (s.updCore i fun x => { x with v := { x.v with ev := false } }).retire i (x.v.pc + 4)
    else s.updCore i fun x => { x with v := { x.v with sleep := .wfe } })

/-- WFE_WAKE (R353): EV is set, or an interrupt is takeable, which is then taken. -/
def execWfeWake (i : CoreId) (s : State) : Host.Outcome State Fault Refusal :=
  let x := s.core i
  if x.v.sleep ≠ .wfe ∨ !s.alive i then .next s
  else if x.v.ev then
    .next ((s.updCore i fun x => { x with v := { x.v with ev := false, sleep := .awake } }).retire i (x.v.pc + 4))
  else
    match [Interrupt.timer, .irq, .virq].find? fun n => s.takeable i n with
    | some n => .next (s.interrupt i n)
    | none => .next s

/-- The cores of a core's event set (R353). -/
def CoreId.eventSet : CoreId → List CoreId
  | .span sp c => (if c < 2 then [0, 1] else [2, 3, 4, 5]).map fun k => CoreId.span sp k
  | .supervisor => [.supervisor]

/-- SEV (R353). -/
def execSev (i : CoreId) (s : State) : Host.Outcome State Fault Refusal :=
  .next (s.issue i true fun s =>
    let pc := (s.core i).v.pc
    (i.eventSet.foldl (fun s k => s.updCore k fun x => { x with v := { x.v with ev := true } }) s).retire i (pc + 4))

/-- One pass of WAITC's loop (R353, R354): the counter is read, and the instruction completes or the core sleeps on. A counter outside DRAM raises
DATA_ABORT. -/
def State.waitPass (s : State) (i : CoreId) (rd addr target deadline : Nat) : State :=
  let s := s.updCore i fun x => { x with v := { x.v with sleep := .awake } }
  let t := s.cyc i
  let pc := (s.core i).v.pc
  match s.reachMem i .read addr 8 with
  | .error a => s.abort i a false
  | .ok pa =>
    match i, place pa with
    | .span _ _, .rom | .span _ _, .vaultRam | .span _ _, .nothing | .span _ _, .regs _ => s.abort i ⟨.dataAbort, addr, s.worldOn i, .read, none, false⟩ false
    | _, _ =>
      let v := ofLe ((s.memOf i).bytes pa 8)
      if target ≤ v ∨ deadline ≤ t then (s.updCore i fun x => x.setReg rd (BitVec.ofNat 64 v)).retire i (pc + 4)
      else s.updCore i fun x => { x with v := { x.v with sleep := .waitc rd addr target deadline t v } }

/-- WAITC (R353, R354). -/
def execWaitc (i : CoreId) (rd rs1 rs2 : BitVec 5) (s : State) : Host.Outcome State Fault Refusal :=
  .next (s.issue i (specOk rd && specOk rs1 && specOk rs2) fun s =>
    let x := s.core i
    s.waitPass i rd.toNat (x.reg rs1.toNat).toNat (x.reg rs2.toNat).toNat (s.cyc i + (x.reg rd.toNat).toNat))

/-- WAITC_WAKE (R353, R354): the counter's line has been written, EV is set, 256 cycles have passed, or an interrupt is takeable, which is then
taken. -/
def execWaitcWake (i : CoreId) (s : State) : Host.Outcome State Fault Refusal :=
  match (s.core i).v.sleep with
  | .waitc rd addr target deadline readAt seen =>
    if !s.alive i then .next s
    else
      match [Interrupt.timer, .irq, .virq].find? fun n => s.takeable i n with
      | some n => .next (s.interrupt i n)
      | none =>
        let written : Bool := match s.reachMem i .read addr 8 with
          | .ok pa => ofLe ((s.memOf i).bytes pa 8) != seen
          | .error _ => true
        if written ∨ (s.core i).v.ev ∨ readAt + 256 ≤ s.cyc i then .next (s.waitPass i rd addr target deadline) else .next s
  | _ => .next s

/-! ### System instructions -/

/-- SCALL (R355): the SCALL exception with N in TCAUSE.IMM. -/
def execScall (i : CoreId) (n : BitVec 12) (s : State) : Host.Outcome State Fault Refusal :=
  .next (s.issue i true fun s => (s.countRetired i).takeTrap i .scall false n.toNat 0)

/-- HCALL (R323, R355): at kernel level on cores 2 to 5. A call number that R323 does not define is answered with UNKNOWN_CALL. -/
def execHcall (i : CoreId) (s : State) : Host.Outcome State Fault Refusal :=
  let x := s.core i
  .next (s.issue i (decide (i.top = 2 ∧ x.v.level = 1)) fun s =>
    let s := (s.countRetired i).takeTrap i .hcall false 0 0
    match i with
    | .span sp c =>
      let x := s.core i
      if x.guest.isSome ∧ x.v.level = 2 ∧ ((x.reg 1).toNat < 1 ∨ 9 < (x.reg 1).toNat) then s.answerCall sp c .unknownCall [] else s
    | .supervisor => s)

/-- TRET (R357): below kernel, or to a level that the core does not have, it is illegal. -/
def execTret (i : CoreId) (s : State) : Host.Outcome State Fault Refusal :=
  let x := s.core i
  .next (s.issue i (decide (1 ≤ x.v.level ∧ (x.trap x.v.level).psr.toNat % 4 ≤ i.top)) fun s =>
    match s.trapReturn i with
    | (s, some a) => s.abort i a true
    | (s, none) => (s.countRetired i).traceEntry i .tret)

/-- The lowest levels that may read and write a special register; none if N names none. 3 stands for no level (R339, Special registers). -/
def srLevels (top n : Nat) : Option (Nat × Nat) :=
  let hyper := if top = 2 then 2 else 3
  if n = 0x000 then some (0, 1)
  else if n = 0x008 ∨ n = 0x009 then some (0, 0)
  else if n = 0x00A then some (1, 1)
  else if 0x010 ≤ n ∧ n ≤ 0x015 then some (1, 1)
  else if n = 0x018 ∨ n = 0x034 then some (0, 0)
  else if n = 0x019 ∨ n = 0x035 then some (1, 1)
  else if n = 0x01A ∨ n = 0x036 then some (hyper, hyper)
  else if 0x020 ≤ n ∧ n ≤ 0x025 then some (hyper, hyper)
  else if 0x030 ≤ n ∧ n ≤ 0x033 then some (top, top)
  else if n = 0x040 then some (if top = 2 then 1 else 3, hyper)
  else if 0x041 ≤ n ∧ n ≤ 0x044 then some (hyper, hyper)
  else none

/-- A field of the trap registers by its place in their order. -/
def Trap.get (t : Trap) (k : Nat) : Word64 :=
  match k with
  | 0 => t.vec
  | 1 => t.psr
  | 2 => t.pc
  | 3 => t.cwp
  | 4 => t.cause
  | _ => t.addr

/-- Writes a field of the trap registers by its place in their order. -/
def Trap.put (t : Trap) (k : Nat) (y : Word64) : Trap :=
  match k with
  | 0 => { t with vec := y }
  | 1 => { t with psr := y }
  | 2 => { t with pc := y }
  | 3 => { t with cwp := y }
  | 4 => { t with cause := y }
  | _ => { t with addr := y }

/-- CORE_ID. -/
def CoreId.idWord (i : CoreId) : Nat :=
  0x60 + (if i.top = 2 then 0x10 else 0) + (match i with | .span sp c => 8 * sp.num + c | .supervisor => 6)

/-- The value of a special register. -/
def State.srGet (s : State) (i : CoreId) (n : Nat) : Word64 :=
  let x := s.core i
  if n = 0x000 then x.psr
  else if n = 0x008 then BitVec.ofNat 64 i.idWord
  else if n = 0x009 then BitVec.ofNat 64 (s.cyc i)
  else if n = 0x00A then truth x.v.ev
  else if 0x010 ≤ n ∧ n ≤ 0x015 then x.v.k.get (n - 0x010)
  else if 0x018 ≤ n ∧ n ≤ 0x01A then x.sp (n - 0x018)
  else if 0x020 ≤ n ∧ n ≤ 0x025 then x.h.get (n - 0x020)
  else if n = 0x030 then BitVec.ofNat 64 x.v.wcwp
  else if n = 0x031 then BitVec.ofNat 64 x.v.wrb
  else if n = 0x032 then BitVec.ofNat 64 x.v.wres
  else if n = 0x033 then BitVec.ofNat 64 x.v.wown
  else if 0x034 ≤ n ∧ n ≤ 0x036 then x.wsp (n - 0x034)
  else if n = 0x040 then BitVec.ofNat 64 (s.vip i)
  else if n = 0x041 then x.s2root
  else if n = 0x042 then BitVec.ofNat 64 x.wid
  else if n = 0x043 then BitVec.ofNat 64 x.l2mask
  else if n = 0x044 then x.htcmp
  else 0

/-- A write of a special register: read-only fields keep their values, and window state waits for the next TRET. -/
def PierCore.srPut (x : PierCore) (n : Nat) (y : Word64) : PierCore :=
  let v := y.toNat
  if n = 0x000 then { x with v := { x.v with ie := y.getLsbD 2 } }
  else if n = 0x00A then { x with v := { x.v with ev := y.getLsbD 0 } }
  else if 0x010 ≤ n ∧ n ≤ 0x015 then { x with v := { x.v with k := x.v.k.put (n - 0x010) y } }
  else if 0x018 ≤ n ∧ n ≤ 0x01A then x.setSp (n - 0x018) y
  else if 0x020 ≤ n ∧ n ≤ 0x025 then { x with h := x.h.put (n - 0x020) y }
  else if n = 0x030 then (if v % 128 < 96 then { x with v := { x.v with newWcwp := some (v % 128) } } else x)
  else if n = 0x031 then (if v % 128 < 96 ∧ v % 128 % 6 = 0 then { x with v := { x.v with newWrb := some (v % 128) } } else x)
  else if n = 0x032 then (if 16 ≤ v % 128 ∧ v % 128 ≤ 96 then { x with v := { x.v with newWres := some (v % 128) } } else x)
  else if n = 0x033 then { x with v := { x.v with newWown := some (v % 2 ^ 32) } }
  else if 0x034 ≤ n ∧ n ≤ 0x036 then x.setWsp (n - 0x034) y
  else if n = 0x040 then { x with v := { x.v with vip := v % 2 ^ 48 } }
  else if n = 0x041 then { x with s2root := y }
  else if n = 0x042 then { x with wid := v % 64 }
  else if n = 0x043 then { x with l2mask := v % 2 ^ 16 }
  else if n = 0x044 then { x with htcmp := y }
  else x

/-- MFSR: a register that N does not name, or one above the core's level, is illegal. -/
def execMfsr (i : CoreId) (rd : BitVec 5) (n : BitVec 12) (s : State) : Host.Outcome State Fault Refusal :=
  let ok := match srLevels i.top n.toNat with
    | some (r, _) => decide (r ≤ (s.core i).v.level)
    | none => false
  .next (s.compute i (specOk rd && ok) rd fun _ => s.srGet i n.toNat)

/-- MTSR. -/
def execMtsr (i : CoreId) (n : BitVec 12) (rs1 : BitVec 5) (s : State) : Host.Outcome State Fault Refusal :=
  let ok := match srLevels i.top n.toNat with
    | some (_, w) => decide (w ≤ (s.core i).v.level)
    | none => false
  .next (s.issue i (specOk rs1 && ok) fun s =>
    let pc := (s.core i).v.pc
    (s.updCore i fun x => x.srPut n.toNat (x.reg rs1.toNat)).retire i (pc + 4))

/-- The window register of the interrupted context that MFW and MTW name, if it is resident and the level has one. -/
def PierCore.frame (x : PierCore) (n : BitVec 12) : Option Nat :=
  let p := ((x.trap x.v.level).cwp.toNat + n.toNat) % 96
  if 1 ≤ x.v.level ∧ n.toNat < 16 ∧ x.v.resident p then some p else none

/-- MFW. -/
def execMfw (i : CoreId) (rd : BitVec 5) (n : BitVec 12) (s : State) : Host.Outcome State Fault Refusal :=
  let p := (s.core i).frame n
  .next (s.compute i (specOk rd && p.isSome) rd fun x => x.v.p (p.getD 0))

/-- MTW. -/
def execMtw (i : CoreId) (n : BitVec 12) (rs1 : BitVec 5) (s : State) : Host.Outcome State Fault Refusal :=
  let p := (s.core i).frame n
  .next (s.issue i (specOk rs1 && p.isSome) fun s =>
    let pc := (s.core i).v.pc
    (s.updCore i fun x => { x with v := x.v.setP (p.getD 0) (x.reg rs1.toNat) }).retire i (pc + 4))

/-- FENCE: in a model whose accesses happen in program order it only advances. -/
def execFence (i : CoreId) (s : State) : Host.Outcome State Fault Refusal :=
  .next (s.issue i true fun s => s.retire i ((s.core i).v.pc + 4))

/-- PIER_CORE_RESTART (R358): a master writes RESTART of a core. -/
def execPierCoreRestart (sp : SpanId) (m : Master) (core : Nat) (s : State) : Host.Outcome State Fault Refusal :=
  if 6 ≤ core then .next s else .next (s.writeCmd sp m (Reg.pierCorecCtrl core) 1)

/-! ### Instruction words (Instruction formats) -/

/-- A meaning of an instruction on a core. -/
abbrev Meaning := CoreId → State → Host.Outcome State Fault Refusal

/-- Bits `hi` to `lo` of an instruction word. -/
def Word32.bits (w : Word32) (hi lo n : Nat) : BitVec n := BitVec.ofNat n (bitsOf w.toNat hi lo)

/-- Format RR under OP 0x00, by FUNC. -/
def decodeRR (func : Nat) (rd rs1 rs2 : BitVec 5) : Option Meaning :=
  match func with
  | 0x00 => some fun i => execAdd i rd rs1 rs2
  | 0x01 => some fun i => execSub i rd rs1 rs2
  | 0x02 => some fun i => execAndOp i rd rs1 rs2
  | 0x03 => some fun i => execOrOp i rd rs1 rs2
  | 0x04 => some fun i => execXorOp i rd rs1 rs2
  | 0x05 => some fun i => execAndn i rd rs1 rs2
  | 0x06 => some fun i => execShl i rd rs1 rs2
  | 0x07 => some fun i => execShr i rd rs1 rs2
  | 0x08 => some fun i => execSar i rd rs1 rs2
  | 0x09 => some fun i => execCmpeq i rd rs1 rs2
  | 0x0A => some fun i => execCmplt i rd rs1 rs2
  | 0x0B => some fun i => execCmpltu i rd rs1 rs2
  | 0x0C => some fun i => execMinOp i rd rs1 rs2
  | 0x0D => some fun i => execMinu i rd rs1 rs2
  | 0x0E => some fun i => execMaxOp i rd rs1 rs2
  | 0x0F => some fun i => execMaxu i rd rs1 rs2
  | 0x10 => some fun i => execMul i rd rs1 rs2
  | 0x11 => some fun i => execMulhs i rd rs1 rs2
  | 0x12 => some fun i => execMulhu i rd rs1 rs2
  | 0x13 => some fun i => execQuo i rd rs1 rs2
  | 0x14 => some fun i => execQuou i rd rs1 rs2
  | 0x15 => some fun i => execModOp i rd rs1 rs2
  | 0x16 => some fun i => execModu i rd rs1 rs2
  | 0x17 => some fun i => execAdd32 i rd rs1 rs2
  | 0x18 => some fun i => execSub32 i rd rs1 rs2
  | _ => none

/-- Format SY under OP 0x3F, by SUB; a field that the instruction does not use must be zero (R349). -/
def decodeSY (sub : Nat) (rd rs1 : BitVec 5) (n : BitVec 12) : Option Meaning :=
  match sub with
  | 0 => if rd = 0 ∧ rs1 = 0 then some fun i => execScall i n else none
  | 1 => if rd = 0 ∧ rs1 = 0 ∧ n = 0 then some execHcall else none
  | 2 => if rd = 0 ∧ rs1 = 0 ∧ n = 0 then some execTret else none
  | 3 => if rs1 = 0 then some fun i => execMfsr i rd n else none
  | 4 => if rd = 0 then some fun i => execMtsr i n rs1 else none
  | 5 => if rs1 = 0 then some fun i => execMfw i rd n else none
  | 6 => if rd = 0 then some fun i => execMtw i n rs1 else none
  | 7 => if rd = 0 ∧ rs1 = 0 ∧ n = 0 then some execFence else none
  | _ => none

/-- The meaning of an instruction word; none for a word that R349 calls illegal by its OP, FUNC, SUB or an unused field. -/
def decodePier (w : Word32) : Option Meaning :=
  let rd := Word32.bits w 25 21 5
  let rs1 := Word32.bits w 20 16 5
  let rs2 := Word32.bits w 15 11 5
  let func := bitsOf w.toNat 10 0
  let imm := Word32.bits w 15 0 16
  let pos := Word32.bits w 15 10 6
  let wm1 := Word32.bits w 9 4 6
  match bitsOf w.toNat 31 26 with
  | 0x00 => decodeRR func rd rs1 rs2
  | 0x01 => some fun i => execAddk i rd rs1 imm
  | 0x02 => some fun i => execAndk i rd rs1 imm
  | 0x03 => some fun i => execOrk i rd rs1 imm
  | 0x04 => some fun i => execXork i rd rs1 imm
  | 0x05 => some fun i => execCmpltk i rd rs1 imm
  | 0x06 => some fun i => execCmpltuk i rd rs1 imm
  | 0x07 =>
    let sh := Word32.bits w 5 0 6
    match bitsOf w.toNat 15 6 with
    | 0 => some fun i => execShlk i rd rs1 sh
    | 1 => some fun i => execShrk i rd rs1 sh
    | 2 => some fun i => execSark i rd rs1 sh
    | _ => none
  | 0x08 => some fun i => execHik i rd (Word32.bits w 20 0 21)
  | 0x09 => some fun i => execPck i rd (Word32.bits w 20 0 21)
  | 0x10 => some fun i => execLd64 i rd rs1 imm
  | 0x11 => some fun i => execLd32s i rd rs1 imm
  | 0x12 => some fun i => execLd32u i rd rs1 imm
  | 0x13 => some fun i => execLd16s i rd rs1 imm
  | 0x14 => some fun i => execLd16u i rd rs1 imm
  | 0x15 => some fun i => execLd8s i rd rs1 imm
  | 0x16 => some fun i => execLd8u i rd rs1 imm
  | 0x18 => some fun i => execSt64 i rd rs1 imm
  | 0x19 => some fun i => execSt32 i rd rs1 imm
  | 0x1A => some fun i => execSt16 i rd rs1 imm
  | 0x1B => some fun i => execSt8 i rd rs1 imm
  | 0x20 => some fun i => execBreq i rd rs1 imm
  | 0x21 => some fun i => execBrne i rd rs1 imm
  | 0x22 => some fun i => execBrlt i rd rs1 imm
  | 0x23 => some fun i => execBrge i rd rs1 imm
  | 0x24 => some fun i => execBrltu i rd rs1 imm
  | 0x25 => some fun i => execBrgeu i rd rs1 imm
  | 0x28 => some fun i => execJmp i (Word32.bits w 25 0 26)
  | 0x29 => some fun i => execCall i (Word32.bits w 25 0 26)
  | 0x2A => if rd = 0 ∧ rs2 = 0 ∧ func = 0 then some fun i => execCallr i rs1 else none
  | 0x2B => if rd = 0 ∧ rs2 = 0 ∧ func = 0 then some fun i => execRet i rs1 else none
  | 0x2C => if rd = 0 ∧ rs2 = 0 ∧ func = 0 then some fun i => execJmpr i rs1 else none
  | 0x30 =>
    match bitsOf w.toNat 3 0 with
    | 0 => some fun i => execBfx i rd rs1 pos wm1
    | 1 => some fun i => execBfxs i rd rs1 pos wm1
    | 2 => some fun i => execBfi i rd rs1 pos wm1
    | _ => none
  | 0x31 =>
    match func with
    | 0 => if rs2 = 0 then some fun i => execClz i rd rs1 else none
    | 1 => if rs2 = 0 then some fun i => execClzw i rd rs1 else none
    | 2 => some fun i => execBprm i rd rs1 rs2
    | _ => none
  | 0x3E =>
    match func with
    | 0 => if rd = 0 ∧ rs1 = 0 ∧ rs2 = 0 then some execWfe else none
    | 1 => if rd = 0 ∧ rs1 = 0 ∧ rs2 = 0 then some execSev else none
    | 2 => some fun i => execWaitc i rd rs1 rs2
    | _ => none
  | 0x3F => decodeSY (bitsOf w.toNat 15 12) rd rs1 (Word32.bits w 11 0 12)
  | _ => none

/-- The core fetches the word at its PC and executes it; a word without a meaning raises ILLEGAL (R349). -/
def State.runWord (s : State) (i : CoreId) : State :=
  match s.reachMem i .fetch (s.core i).v.pc.toNat 4 with
  | .error _ => s.issue i true fun s => s
  | .ok pa =>
    match decodePier (BitVec.ofNat 32 (ofLe ((s.memOf i).bytes pa 4))) with
    | some f => s.from (f i s)
    | none => s.issue i false fun s => s

end Sys2Proof.Machine
end

