-- ==== Sys2Proof/Machine/Monitor.lean ====
section
/-!
DEFINITION. The Leolo monitor (R451 to R459): sessions, line settings, guest memory, halting and stepping virtual cores, traces, fuses and rushes
mode.
-/

namespace Sys2Proof.Machine

/-! ### Lines -/

/-- The caller of a line that addresses a span. -/
def State.monCaller (s : State) (sp : SpanId) : Caller := ⟨sp, .monitor, (s.hub.monitor.session.map (·.id)).getD 0, 0⟩

/-- A line of a command that only the monitor has (R452, R454, R455), on a span: session, arguments, state, right. -/
def State.monLineOn (s : State) (sp : SpanId) (args : Bool) (states : Nat → Bool) (right : Option Nat) (f : Caller → State → State) :
    Host.Outcome State Fault Refusal :=
  let c := s.monCaller sp
  if !s.hub.sup.running ∨ s.lineBusy then .next s
  else if s.hub.monitor.session = none then .next (s.complete c .notAuthorised [])
  else if s.hub.sup.romOnly ∨ !args then .next (s.complete c .monitorSyntax [])
  else
    let s := s.lineFor c sp
    if !states s.lcState then .next (s.complete c .lifecycleState [])
    else if right.any fun r => !s.monRight r then .next (s.complete c .notAuthorised [])
    else if !(s.span sp).cont.hubLink then .next (s.complete c .serviceUnavailable [])
    else .next (f c s)

/-- Every state except SCRAP. -/
def notScrap (lc : Nat) : Bool := lc != 5

/-- A line that R452 offers in every state, with the ROM alone too. -/
def State.monLineAny (s : State) (args : Bool) (f : Caller → State → State) : Host.Outcome State Fault Refusal :=
  let c := s.monCaller .a
  if !s.hub.sup.running ∨ s.lineBusy then .next s
  else if s.hub.monitor.session = none then .next (s.complete c .notAuthorised [])
  else if !args then .next (s.complete c .monitorSyntax [])
  else .next (f c s)

/-! ### Sessions and line settings -/

/-- The challenge of a session: from DRBG instance 0 of Span A, or of Span B, or zero (R452). -/
def State.monChallenge (s : State) : List Byte × State :=
  let from_ (sp : SpanId) : Option (List Byte × State) :=
    if (s.span sp).cont.hubLink ∧ !s.entFatal sp then s.random sp 0 32 false else none
  match from_ .a, from_ .b with
  | some r, _ => r
  | none, some r => r
  | none, none => (zeroBytes 32, s)

/-- MON_HELLO (R452): a session within which HELLO comes ends with reason CLOSED. -/
def execMonHello (s : State) : Host.Outcome State Fault Refusal :=
  if !s.hub.sup.running ∨ s.lineBusy then .next s
  else
    let s := s.endMonSession 1
    let r := s.monChallenge
    let d := r.2.draw 4
    let id := if ofLe d.1 = 0 then 1 else ofLe d.1
    let s := d.2.updHub fun h => { h with monitor := { h.monitor with session := some ⟨id, r.1, s.elapsed, none, 0, 0, 0⟩ } }
    let s := (s.monEvt Fld.monEvtSessionStart).showMonitor
    .next (s.complete (s.monCaller .a) .ok [s.unitId .a, num s.lcState, num id, r.1])

/-- MON_BYE (R453): the OK follows the end of the session. -/
def execMonBye (s : State) : Host.Outcome State Fault Refusal :=
  s.monLineAny true fun c s => (s.monLine .ok).endMonSession 1 |>.emit (.reply c .ok false [])

/-- The rates of R451. -/
def baudRates : List Nat := [115200, 230400, 500000, 1000000, 1500000, 3000000]

/-- MON_BAUD (R451): the OK goes out at the old rate. -/
def execMonBaud (rate : Nat) (s : State) : Host.Outcome State Fault Refusal :=
  s.monLineAny (baudRates.contains rate) fun c s =>
    (s.updHub fun h => { h with monitor := { h.monitor with nextBaud := some (rate, s.elapsed) } }).complete c .ok []

/-- MON_BAUD_APPLY (R451): 10 ms after the OK the new rate applies. -/
def execMonBaudApply (s : State) : Host.Outcome State Fault Refusal :=
  match s.hub.monitor.nextBaud with
  | some (r, t) =>
    if s.elapsed < t + 10 * ms then .next s
    else .next (s.updHub fun h => { h with monitor := { h.monitor with baud := r, nextBaud := none } })
  | none => .next s

/-- MON_BREAK (R451, R453): a break ends a session with reason LINK and restores 115,200 baud; more than 16 framing errors within 1 s end it. -/
def execMonBreak (framing : Bool) (s : State) : Host.Outcome State Fault Refusal :=
  if !s.hub.sup.running then .next s
  else
    let s := s.endMonSession 3
    .next (if framing then s else s.updHub fun h => { h with monitor := { h.monitor with baud := 115200, nextBaud := none } })

/-- MON_SESSION_EXPIRY (R453): 600 s without a line, or NOT_AFTER of the certificate in force. -/
def execMonSessionExpiry (s : State) : Host.Outcome State Fault Refusal :=
  match s.hub.monitor.session with
  | none => .next s
  | some m =>
    let late := m.cert.any fun c => decide (c.notAfter < s.now (s.keystone.getD .a))
    if m.lastLine + 600 * sec ≤ s.elapsed ∨ late then .next (s.endMonSession 2) else .next s

/-- MON_INFO (R455): life-cycle states, firmware versions, `CNT_STATE` of both spans, and the epoch. -/
def execMonInfo (s : State) : Host.Outcome State Fault Refusal :=
  s.monLineAny true fun c s =>
    let sp := s.keystone.getD .a
    s.complete c .ok [num s.a.fuses.life, num s.b.fuses.life, num (s.fld .a Fld.hubFwVersionVersion), num (s.fld .b Fld.hubFwVersionVersion),
      num (s.reg .a Reg.cntState).toNat, num (s.reg .b Reg.cntState).toNat, num (s.span sp).rep.epoch]

/-! ### Reports, fuses, rushes mode -/

/-- MON_SRC (R455): a source's counter, which the read clears, and its information. -/
def execMonSrc (sp : SpanId) (source : Nat) (s : State) : Host.Outcome State Fault Refusal :=
  s.monLineOn sp (decide (source < 4096)) notScrap (some 0) fun c s =>
    let x := srcGet source (s.span sp).err.srcs
    let info := (s.setFld sp Fld.errSrcSelSource source).errWord sp Reg.errSrcInfo
    let s' := if x.count = 0 then s else s.updErr sp fun e => { e with srcs := srcPut { x with count := 0 } e.srcs }
    s'.complete c .ok (s.isolatedLine c sp ++ [num x.count, num info.toNat])

/-- MON_FUSE (R375, R455). -/
def execMonFuse (sp : SpanId) (word : Nat) (s : State) : Host.Outcome State Fault Refusal :=
  s.monLineOn sp (decide (word < 256)) notScrap (some 6) fun c s =>
    let w := (s.span sp).fuses.shown word
    s.complete c .ok [num w.norm, num w.low, num w.high]

/-- MON_FPROG (R377, R455): in BLANK and TESTED; answered when the program ends. -/
def execMonFprog (sp : SpanId) (word v : Nat) (s : State) : Host.Outcome State Fault Refusal :=
  s.monLineOn sp (decide (word < 256 ∧ v < 2 ^ 32)) (fun lc => decide (lc ≤ 1)) none fun _ s => s.programFuse sp word v true

/-- MON_RUSHES_ON (R293, R294). -/
def execMonRushesOn (sp : SpanId) (source : Nat) (s : State) : Host.Outcome State Fault Refusal :=
  s.monLineOn sp (decide (source < 4)) notScrap (some 7) fun c s =>
    let m := (s.span sp).cont.mode
    if m = .keystone ∨ m = .solo ∨ m = .seeking ∨ m = .rejoining ∨ s.entFatal sp ∨ ((s.span sp).entropy.src source).retired then
      s.complete c .serviceUnavailable []
    else
      let cert := s.hub.monitor.session.bind (·.cert)
      ((s.enterRushes sp source ((s.hub.monitor.session.map (·.id)).getD 0) ((cert.map (·.digest)).getD (zeroBytes 32))).showMonitor).complete c .ok []

/-- MON_RUSHES_OFF (R295). -/
def execMonRushesOff (sp : SpanId) (s : State) : Host.Outcome State Fault Refusal :=
  s.monLineOn sp true notScrap (some 7) fun c s => ((s.endRushes sp).showMonitor).complete c .ok []

/-- MON_RUSHES_READ (R294, R455): bytes of the capture region, which is zero outside rushes mode and before the capture is done. -/
def execMonRushesRead (sp : SpanId) (off len : Nat) (s : State) : Host.Outcome State Fault Refusal :=
  s.monLineOn sp (decide (1 ≤ len ∧ len ≤ 4096 ∧ off + len ≤ 131072)) notScrap (some 7) fun c s =>
    s.complete c .ok [sliceBytes (((s.span sp).entropy.rushes.map (·.bits)).getD []) off len]

/-! ### Guest memory (R456) -/

/-- The guests that a session reaches: those of the certificate, and every guest in BLANK and TESTED (R383, R456). -/
def State.monGuest (s : State) (g : Nat) : Bool :=
  decide (1 ≤ g ∧ g ≤ 33) &&
    (decide (s.lcState ≤ 1) || ((s.hub.monitor.session.bind (·.cert)).any fun c => c.guests.testBit g))

/-- World 0x3D may read a guest's bytes: its own region by the grant of the session, other memory by the gate. -/
def State.monReads (s : State) (sp : SpanId) (g ipa pa : Nat) : Bool :=
  decide (ipa < s.guestSize sp g) || (match place pa with | .dram _ => s.memAllows sp 0x3D pa .read | _ => false)

/-- The parts of a read, split at 4 KiB boundaries: address and length. -/
def pageParts : Nat → Nat → Nat → List (Nat × Nat)
  | 0, _, _ => []
  | fuel + 1, a, n =>
    if n = 0 then []
    else
      let k := min n (4096 - a % 4096)
      (a, k) :: pageParts fuel (a + k) (n - k)

/-- Reads the parts until one is unmapped or blocked. -/
def State.monParts (s : State) (sp : SpanId) (g : Nat) : List (Nat × Nat) → List (List Byte) × Bool × State
  | [] => ([], true, s)
  | (a, n) :: t =>
    match s.translate sp g a .read with
    | none => ([], false, s)
    | some pa =>
      if s.monReads sp g a pa then
        let r := s.monParts sp g t
        ((s.span sp).worlds.mem.bytes pa n :: r.1, r.2)
      else ([], false, s.violate sp 0x3D .hub .read (match place pa with | .regs off => slotOf off | _ => none) pa)

/-- MON_MEM (R456): the data lines of the parts before one that is unmapped or blocked go out. -/
def execMonMem (sp : SpanId) (g ipa len : Nat) (s : State) : Host.Outcome State Fault Refusal :=
  s.monLineOn sp (decide (1 ≤ len ∧ len ≤ 4096)) notScrap (some 2) fun c s =>
    if !s.monGuest g ∨ (s.guest sp g).isNone then s.complete c .notAuthorised []
    else
      let r := s.monParts sp g (pageParts 3 ipa len)
      let st : Status := if r.2.1 then .ok else .notAuthorised
      (r.2.2.monLine st).emit (.reply c st false r.1)

/-! ### Halting and stepping (R457) -/

/-- The guests in reach of the session that run on a core. -/
def State.monOnCore (s : State) (sp : SpanId) (core : Nat) : List Nat := ((s.span sp).rep.config.onCore sp core).filter fun g => s.monGuest g

/-- A line about a core: right GUEST_RUN, and a guest in reach that runs there. -/
def State.monCore (s : State) (sp : SpanId) (core : Nat) (args : Bool) (f : Caller → State → State) : Host.Outcome State Fault Refusal :=
  s.monLineOn sp (decide (core < 6) && args) notScrap (some 3) fun c s =>
    if s.monOnCore sp core = [] then s.complete c .notAuthorised [] else f c s

/-- The effective halt of a guest on a core. -/
def State.haltOf (s : State) (sp : SpanId) (core g : Nat) : Option Halt :=
  s.hub.monitor.halts.find? fun h => h.span == sp && h.core == core && h.effective && h.guest == g

/-- The halts in effect on a core of guests in reach. -/
def State.haltsOn (s : State) (sp : SpanId) (core : Nat) : List Halt :=
  s.hub.monitor.halts.filter fun h => h.span == sp && h.core == core && h.effective && s.monGuest h.guest

/-- The MON_RUN slate (R459), from SHIPPED on: action 1 HALT or 2 GO, and the instructions stepped since the last one. -/
def State.monRun (s : State) (sp : SpanId) (core g action : Nat) : State :=
  match s.hub.monitor.session with
  | none => s
  | some m =>
    let s := s.updHub fun h => { h with monitor := { h.monitor with session := some { m with stepped := 0 } } }
    if s.lcState < 2 then s
    else s.deviceBoth [] [monSlate 0x0B0A m.id (leBytes 1 sp.code ++ leBytes 1 core ++ leBytes 1 g ++ leBytes 1 action ++ leBytes 4 m.stepped)]

/-- MON_HALT (R79, R457): it takes effect in a take of a guest in reach; a virtual core that is halted already stays so. -/
def execMonHalt (sp : SpanId) (core : Nat) (s : State) : Host.Outcome State Fault Refusal :=
  s.monCore sp core true fun c s =>
    let done := match (s.core (.span sp core)).guest with
      | some g => if (s.monOnCore sp core).contains g then (s.haltOf sp core g).isSome else (s.monOnCore sp core).all fun g => (s.haltOf sp core g).isSome
      | none => (s.monOnCore sp core).all fun g => (s.haltOf sp core g).isSome
    if done then s.complete c .ok []
    else if !s.monRoom sp 0x0B0A then s.monFull c
    else s.updHub fun h => { h with monitor := { h.monitor with halts := h.monitor.halts ++ [⟨sp, core, 0, false, 0, some c.session, 0, none⟩] } }

/-- Runs the instructions of a STEP while the take and the guest go on: at most `n` more attempts. -/
def State.runSteps (i : CoreId) (sp : SpanId) (core : Nat) : Nat → State → State
  | 0, s => s
  | n + 1, s =>
    let x := s.core i
    let left := (x.guest.bind fun g => s.haltOf sp core g).any fun h => decide (0 < h.steps)
    if left ∧ x.v.level < 2 ∧ s.canRun i then State.runSteps i sp core n (s.runWord i) else s

/-- MON_STEP (R457): n instructions of the halted virtual core, one at a time; the line is answered once all have retired. -/
def execMonStep (sp : SpanId) (core n : Nat) (s : State) : Host.Outcome State Fault Refusal :=
  s.monCore sp core (decide (1 ≤ n ∧ n ≤ 1000)) fun c s =>
    match s.haltsOn sp core with
    | [] => s.complete c .notAuthorised []
    | h :: _ =>
      let s := s.updHub fun x => { x with monitor := { x.monitor with
        halts := x.monitor.halts.map fun y => if y = h then { y with steps := n, stepper := some c.session } else y } }
      State.runSteps (.span sp core) sp core (2 * n) s

/-- MON_HALT_EFFECT (R457): at an instruction boundary in the guest's take, a halt takes effect, or the rest of a STEP is carried out. -/
def execMonHaltEffect (sp : SpanId) (core : Nat) (s : State) : Host.Outcome State Fault Refusal :=
  let i : CoreId := .span sp core
  let x := s.core i
  let inTake := x.take.any fun t => decide (t.1 + 4 * us ≤ s.now sp ∧ s.now sp < t.2)
  match x.guest with
  | none => .next s
  | some g =>
    if !inTake then .next s
    else if (s.haltOf sp core g).any fun h => decide (0 < h.steps) then .next (State.runSteps i sp core 2000 s)
    else
      match s.hub.monitor.halts.find? fun h => h.span == sp && h.core == core && !h.effective with
      | none => .next s
      | some h =>
        if !(s.monOnCore sp core).contains g then .next s
        else
          let was := s.haltOf sp core g
          let since := ((s.hub.monitor.halts.find? fun y => y.effective && y.span == sp && y.guest == g).map (·.since)).getD s.elapsed
          let s := s.updHub fun z => { z with monitor := { z.monitor with
            halts := (z.monitor.halts.erase h) ++ (if was.isSome then [] else [⟨sp, core, g, true, since, none, 0, none⟩]) } }
          let s := if was.isSome then s else (s.setFld sp Fld.monEvtHalt 1).monRun sp core g 1
          let s := s.showMonitor
          .next (match h.caller with | some id => s.complete ⟨sp, .monitor, id, 0⟩ .ok [] | none => s)

/-- MON_GO (R79, R457): the virtual cores that the session holds halted on the core resume. -/
def execMonGo (sp : SpanId) (core : Nat) (s : State) : Host.Outcome State Fault Refusal :=
  s.monCore sp core true fun c s =>
    let l := s.haltsOn sp core
    if l = [] then s.complete c .ok []
    else if !s.monRoom sp 0x0B0A then s.monFull c
    else
      let s := s.dropHalts fun h => l.contains h
      let s := l.foldl (fun s h => s.monRun sp core h.guest 2) s
      ((s.setFld sp Fld.monEvtResume 1).showMonitor).complete c .ok []

/-- The registers of a halted virtual core as its guest left them. -/
def State.haltedCoreRegs (s : State) (sp : SpanId) (core g : Nat) : VCore :=
  let i : CoreId := .span sp core
  if (s.core i).guest = some g then (if (s.core i).v.level = 2 then ((s.trapReturn i).1.core i).v else (s.core i).v) else s.savedCore sp core g

/-- MON_REGS (R457): globals, lk, PC, PSR and the sixteen window registers. -/
def execMonRegs (sp : SpanId) (core : Nat) (s : State) : Host.Outcome State Fault Refusal :=
  s.monCore sp core true fun c s =>
    match s.haltsOn sp core with
    | [] => s.complete c .notAuthorised []
    | h :: _ =>
      let x : PierCore := { s.core (.span sp core) with v := s.haltedCoreRegs sp core h.guest }
      let word (y : Word64) : List Byte := num y.toNat
      s.complete c .ok (((List.range 8).map fun r => word (x.reg r)) ++ [word x.v.lk, word x.v.pc, word x.psr] ++
        (List.range 16).map fun r => word (x.reg (8 + r)))

/-- MON_TRACE (R397, R458): from the trace ring of a core, from the SEQ given on: entries, the next SEQ, and how many were lost. -/
def execMonTrace (sp : SpanId) (core first count : Nat) (s : State) : Host.Outcome State Fault Refusal :=
  s.monLineOn sp (decide (core < 6 ∧ first < 65536 ∧ 1 ≤ count ∧ count ≤ 4096)) notScrap (some 4) fun c s =>
    if core < 2 then s.complete c .notAuthorised []
    else
      let r := ((s.span sp).worlds.ring core).lapRead ringDepth count ⟨first, 0, false⟩
      s.complete c .ok [r.1.flatten, num r.2.e, num r.2.lost]

end Sys2Proof.Machine
end

