-- ==== Sys2Proof/Machine/Tamper.lean ====
section
/-!
DEFINITION. The tamper and environment monitors (chapter Tamper): the events of their sources and the two commands.
-/

namespace Sys2Proof.Machine

/-- TAMPER_EVENT (R301, R302): a detector of a counting source yields an event. -/
def execTamperEvent (n : Nat) (s : State) : Host.Outcome State Fault Refusal := .next (s.tamperEvent n)

/-- FILTER_BUCKET_ADVANCE (R301): due when WINDOW / 16 has passed since the current bucket began. -/
def execFilterBucketAdvance (n : Nat) (s : State) : Host.Outcome State Fault Refusal :=
  let w := s.bucketWidth n
  let f := s.hub.tamper.filter n
  if countingSources.contains n ∧ 0 < w ∧ f.started + w ≤ s.elapsed then .next (s.setFilter (f.advance w)) else .next s

/-- The stimulus of a self-test acts on a source (R310). -/
def Tamper.testing (t : Tamper) (n : Nat) : Bool := t.test.any fun x => x.n == n

/-- TEMP_CONVERSION (R300, R310, R314): sensor 0 TEMP_A, 1 TEMP_B or 2 TEMP_HUB; the sensors run on the logic supplies only. A self-test exchanges the
limit codes. -/
def execTempConversion (k code : Nat) (s : State) : Host.Outcome State Fault Refusal :=
  if 3 ≤ k ∨ s.powered = false then .next s
  else
    let code := code % 4096
    let s := s.setFld .a (Fld.tmpTempkValueCode k) code
    match s.tempTrims k with
    | none => .next s
    | some t =>
      let q := tempQ4 t.1 t.2 code
      let s := s.setFld .a (Fld.tmpTempkValueTemp k) (BitVec.ofInt 16 q).toNat
      let n := 0x10 + k
      let f := s.hub.tamper.filter n
      let low := s.fld .a (Fld.tmpTempkLimitLowCode k)
      let high := s.fld .a (Fld.tmpTempkLimitHighCode k)
      let out := if s.hub.tamper.testing n then decide (code < high ∨ low ≤ code) else decide (code < low ∨ high ≤ code)
      if out then
        if f.armed then .next ((s.updTamper fun t => t.setFilter { f with armed := false }).tamperEvent n) else .next s
      else if -880 + 32 ≤ q ∧ q ≤ 2000 - 32 then .next (s.updTamper fun t => t.setFilter { f with armed := true })
      else .next s

/-- UNTRIMMED_SENSOR_TICK (R300): one event per second of a temperature or supply sensor without trims. -/
def execUntrimmedSensorTick (n : Nat) (s : State) : Host.Outcome State Fault Refusal :=
  let bare := (decide (0x10 ≤ n ∧ n ≤ 0x12) && (s.tempTrims (n - 0x10)).isNone) || (decide (0x14 ≤ n ∧ n ≤ 0x16) && !s.supplyTrimmed (n - 0x14))
  let due : Bool := match (s.hub.tamper.filter n).lastEvent with | some t => decide (t + 1 * sec ≤ s.elapsed) | none => true
  if bare ∧ due then .next (s.tamperEvent n) else .next s

/-- The clocks that a monitor measures, with their nominal frequencies in Hz: CCLK, TCLK, BCLK, FCLK, DCLK and TBCLK of a span, in the order of
`CLK_MEASn`, or the supervisor clock. -/
def measuredClocks (k : Nat) : List Nat :=
  if k = 2 then [400000000] else [1200000000, 800000000, 1000000000, 600000000, 1000000000, 125000000]

/-- CLOCK_MEASURE (R301, Events): the measurement of CLOCK_A, CLOCK_B or CLOCK_HUB as the cycles counted in 32 AON ticks, shown in `CLK_MEASn`; a
clock other than DCLK that lies outside 5 % of nominal is an event. -/
def execClockMeasure (k : Nat) (counts : List Nat) (s : State) : Host.Outcome State Fault Refusal :=
  if 3 ≤ k ∨ s.powered = false then .next s
  else
    let khz := (List.range 6).map fun i => counts.getD i 0 * 1024 / 1000
    let s := if k = 2 then s else
      khz.zipIdx.foldl (fun s x => s.setFld (if k = 0 then .a else .b) (Fld.clkMeasnKhz x.2) x.1) s
    let out := (measuredClocks k).zipIdx.any fun x =>
      let f := counts.getD x.2 0 * 1024
      decide (x.2 ≠ 4 ∧ (100 * f < 95 * x.1 ∨ 105 * x.1 < 100 * f))
    if out then .next (s.tamperEvent (0x18 + k)) else .next s

/-- INPUT_SAMPLE (R298, R299, Events): the levels of CASE0 to CASE7 and of LOOP0_SNS to LOOP3_SNS, and the mesh's bit. -/
def execInputSample (cases sns : Nat) (mesh : Bool) (s : State) : Host.Outcome State Fault Refusal :=
  if !s.powered ∧ s.hub.tamper.aonLost then .next s
  else
    let s := (s.setFld .a Fld.tmpLevelsCase cases).setFld .a Fld.tmpLevelsLoopSns sns
    let s := (List.range 8).foldl (fun s i =>
      let m := s.fld .a (Fld.tmpSrcnFilterMode i)
      if m = 1 then s.sampleLevel i (cases.testBit i) else if m = 2 then s.sampleLevel i (!cases.testBit i) else s) s
    let s := (List.range 4).foldl (fun s i =>
      let m := s.fld .a (Fld.tmpSrcnFilterMode (8 + i))
      if m = 1 then s.sampleLevel (8 + i) (sns.testBit i) else if m = 2 then s.samplePrbs i (8 + i) (sns.testBit i) else s) s
    if s.fld .a (Fld.tmpSrcnFilterMode 12) = 1 then .next (s.samplePrbs 4 12 mesh) else .next s

/-- VBAK_LOSS (R309): VBAK below 2.4 V is reported while the logic supplies are present, and noted in an unattended gap. -/
def execVbakLoss (s : State) : Host.Outcome State Fault Refusal :=
  let s := (s.setFld .a Fld.tmpStatusVbakOk 0).setFld .a Fld.tmpEvtVbakLoss 1
  let s := if s.hub.tamper.gapOpen then s.setFld .a Fld.tmpGapInfoVbakLost 1 else s
  if s.powered then .next (s.raiseHub 0x41C .ok []) else .next s

/-- The tamper commands are accepted on the management service from a producer session, and from the monitor with the TAMPER_TEST right. -/
def State.tamperMay (s : State) (c : Caller) : Bool :=
  match c.origin with
  | .monitor => s.monRight 5
  | .mgmt _ _ => ((s.span c.span).rep.producerSession c).isSome
  | _ => false

/-- TMP_SELFTEST (R310, R311): the command waits for the end of its stimulus. -/
def execTmpSelftest (c : Caller) (source : Nat) (s : State) : Host.Outcome State Fault Refusal :=
  s.monEntry c <|
  if !s.started c 0x0901 [] then .next s
  else
    match s.bars c 0x0901 [] with
    | some st => .next (s.complete c st [])
    | none =>
      let s := s.touch c
      let n := source - 0x400
      let t := s.hub.tamper
      let recent := t.tests.filter fun x => decide (s.elapsed < x.2 + 1 * sec)
      if !s.tamperMay c then .next (s.complete c .notAuthorised [])
      else if source < 0x400 ∨ !countingSources.contains n ∨ (n < 12 ∧ s.fld .a (Fld.tmpSrcnFilterMode n) = 3) then
        .next (s.complete c .inputRange [])
      else if t.test.isSome ∨ recent.any (fun x => x.1 == n) ∨ 10 ≤ recent.length then .next (s.complete c .resourceExhausted [])
      else if !(s.span c.span).rep.log.roomOutsideReserve then .next ((s.setFld c.span Fld.vltLogEvtRefused 1).complete c .logFull [])
      else
        let s := s.updTamper fun t => { t with test := some ⟨n, c, s.elapsed, 0⟩, tests := recent ++ [(n, s.elapsed)] }
        let s := s.setFld .a Fld.tmpStatusTesting 1
        .next ((s.setFld .a Fld.tmpTestSource n).setFld .a Fld.tmpTestResult 0)

/-- SELFTEST_END (R310, R311): the result, its slate, and the event of an alarm level that persists. -/
def execSelftestEnd (persist : Bool) (s : State) : Host.Outcome State Fault Refusal :=
  match s.hub.tamper.test with
  | none => .next s
  | some x =>
    let res := if 0 < x.seen then 1 else 2
    let s := s.updTamper fun t => { t with test := none }
    let s := ((s.setFld .a Fld.tmpStatusTesting 0).setFld .a Fld.tmpTestResult res).setFld .a Fld.tmpEvtTestDone 1
    let s := if res = 2 then s.raiseHub 0x41E .ok [] else s
    let slate := (s.span x.caller.span).rep.slate x.caller 0x0903 .ok 0xFF (0x400 + x.n) (leBytes 1 res ++ leBytes 1 (min x.seen 255))
    let s := if persist then s.tamperEvent x.n else s
    .next (s.submit x.caller.span (replyChange x.caller [slate] .ok [num res]))

/-- TMP_ACK (R312): clears the ALARM bits of named sources that have shown no event for 1 s. -/
def execTmpAck (c : Caller) (mask : Nat) (s : State) : Host.Outcome State Fault Refusal :=
  s.monEntry c <|
  if !s.started c 0x0902 [] then .next s
  else
    match s.bars c 0x0902 [] with
    | some st => .next (s.complete c st [])
    | none =>
      let s := s.touch c
      if !s.tamperMay c then .next (s.complete c .notAuthorised [])
      else
        let quiet (n : Nat) : Bool := match (s.hub.tamper.filter n).lastEvent with | some t => decide (t + 1 * sec ≤ s.elapsed) | none => true
        let before := s.fld .a Fld.tmpAlarmAlarm
        let after := (List.range 31).foldl (fun m n => if before.testBit n && !(mask.testBit n && quiet n) then m ||| 2 ^ n else m) 0
        let slate := (s.span c.span).rep.slate c 0x0902 .ok 0xFF mask (leBytes 4 before ++ leBytes 4 after)
        if !(s.span c.span).rep.log.admits slate then .next ((s.setFld c.span Fld.vltLogEvtRefused 1).complete c .logFull [])
        else
          let s := s.setFld .a Fld.tmpAlarmAlarm after
          .next (s.submit c.span (replyChange c [slate] .ok [num after]))

end Sys2Proof.Machine
end

