-- ==== Sys2Proof/Machine/Update.lean ====
section
/-!
DEFINITION. Firmware images and the hitless update (R446 to R450).
-/

namespace Sys2Proof.Machine

/-! ### Firmware images (R446) -/

/-- Size of a firmware bank. -/
def fwBankSize : Nat := 4194304

/-- A section entry of an image: TYPE, OFFSET, LENGTH. -/
def fwSection (img : List Byte) (i : Nat) : Nat × Nat × Nat :=
  let e := 0x40 + 16 * i
  (leField img e 2, leField img (e + 4) 4, leField img (e + 8) 4)

/-- The layout of a firmware image (R446). -/
def fwLayout (img : List Byte) : Bool :=
  let so := leField img 0x30 4
  let ss := (List.range 3).map (fwSection img)
  let parts := ((0, 0x70) :: ss.map (·.2)) ++ [(so, 200)]
  img.take 8 == asciiBytes "AKNFWIMG" && leField img 8 2 == 1 && leField img 0xA 2 == 3 && leField img 0xC 4 == img.length &&
    decide (img.length ≤ fwBankSize) && zeroAt img 0x17 1 && zeroAt img 0x34 12 && so + 200 == img.length && zeroAt img (so + 193) 7 &&
    ((List.range 3).all fun i => zeroAt img (0x42 + 16 * i) 2 && zeroAt img (0x4C + 16 * i) 4) &&
    ([1, 2, 3].all fun t => (ss.filter fun x => x.1 == t).length == 1) &&
    (ss.all fun x => x.2.1 % 8 == 0 && decide (x.2.1 + x.2.2 ≤ so)) && disjoint (parts.filter fun x => x.2 ≠ 0)

/-- The unit, the key and the signature of an image hold on a span (R446): the key is that whose digest the fuses hold as TMK digest. -/
def State.fwSigned (s : State) (sp : SpanId) (img : List Byte) : Bool :=
  let so := leField img 0x30 4
  let key := sliceBytes img (so + 96) 97
  (zeroAt img 0x18 16 || sliceBytes img 0x18 16 == s.unitId sp) && (s.span sp).fuses.digest 36 == some (sha256 key) &&
    verifySig 1 key (asciiBytes "AKNFW-V1" ++ sha384 (img.take so)) (sliceBytes img so 96)

/-- What a bank holds once an image is programmed into it. -/
def fwBankOf (img : List Byte) : FwBank :=
  let sup := ((List.range 3).map (fwSection img)).find? fun x => x.1 == 3
  { valid := true, version := leField img 0x10 4, floor := leField img 0x14 1, formatMin := leField img 0x15 1, formatMax := leField img 0x16 1
    digest := sha384 img, supervisor := match sup with | some x => sliceBytes img x.2.1 x.2.2 | none => [] }

/-- Puts an image into a bank. -/
def Nvs.setBank (v : Nvs) (i : Nat) (b : FwBank) : Nvs := if i = 0 then { v with bank0 := b } else { v with bank1 := b }

/-- Puts an image into the bank that a span does not run. -/
def State.setOther (s : State) (sp : SpanId) (b : FwBank) : State :=
  (s.upd sp fun x => { x with nvs := x.nvs.setBank (1 - x.boot.bank) b }).showFirmware sp

/-- An event bit of `HUB_EVT` on both spans. -/
def State.hubEvt (s : State) (f : FieldRef) : State := (s.setFld .a f 1).setFld .b f 1

/-! ### Staging (R448) -/

/-- The checks of R448, in their order; the epoch checks of the caller's door (R54, R439) follow the isolation of the span. -/
def State.fwRefusal (s : State) (c : Caller) (img : List Byte) : Option Status :=
  let r := (s.span c.span).rep
  let b := fwBankOf img
  if s.isolated c.span then some .spanIsolated
  else if r.epoch = 0 ∨ !s.epochFits c [] then some .staleEpoch
  else if (r.producerSession c).isNone then some .notAuthorised
  else if s.lcState ≠ 2 ∧ s.lcState ≠ 3 then some .lifecycleState
  else if s.hub.update.state = 1 ∨ (3 ≤ s.hub.update.state ∧ s.hub.update.state ≤ 5) then some .lockHeld
  else if !fwLayout img then some .imageFormat
  else if !s.fwSigned c.span img then some .notAuthorised
  else if b.version ≤ s.a.running.version ∨ b.version ≤ s.b.running.version ∨ b.floor < s.a.floorInForce ∨ b.floor < s.b.floorInForce ∨
      r.format < b.formatMin ∨ b.formatMax < r.format then some .inputRange
  else if !r.log.roomOutsideReserve then some .logFull
  else none

/-- Each span erases its inactive bank, as one bracketed erase (log entry 59). -/
def State.eraseBank (s : State) (sp : SpanId) : State :=
  let i := 1 - (s.span sp).boot.bank
  (s.setOther sp FwBank.none).erase sp .firmware (NorArea.firmware.base + fwBankSize * i) .bank

/-- SB_FW_STAGE (R448). -/
def execSbFwStage (c : Caller) (image : List Byte) (s : State) : Host.Outcome State Fault Refusal :=
  if !s.started c 0x0509 [some image] then .next s
  else
    match s.fwRefusal c image with
    | some st => .next (s.complete c st [])
    | none =>
      let s := (s.touch c).setStage c .sent
      let s := s.updHub fun h => { h with update := ⟨1, fwBankOf image, some c, .a, s.elapsed, 0⟩ }
      .next (((s.eraseBank .a).eraseBank .b).showUpdate)

/-- FW_BANK_VERIFIED (R448): both inactive banks have been erased, programmed and verified, with these results. -/
def execFwBankVerified (okA okB : Bool) (s : State) : Host.Outcome State Fault Refusal :=
  let busy (x : SpanState) : Bool := x.nvs.erases.any fun e => e.purpose == .bank
  let u := s.hub.update
  if u.state ≠ 1 ∨ busy s.a ∨ busy s.b ∨ !s.secureUp .a ∨ !s.secureUp .b then .next s
  else
    let s := if okA then s.setOther .a u.bank else s
    let s := if okB then s.setOther .b u.bank else s
    let s := (s.updHub fun h => { h with update := { u with state := if okA && okB then 2 else 0, caller := none } }).showUpdate
    match u.caller with
    | none => .next s
    | some c =>
      if okA && okB then
        let s := s.hubEvt Fld.hubEvtFwStaged
        let sl := (s.span c.span).rep.slate c 0x0B07 .ok 0 (leField u.bank.digest 0 8)
          (leBytes 4 u.bank.version ++ leBytes 1 u.bank.floor ++ leBytes 4 ((s.elapsed - u.since) / ms))
        .next (s.submit c.span (replyChange c [sl] .ok [u.bank.digest]))
      else .next (s.complete c .imageFormat [])

/-! ### The update (R449, R450) -/

/-- SB_FW_UPDATE (R449): under quorum; an execution starts step 1. -/
def execSbFwUpdate (c : Caller) (digest : List Byte) (s : State) : Host.Outcome State Fault Refusal := .next (s.direct c (.sbFwUpdate digest))

/-- The span that the present step updates runs its trial bank as FOLLOWER, with the other span as KEYSTONE (R449 step 2). -/
def State.stepReached (s : State) : Bool :=
  let t := s.hub.update.target
  (s.span t).cont.mode == .follower && (s.span t).boot.trial && (s.span t).boot.resetDue.isNone && (s.span t.other).cont.mode == .keystone

/-- The trial bank of a span becomes its active bank (R449 step 2). -/
def State.adoptTrial (s : State) (sp : SpanId) : State :=
  (s.upd sp fun x => { x with nvs := { x.nvs with boot := ⟨x.boot.bank, none, 0⟩ }, boot := { x.boot with trial := false } }).showFirmware sp

/-- The end of an update: its state, its slate, and the proposal that ordered it closes (R449 step 6, R450, R69). -/
def State.endUpdate (s : State) (state : Nat) (st : Status) : State :=
  let u := s.hub.update
  let s := (s.updHub fun h => { h with update := { u with state := state } }).showUpdate
  s.keystoneDo fun o k =>
    let e := (o.span k).rep.endLasting k (.sbFwUpdate u.bank.digest) (o.now k) st
    some (e.1, devSlate 0x0B08 st (.span k) (leField u.bank.digest 0 8)
      (leBytes 1 state ++ leBytes 1 u.step ++ leBytes 2 st.code ++ leBytes 4 u.bank.version) :: e.2)

/-- Step 5: a supervisor whose section differs restarts into the new one. -/
def State.restartSupervisor (s : State) : State :=
  if s.hub.sup.section_ = s.hub.update.bank.supervisor then s
  else s.updHub fun h => { h with
    sup := { h.sup with section_ := h.update.bank.supervisor, romOnly := false }, core := PierCore.reset 1 0 0 s.elapsed }

/-- Step 6: the stored floor of both spans rises to the image's. -/
def State.raiseFloors (s : State) : State :=
  let n := s.hub.update.bank.floor
  [SpanId.a, SpanId.b].foldl (fun s sp => (s.updNvs sp fun v => { v with storedFloor := max v.storedFloor n }).showFirmware sp) s

/-- FW_UPDATE_STEP_ADVANCE (R449): step 3 follows when the first span is FOLLOWER on its trial bank, step 4 when the lease has moved, steps 5 and
6 when the second span is FOLLOWER. -/
def execFwUpdateStepAdvance (s : State) : Host.Outcome State Fault Refusal :=
  let u := s.hub.update
  if u.state = 3 then
    if !s.stepReached then .next s
    else
      let s := (s.adoptTrial u.target).updHub fun h => { h with update := { h.update with state := 4, step := 3 } }
      .next (s.showUpdate.beginHandover u.target.other)
  else if u.state = 4 then
    if (s.span u.target).cont.mode = .keystone ∧ (s.span u.target.other).cont.mode = .follower then .next (s.trialReset u.target.other 5 4)
    else .next s
  else if u.state = 5 then
    if !s.stepReached then .next s
    else
      let s := ((s.adoptTrial u.target).restartSupervisor).raiseFloors
      let s := s.updHub fun h => { h with update := { h.update with step := 6 } }
      .next ((s.endUpdate 6 .ok).hubEvt Fld.hubEvtUpdateDone)
  else .next s

/-- FW_UPDATE_TIMEOUT (R450): 300 s after its reset a span has not reached FOLLOWER; the update ends as FAILED with the step and
`DEFERRED_TIMEOUT` (log entry 61). -/
def execFwUpdateTimeout (s : State) : Host.Outcome State Fault Refusal :=
  let u := s.hub.update
  if (u.state ≠ 3 ∧ u.state ≠ 5) ∨ s.elapsed < u.since + 300 * sec ∨ s.stepReached then .next s
  else .next ((s.endUpdate 7 .deferredTimeout).hubEvt Fld.hubEvtUpdateFailed)

end Sys2Proof.Machine
end

