-- ==== Sys2Proof/Machine/Dispatch.lean ====
section
/-!
DEFINITION. Which meaning each command has: one arm per constructor.
-/

namespace Sys2Proof.Machine

/-- The effect of a command on everything but the queue. -/
def exec (i : Instr) (s : State) : Host.Outcome State Fault Refusal :=
  match i with
  | .registerWrite sp m off v => Sys2Proof.Machine.execRegisterWrite sp m off v s
  | .rcRead sp m off => Sys2Proof.Machine.execRcRead sp m off s
  | .loReadShadow sp m off => Sys2Proof.Machine.execLoReadShadow sp m off s
  | .loWriteHold sp m off v => Sys2Proof.Machine.execLoWriteHold sp m off v s
  | .hiWriteCommit sp m off v => Sys2Proof.Machine.execHiWriteCommit sp m off v s
  | .sbStage c image => Sys2Proof.Machine.execSbStage c image s
  | .sbSign c e => Sys2Proof.Machine.execSbSign c e s
  | .sbApply c t => Sys2Proof.Machine.execSbApply c t s
  | .sbWithdraw c epoch => Sys2Proof.Machine.execSbWithdraw c epoch s
  | .sbStatus c => Sys2Proof.Machine.execSbStatus c s
  | .imageValidated => Sys2Proof.Machine.execImageValidated s
  | .approvalWindowClose => Sys2Proof.Machine.execApprovalWindowClose s
  | .prepare sp => Sys2Proof.Machine.execPrepare sp s
  | .ready sp => Sys2Proof.Machine.execReady sp s
  | .decision sp => Sys2Proof.Machine.execDecision sp s
  | .decideDeadline sp => Sys2Proof.Machine.execDecideDeadline sp s
  | .decisionQuery sp => Sys2Proof.Machine.execDecisionQuery sp s
  | .epochTick sp => Sys2Proof.Machine.execEpochTick sp s
  | .osOpen c who => Sys2Proof.Machine.execOsOpen c who s
  | .osProve c challenge sig => Sys2Proof.Machine.execOsProve c challenge sig s
  | .osClose c id => Sys2Proof.Machine.execOsClose c id s
  | .sessionIdleTimeout id => Sys2Proof.Machine.execSessionIdleTimeout id s
  | .sessionAgeLimit id => Sys2Proof.Machine.execSessionAgeLimit id s
  | .propSubmit c owner body sig => Sys2Proof.Machine.execPropSubmit c owner body sig s
  | .propVote c pid approve sig => Sys2Proof.Machine.execPropVote c pid approve sig s
  | .propWithdraw c pid => Sys2Proof.Machine.execPropWithdraw c pid s
  | .propStatus c pid => Sys2Proof.Machine.execPropStatus c pid s
  | .proposalExecute pid => Sys2Proof.Machine.execProposalExecute pid s
  | .proposalLockTimeout pid => Sys2Proof.Machine.execProposalLockTimeout pid s
  | .proposalExpiry pid => Sys2Proof.Machine.execProposalExpiry pid s
  | .proposalBeginTimeout pid => Sys2Proof.Machine.execProposalBeginTimeout pid s
  | .proposalRecordExpiry pid => Sys2Proof.Machine.execProposalRecordExpiry pid s
  | .cerBegin c pid => Sys2Proof.Machine.execCerBegin c pid s
  | .cerRenew c lock => Sys2Proof.Machine.execCerRenew c lock s
  | .cerStep c lock idx q => Sys2Proof.Machine.execCerStep c lock idx q s
  | .cerEnd c lock => Sys2Proof.Machine.execCerEnd c lock s
  | .ceremonyLeaseExpiry lock => Sys2Proof.Machine.execCeremonyLeaseExpiry lock s
  | .checkpointPair => Sys2Proof.Machine.execCheckpointPair s
  | .logExport c first => Sys2Proof.Machine.execLogExport c first s
  | .logRead c first count => Sys2Proof.Machine.execLogRead c first count s
  | .logAck c seq hash producer ackTime sig => Sys2Proof.Machine.execLogAck c seq hash producer ackTime sig s
  | .logInfo c => Sys2Proof.Machine.execLogInfo c s
  | .frameReceived sp n f cut => Sys2Proof.Machine.execFrameReceived sp n f cut s
  | .frameReturn sp n => Sys2Proof.Machine.execFrameReturn sp n s
  | .pauseRepeat sp n => Sys2Proof.Machine.execPauseRepeat sp n s
  | .partnerPauseExpiry sp n => Sys2Proof.Machine.execPartnerPauseExpiry sp n s
  | .ptpTxDoorbell sp n slot => Sys2Proof.Machine.execPtpTxDoorbell sp n slot s
  | .ptpFrameInsert sp n => Sys2Proof.Machine.execPtpFrameInsert sp n s
  | .linkChange sp n lock hiBer => Sys2Proof.Machine.execLinkChange sp n lock hiBer s
  | .trainTimeout sp n => Sys2Proof.Machine.execTrainTimeout sp n s
  | .trainRestart sp n => Sys2Proof.Machine.execTrainRestart sp n s
  | .retrain sp n => Sys2Proof.Machine.execRetrain sp n s
  | .bufRsvWrite sp n v => Sys2Proof.Machine.execBufRsvWrite sp n v s
  | .bufRsvRaiseApply sp n => Sys2Proof.Machine.execBufRsvRaiseApply sp n s
  | .clsEmRead sp => Sys2Proof.Machine.execClsEmRead sp s
  | .clsEmWrite sp => Sys2Proof.Machine.execClsEmWrite sp s
  | .clsEmClear sp => Sys2Proof.Machine.execClsEmClear sp s
  | .clsCommit sp => Sys2Proof.Machine.execClsCommit sp s
  | .portBankAdopt sp n => Sys2Proof.Machine.execPortBankAdopt sp n s
  | .ctxConfig c a => Sys2Proof.Machine.execCtxConfig c a s
  | .ctxKeyLoad c a => Sys2Proof.Machine.execCtxKeyLoad c a s
  | .ctxKeyClear c ctx slotB => Sys2Proof.Machine.execCtxKeyClear c ctx slotB s
  | .ctxCommit c ctx => Sys2Proof.Machine.execCtxCommit c ctx s
  | .ctxActivate c ctx => Sys2Proof.Machine.execCtxActivate c ctx s
  | .ctxSuspend c ctx => Sys2Proof.Machine.execCtxSuspend c ctx s
  | .ctxResume c ctx => Sys2Proof.Machine.execCtxResume c ctx s
  | .ctxDrain c ctx => Sys2Proof.Machine.execCtxDrain c ctx s
  | .ctxRead c ctx => Sys2Proof.Machine.execCtxRead c ctx s
  | .contextDrained n => Sys2Proof.Machine.execContextDrained n s
  | .contextPromote n => Sys2Proof.Machine.execContextPromote n s
  | .steCtxReadActive sp => Sys2Proof.Machine.execSteCtxReadActive sp s
  | .steCtxWriteShadow sp => Sys2Proof.Machine.execSteCtxWriteShadow sp s
  | .steCtxReadShadow sp => Sys2Proof.Machine.execSteCtxReadShadow sp s
  | .steCtxCommit sp => Sys2Proof.Machine.execSteCtxCommit sp s
  | .steCtxClearState sp => Sys2Proof.Machine.execSteCtxClearState sp s
  | .steKsWriteShadow sp => Sys2Proof.Machine.execSteKsWriteShadow sp s
  | .steKsClearShadow sp => Sys2Proof.Machine.execSteKsClearShadow sp s
  | .steKsReadHead sp => Sys2Proof.Machine.execSteKsReadHead sp s
  | .tbStep sp v => Sys2Proof.Machine.execTbStep sp v s
  | .tbSet sp v => Sys2Proof.Machine.execTbSet sp v s
  | .tbSlew sp v => Sys2Proof.Machine.execTbSlew sp v s
  | .slewComplete sp => Sys2Proof.Machine.execSlewComplete sp s
  | .tbQualify sp => Sys2Proof.Machine.execTbQualify sp s
  | .tbUnqualify sp => Sys2Proof.Machine.execTbUnqualify sp s
  | .tbRefLost sp => Sys2Proof.Machine.execTbRefLost sp s
  | .tbPeerMeasure sp => Sys2Proof.Machine.execTbPeerMeasure sp s
  | .utcOffsetChange sp => Sys2Proof.Machine.execUtcOffsetChange sp s
  | .ppsInEdge sp => Sys2Proof.Machine.execPpsInEdge sp s
  | .ppsOutRise sp => Sys2Proof.Machine.execPpsOutRise sp s
  | .ppsOutFall sp => Sys2Proof.Machine.execPpsOutFall sp s
  | .keyGenerate c a => Sys2Proof.Machine.execKeyGenerate c a s
  | .keyImportSealed c a => Sys2Proof.Machine.execKeyImportSealed c a s
  | .keyUnwrap c a => Sys2Proof.Machine.execKeyUnwrap c a s
  | .keyDerive c a => Sys2Proof.Machine.execKeyDerive c a s
  | .keySetUsage c handle usage flags => Sys2Proof.Machine.execKeySetUsage c handle usage flags s
  | .keySetState c handle st => Sys2Proof.Machine.execKeySetState c handle st s
  | .keyDestroy c handle => Sys2Proof.Machine.execKeyDestroy c handle s
  | .keyDestroyTimeout handle => Sys2Proof.Machine.execKeyDestroyTimeout handle s
  | .objectDestroyed handle => Sys2Proof.Machine.execObjectDestroyed handle s
  | .ctrCreate c initial limit label => Sys2Proof.Machine.execCtrCreate c initial limit label s
  | .ctrDestroy c handle => Sys2Proof.Machine.execCtrDestroy c handle s
  | .keySign c handle scheme msg => Sys2Proof.Machine.execKeySign c handle scheme msg s
  | .keyVerify c handle type inlinePub scheme msg sig => Sys2Proof.Machine.execKeyVerify c handle type inlinePub scheme msg sig s
  | .keyAgree c handle peer => Sys2Proof.Machine.execKeyAgree c handle peer s
  | .keyEncap c handle type inlinePub => Sys2Proof.Machine.execKeyEncap c handle type inlinePub s
  | .keyDecap c handle ct => Sys2Proof.Machine.execKeyDecap c handle ct s
  | .keyPublic c handle => Sys2Proof.Machine.execKeyPublic c handle s
  | .keyInfo c handle => Sys2Proof.Machine.execKeyInfo c handle s
  | .keyList c first count => Sys2Proof.Machine.execKeyList c first count s
  | .ctrRead c handle => Sys2Proof.Machine.execCtrRead c handle s
  | .ctrIncr c handle step => Sys2Proof.Machine.execCtrIncr c handle step s
  | .keyExportSealed c wrapping handle => Sys2Proof.Machine.execKeyExportSealed c wrapping handle s
  | .vaultJobDispatch sp => Sys2Proof.Machine.execVaultJobDispatch sp s
  | .bneCmdPush sp k w0 w1 w2 w3 => Sys2Proof.Machine.execBneCmdPush sp k w0 w1 w2 w3 s
  | .laneJobStart sp k => Sys2Proof.Machine.execLaneJobStart sp k s
  | .job sp k => Sys2Proof.Machine.execJob sp k s
  | .validate sp k => Sys2Proof.Machine.execValidate sp k s
  | .load sp k => Sys2Proof.Machine.execLoad sp k s
  | .store sp k => Sys2Proof.Machine.execStore sp k s
  | .loadg sp k => Sys2Proof.Machine.execLoadg sp k s
  | .madd sp k => Sys2Proof.Machine.execMadd sp k s
  | .msub sp k => Sys2Proof.Machine.execMsub sp k s
  | .mmul sp k => Sys2Proof.Machine.execMmul sp k s
  | .mmac sp k => Sys2Proof.Machine.execMmac sp k s
  | .mred sp k => Sys2Proof.Machine.execMred sp k s
  | .mreda sp k => Sys2Proof.Machine.execMreda sp k s
  | .minv sp k => Sys2Proof.Machine.execMinv sp k s
  | .mexp sp k => Sys2Proof.Machine.execMexp sp k s
  | .convIn sp k => Sys2Proof.Machine.execConvIn sp k s
  | .convOut sp k => Sys2Proof.Machine.execConvOut sp k s
  | .imul sp k => Sys2Proof.Machine.execImul sp k s
  | .iadd sp k => Sys2Proof.Machine.execIadd sp k s
  | .esmul sp k => Sys2Proof.Machine.execEsmul sp k s
  | .dsmul sp k => Sys2Proof.Machine.execDsmul sp k s
  | .edmul sp k => Sys2Proof.Machine.execEdmul sp k s
  | .xmul sp k => Sys2Proof.Machine.execXmul sp k s
  | .pntt sp k => Sys2Proof.Machine.execPntt sp k s
  | .pintt sp k => Sys2Proof.Machine.execPintt sp k s
  | .pmac sp k => Sys2Proof.Machine.execPmac sp k s
  | .padd sp k => Sys2Proof.Machine.execPadd sp k s
  | .psub sp k => Sys2Proof.Machine.execPsub sp k s
  | .pround sp k => Sys2Proof.Machine.execPround sp k s
  | .pnorm sp k => Sys2Proof.Machine.execPnorm sp k s
  | .pcode sp k => Sys2Proof.Machine.execPcode sp k s
  | .xof sp k => Sys2Proof.Machine.execXof sp k s
  | .sample sp k => Sys2Proof.Machine.execSample sp k s
  | .loopMark sp k => Sys2Proof.Machine.execLoopMark sp k s
  | .loopBack sp k => Sys2Proof.Machine.execLoopBack sp k s
  | .cmp sp k => Sys2Proof.Machine.execCmp sp k s
  | .laneAbort sp k => Sys2Proof.Machine.execLaneAbort sp k s
  | .laneWipeDone sp k => Sys2Proof.Machine.execLaneWipeDone sp k s
  | .laneCompletionPop sp k => Sys2Proof.Machine.execLaneCompletionPop sp k s
  | .sqDoorbell sp fn queue v => Sys2Proof.Machine.execSqDoorbell sp fn queue v s
  | .cqDoorbell sp fn queue v => Sys2Proof.Machine.execCqDoorbell sp fn queue v s
  | .descriptorFetch sp g queue desc input => Sys2Proof.Machine.execDescriptorFetch sp g queue desc input s
  | .commandStart sp g queue slot outFails cqFails => Sys2Proof.Machine.execCommandStart sp g queue slot outFails cqFails s
  | .deferredTimeout sp g queue slot => Sys2Proof.Machine.execDeferredTimeout sp g queue slot s
  | .msixAggTimeout sp g queue => Sys2Proof.Machine.execMsixAggTimeout sp g queue s
  | .hostCancel sp fn queue cid => Sys2Proof.Machine.execHostCancel sp fn queue cid s
  | .hostQEnable sp fn => Sys2Proof.Machine.execHostQEnable sp fn s
  | .hostQDisable sp fn => Sys2Proof.Machine.execHostQDisable sp fn s
  | .hostFnQueuesWrite sp n v => Sys2Proof.Machine.execHostFnQueuesWrite sp n v s
  | .functionLevelReset sp fn => Sys2Proof.Machine.execFunctionLevelReset sp fn s
  | .vfEnableClear sp => Sys2Proof.Machine.execVfEnableClear sp s
  | .pcieReset sp => Sys2Proof.Machine.execPcieReset sp s
  | .busMasterRestore sp fn => Sys2Proof.Machine.execBusMasterRestore sp fn s
  | .hello sp => Sys2Proof.Machine.execHello sp s
  | .forward sp => Sys2Proof.Machine.execForward sp s
  | .recMsg sp => Sys2Proof.Machine.execRecMsg sp s
  | .ack sp => Sys2Proof.Machine.execAck sp s
  | .commit sp => Sys2Proof.Machine.execCommit sp s
  | .commitAck sp => Sys2Proof.Machine.execCommitAck sp s
  | .result sp => Sys2Proof.Machine.execResult sp s
  | .renew sp voter => Sys2Proof.Machine.execRenew sp voter s
  | .vote sp => Sys2Proof.Machine.execVote sp s
  | .timeMsg sp => Sys2Proof.Machine.execTimeMsg sp s
  | .digestMsg sp => Sys2Proof.Machine.execDigestMsg sp s
  | .bucket sp => Sys2Proof.Machine.execBucket sp s
  | .handover sp => Sys2Proof.Machine.execHandover sp s
  | .leaseRenewTimer sp => Sys2Proof.Machine.execLeaseRenewTimer sp s
  | .leaseExpiry sp => Sys2Proof.Machine.execLeaseExpiry sp s
  | .takeover sp => Sys2Proof.Machine.execTakeover sp s
  | .handoverStart sp => Sys2Proof.Machine.execHandoverStart sp s
  | .soloRecordAck sp => Sys2Proof.Machine.execSoloRecordAck sp s
  | .deckHeartbeat link => Sys2Proof.Machine.execDeckHeartbeat link s
  | .deckLinkDown link retrans silence => Sys2Proof.Machine.execDeckLinkDown link retrans silence s
  | .deckRetrain link => Sys2Proof.Machine.execDeckRetrain link s
  | .deckLinkUp link => Sys2Proof.Machine.execDeckLinkUp link s
  | .peerLost sp => Sys2Proof.Machine.execPeerLost sp s
  | .rejoinRetry sp => Sys2Proof.Machine.execRejoinRetry sp s
  | .sbKeystonePref c sp => Sys2Proof.Machine.execSbKeystonePref c sp s
  | .sbKeystoneForce c sp term csn t sigs => Sys2Proof.Machine.execSbKeystoneForce c sp term csn t sigs s
  | .rawBlockComplete sp src block => Sys2Proof.Machine.execRawBlockComplete sp src block s
  | .sourceStartupDone sp src => Sys2Proof.Machine.execSourceStartupDone sp src s
  | .sourceTestFail sp src test => Sys2Proof.Machine.execSourceTestFail sp src test s
  | .drbgGenerate sp inst n pr => Sys2Proof.Machine.execDrbgGenerate sp inst n pr s
  | .drbgReseed sp inst => Sys2Proof.Machine.execDrbgReseed sp inst s
  | .rngGet c n => Sys2Proof.Machine.execRngGet c n s
  | .rushesCaptureDone sp bits => Sys2Proof.Machine.execRushesCaptureDone sp bits s
  | .tamperEvent n => Sys2Proof.Machine.execTamperEvent n s
  | .filterBucketAdvance n => Sys2Proof.Machine.execFilterBucketAdvance n s
  | .tempConversion k code => Sys2Proof.Machine.execTempConversion k code s
  | .untrimmedSensorTick n => Sys2Proof.Machine.execUntrimmedSensorTick n s
  | .clockMeasure k counts => Sys2Proof.Machine.execClockMeasure k counts s
  | .tmpSelftest c source => Sys2Proof.Machine.execTmpSelftest c source s
  | .selftestEnd persist => Sys2Proof.Machine.execSelftestEnd persist s
  | .tmpAck c mask => Sys2Proof.Machine.execTmpAck c mask s
  | .vbakLoss => Sys2Proof.Machine.execVbakLoss s
  | .takeSlotStart sp core => Sys2Proof.Machine.execTakeSlotStart sp core s
  | .hcInfo sp core => Sys2Proof.Machine.execHcInfo sp core s
  | .hcYield sp core => Sys2Proof.Machine.execHcYield sp core s
  | .hcTimer sp core => Sys2Proof.Machine.execHcTimer sp core s
  | .hcTimerFire sp g => Sys2Proof.Machine.execHcTimerFire sp g s
  | .hcIrq sp core => Sys2Proof.Machine.execHcIrq sp core s
  | .hcWdtKick sp core => Sys2Proof.Machine.execHcWdtKick sp core s
  | .hcVcConfig sp core => Sys2Proof.Machine.execHcVcConfig sp core s
  | .hcVcCancel sp core => Sys2Proof.Machine.execHcVcCancel sp core s
  | .hcUnit sp core => Sys2Proof.Machine.execHcUnit sp core s
  | .hcTime sp core => Sys2Proof.Machine.execHcTime sp core s
  | .unitGateGrant sp unit => Sys2Proof.Machine.execUnitGateGrant sp unit s
  | .unitRequestTimeout sp g core => Sys2Proof.Machine.execUnitRequestTimeout sp g core s
  | .unitPowerRestored sp unit => Sys2Proof.Machine.execUnitPowerRestored sp unit s
  | .kprVcDb sp core v => Sys2Proof.Machine.execKprVcDb sp core v s
  | .kprSwdtKick sp core => Sys2Proof.Machine.execKprSwdtKick sp core s
  | .swdtExpiry sp core => Sys2Proof.Machine.execSwdtExpiry sp core s
  | .guestWdtHalf sp g => Sys2Proof.Machine.execGuestWdtHalf sp g s
  | .guestWdtExpiry sp g => Sys2Proof.Machine.execGuestWdtExpiry sp g s
  | .worldRestart c g => Sys2Proof.Machine.execWorldRestart c g s
  | .guestImageLoaded sp g digest => Sys2Proof.Machine.execGuestImageLoaded sp g digest s
  | .gateFlip sp core => Sys2Proof.Machine.execGateFlip sp core s
  | .gateWrWrite sp core => Sys2Proof.Machine.execGateWrWrite sp core s
  | .gateWrClear sp core => Sys2Proof.Machine.execGateWrClear sp core s
  | .add p rd rs1 rs2 => Sys2Proof.Machine.execAdd p rd rs1 rs2 s
  | .sub p rd rs1 rs2 => Sys2Proof.Machine.execSub p rd rs1 rs2 s
  | .andOp p rd rs1 rs2 => Sys2Proof.Machine.execAndOp p rd rs1 rs2 s
  | .orOp p rd rs1 rs2 => Sys2Proof.Machine.execOrOp p rd rs1 rs2 s
  | .xorOp p rd rs1 rs2 => Sys2Proof.Machine.execXorOp p rd rs1 rs2 s
  | .andn p rd rs1 rs2 => Sys2Proof.Machine.execAndn p rd rs1 rs2 s
  | .shl p rd rs1 rs2 => Sys2Proof.Machine.execShl p rd rs1 rs2 s
  | .shr p rd rs1 rs2 => Sys2Proof.Machine.execShr p rd rs1 rs2 s
  | .sar p rd rs1 rs2 => Sys2Proof.Machine.execSar p rd rs1 rs2 s
  | .cmpeq p rd rs1 rs2 => Sys2Proof.Machine.execCmpeq p rd rs1 rs2 s
  | .cmplt p rd rs1 rs2 => Sys2Proof.Machine.execCmplt p rd rs1 rs2 s
  | .cmpltu p rd rs1 rs2 => Sys2Proof.Machine.execCmpltu p rd rs1 rs2 s
  | .minOp p rd rs1 rs2 => Sys2Proof.Machine.execMinOp p rd rs1 rs2 s
  | .minu p rd rs1 rs2 => Sys2Proof.Machine.execMinu p rd rs1 rs2 s
  | .maxOp p rd rs1 rs2 => Sys2Proof.Machine.execMaxOp p rd rs1 rs2 s
  | .maxu p rd rs1 rs2 => Sys2Proof.Machine.execMaxu p rd rs1 rs2 s
  | .mul p rd rs1 rs2 => Sys2Proof.Machine.execMul p rd rs1 rs2 s
  | .mulhs p rd rs1 rs2 => Sys2Proof.Machine.execMulhs p rd rs1 rs2 s
  | .mulhu p rd rs1 rs2 => Sys2Proof.Machine.execMulhu p rd rs1 rs2 s
  | .quo p rd rs1 rs2 => Sys2Proof.Machine.execQuo p rd rs1 rs2 s
  | .quou p rd rs1 rs2 => Sys2Proof.Machine.execQuou p rd rs1 rs2 s
  | .modOp p rd rs1 rs2 => Sys2Proof.Machine.execModOp p rd rs1 rs2 s
  | .modu p rd rs1 rs2 => Sys2Proof.Machine.execModu p rd rs1 rs2 s
  | .add32 p rd rs1 rs2 => Sys2Proof.Machine.execAdd32 p rd rs1 rs2 s
  | .sub32 p rd rs1 rs2 => Sys2Proof.Machine.execSub32 p rd rs1 rs2 s
  | .addk p rd rs1 imm => Sys2Proof.Machine.execAddk p rd rs1 imm s
  | .andk p rd rs1 imm => Sys2Proof.Machine.execAndk p rd rs1 imm s
  | .ork p rd rs1 imm => Sys2Proof.Machine.execOrk p rd rs1 imm s
  | .xork p rd rs1 imm => Sys2Proof.Machine.execXork p rd rs1 imm s
  | .cmpltk p rd rs1 imm => Sys2Proof.Machine.execCmpltk p rd rs1 imm s
  | .cmpltuk p rd rs1 imm => Sys2Proof.Machine.execCmpltuk p rd rs1 imm s
  | .shlk p rd rs1 sh => Sys2Proof.Machine.execShlk p rd rs1 sh s
  | .shrk p rd rs1 sh => Sys2Proof.Machine.execShrk p rd rs1 sh s
  | .sark p rd rs1 sh => Sys2Proof.Machine.execSark p rd rs1 sh s
  | .hik p rd imm => Sys2Proof.Machine.execHik p rd imm s
  | .pck p rd imm => Sys2Proof.Machine.execPck p rd imm s
  | .ld64 p rd rs1 imm => Sys2Proof.Machine.execLd64 p rd rs1 imm s
  | .ld32s p rd rs1 imm => Sys2Proof.Machine.execLd32s p rd rs1 imm s
  | .ld32u p rd rs1 imm => Sys2Proof.Machine.execLd32u p rd rs1 imm s
  | .ld16s p rd rs1 imm => Sys2Proof.Machine.execLd16s p rd rs1 imm s
  | .ld16u p rd rs1 imm => Sys2Proof.Machine.execLd16u p rd rs1 imm s
  | .ld8s p rd rs1 imm => Sys2Proof.Machine.execLd8s p rd rs1 imm s
  | .ld8u p rd rs1 imm => Sys2Proof.Machine.execLd8u p rd rs1 imm s
  | .st64 p rd rs1 imm => Sys2Proof.Machine.execSt64 p rd rs1 imm s
  | .st32 p rd rs1 imm => Sys2Proof.Machine.execSt32 p rd rs1 imm s
  | .st16 p rd rs1 imm => Sys2Proof.Machine.execSt16 p rd rs1 imm s
  | .st8 p rd rs1 imm => Sys2Proof.Machine.execSt8 p rd rs1 imm s
  | .breq p rs1 rs2 off => Sys2Proof.Machine.execBreq p rs1 rs2 off s
  | .brne p rs1 rs2 off => Sys2Proof.Machine.execBrne p rs1 rs2 off s
  | .brlt p rs1 rs2 off => Sys2Proof.Machine.execBrlt p rs1 rs2 off s
  | .brge p rs1 rs2 off => Sys2Proof.Machine.execBrge p rs1 rs2 off s
  | .brltu p rs1 rs2 off => Sys2Proof.Machine.execBrltu p rs1 rs2 off s
  | .brgeu p rs1 rs2 off => Sys2Proof.Machine.execBrgeu p rs1 rs2 off s
  | .jmp p off => Sys2Proof.Machine.execJmp p off s
  | .call p off => Sys2Proof.Machine.execCall p off s
  | .callr p rs1 => Sys2Proof.Machine.execCallr p rs1 s
  | .ret p rs1 => Sys2Proof.Machine.execRet p rs1 s
  | .jmpr p rs1 => Sys2Proof.Machine.execJmpr p rs1 s
  | .bfx p rd rs1 pos wm1 => Sys2Proof.Machine.execBfx p rd rs1 pos wm1 s
  | .bfxs p rd rs1 pos wm1 => Sys2Proof.Machine.execBfxs p rd rs1 pos wm1 s
  | .bfi p rd rs1 pos wm1 => Sys2Proof.Machine.execBfi p rd rs1 pos wm1 s
  | .clz p rd rs1 => Sys2Proof.Machine.execClz p rd rs1 s
  | .clzw p rd rs1 => Sys2Proof.Machine.execClzw p rd rs1 s
  | .bprm p rd rs1 rs2 => Sys2Proof.Machine.execBprm p rd rs1 rs2 s
  | .wfe p => Sys2Proof.Machine.execWfe p s
  | .wfeWake p => Sys2Proof.Machine.execWfeWake p s
  | .sev p => Sys2Proof.Machine.execSev p s
  | .waitc p rd rs1 rs2 => Sys2Proof.Machine.execWaitc p rd rs1 rs2 s
  | .waitcWake p => Sys2Proof.Machine.execWaitcWake p s
  | .scall p n => Sys2Proof.Machine.execScall p n s
  | .hcall p => Sys2Proof.Machine.execHcall p s
  | .tret p => Sys2Proof.Machine.execTret p s
  | .mfsr p rd n => Sys2Proof.Machine.execMfsr p rd n s
  | .mtsr p n rs1 => Sys2Proof.Machine.execMtsr p n rs1 s
  | .mfw p rd n => Sys2Proof.Machine.execMfw p rd n s
  | .mtw p n rs1 => Sys2Proof.Machine.execMtw p n rs1 s
  | .fence p => Sys2Proof.Machine.execFence p s
  | .interruptTaken p n => Sys2Proof.Machine.execInterruptTaken p n s
  | .htcmpTimer p => Sys2Proof.Machine.execHtcmpTimer p s
  | .pierCoreRestart sp m core => Sys2Proof.Machine.execPierCoreRestart sp m core s
  | .norProgramDone sp ok => Sys2Proof.Machine.execNorProgramDone sp ok s
  | .norEraseDone sp bad => Sys2Proof.Machine.execNorEraseDone sp bad s
  | .flushLate sp => Sys2Proof.Machine.execFlushLate sp s
  | .supersededReclaim sp area sector => Sys2Proof.Machine.execSupersededReclaim sp area sector s
  | .fuseRead sp => Sys2Proof.Machine.execFuseRead sp s
  | .fuseScan sp changed => Sys2Proof.Machine.execFuseScan sp changed s
  | .fuseScanPeriodic sp changed => Sys2Proof.Machine.execFuseScanPeriodic sp changed s
  | .lcChallenge c => Sys2Proof.Machine.execLcChallenge c s
  | .lcTransition c req => Sys2Proof.Machine.execLcTransition c req s
  | .dbgPresent c cert => Sys2Proof.Machine.execDbgPresent c cert s
  | .sysrefLost d => Sys2Proof.Machine.execSysrefLost d s
  | .sysrefRestored d => Sys2Proof.Machine.execSysrefRestored d s
  | .pcieRefclkLost sp => Sys2Proof.Machine.execPcieRefclkLost sp s
  | .serdesLockFail sp n => Sys2Proof.Machine.execSerdesLockFail sp n s
  | .queuePop sp => Sys2Proof.Machine.execQueuePop sp s
  | .reportIntake sp => Sys2Proof.Machine.execReportIntake sp s
  | .quotaWindowRoll d => Sys2Proof.Machine.execQuotaWindowRoll d s
  | .hubReportArrival sp => Sys2Proof.Machine.execHubReportArrival sp s
  | .reportDrain sp => Sys2Proof.Machine.execReportDrain sp s
  | .errRead c sp e count => Sys2Proof.Machine.execErrRead c sp e count s
  | .errAck c mask => Sys2Proof.Machine.execErrAck c mask s
  | .poeClassification straps granted => Sys2Proof.Machine.execPoeClassification straps granted s
  | .holdCharged => Sys2Proof.Machine.execHoldCharged s
  | .uvlo => Sys2Proof.Machine.execUvlo s
  | .inputSourceChange source => Sys2Proof.Machine.execInputSourceChange source s
  | .pfwAssert => Sys2Proof.Machine.execPfwAssert s
  | .pfwRelease => Sys2Proof.Machine.execPfwRelease s
  | .pwrTelemetry t => Sys2Proof.Machine.execPwrTelemetry t s
  | .supervisorStart vbakOk => Sys2Proof.Machine.execSupervisorStart vbakOk s
  | .spanBoot sp half changed => Sys2Proof.Machine.execSpanBoot sp half changed s
  | .joinTimeout sp => Sys2Proof.Machine.execJoinTimeout sp s
  | .moduleReset => Sys2Proof.Machine.execModuleReset s
  | .spanReset sp => Sys2Proof.Machine.execSpanReset sp s
  | .blockReset sp mask => Sys2Proof.Machine.execBlockReset sp mask s
  | .sbSpanReset c sp => Sys2Proof.Machine.execSbSpanReset c sp s
  | .sbFwStage c image => Sys2Proof.Machine.execSbFwStage c image s
  | .fwBankVerified okA okB => Sys2Proof.Machine.execFwBankVerified okA okB s
  | .sbFwUpdate c digest => Sys2Proof.Machine.execSbFwUpdate c digest s
  | .fwUpdateStepAdvance => Sys2Proof.Machine.execFwUpdateStepAdvance s
  | .fwUpdateTimeout => Sys2Proof.Machine.execFwUpdateTimeout s
  | .monHello => Sys2Proof.Machine.execMonHello s
  | .monBye => Sys2Proof.Machine.execMonBye s
  | .monBaud rate => Sys2Proof.Machine.execMonBaud rate s
  | .monBaudApply => Sys2Proof.Machine.execMonBaudApply s
  | .monBreak framing => Sys2Proof.Machine.execMonBreak framing s
  | .monSessionExpiry => Sys2Proof.Machine.execMonSessionExpiry s
  | .monInfo => Sys2Proof.Machine.execMonInfo s
  | .monSrc sp source => Sys2Proof.Machine.execMonSrc sp source s
  | .monMem sp g ipa len => Sys2Proof.Machine.execMonMem sp g ipa len s
  | .monHalt sp core => Sys2Proof.Machine.execMonHalt sp core s
  | .monHaltEffect sp core => Sys2Proof.Machine.execMonHaltEffect sp core s
  | .monStep sp core n => Sys2Proof.Machine.execMonStep sp core n s
  | .monGo sp core => Sys2Proof.Machine.execMonGo sp core s
  | .monRegs sp core => Sys2Proof.Machine.execMonRegs sp core s
  | .monTrace sp core first count => Sys2Proof.Machine.execMonTrace sp core first count s
  | .monFuse sp word => Sys2Proof.Machine.execMonFuse sp word s
  | .monFprog sp word v => Sys2Proof.Machine.execMonFprog sp word v s
  | .monRushesOn sp source => Sys2Proof.Machine.execMonRushesOn sp source s
  | .monRushesOff sp => Sys2Proof.Machine.execMonRushesOff sp s
  | .monRushesRead sp off len => Sys2Proof.Machine.execMonRushesRead sp off len s
  | .hubLinkDown sp => Sys2Proof.Machine.execHubLinkDown sp s
  | .hubLinkUp sp => Sys2Proof.Machine.execHubLinkUp sp s
  | .aonLoss => Sys2Proof.Machine.execAonLoss s
  | .tlsConnectionReset conn => Sys2Proof.Machine.execTlsConnectionReset conn s
  | .fuseProgramDone sp norm low high => Sys2Proof.Machine.execFuseProgramDone sp norm low high s
  | .takeSlotEnd sp core => Sys2Proof.Machine.execTakeSlotEnd sp core s
  | .inputSample cases sns mesh => Sys2Proof.Machine.execInputSample cases sns mesh s

end Sys2Proof.Machine
end

