-- ==== Sys2Proof/Safety.lean ====
section
/-!
DEFINITION. What counts as a consistent state, in the terms that statements use: the canonical forms of the sparse lists that stand for register
blocks and memories, when an access reaches a register, and what a write makes of one bit.
-/

namespace Sys2Proof.Machine

/-! ### Canonical form -/

/-- The registers of both spans and the TMP registers are in canonical form: addresses rise, and none holds its reset value. -/
def State.regsCanonical (s : State) : Bool :=
  sparseWf resetWord none s.a.regs && sparseWf resetWord none s.b.regs && sparseWf resetWord none s.hub.regs

/-- The memories of both spans and of the supervisor are in canonical form: addresses rise, and no byte that reads zero is listed. -/
def State.memCanonical (s : State) : Bool := s.a.worlds.mem.wf && s.b.worlds.mem.wf && s.hub.supMem.wf

/-- The state is in canonical form, so that equal registers and memories are equal data. -/
def State.canonical (s : State) : Bool := s.regsCanonical && s.memCanonical

/-! ### Register accesses -/

/-- An access of a master to an offset of the window passes its checks, and carries a world. -/
def State.reaches (s : State) (sp : SpanId) (m : Master) (k : AccessKind) (off world : Nat) : Prop :=
  ∀ f : Nat → State, s.access sp m k off f = f world

/-- What a bit of a field holds after a write, by its access code (R5). -/
def Access.written (a : Access) (new old : Bool) : Bool :=
  match a with
  | .rw => new
  | .w1c => old && !new
  | .w1s => old || new
  | .wo | .ro | .rc => old

/-- A register that a write changes by its access codes alone: VLT, CNT, TMP, NVS, LCS, PWR and MON, and those of RNG and ERR but `RNG_CTRL` and
`ERR_Q_POP`; no half of a pair. -/
def plainRegister (off : Nat) : Bool :=
  !isLo off && !isHi off &&
    ([3, 5, 7, 10, 12, 14, 16].contains (off / 0x10000) || (off / 0x10000 == 6 && off != Reg.rngCtrl) || (off / 0x10000 == 8 && off != Reg.errQPop))

/-- A register whose reads show what it holds: no half of a pair, in a block that has no live words, and no count that ages
or grows with time. -/
def storedRegister (off : Nat) : Bool :=
  !isLo off && !isHi off && !decide (Reg.rngSrcnFails 0 ≤ off ∧ off < Reg.rngSrcnFails 4) && off != Reg.rngRushesCount && [6, 7, 10, 11, 12, 14, 15, 16, 17, 18].contains (off / 0x10000)

/-! ### Kinds of commands -/

/-- The commands that the keystone span decides when it orders them (R16, R262): the caller, the opcode and the decision asked for. -/
def lateCommand : Instr → Option (Caller × Nat × KCmd)
  | .sbStage c img => some (c, 0x0501, .sbStage img)
  | .sbSign c e => some (c, 0x0502, .sbSign e)
  | .sbApply c t => some (c, 0x0503, .sbApply t)
  | .sbWithdraw c e => some (c, 0x0504, .sbWithdraw e)
  | .osClose c id => some (c, 0x0603, .sessionClose id 1)
  | .propSubmit c owner body sig => some (c, 0x0611, .propSubmit owner body sig)
  | .propVote c pid v sig => some (c, 0x0612, .propVote pid v sig)
  | .propWithdraw c pid => some (c, 0x0613, .propWithdraw pid)
  | .cerBegin c pid => some (c, 0x0621, .cerBegin pid)
  | .cerRenew c lock => some (c, 0x0622, .cerRenew lock)
  | .cerStep c lock idx q => some (c, 0x0623, .cerStep lock idx q)
  | .cerEnd c lock => some (c, 0x0624, .cerEnd lock)
  | .logExport c first => some (c, 0x0631, .logExport first)
  | .logAck c seq hash producer time sig => some (c, 0x0633, .logAck seq hash producer time sig)
  | .errAck c mask => some (c, 0x0A03, .errAck mask)
  | _ => none

/-- The commands that R64 places under quorum, with their caller. -/
def quorumCommand : Instr → Option (Caller × QCmd)
  | .keyGenerate c a => some (c, .keyGenerate a)
  | .keyImportSealed c a => some (c, .keyImportSealed a)
  | .keyUnwrap c a => some (c, .keyUnwrap a)
  | .keyDerive c a => some (c, .keyDerive a)
  | .keySetUsage c h u f => some (c, .keySetUsage h u f)
  | .keySetState c h v => some (c, .keySetState h v)
  | .keyDestroy c h => some (c, .keyDestroy h)
  | .ctrCreate c i l b => some (c, .ctrCreate i l b)
  | .ctrDestroy c h => some (c, .ctrDestroy h)
  | .ctxConfig c a => some (c, .ctxConfig a)
  | .ctxKeyLoad c a => some (c, .ctxKeyLoad a)
  | .ctxKeyClear c n b => some (c, .ctxKeyClear n b)
  | .ctxCommit c n => some (c, .ctxCommit n)
  | .ctxActivate c n => some (c, .ctxActivate n)
  | .ctxSuspend c n => some (c, .ctxSuspend n)
  | .ctxResume c n => some (c, .ctxResume n)
  | .ctxDrain c n => some (c, .ctxDrain n)
  | .sbKeystonePref c p => some (c, .sbKeystonePref p)
  | .sbSpanReset c p => some (c, .sbSpanReset p)
  | .sbFwUpdate c d => some (c, .sbFwUpdate d)
  | .worldRestart c g => some (c, .worldRestart g)
  | _ => none

/-- A command has been admitted: its door has started it with these values for its input, and nothing bars it (R192, R246). -/
def State.admitted (s : State) (c : Caller) (op : Nat) (vals : List (Option (List Byte))) (res : List Resource) : Prop :=
  s.started c op vals = true ∧ s.bars c op res = none

/-- A span orders changes now and has room for `n` slates and a GENESIS: it holds the lease, nothing holds its ordering, and the slate log is above its
floor. -/
def State.ordering (s : State) (k : SpanId) (n : Nat) : Bool :=
  ((s.span k).cont.mode == .keystone || (s.span k).cont.mode == .solo) && s.mayOrder k && logMode (s.span k).orderedFree != .floor &&
    decide (n < (s.span k).orderedFree)

/-- The random bytes with which a span decides a command, and the state in which it decides (R262): its request waits no more. -/
def State.asked (s : State) (sp : SpanId) (c : Caller) (k : KCmd) : Option (List Byte × State) :=
  (s.decisionBytes sp k).map fun r => (r.1, r.2.waitOver sp (.cmd c))

/-- The subjects that a command reads are in the ordered state as they are in the committed one (R262). -/
def State.currentFor (s : State) (sp : SpanId) (k : KCmd) : Prop :=
  s.versionsHold sp (((s.span sp).rep.readSubjects k).map fun y => (y, (s.span sp).version y)) = true

/-- The records that a span has committed, oldest first: those that have left its journal, and those that it still holds (R261). -/
def Cont.records (c : Cont) : List Record := c.settled ++ c.journal

/-- One record has been formed on a span as R262 says, and nothing else of what the span has ordered changed: the next CSN, the term, the epoch and the
time of the span, and a change with the given deltas and slates (a GENESIS slate comes before the first slate of a log). -/
def State.formsRecord (s t : State) (k : SpanId) (deltas : List Delta) (slates : List SlateReq) (status : Status) : Prop :=
  ∃ r : Record, (t.span k).cont.open_ = (s.span k).cont.open_ ++ [r] ∧ (t.span k).cont.lastCsn = (s.span k).cont.lastCsn + 1 ∧
    (t.span k).cont.journal = (s.span k).cont.journal ∧ (t.span k).cont.csn = (s.span k).cont.csn ∧
    r.csn = (s.span k).cont.lastCsn + 1 ∧ r.term = (s.span k).cont.term ∧ r.epoch = (s.span k).rep.epoch ∧ r.time = s.now k ∧
    r.committedThrough = (s.span k).cont.csn ∧ r.change.deltas = deltas ∧ r.change.status = status ∧
    (r.change.slates = slates ∨ ∃ g, r.change.slates = g :: slates ∧ g.kind = 0x0401) ∧
    (t.deck = s.deck ∨ t.deck = s.deck ++ [(k.other, .record r)])

/-- The error policy in force answers a source of a span with a report alone (R411). -/
def State.onlyReports (s : State) (sp : SpanId) (src : Nat) : Prop := Action.ofCode ((s.span sp).rep.config.errorPolicy src).1 = .report

/-- A source of a span has been raised once more (R407). -/
def State.raised (s t : State) (sp : SpanId) (src : Nat) : Prop :=
  (srcGet src (t.span sp).err.srcs).count = satInc32 (srcGet src (s.span sp).err.srcs).count 1

/-! ### The monitor -/

/-- A command that the monitor sends, if it does, is executed: the supervisor runs its firmware, no line waits, a session is open, and the part is not in SCRAP. -/
def State.lineRuns (s : State) (c : Caller) : Prop :=
  c.origin = .monitor → s.hub.sup.running = true ∧ s.lineBusy = false ∧ s.hub.monitor.session ≠ none ∧ s.hub.sup.romOnly = false ∧ s.lcState ≠ 5

/-- A line of the monitor about a span is executed: the supervisor runs its firmware, a session is open, no line waits, and the span's hub link is up. -/
def State.monReady (s : State) (sp : SpanId) : Prop :=
  s.hub.sup.running = true ∧ s.lineBusy = false ∧ s.hub.monitor.session ≠ none ∧ s.hub.sup.romOnly = false ∧ (s.span sp).cont.hubLink = true

/-- The state in which a line about a span has been counted in its `MON_LINES`. -/
def State.lined (s : State) (sp : SpanId) : State := s.lineFor (s.monCaller sp) sp

/-! ### Cores -/

/-- A core executes the instruction that it is given: it exists, is not stopped, asleep or halted, its guest's run period goes on, and it may fetch at its PC. -/
def State.runs (s : State) (i : CoreId) : Prop :=
  s.canRun i = true ∧ s.a.worlds.cores.length = 6 ∧ s.b.worlds.cores.length = 6 ∧ ∃ pa, s.reachMem i .fetch (s.core i).v.pc.toNat 4 = .ok pa

/-- Nothing changed but one core, the registers of the PIER block, and the count of a STEP that the monitor waits for: every other core, every register of
another block, all replicated state, the deck, the guests and the time stand as they were. -/
def State.onlyCore (s t : State) (i : CoreId) : Prop :=
  (∀ j, j ≠ i → t.core j = s.core j) ∧ (∀ sp off, off / 0x10000 ≠ 0x11 → t.reg sp off = s.reg sp off) ∧
    (∀ sp : SpanId, (t.span sp).rep = (s.span sp).rep ∧ (t.span sp).cont = (s.span sp).cont ∧
      (t.span sp).worlds.guests = (s.span sp).worlds.guests ∧ (t.span sp).host = (s.span sp).host) ∧
    t.deck = s.deck ∧ t.elapsed = s.elapsed ∧ t.pending = s.pending

/-- No byte of any core's memory changed. -/
def State.sameMemory (s t : State) : Prop := ∀ j, t.memOf j = s.memOf j

/-- The core as an instruction leaves it that writes one register and goes on to the next instruction. -/
def PierCore.wrote (x : PierCore) (rd : BitVec 5) (w : Word64) : PierCore :=
  let y := x.setReg rd.toNat w
  { y with v := { y.v with pc := x.v.pc + 4 } }

/-- An instruction of a core completes with a value in its destination register, and changes nothing else. -/
def State.yields (s : State) (i : CoreId) (c : Instr) (rd : BitVec 5) (w : Word64) : Prop :=
  ∃ t, exec c s = .next t ∧ t.core i = (s.core i).wrote rd w ∧ s.onlyCore t i ∧ s.sameMemory t

/-- An instruction of a core completes, leaves the core as given, and changes no memory. -/
def State.becomes (s : State) (i : CoreId) (c : Instr) (y : PierCore) : Prop :=
  ∃ t, exec c s = .next t ∧ t.core i = y ∧ s.onlyCore t i ∧ s.sameMemory t

/-- A core has entered level `l` for an exception as R356 says: the trap registers of the level hold the status, the return address, the window base, the
cause and the address; the level is `l` with interrupts off, PC is at the vector, and the window begins at the next multiple of 6 above the interrupted one. -/
def State.entered (s t : State) (i : CoreId) (l : Nat) (c : Cause) (imm : Nat) (ret addr : Word64) : Prop :=
  let x := s.core i
  let y := t.core i
  let vec := (x.trap l).vec
  y.trap l = ⟨vec, BitVec.ofNat 64 (x.v.level + 4 * boolNat x.v.ie), ret, BitVec.ofNat 64 x.v.wcwp, BitVec.ofNat 64 (c.code + 128 * imm), addr⟩ ∧
    y.v.level = l ∧ y.v.ie = false ∧ y.v.wcwp = (x.v.wcwp + 21) / 6 * 6 % 96 ∧ y.v.lk = x.v.lk ∧ y.v.globals = x.v.globals ∧
    y.v.pc = vec - BitVec.ofNat 64 (vec.toNat % 256) + (if c.isInterrupt then 0x80 else if x.v.level = l then 0 else 0x40) ∧
    (∀ k, k ≠ l → 1 ≤ k → k ≤ 2 → 1 ≤ l → l ≤ 2 → y.trap k = x.trap k)

/-- The window of an exception entry fits without a spill. -/
def VCore.entryFits (v : VCore) : Prop := v.wres + ((v.wcwp + 21) / 6 * 6 - v.wcwp) ≤ 96

/-! ### Lanes -/

/-- The next command of the job of a guest's lane is `c`, with opcode `op`, and the lane is in one of some modes. -/
def State.laneAt (s : State) (sp : SpanId) (k op : Nat) (modes : List LaneMode) (c : LaneCmd) : Prop :=
  k < 8 ∧ (s.span sp).lanes.length = 8 ∧ (s.lane sp k).mode ∈ modes ∧ (s.lane sp k).next = some c ∧ c.opcode = op ∧
    sparseWf (fun _ => 0) none (s.lane sp k).slots = true ∧ (s.lane sp k).vault = none

/-- The next command of a lane is `c`, and its first run has come to no STORE: those are the last commands of a job (R199). -/
def State.laneOp (s : State) (sp : SpanId) (k op : Nat) (modes : List LaneMode) (c : LaneCmd) : Prop :=
  s.laneAt sp k op modes c ∧ ((s.lane sp k).mode ≠ .runSecond → (s.lane sp k).staging = [])

/-- The next command of a lane in one of its runs is `c`, with opcode `op`, in a group that fits it. -/
def State.laneRuns (s : State) (sp : SpanId) (k op : Nat) (c : LaneCmd) (g : Group) : Prop :=
  s.laneOp sp k op [.runFirst, .runSecond] c ∧ (s.lane sp k).groupOf c = some g ∧ c.groupBad g = false

/-- The command of a lane has put a value into a slot, and changed no other slot, no other lane, no key and no memory. -/
def State.slotWritten (s t : State) (sp : SpanId) (k i v : Nat) : Prop :=
  (t.lane sp k).slot i = v ∧ (∀ j, j ≠ i → (t.lane sp k).slot j = (s.lane sp k).slot j) ∧ (∀ j, j ≠ k → t.lane sp j = s.lane sp j) ∧
    (t.span sp).worlds = (s.span sp).worlds ∧ (t.span sp).rep = (s.span sp).rep

/-- The job of a lane has gone into its wipe with a status, and its slots are as they were. -/
def State.laneEnds (s t : State) (sp : SpanId) (k : Nat) (st : Status) : Prop :=
  (t.lane sp k).mode = .wiping ∧ (t.lane sp k).endStatus = st ∧ (t.lane sp k).release = decide (st = .ok) ∧
    ∀ j, (t.lane sp k).slot j = (s.lane sp k).slot j

/-- Every byte of some staged stores lies where the owner of a lane may write. -/
def State.mayRelease (s : State) (sp : SpanId) (k : Nat) (l : List Staging) : Prop :=
  ∀ x ∈ l, ∀ i < 8 * x.limbs, (s.lanePa sp k (x.addr + i) .write).isSome = true

/-- The memory of a span after staged stores have been released, in their order: the bytes of each value at the physical addresses of its window. -/
def State.memAfter (s : State) (sp : SpanId) (k : Nat) (l : List Staging) : Memory :=
  l.foldl (fun m x => (leBytes (8 * x.limbs) x.value).zipIdx.foldl (fun m b =>
    m.write ((s.lanePa sp k (x.addr + b.2) .write).getD 0) b.1) m) (s.span sp).worlds.mem

/-- What R202 requires of the modulus of a group: odd, within its limbs, with its P_INV and RHO2. -/
def Group.modulusOk (g : Group) : Prop :=
  g.p % 2 = 1 ∧ 1 < g.p ∧ g.p < 2 ^ (64 * g.limbs) ∧ (g.p * g.pInv + 1) % 2 ^ 64 = 0 ∧ g.rho2 = 2 ^ (128 * g.limbs) % g.p

end Sys2Proof.Machine
end

