-- ==== Sys2Proof/Certificates/Slice0/Obligations.lean ====
section
/-!
DEFINITION. The statements for the provers.
-/

open Sys2Proof Sys2Proof.Machine

/-! ### The machine -/

/-- The state after reset is in canonical form. -/
def Obligations.ResetIsCanonical : Prop :=
  State.reset.canonical = true

/-- Every step, whatever command it takes, keeps the registers and the memories in canonical form: it is no fact about runs from reset. -/
def Obligations.EveryStepKeepsCanonicalForm : Prop :=
  ∀ s t : State, s.canonical = true → step s = .next t → t.canonical = true

/-- No state stops the module: every step, on any command at all or on none, answers a next state. -/
def Obligations.EveryStepAnswersNext : Prop :=
  ∀ s : State, ∃ t, step s = .next t

/-- A step runs the command at the front of the queue on the state with the queue's rest; with an empty queue one tick of TBCLK passes (the model's
choice, log entry 2). -/
def Obligations.StepRunsFrontCommand : Prop :=
  (∀ (c : Instr) (rest : List Instr) (s : State), s.pending = c :: rest → step s = exec c { s with pending := rest }) ∧
  (∀ s : State, s.pending = [] → step s = .next s.tick ∧ s.tick.elapsed = s.elapsed + 8)

/-- After reset, each register reads the value of its Reset column; both spans are JOINING, at epoch 0 with no scene, object, counter, session,
proposal, lock or slate, their deck and hub links are down, no DRBG is instantiated, every lane is idle, and no command waits. -/
def Obligations.ResetLeavesResetValues : Prop :=
  (∀ (sp : SpanId) (off : Nat), State.reset.reg sp off = resetWord off) ∧
  (∀ sp : SpanId, let x := State.reset.span sp
    x.cont.mode = .joining ∧ x.cont.deckUp0 = false ∧ x.cont.deckUp1 = false ∧ x.cont.hubLink = false ∧ x.rep.epoch = 0 ∧ x.rep.config = [] ∧
      x.rep.objs = [] ∧ x.rep.ctrs = [] ∧ x.rep.sessions = [] ∧ x.rep.props = [] ∧ x.rep.locks = [] ∧ x.rep.log.entries = [] ∧
      x.entropy.d0.seeded = false ∧ x.entropy.d1.seeded = false ∧ x.entropy.d2.seeded = false ∧ x.stream.active = ⟨[], []⟩ ∧
      x.lanes.length = 8 ∧ ∀ l ∈ x.lanes, l.mode = .idle ∧ l.slots = [] ∧ l.groups = [] ∧ l.acc = 0) ∧
  State.reset.pending = []

/-! ### Registers -/

/-- A write that reaches a register with no behaviour of its own changes that register alone, bit by bit as the access code of its field says; a
write to an offset that no register occupies is discarded.
A read of a register that shows what it holds puts the word out with its write-only bits zero, clears its RC bits, and changes nothing else.
Completions stated here: REGISTER_WRITE, RC_READ. -/
def Obligations.RegistersFollowTheirAccessCodes : Prop :=
  (∀ (s : State) (sp : SpanId) (m : Master) (w off : Nat) (v : Word32),
    s.reaches sp m .write off w → s.tmpGone sp off = false → plainRegister off = true →
      (fieldsAt off = [] → exec (.registerWrite sp m off v) s = .next s) ∧
      (fieldsAt off ≠ [] → ∃ x : Word32, exec (.registerWrite sp m off v) s = .next (s.setReg sp off x) ∧
        ∀ f ∈ fieldsAt off, ∀ i, f.lo ≤ i → i ≤ f.hi → x.getLsbD i = f.acc.written (v.getLsbD i) ((s.reg sp off).getLsbD i))) ∧
  (∀ (s : State) (sp : SpanId) (m : Master) (w off : Nat),
    s.regsCanonical = true → s.reaches sp m .read off w → s.tmpGone sp off = false → storedRegister off = true →
    s.shadowOf sp m off = none → m.fnNo = 0 → fieldsAt off ≠ [] →
      ∃ (v : Word32) (t : State), exec (.rcRead sp m off) s = .next (t.emit (.readData sp off v.toNat)) ∧
        (∀ f ∈ fieldsAt off, ∀ i, f.lo ≤ i → i ≤ f.hi →
          v.getLsbD i = ((s.reg sp off).getLsbD i && f.acc != .wo) ∧
          (t.reg sp off).getLsbD i = ((s.reg sp off).getLsbD i && f.acc != .rc)) ∧
        (t = s ∨ t = s.setReg sp off (t.reg sp off)))

/-- A read of the `_LO` half of a pair copies the `_HI` half into the shadow of the master that reads; that master's next read of the `_HI` half
shows the copy, whatever the pair holds by then, and drops it; another master's shadow is left alone.
A write of the `_LO` half of a pair is held for the master that writes and changes no register; a write of the `_HI` half makes the held value and
the written one take effect together, on a pair whose registers have no behaviour of their own.
Completions stated here: LO_READ_SHADOW, LO_WRITE_HOLD, HI_WRITE_COMMIT. -/
def Obligations.PairsAreReadAndWrittenWhole : Prop :=
  (∀ (s : State) (sp : SpanId) (m : Master) (w off : Nat),
    s.reaches sp m .read off w → s.tmpGone sp off = false → isLo off = true → fieldsAt off ≠ [] → s.shadowOf sp m off = none →
      (∃ t, exec (.loReadShadow sp m off) s = .next t ∧ t.shadowOf sp m (off + 4) = some (s.liveWord sp m (off + 4)) ∧
        ∀ m' o, m' ≠ m → t.shadowOf sp m' o = s.shadowOf sp m' o) ∧
      (∀ (u : State) (x : Word32), u.reaches sp m .read (off + 4) w → u.tmpGone sp (off + 4) = false → fieldsAt (off + 4) ≠ [] →
        u.shadowOf sp m (off + 4) = some x →
          exec (.loReadShadow sp m (off + 4)) u = .next ((u.dropShadow sp m (off + 4)).emit (.readData sp (off + 4) x.toNat)))) ∧
  (∀ (s : State) (sp : SpanId) (m : Master) (w off : Nat) (v x : Word32),
    isLo off = true → writable off = true → s.tmpGone sp off = false →
    (s.reaches sp m .write off w →
      exec (.loWriteHold sp m off v) s =
        .next (s.upd sp fun y => { y with holds := (y.holds.filter fun z => !(z.1 == m && z.2.1 == off)) ++ [(m, off, v)] })) ∧
    (s.reaches sp m .write (off + 4) w → s.tmpGone sp (off + 4) = false →
      ((s.span sp).holds.find? fun z => z.1 == m && z.2.1 == off) = some (m, off, x) →
        let u := s.upd sp fun y => { y with holds := y.holds.filter fun z => !(z.1 == m && z.2.1 == off) }
        (off / 0x10000 = 1 → exec (.hiWriteCommit sp m (off + 4) v) s = .next ((u.plainWrite sp off x).plainWrite sp (off + 4) v)) ∧
        (off / 0x10000 = 17 →
          exec (.hiWriteCommit sp m (off + 4) v) s = .next ((u.plainWrite sp off (x &&& 0xFFFFFFFC)).plainWrite sp (off + 4) v))))

/-! ### The time base -/

/-- On a span that may set its time, a step written to `TB_STEP` moves the time by that much at the next tick, a set written by `TB_SET_SEC_HI`
replaces it then, and a slew is spread over its ticks, at most 1 ns to a tick, until SLEW_COMPLETE ends it; nothing else changes when they are written.
A follower measures its offset from the time master once a millisecond: `TB_PEER_OFFSET` holds it, a TIME message tells the master, the offset is
slewed out over 12,500 ticks to the nanosecond, QUALIFIED takes the master's value, and ALIGNED says on both spans whether the offset is at most 40 ns. A
span that rejoins slews an offset of at most 1 ms and takes the master's time and its QUALIFIED at a larger one. A TIME message that arrives shows the
master the same offset.
Completions stated here: TB_STEP, TB_SET, TB_SLEW, SLEW_COMPLETE, TB_PEER_MEASURE, TIME. -/
def Obligations.TimeIsSetSteppedSlewedAndFollowed : Prop :=
  (∀ (s : State) (sp : SpanId) (v : Word32), s.servoIgnored sp = false →
    (exec (.tbStep sp v) s = .next (s.upd sp fun x => { x with tb := { x.tb with step := some (x.tb.step.getD 0 + v.toInt) } }) ∧
      ((s.span sp).tb.step = none → (s.span sp).tb.set = none →
        ∀ t, exec (.tbStep sp v) s = .next t →
          (t.tickSpan sp).now sp = addSigned ((s.tickSpan sp).now sp) v.toInt % (2 ^ 48 * 1000000000))) ∧
    (∃ t, exec (.tbSet sp v) s = .next t ∧
      (s.regsCanonical = true → ∃ set, (t.span sp).tb = { (s.span sp).tb with set := some set } ∧
        set = (s.fld sp Fld.tbSetSecLoSec + 2 ^ 32 * (v.toNat % 2 ^ 16)) * 1000000000 + s.fld sp Fld.tbSetNsNs ∧
        (t.tickSpan sp).now sp = set % (2 ^ 48 * 1000000000))) ∧
    (max v.toNat (s.reg sp Reg.tbSlewNs).toInt.natAbs ≠ 0 →
      exec (.tbSlew sp v) s = .next
        (((s.setReg sp Reg.tbSlewTicks v).upd sp fun x => { x with tb := { x.tb with
          slew := some ⟨(s.reg sp Reg.tbSlewNs).toInt, max v.toNat (s.reg sp Reg.tbSlewNs).toInt.natAbs, 0, 0⟩ } }).setFld sp Fld.tbStatusSlewing 1)) ∧
    (∀ sl, (s.span sp).tb.slew = some sl → sl.ticks ≤ sl.gone →
      exec (.slewComplete sp) s = .next ((s.upd sp fun x => { x with tb := { x.tb with slew := none } }).setFld sp Fld.tbStatusSlewing 0))) ∧
  ((∀ (s : State) (sp : SpanId), s.regsCanonical = true → s.fld sp.other Fld.tbStatusTimeMaster = 1 →
    (∀ at_, (s.span sp).tb.measuredAt = some at_ → at_ + ms ≤ s.elapsed) →
      let d : Int := (s.now sp.other : Int) - (s.now sp : Int)
      ((s.span sp).cont.mode = .follower →
        ∃ t, exec (.tbPeerMeasure sp) s = .next t ∧ t.reg sp Reg.tbPeerOffset = offsetWord d ∧ t.deck = s.deck ++ [(sp.other, .time (s.now sp))] ∧
          (t.span sp).tb.slew = (if d = 0 then none else some ⟨d, d.natAbs * 12500, 0, 0⟩) ∧ t.now sp = s.now sp ∧
          t.fld sp Fld.tbStatusQualified = s.fld sp.other Fld.tbStatusQualified ∧
          t.fld sp Fld.tbStatusAligned = boolNat (decide (d.natAbs ≤ 40)) ∧ t.fld sp.other Fld.tbStatusAligned = boolNat (decide (d.natAbs ≤ 40))) ∧
      ((s.span sp).cont.mode = .rejoining →
        ∃ t, exec (.tbPeerMeasure sp) s = .next t ∧ t.reg sp Reg.tbPeerOffset = offsetWord d ∧ t.deck = s.deck ++ [(sp.other, .time (s.now sp))] ∧
          (d.natAbs ≤ ms → d ≠ 0 → (t.span sp).tb.slew = some ⟨d, d.natAbs * 12500, 0, 0⟩ ∧ t.now sp = s.now sp) ∧
          (ms < d.natAbs → t.now sp = s.now sp.other % (2 ^ 48 * 1000000000) ∧ (t.span sp).tb.slew = none ∧
            t.fld sp Fld.tbStatusQualified = s.fld sp.other Fld.tbStatusQualified))) ∧
  (∀ (s : State) (sp : SpanId) (m : SpanId × DeckMsg) (at_ : Nat), s.regsCanonical = true → (s.span sp).cont.deckUp = true →
    s.deck.find? (fun x => x.1 == sp && (match x.2 with | .time _ => true | _ => false)) = some m → m.2 = .time at_ →
      exec (.timeMsg sp) s =
        .next (({ s with deck := s.deck.erase m }).setReg sp Reg.tbPeerOffset (offsetWord ((at_ : Int) - (s.now sp : Int))))))

/-- QUALIFIED and the reference: a write of QUALIFY sets QUALIFIED where the span may set its time and waits for nothing, a write of UNQUALIFY clears a
set QUALIFIED with its event and a report of source 0x1C0, and the loss of a locked reference clears REF_LOCK with its event and a report of source
0x1C1 and leaves QUALIFIED as it was; an enabled edge of 1PPS is noted with its corrected time, the output rises at the tick nearest to a whole second and
falls after its width, and at the scheduled second the UTC offset changes once, each leaving the time base's count alone.
Completions stated here: TB_QUALIFY, TB_UNQUALIFY, TB_REF_LOST, UTC_OFFSET_CHANGE, PPS_IN_EDGE, PPS_OUT_RISE, PPS_OUT_FALL. -/
def Obligations.TimeBaseEventsFollowTheirRules : Prop :=
  ∀ (s : State) (sp : SpanId), s.regsCanonical = true →
    (s.servoIgnored sp = false → (s.span sp).boot.stage ≠ 9 → s.hub.tamper.gapOpen = false → s.hub.tamper.gap = [] →
      ∃ t, exec (.tbQualify sp) s = .next t ∧ t.fld sp Fld.tbStatusQualified = 1) ∧
    (s.servoIgnored sp = false → s.fld sp Fld.tbStatusQualified = 1 →
      ∃ t, exec (.tbUnqualify sp) s = .next t ∧ t.fld sp Fld.tbStatusQualified = 0 ∧ t.fld sp Fld.tbEvtQualLost = 1 ∧
        (srcGet 0x1C0 (t.span sp).err.srcs).count = satInc32 (srcGet 0x1C0 (s.span sp).err.srcs).count 1 ∧ (t.span sp).tb = (s.span sp).tb) ∧
    (s.fld sp Fld.tbCtrlRefSel ≠ 0 → s.fld sp Fld.tbStatusRefLock ≠ 0 →
      ∃ t, exec (.tbRefLost sp) s = .next t ∧ t.fld sp Fld.tbStatusRefLock = 0 ∧ t.fld sp Fld.tbEvtRefLost = 1 ∧
        t.fld sp Fld.tbStatusQualified = s.fld sp Fld.tbStatusQualified ∧
        (srcGet 0x1C1 (t.span sp).err.srcs).count = satInc32 (srcGet 0x1C1 (s.span sp).err.srcs).count 1 ∧ (t.span sp).tb = (s.span sp).tb) ∧
    (s.fld sp Fld.tbCtrlPpsInEn = 1 →
      ∃ t, exec (.ppsInEdge sp) s = .next t ∧ t.fld sp Fld.tbEvtPpsIn = 1 ∧
        t.fld sp Fld.tbPpsInNsNs = (s.now sp * 16 - (s.fld sp Fld.tbPpsInLatLat + 320)) / 16 % 1000000000 ∧ (t.span sp).tb = (s.span sp).tb) ∧
    (s.fld sp Fld.tbCtrlPpsOutEn = 1 → (s.span sp).tb.ppsFall = none → s.ppsDue sp = true →
      exec (.ppsOutRise sp) s = .next ((s.upd sp fun x => { x with tb := { x.tb with
        ppsFall := some (s.elapsed + 8 * s.fld sp Fld.tbPpsOutWidthTicks) } }).emit (.pps sp true))) ∧
    (∀ e, (s.span sp).tb.ppsFall = some e → e ≤ s.elapsed →
      exec (.ppsOutFall sp) s = .next ((s.upd sp fun x => { x with tb := { x.tb with ppsFall := none } }).emit (.pps sp false))) ∧
    (s.fld sp Fld.tbUtcAtSecLoSec ≠ 0 → (s.span sp).tb.sec % 2 ^ 32 = s.fld sp Fld.tbUtcAtSecLoSec →
      ∃ t, exec (.utcOffsetChange sp) s = .next t ∧ t.fld sp Fld.tbUtcOffsetOffset = s.fld sp Fld.tbUtcNextOffset ∧
        t.fld sp Fld.tbUtcAtSecLoSec = 0 ∧ t.fld sp Fld.tbEvtUtcChanged = 1 ∧ (t.span sp).tb = (s.span sp).tb)

/-! ### Commands and the change record -/

/-- A command that the keystone span decides (SB_STAGE, SB_SIGN, SB_APPLY, SB_WITHDRAW, OS_CLOSE, PROP_SUBMIT, PROP_VOTE, PROP_WITHDRAW, CER_BEGIN,
CER_RENEW, CER_STEP, CER_END, LOG_EXPORT, LOG_ACK, ERR_ACK), admitted by its door on the span that orders changes, completes there: where the decision
on the ordered state accepts it, one record is formed with what the decision gives, and sent to a peer that is present; a step that makes an asymmetric
key goes to a lane first.
A command under quorum (KEY_GENERATE, KEY_IMPORT_SEALED, KEY_UNWRAP, KEY_DERIVE, KEY_SET_USAGE, KEY_SET_STATE, KEY_DESTROY, CTR_CREATE, CTR_DESTROY,
the eight context commands, SB_KEYSTONE_PREF, SB_SPAN_RESET, SB_FW_UPDATE, WORLD_RESTART) completes from its approved proposal alone, as PROPOSAL_EXECUTE
does: the span that orders changes forms one record with what the execution gives; one that makes an asymmetric key goes to a lane first.
A command under quorum that a host function, a guest or the management service sends completes with `QUORUM_PENDING` and changes no replicated
state, once its span accepts commands at all.
Completions stated here: SB_STAGE, SB_SIGN, SB_APPLY, SB_WITHDRAW, OS_CLOSE, PROP_SUBMIT, PROP_VOTE, PROP_WITHDRAW, PROPOSAL_EXECUTE, CER_BEGIN,
CER_RENEW, CER_STEP, CER_END, LOG_EXPORT, LOG_ACK, CTX_CONFIG, CTX_KEY_LOAD, CTX_KEY_CLEAR, CTX_COMMIT, CTX_ACTIVATE, CTX_SUSPEND, CTX_RESUME,
CTX_DRAIN, KEY_GENERATE, KEY_IMPORT_SEALED, KEY_UNWRAP, KEY_DERIVE, KEY_SET_USAGE, KEY_SET_STATE, KEY_DESTROY, CTR_CREATE, CTR_DESTROY,
SB_KEYSTONE_PREF, WORLD_RESTART, ERR_ACK, SB_SPAN_RESET, SB_FW_UPDATE. -/
def Obligations.CommandsFormOneRecordOrAwaitQuorum : Prop :=
  (∀ (i : Instr) (c : Caller) (op : Nat) (kc : KCmd) (s s1 : State) (rnd : List Byte) (p : Prepared),
    lateCommand i = some (c, op, kc) → s.admitted c op kc.inputs kc.resources →
    ((s.span c.span).cont.mode = .keystone ∨ (s.span c.span).cont.mode = .solo) → (s.touch c).asked c.span c kc = some (rnd, s1) →
    ((s1.span c.span).rep.laneType kc = none → s1.ordering c.span p.slates.length = true → s1.currentFor c.span kc →
      (s1.ordered c.span).decideCmd c.span c kc rnd = .ok p →
        ∃ t, exec i s = .next t ∧ s1.formsRecord t c.span p.deltas p.slates p.status) ∧
    (∀ y, (s1.span c.span).rep.laneType kc = some y →
      ∃ t x, exec i s = .next t ∧ (t.span c.span).vault.jobs = (s1.span c.span).vault.jobs ++ [⟨c, 0, [], s1.elapsed, .change x y, some []⟩] ∧
        x.late = some kc ∧ x.rnd = some rnd ∧ (t.span c.span).cont = (s1.span c.span).cont)) ∧
  (∀ (i : Instr) (c : Caller) (q : QCmd) (pid : Nat) (k : SpanId) (x : Proposal) (s s1 : State) (rnd : List Byte) (p : Prepared),
    quorumCommand i = some (c, q) → c.origin = .proposal pid → s.keystone = some k → ((s.ordered k).span k).rep.prop pid = some x →
    x.state = .executing → x.body = .single q → (s.span k).executing pid = false → s.asked k (internalCaller k 0) (.propExecute pid) = some (rnd, s1) →
    ((s1.span k).rep.laneType (.propExecute pid) = none → s1.ordering k p.slates.length = true → s1.currentFor k (.propExecute pid) →
      (s1.ordered k).decideExecute k pid rnd = .ok p →
        ∃ t, exec i s = .next t ∧ exec (.proposalExecute pid) s = .next t ∧ s1.formsRecord t k p.deltas p.slates p.status) ∧
    (∀ y, (s1.span k).rep.laneType (.propExecute pid) = some y →
      ∃ t z, exec i s = .next t ∧ exec (.proposalExecute pid) s = .next t ∧
        (t.span k).vault.jobs = (s1.span k).vault.jobs ++ [⟨internalCaller k 0, 0, [], s1.elapsed, .change z y, some []⟩] ∧
        z.late = some (.propExecute pid) ∧ z.rnd = some rnd)) ∧
  (∀ (i : Instr) (c : Caller) (q : QCmd) (s : State),
    quorumCommand i = some (c, q) → (∀ pid, c.origin ≠ .proposal pid) → c.origin ≠ .monitor → s.started c q.opcode q.inputVals = true →
    s.isolated c.span = false → s.lcState ≠ 4 → (s.span c.span).rep.epoch ≠ 0 → s.vaultOpen c.span = true →
      exec i s = .next ((s.touch c).complete c .quorumPending []))

/-- What an accepted storyboard command decides: an image is staged where none is, above the epoch in force, with valid signatures and a feasible
configuration, validating once quorate and pending quorum until then; a signature is added to it; an application fixes T_sw at least 2 ms ahead and takes
the site lock; a withdrawal removes an image that is neither prepared nor committed. -/
def Obligations.AcceptedStoryboardCommandsDecide : Prop :=
  (∀ (s : State) (sp : SpanId) (c : Caller) (img : List Byte) (p : Prepared), s.decideStage sp c img = .ok p →
    (s.span sp).rep.staged = none ∧ s.producerMay sp c = true ∧ ∃ x : Staged, p.deltas = [.setStaged (some x) false] ∧
      (s.span sp).rep.epoch < x.epoch ∧ x.closeAt = s.now sp + x.window (s.span sp).rep ∧
      ((p.status = .ok ∧ x.state = .validating) ∨ (p.status = .quorumPending ∧ x.state = .quorumPending))) ∧
  (∀ (s : State) (sp : SpanId) (c : Caller) (e : SigEntry) (p : Prepared), s.decideSign sp c e = .ok p →
    ∃ x : Staged, (s.span sp).rep.staged = some x ∧
      ((p.status = .imageInfeasible ∧ p.deltas = [.setStaged none false]) ∨
        ∃ y : Staged, p.deltas = [.setStaged (some y) false] ∧ y.sigs = x.sigs ++ [e] ∧ y.ops = x.ops ∧ y.epoch = x.epoch ∧
          (y.state = x.state ∨ (x.state = .quorumPending ∧ y.state = .validating)) ∧
          (p.status = .quorumPending ↔ y.state = .quorumPending))) ∧
  (∀ (s : State) (sp : SpanId) (c : Caller) (req : Nat) (p : Prepared), s.decideApply sp c req = .ok p →
    ∃ x : Staged, (s.span sp).rep.staged = some x ∧ x.atTime = false ∧ (x.state = .validating ∨ x.state = .validated) ∧
      (s.span sp).rep.lock 0 = none ∧
      p.deltas = [.setStaged (some { x with apply := some c, tsw := max req (s.now sp + 2 * ms) }) false,
        .lockTake ⟨0, 0, 0, s.now sp + 30 * sec, (s.span sp).cont.term, 0, [], [], []⟩]) ∧
  (∀ (s : State) (sp : SpanId) (c : Caller) (epoch : Nat) (p : Prepared), s.decideSbWithdraw sp c epoch = .ok p →
    ∃ x : Staged, (s.span sp).rep.staged = some x ∧ x.epoch = epoch ∧ x.state ≠ .prepared ∧ x.state ≠ .committed ∧
      p.deltas = [.setStaged none false])

/-- What an accepted session or proposal command decides: at most 64 sessions are open, a session ends through its own door, a proposal opens with its
proposer's vote and within the limits, a vote is that of an officer who has not voted and whose signature verifies, and only the proposer withdraws. -/
def Obligations.AcceptedSessionAndProposalCommandsDecide : Prop :=
  (∀ (s : State) (sp : SpanId) (c : Caller) (x : Session) (p : Prepared), s.decideOpen sp c x = .ok p →
    (s.span sp).rep.sessions.length < 64 ∧ p.deltas = [.openSession x]) ∧
  (∀ (s : State) (sp : SpanId) (c : Caller) (id : Nat) (p : Prepared), (∀ pid, c.origin ≠ .proposal pid) → s.decideClose sp c id 1 = .ok p →
    ∃ x, (s.span sp).rep.session id = some x ∧ x.serves c = true ∧ p.deltas = [.closeSession x.id]) ∧
  (∀ (s : State) (sp : SpanId) (c : Caller) (owner : Nat) (body : PropBody) (sig : List Byte) (p : Prepared),
    s.decideSubmit sp c owner body sig = .ok p →
      let r := (s.span sp).rep
      ∃ (y : Session) (x : Proposal), r.sessionOf c = some y ∧ y.isOf owner = true ∧ (r.props.filter Proposal.open_).length < 1024 ∧
        (r.props.filter fun q => q.open_ && q.owner == owner).length < 256 ∧
        p.deltas = [.putProp x, .propSerial 0 (sparseGet 1 0 r.propSerials + 1)] ∧
        x.id = owner * 2 ^ 56 + sparseGet 1 0 r.propSerials % 2 ^ 56 ∧ x.owner = owner ∧ x.body = body ∧ x.tOpen = s.now sp ∧
        x.tClose = s.now sp + r.config.window ∧ x.votes = [⟨y.signer.index, y.keyDigest, true⟩]) ∧
  (∀ (s : State) (sp : SpanId) (c : Caller) (pid : Nat) (approve : Bool) (sig : List Byte) (p : Prepared),
    s.decideVote sp c pid approve sig = .ok p →
      let r := (s.span sp).rep
      ∃ (y : Session) (x x' : Proposal), r.sessionOf c = some y ∧ y.isOf (pidOwner pid) = true ∧ r.prop pid = some x ∧ x.state = .opened ∧
        s.now sp < x.tClose ∧ (∀ v ∈ x.votes, ¬ (v.index = y.signer.index ∧ v.keyDigest = y.keyDigest)) ∧
        r.voteHolds x y.signer.index approve sig = true ∧ p.deltas = [.putProp x'] ∧
        x'.votes = x.votes ++ [⟨y.signer.index, y.keyDigest, approve⟩] ∧
        (x'.state = .executing ∨ x'.state = .approved → r.config.quorum x.owner ≤ r.voteCount x' true)) ∧
  (∀ (s : State) (sp : SpanId) (c : Caller) (pid : Nat) (p : Prepared), s.decideWithdraw sp c pid = .ok p →
    ∃ (y : Session) (x : Proposal), (s.span sp).rep.sessionOf c = some y ∧ (s.span sp).rep.prop pid = some x ∧ x.proposer = y.signer.index ∧
      x.open_ = true ∧ p.deltas = [.putProp (x.close .withdrawn (s.now sp) .ok)])

/-- What an accepted ceremony command decides: it begins for an approving officer while the quorum holds and the owner's lock is free, with a lease of
30 s; only the holder renews, and only before the deadline; a step is the next approved one and changes nothing but the working set; the end commits the
working set, closes the proposal and frees the lock. -/
def Obligations.AcceptedCeremonyCommandsDecide : Prop :=
  (∀ (s : State) (sp : SpanId) (c : Caller) (pid : Nat) (p : Prepared), s.decideBegin sp c pid = .ok p →
    let r := (s.span sp).rep
    ∃ (y : Session) (x : Proposal), r.sessionOf c = some y ∧ r.prop pid = some x ∧ x.state = .approved ∧ r.quorumOf x = true ∧
      s.now sp < x.quorumAt + 300 * sec ∧ r.lock x.owner = none ∧
      (∃ v ∈ x.votes, v.approve = true ∧ v.index = y.signer.index ∧ v.keyDigest = y.keyDigest) ∧
      p.deltas = [.putProp { x with state := .inCeremony },
        .lockTake ⟨x.owner, y.id, pid, s.now sp + 30 * sec, (s.span sp).cont.term, 0, [], [], []⟩]) ∧
  (∀ (s : State) (sp : SpanId) (c : Caller) (lock : Nat) (p : Prepared), s.decideRenew sp c lock = .ok p →
    ∃ (y : Session) (l : Lock), (s.span sp).rep.sessionOf c = some y ∧ (s.span sp).rep.lock lock = some l ∧ l.holder = y.id ∧
      s.now sp < l.deadline ∧ p.deltas = [.lockRenew lock (s.now sp + 30 * sec)]) ∧
  (∀ (s : State) (sp : SpanId) (c : Caller) (lock idx : Nat) (q : QCmd) (rnd : List Byte) (p : Prepared),
    s.decideStep sp c lock idx q rnd = .ok p →
      ∃ (l : Lock) (x : Proposal) (steps : List (Nat × List Byte)) (e : List Effect) (sl : List SlateReq),
        (s.span sp).rep.lock lock = some l ∧ s.now sp < l.deadline ∧ (s.span sp).rep.prop l.pid = some x ∧ x.body = .ceremony steps ∧
        idx = l.stepsDone + 1 ∧ steps[l.stepsDone]? = some (q.opcode, sha256 q.body) ∧ p.deltas = [.lockStep lock q.subjects e sl]) ∧
  (∀ (s : State) (sp : SpanId) (c : Caller) (lock : Nat) (p : Prepared), s.decideEnd sp c lock = .ok p →
    ∃ (l : Lock) (x : Proposal), (s.span sp).rep.lock lock = some l ∧ s.now sp < l.deadline ∧ (s.span sp).rep.prop l.pid = some x ∧
      l.stepsDone = x.body.steps ∧
      p.deltas = (((l.working ++ (uncommitted l.working).map Effect.commitCtx).map (Effect.atCommit (s.now sp))).map .eff) ++
        [.putProp (x.close .executed (s.now sp) .ok), .lockFree lock])

/-- What an accepted log, counter or error command decides: an export starts in the retained part of the log, an acknowledgement goes forward, is covered
by a checkpoint, names the slate's hash and is fresh and signed, an increment keeps VALUE ≤ C ≤ LIMIT, and ERR_ACK clears the named bits. -/
def Obligations.AcceptedLogAndCounterCommandsDecide : Prop :=
  (∀ (s : State) (sp : SpanId) (c : Caller) (first : Nat) (p : Prepared), s.decideExport sp c first = .ok p →
    ∃ y, (s.span sp).rep.producerSession c = some y ∧ (s.span sp).rep.log.lowest ≤ first ∧ first < (s.span sp).rep.log.nextSeq ∧
      p.deltas = [.sessionExport y.id first]) ∧
  (∀ (s : State) (sp : SpanId) (c : Caller) (seq : Nat) (hash : List Byte) (producer time : Nat) (sig : List Byte) (p : Prepared),
    s.decideAck sp c seq hash producer time sig = .ok p →
      ∃ x n, (s.span sp).rep.log.ackSeq < seq ∧ (s.span sp).rep.log.cpSeq = some n ∧ seq ≤ n ∧ (s.span sp).rep.log.find seq = some x ∧
        sha256 (slateBytes x) = hash ∧ absDiff time (s.now sp) ≤ 300 * sec ∧ p.deltas = [.ackLog seq] ∧
        ∃ o, (s.span sp).rep.config.officer 0 producer = some o ∧
          verifySig o.alg o.key (ackMessage (s.unitId sp) seq hash time) sig = true) ∧
  (∀ (s : State) (sp : SpanId) (c : Caller) (mask : Nat) (p : Prepared), s.decideErrAck sp c mask = .ok p → p.deltas = [.clearSticky mask]) ∧
  (∀ (s : State) (sp : SpanId) (c : Caller) (h step : Nat) (p : Prepared), s.decideIncr sp c h step = .ok p →
    ∃ x x' : CtrObj, (s.span sp).rep.ctr h = some x ∧ p.deltas = [.eff (.putCtr x')] ∧ x'.value = x.value + step ∧ x'.value ≤ x.limit ∧
      x'.limit = x.limit ∧ (step ≤ 4096 → x.value ≤ x.ceil → x.ceil ≤ x.limit → x'.value ≤ x'.ceil ∧ x'.ceil ≤ x'.limit))

/-! ### What commands under quorum do -/

/-- A command that creates a key object, where it is accepted: one object with the owner's next SERIAL, ACTIVE at VERSION 1, of a usage that its type
permits, never both a STREAM_TAG key and exportable, while the owner has room; the owner's KEK comes with the first one; a derived or an unwrapped
object names its parent; a twin of an object that has been loaded for signing is marked as it is. -/
def Obligations.CreatedKeysFollowTheirRules : Prop :=
  ∀ (s : State) (sp : SpanId) (c : Caller) (owner : Nat) (q : QCmd) (rnd : List Byte) (t : Nat) (lock : Option Nat) (res : QResult),
    s.prepareQ sp c owner q rnd t lock = .ok res →
    ((∃ a, q = .keyGenerate a) ∨ (∃ a, q = .keyImportSealed a) ∨ (∃ a, q = .keyUnwrap a) ∨ (∃ a, q = .keyDerive a)) →
      let r := (s.span sp).rep
      s.vaultOpen sp = true ∧ r.objFull owner = false ∧ r.log.roomOutsideReserve = true ∧ ∃ (o : KeyObj) (marks : List Effect),
        res.effs = (if r.orks.any (fun x => x.1 == owner) then [] else [.putOrk owner (rnd.take 32) ((rnd.drop 32).take 32)]) ++
          [.putObj o, .setSerial owner (r.serial owner + 1)] ++ marks ∧
        (∀ e ∈ marks, ∃ x ∈ r.objs, x.twin o = true ∧ e = .putObj { x with signLoaded := true }) ∧
        o.handle = owner * 2 ^ 32 + r.serial owner ∧ o.owner = owner ∧ o.state = .active ∧ o.version = 1 ∧
        usageFits o.type o.usage o.exportable = true ∧ ¬ (o.usage.testBit 8 = true ∧ o.exportable = true) ∧
        (∀ a, q = .keyGenerate a → o.origin = 1 ∧ o.parent = 0 ∧ o.type = a.type ∧ o.usage = a.usage) ∧
        (∀ a, q = .keyImportSealed a → o.origin = 2 ∧ o.parent = a.unwrapping ∧ o.usage = a.usage) ∧
        (∀ a, q = .keyUnwrap a → o.origin = 3 ∧ o.parent = a.unwrapping ∧ o.type = a.type ∧ o.usage = a.usage) ∧
        (∀ a, q = .keyDerive a → o.origin = 4 ∧ o.parent = a.root ∧ o.exportable = false ∧ o.usage = a.usage)

/-- A command that changes a key object or a counter, where it is accepted, changes that one only and only as its rule says: usage bits and EXPORTABLE
are only cleared, the state goes between ACTIVE and SUSPENDED or back from FENCED, an object goes to DRAINING only when no key slot holds it, and a
counter begins at INITIAL below its ceiling and limit. -/
def Obligations.ChangedKeysAndCountersFollowTheirRules : Prop :=
  ∀ (s : State) (sp : SpanId) (c : Caller) (owner : Nat) (rnd : List Byte) (t : Nat) (lock : Option Nat) (res : QResult),
    let r := (s.span sp).rep
    (∀ h u f, s.prepareQ sp c owner (.keySetUsage h u f) rnd t lock = .ok res →
      ∃ o o' : KeyObj, r.obj h = some o ∧ o.owner = owner ∧ res.effs = [.putObj o'] ∧ o'.usage &&& o.usage = o'.usage ∧
        (o'.exportable = true → o.exportable = true) ∧ o'.version = o.version + 1 ∧ o'.material = o.material ∧ o'.state = o.state) ∧
    (∀ h v, s.prepareQ sp c owner (.keySetState h v) rnd t lock = .ok res →
      ∃ (o : KeyObj) (st : ObjState), r.obj h = some o ∧ o.owner = owner ∧
        res.effs = [.putObj { o with state := st, version := o.version + 1, changed := t }] ∧
        ((v = 2 ∧ o.state = .active ∧ st = .suspended) ∨ (v = 1 ∧ (o.state = .suspended ∨ o.state = .fenced) ∧ st = .active))) ∧
    (∀ h, s.prepareQ sp c owner (.keyDestroy h) rnd t lock = .ok res →
      ∃ o : KeyObj, r.obj h = some o ∧ o.owner = owner ∧ o.state ≠ .draining ∧ s.a.stream.slotRefs h = 0 ∧ s.b.stream.slotRefs h = 0 ∧
        r.pinned h = false ∧ res.effs = [.putObj { o with state := .draining, version := o.version + 1, changed := t }]) ∧
    (∀ i l b, s.prepareQ sp c owner (.ctrCreate i l b) rnd t lock = .ok res →
      r.ctrFull owner = false ∧ ∃ x : CtrObj, res.effs = [.putCtr x, .setSerial owner (r.serial owner + 1)] ∧
        x.handle = owner * 2 ^ 32 + r.serial owner ∧ x.value = i ∧ x.ceil = min l (i + 4096) ∧ x.limit = l ∧ x.value ≤ x.ceil ∧ x.ceil ≤ x.limit) ∧
    (∀ h, s.prepareQ sp c owner (.ctrDestroy h) rnd t lock = .ok res → ∃ x, r.ctr h = some x ∧ ownerOf x.handle = owner ∧ res.effs = [.dropCtr h])

/-- A context command, where it is accepted, is that of the context's own owner in a state that permits it: a configuration and a key go into the shadow
bank alone, a key is an ACTIVE STREAM_TAG object of the owner that fits ALG, a commit moves the context's shadow writes, and the state changes are those
of the state machine.
A command for the site, where it is accepted, is that of the producers, and does what it names: the keystone preference, the reset of a span, the
update to the staged bank by a keystone span whose peer follows; a guest is restarted by its own owner, or by the producers for the station guest. -/
def Obligations.ContextAndSiteCommandsFollowTheirRules : Prop :=
  (∀ (s : State) (sp : SpanId) (c : Caller) (owner : Nat) (rnd : List Byte) (t : Nat) (lock : Option Nat) (res : QResult),
    let r := (s.span sp).rep
    let st (n : Nat) := ((s.span sp).stream.active.ctx n).state
    (∀ a, s.prepareQ sp c owner (.ctxConfig a) rnd t lock = .ok res →
      r.config.ctxOwner a.ctx = some owner ∧ (st a.ctx = .unconfigured ∨ st a.ctx = .ready) ∧ r.ctxFieldsFit a = true ∧
        ∃ e : CtxEntry, res.effs = [.shadowCtx a.ctx e] ∧ e.state = .ready ∧ e.owner = owner ∧ e.dir = a.dir ∧ e.alg = a.alg ∧
          e.tagBytes = a.tagBytes ∧ e.template = a.template ∧ e.rate = a.rate ∧ e.freshMs = a.freshMs) ∧
    (∀ a, s.prepareQ sp c owner (.ctxKeyLoad a) rnd t lock = .ok res →
      ∃ (o : KeyObj) (e : CtxEntry) (sl : Slot) (rest : List Effect), r.obj a.handle = some o ∧ o.owner = owner ∧ o.state = .active ∧
        o.usage = usageTag ∧ algFits e.alg o = true ∧ res.effs = [.shadowCtx a.ctx e, .shadowSlot a.ctx a.slotB sl] ++ rest ∧
        sl.load = .loaded ∧ sl.handle = o.handle ∧ sl.keyId = a.keyId ∧ sl.salt = a.salt ∧
        (rest = [] ∨ rest = r.signMarks o)) ∧
    (∀ n b, s.prepareQ sp c owner (.ctxKeyClear n b) rnd t lock = .ok res →
      r.config.ctxOwner n = some owner ∧ ∃ e : CtxEntry, res.effs = [.shadowCtx n e, .shadowSlot n b Slot.empty] ∧
        (if b then e.handleB = 0 else e.handleA = 0)) ∧
    (∀ n, s.prepareQ sp c owner (.ctxCommit n) rnd t lock = .ok res →
      r.config.ctxOwner n = some owner ∧ st n ≠ .draining ∧ (s.span sp).stream.discarded.contains n = false ∧ res.effs = [.commitCtx n]) ∧
    (∀ n, s.prepareQ sp c owner (.ctxActivate n) rnd t lock = .ok res →
      st n = .ready ∧ ∃ anchor, res.effs = [.ctxState n .active anchor (tai64 t)]) ∧
    (∀ n, s.prepareQ sp c owner (.ctxSuspend n) rnd t lock = .ok res →
      st n = .active ∧ ∃ anchor, res.effs = [.ctxState n .suspended anchor (tai64 t)]) ∧
    (∀ n, s.prepareQ sp c owner (.ctxResume n) rnd t lock = .ok res →
      st n = .suspended ∧ ∃ anchor, res.effs = [.ctxState n .active anchor (tai64 t)]) ∧
    (∀ n, s.prepareQ sp c owner (.ctxDrain n) rnd t lock = .ok res →
      (st n = .ready ∨ st n = .active ∨ st n = .suspended) ∧ ∃ anchor, res.effs = [.ctxState n .draining anchor (tai64 t)])) ∧
  (∀ (s : State) (sp : SpanId) (c : Caller) (owner : Nat) (rnd : List Byte) (t : Nat) (lock : Option Nat) (res : QResult),
    (∀ p, s.prepareQ sp c owner (.sbKeystonePref p) rnd t lock = .ok res → owner = 0 ∧ res.effs = [.setPref p]) ∧
    (∀ p, s.prepareQ sp c owner (.sbSpanReset p) rnd t lock = .ok res → owner = 0 ∧ res.effs = [.resetSpan p]) ∧
    (∀ d, s.prepareQ sp c owner (.sbFwUpdate d) rnd t lock = .ok res →
      owner = 0 ∧ s.hub.update.bank.digest = d ∧ s.hub.update.state = 2 ∧ (s.span sp).cont.mode = .keystone ∧
        (s.span sp.other).cont.mode = .follower ∧ res.effs = [.fwUpdate d]) ∧
    (∀ g, s.prepareQ sp c owner (.worldRestart g) rnd t lock = .ok res → 1 ≤ g ∧ g ≤ 33 ∧ owner = g - 1 ∧ res.effs = [.restartGuest g]))

/-! ### Doors and deadlines -/

/-- A span answers the reading commands from its own replica: PROP_STATUS to a session with the open proposals or one record, LOG_INFO and SB_STATUS with
the log and the storyboard, marked where the span is isolated, and LOG_READ to an exporting producer with the slates asked for; none of them changes
anything replicated but the session's idle time.
Completions stated here: SB_STATUS, PROP_STATUS, LOG_READ, LOG_INFO. -/
def Obligations.ReadingCommandsAnswerFromTheReplica : Prop :=
  ∀ (s : State) (c : Caller), let r := ((s.touch c).span c.span).rep
    (∀ pid y, s.admitted c 0x0614 [some (num pid)] [] → r.sessionOf c = some y →
      (pid = 0 → exec (.propStatus c pid) s = .next ((s.touch c).complete c .ok ((r.props.filter Proposal.open_).map fun p => num p.id))) ∧
      (pid ≠ 0 → ∀ p, r.prop pid = some p → exec (.propStatus c pid) s = .next ((s.touch c).complete c .ok (r.propRecord p))) ∧
      (pid ≠ 0 → r.prop pid = none → exec (.propStatus c pid) s = .next ((s.touch c).complete c .proposalClosed []))) ∧
    (s.admitted c 0x0634 [] [] →
      exec (.logInfo c) s = .next ((s.touch c).completeWith c .ok false (boolNat (s.isolated c.span))
        [num (r.log.nextSeq - 1), num r.log.ackSeq, num r.log.free, num r.log.mode.code, num (r.log.cpSeq.getD 0)])) ∧
    (s.admitted c 0x0505 [] [] → (r.epoch = 0 ∨ (r.sessionOf c).isSome = true) →
      exec (.sbStatus c) s = .next ((s.touch c).completeWith c .ok false (boolNat (s.isolated c.span))
        [num ((r.staged.map (·.state.code)).getD 0), num r.epoch, r.config.digest])) ∧
    (∀ first count y lo, c.origin ≠ .monitor → s.admitted c 0x0632 [some (num first), some (num count)] [] → r.producerSession c = some y →
      y.exportFrom = some lo → lo ≤ first → r.log.lowest ≤ first → first < r.log.nextSeq → 1 ≤ count → count ≤ 512 →
        let found := ((List.range (min count (r.log.nextSeq - first))).map fun i => r.log.find (first + i)).takeWhile Option.isSome
        let imgs := found.filterMap fun x => x.map slateImage
        exec (.logRead c first count) s = .next ((s.touch c).complete c .ok [num imgs.length, imgs.flatten]))

/-- OS_OPEN completes for a signer that its door may serve and who is not locked out: it hands out a challenge that stays with the span. OS_PROVE uses a
challenge up; if the signature over it with the door's binding verifies, it completes with a new session of the signer, formed by one record where the
span orders changes, and records the failure if not.
Completions stated here: OS_OPEN, OS_PROVE. -/
def Obligations.SessionsOpenByChallenge : Prop :=
  (∀ (s s1 : State) (c : Caller) (w : Signer) (b : List Byte),
    s.admitted c 0x0601 [some (num w.role.code), some (num w.owner), some (num w.index)] [] → c.mayOpen w = true →
    ((s.span c.span).vault.lockouts.any fun l => l.signer == w && decide (s.elapsed < l.until_)) = false →
    (s.span c.span).rep.sessions.length < 64 → s.entFatal c.span = false → s.random c.span 0 32 false = some (b, s1) →
      let s2 := s1.waitOver c.span (.cmd c)
      exec (.osOpen c w) s = .next ((s2.upd c.span fun x => { x with vault := { x.vault with
        challenges := x.vault.challenges ++ [⟨b, some w, s2.elapsed⟩] } }).complete c .ok [b])) ∧
  (∀ (s s1 : State) (c : Caller) (ch sig b : List Byte) (x : Challenge) (w : Signer) (o : Officer),
    s.admitted c 0x0602 [some ch, some sig] [] →
    ((s.span c.span).vault.challenges.find? fun y => y.bytes == ch && y.signer.any c.mayOpen) = some x → x.signer = some w →
    let s0 := s.upd c.span fun y => { y with vault := { y.vault with challenges := y.vault.challenges.erase x } }
    (s0.span c.span).rep.config.signerKey w = some o → s.elapsed ≤ x.issued + 60 * sec →
      let ok := verifySig o.alg o.key (proveMessage (s.unitId c.span) ch w c.binding) sig
      let s2 := s0.setFails c.span w 0 0
      (ok = false → exec (.osProve c ch sig) s = .next (s0.proveFails c (some w))) ∧
      (ok = true → s2.entFatal c.span = false → s2.random c.span 0 4 false = some (b, s1) →
        ((s1.span c.span).cont.mode = .keystone ∨ (s1.span c.span).cont.mode = .solo) →
          let s3 := s1.waitOver c.span (.cmd c)
          ∃ (y : Session) (t : State), exec (.osProve c ch sig) s = .next t ∧ y.id ≠ 0 ∧ y.signer = w ∧ y.keyDigest = o.digest ∧
            y.binding = c.binding ∧ y.openedAt = s3.now c.span ∧ y.exportFrom = none ∧
            ∀ p, (s3.ordered c.span).decideOpen c.span c y = .ok p → s3.ordering c.span p.slates.length = true →
              s3.formsRecord t c.span [.openSession y] p.slates .ok))

/-- At its deadline, and not before, the span that orders changes ends a session, closes or drops a proposal, frees the lock of a ceremony whose lease
has run out, or discards an image whose approval window has closed, each by one record.
Completions stated here: APPROVAL_WINDOW_CLOSE, SESSION_IDLE_TIMEOUT, SESSION_AGE_LIMIT, PROPOSAL_LOCK_TIMEOUT, PROPOSAL_EXPIRY,
PROPOSAL_BEGIN_TIMEOUT, PROPOSAL_RECORD_EXPIRY, CEREMONY_LEASE_EXPIRY, CHECKPOINT_PAIR, TLS_CONNECTION_RESET. -/
def Obligations.DeadlinesCloseByRecord : Prop :=
  ∀ (s : State) (k : SpanId), s.keystone = some k → s.ordering k 32 = true →
    let o := s.ordered k
    let r := (o.span k).rep
    (∀ id x, r.session id = some x →
      (x.lastAt + 300 * sec ≤ o.now k → ∃ t, exec (.sessionIdleTimeout id) s = .next t ∧
        s.formsRecord t k [.closeSession x.id] [(sessionEnd k x 2).2] .ok) ∧
      (o.now k < x.lastAt + 300 * sec → exec (.sessionIdleTimeout id) s = .next s) ∧
      (x.openedAt + 28800 * sec ≤ o.now k → ∃ t, exec (.sessionAgeLimit id) s = .next t ∧
        s.formsRecord t k [.closeSession x.id] [(sessionEnd k x 3).2] .ok) ∧
      (o.now k < x.openedAt + 28800 * sec → exec (.sessionAgeLimit id) s = .next s)) ∧
    (∀ conn, let l := r.sessions.filter fun x => match x.origin with | .mgmt n _ => n == conn | _ => false
      l ≠ [] → l.length ≤ 32 → ∃ t, exec (.tlsConnectionReset conn) s = .next t ∧
        s.formsRecord t k (l.map fun x => .closeSession x.id) (l.map fun x => (sessionEnd k x 4).2) .ok) ∧
    (∀ pid p, r.prop pid = some p →
      (p.state = .opened → p.tClose ≤ o.now k → ∃ t sl, exec (.proposalExpiry pid) s = .next t ∧
        s.formsRecord t k [.putProp (p.close .expired (o.now k) .approvalExpired)] sl .ok) ∧
      (p.state = .opened → o.now k < p.tClose → exec (.proposalExpiry pid) s = .next s) ∧
      (p.state = .approved → p.quorumAt + 300 * sec ≤ o.now k → ∃ t sl, exec (.proposalBeginTimeout pid) s = .next t ∧
        s.formsRecord t k [.putProp (p.close .expired (o.now k) .approvalExpired)] sl .ok) ∧
      (∀ l, p.state = .executing → p.quorumAt + 60 * sec ≤ o.now k → r.lock p.owner = some l → l.pid ≠ pid →
        ∃ t sl, exec (.proposalLockTimeout pid) s = .next t ∧
          s.formsRecord t k [.putProp (p.close .expired (o.now k) .deferredTimeout)] sl .ok) ∧
      (p.state.final = true → p.closedAt + 86400 * sec ≤ o.now k → ∃ t, exec (.proposalRecordExpiry pid) s = .next t ∧
        s.formsRecord t k [.dropProp pid] [] .ok)) ∧
    (∀ lock l p, r.lock lock = some l → l.holder ≠ 0 → l.deadline ≤ o.now k → l.pid ≠ 0 → r.prop l.pid = some p →
      ∃ t sl, exec (.ceremonyLeaseExpiry lock) s = .next t ∧
        s.formsRecord t k [.lockFree l.owner, .putProp (p.close .abandoned (o.now k) .lockAbandoned)] sl .ok) ∧
    (∀ x, r.staged = some x → x.state = .quorumPending → x.closeAt ≤ o.now k → ∃ t sl, exec .approvalWindowClose s = .next t ∧
      s.formsRecord t k [.setStaged none true] sl .ok) ∧
    ((∀ d ∈ (s.span k).cont.deferred, ∀ q ∈ d.change.slates, q.kind ≠ 0x0402) →
      (4094 ≤ (s.orderedLog k).sinceCp ∨ (0 < (s.orderedLog k).sinceCp ∧ (s.orderedLog k).cpTime + 60 * sec ≤ s.now k)) → ∃ t sl, exec .checkpointPair s = .next t ∧
      sl.map (·.kind) = [0x0402, 0x0403] ∧ s.formsRecord t k [] sl .ok)

/-! ### The epoch switch -/

/-- The switch is decided by both spans. IMAGE_VALIDATED completes where both spans hold a feasible image with equal digests: it is validated, an AT_TIME
image with the site lock. PREPARE makes the other span record PREPARED, build its banks and answer READY. READY makes the keystone span decide: COMMIT only
if the digests match and READY came at least 1 ms before T_sw; DECIDE_DEADLINE makes it decide ABORT then. DECISION reaches the other span for the epoch
that it has prepared; DECISION_QUERY asks the witness, and the span stays if the witness holds no COMMIT.
At T_sw EPOCH_TICK completes on a span that holds COMMIT for the staged epoch: it is at the new epoch, with the configuration of the banks that
PREPARE has built, no staged image and no uncommitted shadow write; a span that holds no COMMIT, or not yet, changes nothing.
Completions stated here: IMAGE_VALIDATED, PREPARE, READY, DECISION, DECIDE_DEADLINE, DECISION_QUERY, EPOCH_TICK. -/
def Obligations.SwitchIsDecidedByBothSpansAndInstalledAtItsTick : Prop :=
  ((∀ (s : State) (k : SpanId) (x y : Staged), s.keystone = some k → ((s.ordered k).span k).rep.staged = some x → x.state = .validating →
    (s.span k).cont.mode = .keystone → (s.span k.other).cont.mode = .follower → (s.span k.other).rep.staged = some y →
    y.digest (s.span k.other).rep = x.digest ((s.ordered k).span k).rep → (x.atTime = true → ((s.ordered k).span k).rep.lock 0 = none) →
    s.infeasible k x (x.second (s.now k)) = none → s.infeasible k.other y (y.second (s.now k.other)) = none → s.ordering k 1 = true →
      ∃ t, exec .imageValidated s = .next t ∧
        s.formsRecord t k ([.setStaged (some { x with
            state := .validated, validA := true, validB := true, tsw := if x.atTime then x.switchTime else x.tsw }) false] ++
            if x.atTime then [.lockTake ⟨0, 0, 0, s.now k + 30 * sec, (s.span k).cont.term, 0, [], [], []⟩] else [])
          [devSlate 0x0103 .ok (.span k) x.epoch (x.digest ((s.ordered k).span k).rep)] .ok) ∧
  (∀ (s s1 : State) (sp : SpanId) (epoch tsw : Nat) (x : Staged),
    s.receive sp (fun m => match m with | .prepare e t => some (e, t) | _ => none) = some ((epoch, tsw), s1) →
    (s1.span sp).rep.staged = some x → x.epoch = epoch → s1.infeasible sp x (x.second (s1.now sp)) = none →
      ∃ t, exec (.prepare sp) s = .next t ∧ (t.span sp).cont.prepared = some (epoch, x.digest (s1.span sp).rep) ∧
        (t.span sp).cont.decision = none ∧ (∃ b, (t.span sp).cont.banks = some (s1.adoption sp x, b)) ∧ (t.span sp).rep = (s1.span sp).rep ∧
        t.deck = s1.deck ++ if (s1.span sp).cont.peerLost then [] else [(sp.other, .ready epoch (x.digest (s1.span sp).rep))]) ∧
  (∀ (s s1 : State) (sp : SpanId) (d d' : List Byte) (x : Staged),
    s.receive sp (fun m => match m with | .ready e d => some (e, .inl d) | .infeasible e c i => some (e, .inr (c, i)) | _ => none) =
      some ((x.epoch, (.inl d : List Byte ⊕ Nat × Nat)), s1) → s1.undecided sp = some (x, d') →
      ∃ (t : State) (commit : Bool), exec (.ready sp) s = .next t ∧ (commit = true ↔ d' = d ∧ s1.now sp + ms ≤ x.tsw) ∧
        (t.span sp).cont.decision = some (x.epoch, commit) ∧
        (t.span sp).cont.prepared = (if commit then (s1.span sp).cont.prepared else none) ∧
        (s1.witnessReach sp = true → t.hub.witness.decisions = s1.hub.witness.decisions ++ [(x.epoch, commit)])) ∧
  (∀ (s s1 : State) (sp : SpanId) (epoch : Nat) (commit : Bool) (p : Nat × List Byte),
    s.receive sp (fun m => match m with | .decision e c => some (e, c) | _ => none) = some ((epoch, commit), s1) →
    (s1.span sp).cont.prepared = some p → p.1 = epoch →
      exec (.decision sp) s = .next (s1.updCont sp fun c => { c with
        decision := some (epoch, commit), prepared := if commit then c.prepared else none })) ∧
  (∀ (s : State) (sp : SpanId) (x : Staged) (d : List Byte), s.undecided sp = some (x, d) → x.tsw ≤ s.now sp + ms →
    ∃ t, exec (.decideDeadline sp) s = .next t ∧ (t.span sp).cont.decision = some (x.epoch, false) ∧ (t.span sp).cont.prepared = none) ∧
  (∀ (s : State) (sp : SpanId) (x : Staged) (p : Nat × List Byte), (s.span sp).rep.staged = some x → (s.span sp).cont.prepared = some p →
    x.epoch = p.1 → (s.span sp).cont.decision = none → s.runsApply sp = false → x.tsw ≤ s.now sp + 500 * us →
      ∃ t, exec (.decisionQuery sp) s = .next t ∧
        ((t.span sp).cont.decision = some (p.1, true) ↔ (s.span sp).cont.hubLink = true ∧ s.hub.witness.decisions.getLast? = some (p.1, true)) ∧
        ((t.span sp).cont.decision = none ↔ (t.span sp).cont.prepared = none))) ∧
  (∀ (s : State) (sp : SpanId) (x : Staged), (s.span sp).rep.staged = some x →
    let a := (((s.span sp).cont.banks.map (·.1)).filter fun a => a.epoch == x.epoch).getD (s.adoption sp x)
    ((s.span sp).cont.decision = some (x.epoch, true) → x.tsw ≤ s.now sp → (s.span sp).rep.epoch < x.epoch →
      ∃ t, exec (.epochTick sp) s = .next t ∧ (t.span sp).rep.epoch = x.epoch ∧ (t.span sp).rep.config = a.config ∧
        (t.span sp).rep.staged = none ∧ (t.span sp).cont.prepared = none ∧ (t.span sp).cont.decision = none ∧ (t.span sp).cont.banks = none ∧
        (t.span sp).stream.dirty = []) ∧
    ((s.span sp).cont.decision ≠ some (x.epoch, true) ∨ s.now sp < x.tsw → exec (.epochTick sp) s = .next s))

/-! ### Continuity -/

/-- The links: a heartbeat changes nothing; a deck link goes down on both spans after 16 retransmissions or 100 us of silence, its retraining counts an
attempt, 10 ms after the one before, and it comes up on both spans, when a span that has no peer says HELLO; the hub link goes down with a report of source 0x384, and comes up. No
link event changes a mode, but that a span answers HELLO.
Completions stated here: DECK_HEARTBEAT, DECK_LINK_DOWN, DECK_RETRAIN, DECK_LINK_UP, HUB_LINK_DOWN, HUB_LINK_UP. -/
def Obligations.LinksFollowTheirEvents : Prop :=
  ∀ (s : State) (link n : Nat) (sp : SpanId), s.regsCanonical = true → link < 2 →
    exec (.deckHeartbeat n) s = .next s ∧
    (∀ retrans silence, s.a.cont.linkUp link = true → (16 ≤ retrans ∨ 100 ≤ silence) →
      ∃ t, exec (.deckLinkDown link retrans silence) s = .next t ∧ ∀ p : SpanId,
        (t.span p).cont.linkUp link = false ∧ (t.span p).cont.linkUp (1 - link) = (s.span p).cont.linkUp (1 - link) ∧
          (t.span p).cont.mode = (s.span p).cont.mode ∧ t.fld p Fld.cntEvtDeckDown = 1) ∧
    (s.a.cont.linkUp link = false →
      (s.a.cont.retrainAt link ≤ s.elapsed → exec (.deckRetrain link) s = .next (
        let f (c : Cont) : Cont := { c with attempts0 := c.attempts0 + boolNat (link == 0), attempts1 := c.attempts1 + boolNat (link == 1) }
        (s.updCont .a f).updCont .b f)) ∧
      (s.elapsed < s.a.cont.retrainAt link → exec (.deckRetrain link) s = .next s) ∧
      ∃ t, exec (.deckLinkUp link) s = .next t ∧ ∀ p : SpanId,
        (t.span p).cont.linkUp link = true ∧ (t.span p).cont.linkUp (1 - link) = (s.span p).cont.linkUp (1 - link) ∧
          (t.span p).cont.mode = (s.span p).cont.mode ∧ t.fld p Fld.cntEvtDeckUp = 1 ∧
          ((s.span p).speaks = true → ∃ h, (p.other, DeckMsg.hello h) ∈ t.deck ∧ h.mode = (s.span p).cont.mode ∧ h.csn = (s.span p).cont.csn)) ∧
    ((s.span sp).cont.hubLink = true →
      ∃ t, exec (.hubLinkDown sp) s = .next t ∧ (t.span sp).cont = { (s.span sp).cont with hubLink := false } ∧
        (srcGet 0x384 (t.span sp).err.srcs).count = satInc32 (srcGet 0x384 (s.span sp).err.srcs).count 1 ∧
        t.fld sp Fld.cntStateWitnessReach = boolNat (t.witnessReach sp)) ∧
    (∃ t, exec (.hubLinkUp sp) s = .next t ∧ (t.span sp).cont = { (s.span sp).cont with hubLink := true } ∧ t.fld sp Fld.cntStateWitnessReach = 1)

/-- Ordering and durability, message by message: a forwarded change, a device's or a prepared command's, becomes a record or ends with STALE_BASE; the other span holds the next record
and acknowledges it, and drops a duplicate; the acknowledgement commits it; the other span applies the oldest record it holds when COMMIT comes, and the
keystone span on COMMIT_ACK, or in SOLO when the witness has moved the solo mark; RESULT completes the forwarded command.
Completions stated here: FORWARD, REC, ACK, COMMIT, COMMIT_ACK, RESULT, SOLO_RECORD_ACK. -/
def Obligations.RecordsPassBetweenTheSpans : Prop :=
  ∀ (s s1 : State) (sp : SpanId),
    (∀ c : Change, s.keystone = some sp → s.receive sp (fun m => match m with | .forward c => some c | _ => none) = some (c, s1) →
      ((c.late = none ∨ c.rnd.isSome = true) → s1.ordering sp c.slates.length = true →
        (c.late = none → s1.versionsHold sp c.versions = true →
          ∃ t, exec (.forward sp) s = .next t ∧ s1.formsRecord t sp c.deltas c.slates c.status) ∧
        (∀ k p, c.late = some k → s1.versionsHold sp c.versions = true → s1.ordering sp p.slates.length = true →
          (s1.ordered sp).decideCmd sp (c.caller.getD (internalCaller sp 0)) k (c.rnd.getD []) = .ok p →
            ∃ t, exec (.forward sp) s = .next t ∧ s1.formsRecord t sp p.deltas p.slates p.status) ∧
        (s1.versionsHold sp c.versions = false → c.origin = .span sp.other →
          exec (.forward sp) s = .next (s1.tell sp (.result c.id .staleBase []))))) ∧
    (∀ r : Record, s.receive sp (fun m => match m with | .record r => some r | _ => none) = some (r, s1) →
      (r.csn = (s1.span sp).cont.lastCsn + 1 → (s1.span sp).cont.mode = .follower → (s1.span sp).cont.peerLost = false →
        ∃ t, exec (.recMsg sp) s = .next t ∧ t.deck = s1.deck ++ [(sp.other, .ack r.csn)] ∧ (t.span sp).rep = (s1.span sp).rep ∧
          (t.span sp).cont = { (s1.span sp).cont with lastCsn := r.csn, open_ := (s1.span sp).cont.open_ ++ [r], term := r.term }) ∧
      (r.csn ≠ (s1.span sp).cont.lastCsn + 1 → exec (.recMsg sp) s = .next s1)) ∧
    (∀ n : Nat, s.receive sp (fun m => match m with | .ack n => some n | _ => none) = some (n, s1) →
      (s1.span sp).cont.mode = .keystone → (s1.span sp).cont.peerLost = false → ((s1.span sp).cont.open_.any fun r => r.csn == n) = true →
        ∃ t, exec (.ack sp) s = .next t ∧ t.deck = s1.deck ++ [(sp.other, .commit n)] ∧
          (t.span sp).cont = { (s1.span sp).cont with peerAck := max (s1.span sp).cont.peerAck n }) ∧
    (∀ (n : Nat) (r : Record) (rest : List Record), s.receive sp (fun m => match m with | .commit n => some n | _ => none) = some (n, s1) →
      (s1.span sp).cont.mode = .follower → (s1.span sp).cont.peerLost = false → (s1.span sp).cont.open_ = r :: rest → r.csn = n →
      (s1.span sp).cont.csn < n →
        let u := r.change.deltas.foldl (fun s d => s.applyDelta sp r.time d) s1
        ∃ t d, exec (.commit sp) s = .next t ∧ t.deck = d ++ [(sp.other, .commitAck n)] ∧ (t.span sp).cont.csn = n ∧
          (t.span sp).cont.records = (s1.span sp).cont.records ++ [r] ∧ (∀ y ∈ (t.span sp).cont.open_, y.csn ≠ n) ∧
          (t.span sp).rep = { (u.span sp).rep with log := (t.span sp).rep.log }) ∧
    (∀ (n : Nat) (r : Record), s.receive sp (fun m => match m with | .commitAck n => some n | _ => none) = some (n, s1) →
      (s1.span sp).cont.mode = .keystone → (s1.span sp).cont.open_.head? = some r → r.csn = n →
        ∃ t, exec (.commitAck sp) s = .next t ∧ (t.span sp).cont.csn = n ∧ (t.span sp).cont.records = (s1.span sp).cont.records ++ [r]) ∧
    (∀ r : Record, (s.span sp).cont.mode = .solo → s.witnessReach sp = true → (s.span sp).cont.open_.head? = some r →
      ∃ t, exec (.soloRecordAck sp) s = .next t ∧ (t.span sp).cont.csn = r.csn ∧ (t.span sp).cont.records = (s.span sp).cont.records ++ [r] ∧
        t.hub.witness.soloCsn = r.csn ∧ t.hub.witness.soloTerm = (s.span sp).cont.term) ∧
    (∀ (id : Nat) (st : Status) (f : List (List Byte)) (c : Change) (x : Caller),
      s.receive sp (fun m => match m with | .result i st f => some (i, st, f) | _ => none) = some ((id, st, f), s1) →
      ((s1.span sp).cont.forwarded.find? fun y => y.id == id) = some c → c.caller = some x →
        exec (.result sp) s = .next ((s1.updCont sp fun k => { k with forwarded := k.forwarded.erase c }).complete x st f))

/-- The lease: every 100 ms its holder asks both voters, unless its secure world is hung; a voter that has not voted for another span in a later term, and that keeps no promise to another, endorses it and
promises to vote for no other for 1,050 ms; a vote extends the lease to 1,000 ms after the request; a span whose lease has run out orders nothing and is no time master,
and a SOLO span is isolated.
Completions stated here: RENEW, VOTE, LEASE_RENEW_TIMER, LEASE_EXPIRY. -/
def Obligations.LeaseFollowsItsVotes : Prop :=
  ∀ (s s1 : State) (sp : SpanId), s.regsCanonical = true →
    let c := (s.span sp).cont
    (((c.mode = .keystone ∨ c.mode = .solo) → c.renewSent + 100 * ms ≤ s.elapsed → (s.span sp).worlds.hung = [] →
      ∃ t, exec (.leaseRenewTimer sp) s = .next t ∧ (t.span sp).cont = { c with renewSent := s.elapsed } ∧
        (c.peerLost = false → t.deck = s.deck ++ [(sp.other, .renew c.term (s.now sp))]) ∧
        (s.witnessReach sp = true → t.hub.renews = s.hub.renews ++ [(sp, c.term, s.now sp)])) ∧
      ((s.elapsed < c.renewSent + 100 * ms ∨ (s.span sp).worlds.hung ≠ []) → exec (.leaseRenewTimer sp) s = .next s)) ∧
    (∀ term sent, (s.hub.renews.find? fun r => r.1 == sp) = some (sp, term, sent) →
      (s.witnessReach sp = true → (s.hub.witness.term ≤ term ∨ s.hub.witness.holder = some sp) →
        (s.hub.witness.holder = some sp.other → s.hub.witness.promiseEnd ≤ s.elapsed) →
        ∃ t, exec (.renew sp .hub) s = .next t ∧ t.hub.witness = { s.hub.witness with
            term := max term s.hub.witness.term, holder := some sp, lastVote := s.elapsed, promiseEnd := s.elapsed + 1050 * ms } ∧
          t.hub.votes = s.hub.votes ++ [(sp, term, sent)]) ∧
      ((term < s.hub.witness.term ∧ s.hub.witness.holder ≠ some sp) ∨
          (s.hub.witness.holder = some sp.other ∧ s.elapsed < s.hub.witness.promiseEnd) →
        exec (.renew sp .hub) s = .next (s.updHub fun h => { h with renews := h.renews.erase (sp, term, sent) }))) ∧
    (∀ term sent, s.receive sp.other (fun m => match m with | .renew t at_ => some (t, at_) | _ => none) = some ((term, sent), s1) →
      ((s1.span sp.other).cont.voteTerm ≤ term → exec (.renew sp (.span sp.other)) s = .next
        ((s1.updCont sp.other fun k => { k with voteTerm := term, promiseEnd := s1.elapsed + 1050 * ms }).send sp (.vote term sent))) ∧
      (term < (s1.span sp.other).cont.voteTerm → exec (.renew sp (.span sp.other)) s = .next s1)) ∧
    (∀ term sent, term = c.term → (c.mode = .keystone ∨ c.mode = .solo) →
      ((s.hub.votes.find? fun v => v.1 == sp) = some (sp, term, sent) ∨ ((s.hub.votes.find? fun v => v.1 == sp) = none ∧
        s.receive sp (fun m => match m with | .vote t at_ => some (t, at_) | _ => none) = some ((term, sent), s1))) →
        ∃ t, exec (.vote sp) s = .next t ∧ (t.span sp).cont.leaseEnd = max c.leaseEnd (sent + 1000 * ms) ∧ t.fld sp Fld.tbStatusTimeMaster = 1) ∧
    (c.leaseEnd ≤ s.now sp → (c.mode = .solo ∨ (c.mode = .keystone ∧ s.fld sp Fld.tbStatusTimeMaster = 1)) →
      ∃ t, exec (.leaseExpiry sp) s = .next t ∧ t.mayOrder sp = false ∧ t.fld sp Fld.tbStatusTimeMaster = 0 ∧
        (t.span sp).cont.mode = (if c.mode = .solo then .isolated else .keystone) ∧
        (srcGet 0x383 (t.span sp).err.srcs).count = satInc32 (srcGet 0x383 (s.span sp).err.srcs).count 1) ∧
    (s.now sp < c.leaseEnd → exec (.leaseExpiry sp) s = .next s)

/-- Split, loss, takeover, handover and force: 5 ms after both deck links fail the keystone span goes on alone, the follower seeks the lease or is
isolated, and a rejoining span is isolated; a seeking span takes the lease, with every record it holds committed first, where no promise runs and it is
not below the solo mark; the preferred follower is handed the lease when every record is complete; a span that hears no peer within 2 s starts alone or
is isolated; producers may force an isolated span.
Completions stated here: HANDOVER, TAKEOVER, HANDOVER_START, PEER_LOST, SB_KEYSTONE_FORCE, JOIN_TIMEOUT. -/
def Obligations.LeaseMovesOnlyAsTheRulesSay : Prop :=
  ∀ (s s1 : State) (sp : SpanId), s.regsCanonical = true →
    let c := (s.span sp).cont
    (c.peerLost = false → c.deckUp = false → c.mode ≠ .joining →
      (c.linksAt + 5 * ms ≤ s.elapsed → ∃ t, exec (.peerLost sp) s = .next t ∧ (t.span sp).cont.peerLost = true ∧ t.fld sp Fld.cntEvtSplit = 1 ∧
        ((c.mode = .keystone ∨ c.mode = .solo) → (t.span sp).cont.mode = .solo) ∧
        (c.mode = .follower → (t.span sp).cont.mode = .seeking ∨ (t.span sp).cont.mode = .isolated) ∧
        (c.mode = .rejoining → (t.span sp).cont.mode = .isolated ∧ t.fld sp Fld.cntEvtRejoinFail = 1) ∧
        ((c.mode = .isolated ∨ c.mode = .seeking) → (t.span sp).cont.mode = c.mode)) ∧
      (s.elapsed < c.linksAt + 5 * ms → exec (.peerLost sp) s = .next s)) ∧
    (c.mode = .seeking →
      (s.soloOk sp = true → c.promiseEnd ≤ s.elapsed → s.keystone = none → s.witnessReach sp = true → s.witnessFree = true →
        ∃ t, exec (.takeover sp) s = .next t ∧ (t.span sp).cont.mode = .solo ∧ (t.span sp).cont.term = s.nextTerm sp ∧
          (t.span sp).cont.records = c.records ++ c.open_ ∧ (t.span sp).cont.leaseEnd = s.now sp + 1000 * ms ∧
          t.hub.witness.holder = some sp ∧ t.hub.witness.term = s.nextTerm sp ∧ t.hub.witness.soloCsn = c.lastCsn) ∧
      (s.soloOk sp = false → ∃ t, exec (.takeover sp) s = .next t ∧ (t.span sp).cont.mode = .isolated) ∧
      (s.soloOk sp = true → s.keystone ≠ none → exec (.takeover sp) s = .next s)) ∧
    (c.mode = .keystone → (s.span sp.other).cont.mode = .follower → c.joinedAt + 60 * sec ≤ s.elapsed → (s.span sp).rep.pref = some sp.other →
      c.peerLost = false →
        (c.open_ ≠ [] → exec (.handoverStart sp) s = .next (s.updCont sp fun k => { k with holdOrder := true })) ∧
        (c.open_ = [] → ∃ t, exec (.handoverStart sp) s = .next t ∧ (t.span sp).cont.mode = .follower ∧ (t.span sp).cont.voteTerm = c.term + 1 ∧
          (sp.other, DeckMsg.handover (c.term + 1)) ∈ t.deck)) ∧
    (∀ term, c.mode = .follower → c.open_ = [] →
      (s.deck.any fun m => m.1 == sp && match m.2 with | .result _ _ _ => true | _ => false) = false →
      s.receive sp (fun m => match m with | .handover t => some t | _ => none) = some (term, s1) →
        ∃ t, exec (.handover sp) s = .next t ∧ (t.span sp).cont.mode = .keystone ∧ (t.span sp).cont.term = term ∧
          (t.span sp).cont.leaseEnd = s.now sp + 1000 * ms ∧ t.fld sp Fld.tbStatusTimeMaster = 1) ∧
    (∀ at_, (s.span sp).boot.helloAt = some at_ → c.mode = .joining →
      (at_ + 2 * sec ≤ s.elapsed → ∃ t, exec (.joinTimeout sp) s = .next t ∧ (t.span sp).cont.peerLost = true ∧
        (t.span sp).cont.mode = (if s.witnessReach sp ∧ s.witnessFree ∧ s.soloOk sp then .solo else .isolated)) ∧
      (s.elapsed < at_ + 2 * sec → exec (.joinTimeout sp) s = .next s)) ∧
    (∀ (k : Caller) (term csn time : Nat) (sigs : List (Nat × List Byte)),
      s.started k 0x0506 [some (num sp.code), some (num term), some (num csn), some (num time), none] = true → s.lcState ≠ 4 → (s.span k.span).rep.epoch ≠ 0 → s.epochFits k [] = true →
        (∀ st, s.forceRefusal k sp term csn time sigs = some st → exec (.sbKeystoneForce k sp term csn time sigs) s = .next (s.complete k st [])) ∧
        (s.forceRefusal k sp term csn time sigs = none → ∃ t : State, exec (.sbKeystoneForce k sp term csn time sigs) s = .next (t.complete k .ok []) ∧
          (t.span sp).cont.mode = .solo ∧ (t.span sp).cont.term = s.nextTerm sp ∧ t.hub.witness.holder = some sp ∧ t.hub.witness.soloTerm = 0))

/-- Rejoin: a span that hears a span with the lease rolls back what that span does not share and rejoins; of two spans without a lease one takes it and
the other rejoins; the keystone span streams every record the rejoining span lacks; equal digests make it the follower and end the deferral, unequal ones
bring the buckets, and the third mismatch isolates it; a failed rejoin is tried again after 60 s.
Completions stated here: HELLO, DIGEST, BUCKET, REJOIN_RETRY. -/
def Obligations.RejoinMakesAFollower : Prop :=
  ∀ (s s1 : State) (sp : SpanId), s.regsCanonical = true →
    (∀ h : Hello, s.receive sp (fun m => match m with | .hello h => some h | _ => none) = some (h, s1) →
      let c := (s1.span sp).cont
      (((c.mode = .joining ∧ (s1.span sp).boot.helloAt.isSome = true) ∨ (c.mode = .isolated ∧ c.rejoinFailedAt = none) ∨ c.mode = .seeking) →
        (h.mode = .keystone ∨ h.mode = .solo) →
          ∃ t, exec (.hello sp) s = .next t ∧ (t.span sp).cont.mode = .rejoining ∧ (t.span sp).cont.peerLost = false ∧
            (t.span sp).cont.lastCsn = (t.span sp).cont.csn + (t.span sp).cont.open_.length ∧
            (t.span sp).cont.csn ≤ min c.csn (s1.span sp.other).cont.csn) ∧
      (c.mode = .joining → (s1.span sp).boot.helloAt.isSome = true → (h.mode = .joining ∨ h.mode = .isolated ∨ h.mode = .seeking) →
        (s1.requests sp = true → s1.grantable sp = true → ∃ t, exec (.hello sp) s = .next t ∧ (t.span sp).cont.mode = .keystone ∧
          (t.span sp).cont.term = s1.bootTerm sp) ∧
        (s1.requests sp = false → ∃ t, exec (.hello sp) s = .next t ∧ (t.span sp).cont.mode = .rejoining)) ∧
      (c.mode = .keystone → h.mode = .rejoining →
        ((s1.span sp).fw.formatMin ≤ h.formatMax → h.formatMin ≤ (s1.span sp).fw.formatMax →
          ∃ t, exec (.hello sp) s = .next t ∧ ∀ r ∈ c.journal, h.csn < r.csn → (sp.other, DeckMsg.commit r.csn) ∈ t.deck ∧
            (h.prepared < r.csn → (sp.other, DeckMsg.record r) ∈ t.deck)) ∧
        (h.formatMax < (s1.span sp).fw.formatMin → ∃ t, exec (.hello sp) s = .next t ∧ (t.span sp.other).cont.mode = .isolated))) ∧
    (∀ (n : Nat) (d : List Byte), (s.deck.any fun m => m.1 == sp && match m.2 with | .bucket _ => true | _ => false) = false →
      s.receive sp (fun m => match m with | .digest n d => some (n, d) | _ => none) = some ((n, d), s1) →
      let x := s1.span sp
      (x.cont.mode = .rejoining → n = x.cont.csn → d = x.digest →
        ∃ t, exec (.digestMsg sp) s = .next t ∧ (t.span sp).cont.mode = .follower ∧ t.fld sp Fld.cntEvtRejoined = 1 ∧ (t.span sp).cont.side = []) ∧
      (x.cont.mode = .rejoining → n ≠ x.cont.csn ∨ d ≠ x.digest →
        ∃ t, exec (.digestMsg sp) s = .next t ∧ (t.span sp).cont.mismatches = x.cont.mismatches + 1 ∧
          (t.span sp).cont.mode = (if 2 ≤ x.cont.mismatches then .isolated else .rejoining) ∧
          (2 ≤ x.cont.mismatches → (t.span sp).cont.rejoinFailedAt = some s.elapsed)) ∧
      (x.cont.mode = .keystone → x.cont.holdOrder = true → n = x.cont.csn → d = x.digest →
        ∃ t, exec (.digestMsg sp) s = .next t ∧ (t.span sp).cont.holdOrder = false ∧ t.hub.witness.soloTerm = 0 ∧
          t.fld sp Fld.cntEvtRejoined = 1) ∧
      (x.cont.mode = .keystone → x.cont.holdOrder = true → n ≠ x.cont.csn ∨ d ≠ x.digest → (s1.span sp.other).cont.mode = .rejoining →
        x.cont.peerLost = false → ∃ t, exec (.digestMsg sp) s = .next t ∧ (sp.other, DeckMsg.bucket x.cont.csn) ∈ t.deck ∧
          (t.span sp).cont.holdOrder = true)) ∧
    (∀ n : Nat, s.receive sp (fun m => match m with | .bucket n => some n | _ => none) = some (n, s1) → (s1.span sp).cont.mode = .rejoining →
      s1.fld sp Fld.vltStateVaultState ≠ 3 →
      ∃ t, exec (.bucket sp) s = .next t ∧ (t.span sp).rep = (s1.span sp.other).rep ∧
        (t.span sp).stream.active = (s1.span sp.other).stream.active ∧ (t.span sp).stream.shadow = (s1.span sp.other).stream.shadow) ∧
    (∀ at_, (s.span sp).cont.rejoinFailedAt = some at_ → (s.span sp).cont.mode = .isolated → (s.span sp).cont.peerLost = false →
      (at_ + 60 * sec ≤ s.elapsed → exec (.rejoinRetry sp) s =
        .next ((s.updCont sp fun k => { k with rejoinFailedAt := none }).sendHello sp)) ∧
      (s.elapsed < at_ + 60 * sec → exec (.rejoinRetry sp) s = .next s))

/-! ### Uses of the vault -/

/-- A use that needs big-number work (KEY_SIGN, KEY_VERIFY, KEY_AGREE, KEY_ENCAP, KEY_DECAP) completes its admission: of an ACTIVE object that its caller
may address and whose usage permits it, it waits for a lane as one job, with the work that gives its answer; an object in another state, of another
owner or without the usage bit refuses it. The oldest waiting job takes the first free lane with its commands and its random values.
Completions stated here: KEY_SIGN, KEY_VERIFY, KEY_AGREE, KEY_ENCAP, KEY_DECAP, VAULT_JOB_DISPATCH. -/
def Obligations.VaultJobsAnswerFromTheirObjects : Prop :=
  (∀ (s : State) (c : Caller), (s.span c.span).cont.mode ≠ .seeking →
    let u := s.touch c
    let r := (u.span c.span).rep
    let admits (t : State) (op h : Nat) (w : VaultWork) : Prop :=
      (t.span c.span).vault.jobs = (u.span c.span).vault.jobs ++ [⟨c, op, named h, s.elapsed, w, none⟩] ∧ (t.span c.span).rep = r
    (∀ (h : Nat) (x : Scheme) (msg : List Byte) (o : KeyObj), s.started c 0x0821 (some (num h) :: x.vals ++ [some msg]) = true →
      s.vaultBars c 0x0821 = none → r.obj h = some o → r.ctr h = none →
      (r.mayAddress c o.owner = false → exec (.keySign c h x msg) s = .next (u.complete c .objectUnknown [])) ∧
      (r.mayAddress c o.owner = true →
        (o.state = .draining → exec (.keySign c h x msg) s = .next (u.complete c .keyDraining [])) ∧
        (o.state ≠ .draining → (o.state ≠ .active ∨ o.usage.testBit 0 = false ∨ x.fits o.type = false) →
          exec (.keySign c h x msg) s = .next (u.complete c .usageDenied [])) ∧
        (h ≠ 0 → o.state = .active → o.usage.testBit 0 = true → x.fits o.type = true → x.takes o.type msg.length = true → u.entFatal c.span = false →
          ∃ t, exec (.keySign c h x msg) s = .next t ∧ admits t 0x0821 h (.sign x o.type o.material msg)))) ∧
    (∀ (h type : Nat) (pub : List Byte) (x : Scheme) (msg sig : List Byte) (k : Nat × List Byte),
      s.started c 0x0822 (keyVals h type pub ++ x.vals ++ [some msg, some sig]) = true → s.vaultBars c 0x0822 = none →
      r.publicOf c h type pub 1 = .ok k → x.fits k.1 = true →
        ∃ t, exec (.keyVerify c h type pub x msg sig) s = .next t ∧
          if x.takes k.1 msg.length = true ∧ publicForm k.1 k.2 = true ∧ x.sigForm k.1 sig = true then
            admits t 0x0822 h (.verify x k.1 k.2 msg sig)
          else t = u.complete c .inputRange []) ∧
    (∀ (h : Nat) (peer : List Byte) (o : KeyObj), s.started c 0x0823 [some (num h), some peer] = true → s.vaultBars c 0x0823 = none → h ≠ 0 →
      r.obj h = some o → r.mayAddress c o.owner = true → o.state = .active → o.usage.testBit 2 = true → u.entFatal c.span = false →
      ((o.type = 0x1A ∧ peer.length = 32) ∨ (o.type = 0x1B ∧ peer.length = 56)) →
        ∃ t, exec (.keyAgree c h peer) s = .next t ∧ admits t 0x0823 h (.agree o.type o.material peer)) ∧
    (∀ (h type : Nat) (pub : List Byte) (k : Nat × List Byte), s.started c 0x0824 [some (num h), if h = 0 then some pub else none] = true →
      s.vaultBars c 0x0824 = none → r.publicOf c h (if pub.length = 1568 then 0x31 else 0x30) pub 3 = .ok k → (k.1 = 0x30 ∨ k.1 = 0x31) →
      u.entFatal c.span = false →
        ∃ t, exec (.keyEncap c h type pub) s = .next t ∧
          if publicForm k.1 k.2 = true ∧ mlkemModulus k.2 = true then admits t 0x0824 h (.encap k.1 k.2) else t = u.complete c .inputRange []) ∧
    (∀ (h : Nat) (ct : List Byte) (o : KeyObj), s.started c 0x0825 [some (num h), some ct] = true → s.vaultBars c 0x0825 = none → h ≠ 0 →
      r.obj h = some o → r.mayAddress c o.owner = true → o.state = .active → o.usage.testBit 4 = true → u.entFatal c.span = false →
      ((o.type = 0x30 ∧ ct.length = 1088) ∨ (o.type = 0x31 ∧ ct.length = 1568)) →
        ∃ t, exec (.keyDecap c h ct) s = .next t ∧ admits t 0x0825 h (.decap o.type o.material ct))) ∧
  (∀ (s : State) (sp : SpanId) (j : VaultJob) (rest : List VaultJob), s.waitingJobs sp = j :: rest → s.epochFits j.caller [] = true →
    (s.span sp).lanes.length = 8 →
      (∀ (k : Nat) (c : LaneCmd) (cs : List LaneCmd) (j' : VaultJob) (b : List Byte) (s1 s2 : State), j.work.commands = c :: cs →
        s.freeLane sp = some k → s.entFatal sp = false → s.drawJob sp j = some (j', s1) → s1.laneRandom sp c = some (b, s2) →
          ∃ t, exec (.vaultJobDispatch sp) s = .next t ∧ (t.lane sp k).vault = some j' ∧ (t.lane sp k).mode = .validating ∧
            (t.lane sp k).job = c :: cs ∧ (t.lane sp k).random = b ∧ (t.span sp).vault.jobs = (s2.span sp).vault.jobs) ∧
      ((∀ y ∈ j :: rest, y.work.commands ≠ [] ∧ s.epochFits y.caller [] = true) → s.freeLane sp = none →
        exec (.vaultJobDispatch sp) s = .next s))

/-- The other uses answer at once: KEY_PUBLIC the public part, KEY_INFO the attribute head, KEY_LIST the handles of the objects that the caller may
address, CTR_READ a counter's value and limit; KEY_EXPORT_SEALED waits as a job for its nonce, and completes with the sealed blob of an exportable
object under a wrapping key of its owner; CTR_INCR is one ordered change.
OBJECT_DESTROYED completes by a record once a DRAINING object has no reference on either span, or on the one that is left; KEY_DESTROY_TIMEOUT reports a
destruction that takes over a second, and ends its proposal.
Completions stated here: KEY_DESTROY_TIMEOUT, OBJECT_DESTROYED, KEY_PUBLIC, KEY_INFO, KEY_LIST, CTR_READ, CTR_INCR, KEY_EXPORT_SEALED. -/
def Obligations.VaultReadsCountersAndDestructions : Prop :=
  ((∀ (s : State) (c : Caller), (s.span c.span).cont.mode ≠ .seeking →
    let u := s.touch c
    let r := (u.span c.span).rep
    (∀ (h : Nat) (o : KeyObj), h ≠ unitHandle → r.obj h = some o → r.mayAddress c o.owner = true →
      (s.started c 0x0826 [some (num h)] = true → s.vaultBars c 0x0826 = none →
        exec (.keyPublic c h) s = .next (if symmetricType o.type then u.complete c .usageDenied [] else u.complete c .ok [o.public])) ∧
      (s.started c 0x0827 [some (num h)] = true → s.vaultBars c 0x0827 = none →
        exec (.keyInfo c h) s = .next (u.complete c .ok [o.head ((u.span c.span).stream.slotRefs h)]))) ∧
    (s.started c 0x0826 [some (num unitHandle)] = true → s.vaultBars c 0x0826 = none →
      exec (.keyPublic c unitHandle) s = .next (u.complete c .ok [u.cpkPublic c.span])) ∧
    (∀ first count, s.started c 0x0828 [some (num first), some (num count)] = true → s.vaultBars c 0x0828 = none → 1 ≤ count → count ≤ 256 →
      ∃ l : List KeyObj, l = (r.objs.filter fun o => r.mayAddress c o.owner && decide (first ≤ o.handle % 2 ^ 32)).take count ∧
        exec (.keyList c first count) s = .next (u.complete c .ok [l.flatMap fun o => leBytes 8 o.handle ++ leBytes 8 o.state.code])) ∧
    (∀ (h : Nat) (k : CtrObj), r.ctr h = some k →
      (s.started c 0x0829 [some (num h)] = true → s.vaultBars c 0x0829 = none →
        (r.mayAddress c (ownerOf h) = true → exec (.ctrRead c h) s = .next (u.complete c .ok [num k.value, num k.limit])) ∧
        (r.mayAddress c (ownerOf h) = false → r.obj h = none → exec (.ctrRead c h) s = .next (u.complete c .objectUnknown []))) ∧
      (∀ step b s1 p, s.started c 0x082A [some (num h), some (num step)] = true → s.vaultBars c 0x082A = none →
        r.mayAddress c (ownerOf h) = true → 1 ≤ step → step ≤ 4096 → u.asked c.span c (.ctrIncr h step) = some (b, s1) →
        s1.currentFor c.span (.ctrIncr h step) → (s1.ordered c.span).decideIncr c.span c h step = .ok p →
        s1.ordering c.span p.slates.length = true →
          ∃ t, exec (.ctrIncr c h step) s = .next t ∧ s1.formsRecord t c.span p.deltas p.slates .ok)) ∧
    (∀ (wrap h : Nat) (w o : KeyObj), s.started c 0x082B [some (num wrap), some (num h)] = true → s.vaultBars c 0x082B = none →
      r.obj wrap = some w → r.obj h = some o → r.mayAddress c w.owner = true → r.mayAddress c o.owner = true →
      w.state = .active → o.state = .active →
        ((w.type ≠ 2 ∨ w.usage.testBit 5 = false ∨ o.owner ≠ w.owner ∨ o.exportable = false) →
          exec (.keyExportSealed c wrap h) s = .next (u.complete c .usageDenied [])) ∧
        (w.type = 2 → w.usage.testBit 5 = true → o.owner = w.owner → o.exportable = true → u.entFatal c.span = false →
          ∃ t, exec (.keyExportSealed c wrap h) s = .next t ∧ (t.span c.span).rep = r ∧ (t.span c.span).vault.jobs =
            (u.span c.span).vault.jobs ++ [⟨c, 0x082B, [wrap, h], s.elapsed, .seal o (u.unitId c.span) w.material, none⟩]))) ∧
  (∀ (s s1 : State) (sp : SpanId) (j j' : VaultJob) (rest : List VaultJob) (o : KeyObj) (unit wrap : List Byte),
    s.waitingJobs sp = j :: rest → s.epochFits j.caller [] = true → j.work = .seal o unit wrap → s.drawJob sp j = some (j', s1) →
      let v := s1.waitOver sp (.cmd j.caller)
      exec (.vaultJobDispatch sp) s = .next
        (((v.upd sp fun x => { x with vault := { x.vault with jobs := x.vault.jobs.erase j' } }).showJobs sp).complete j'.caller .ok
          [o.seal unit (j'.rnd.getD []) wrap]))) ∧
  (∀ (s : State) (k : SpanId) (h : Nat) (x : KeyObj), s.keystone = some k → s.ordering k 2 = true → ((s.ordered k).span k).rep.obj h = some x →
    x.state = .draining →
      (((s.ordered k).span k).refs h = 0 → (((s.ordered k).span k.other).refs h = 0 ∨ ((s.ordered k).span k).cont.peerLost = true) →
        ∃ t sl rest, exec (.objectDestroyed h) s = .next t ∧ s.formsRecord t k (.eff (.dropObj h) :: rest) sl .ok) ∧
      (((s.ordered k).span k).refs h ≠ 0 → exec (.objectDestroyed h) s = .next s) ∧
      (∀ p, ((s.ordered k).span k).rep.lastingProp (.keyDestroy h) = some p → x.changed + sec ≤ (s.ordered k).now k →
        ∃ t sl rest, exec (.keyDestroyTimeout h) s = .next t ∧ t.fld k Fld.vltEvtDrainTimeout = 1 ∧
          s.formsRecord t k (.putProp (p.close .failed ((s.ordered k).now k) .deferredTimeout) :: rest) sl .ok))

/-! ### Contexts and the tag engine -/

/-- Contexts beside the commands under quorum: CTX_READ completes with the active entry, both slot heads and the stream state for whom the owner's objects
are addressable; by CONTEXT_DRAINED a DRAINING context that nothing refers to becomes UNCONFIGURED, and by CONTEXT_PROMOTE slot B is promoted after its
time, each by one record of the keystone span; the STE window (STE_CTX_READ_ACTIVE, STE_CTX_READ_SHADOW, STE_CTX_WRITE_SHADOW, STE_CTX_COMMIT,
STE_CTX_CLEAR_STATE, STE_KS_WRITE_SHADOW, STE_KS_CLEAR_SHADOW, STE_KS_READ_HEAD) shows either bank, writes the shadow bank alone, commits one entry with the
next VERSION, and never shows key material; on a span whose unit root has failed its check every slot stays EMPTY.
Completions stated here: CTX_READ, CONTEXT_DRAINED, CONTEXT_PROMOTE, STE_CTX_READ_ACTIVE, STE_CTX_WRITE_SHADOW, STE_CTX_READ_SHADOW, STE_CTX_COMMIT,
STE_CTX_CLEAR_STATE, STE_KS_WRITE_SHADOW, STE_KS_CLEAR_SHADOW, STE_KS_READ_HEAD. -/
def Obligations.ContextsFollowTheirBanks : Prop :=
  (∀ (s : State) (c : Caller) (n : Nat), s.started c 0x0709 [some (num n)] = true → s.vaultOpen c.span = true → s.bars c 0x0709 [.ctx n] = none → n < 4096 →
    let u := s.touch c
    let x := (u.span c.span).stream
    exec (.ctxRead c n) s = .next
      (if ((u.span c.span).rep.config.ctxOwner n).any fun o => (u.span c.span).rep.mayAddress c o then
        u.complete c .ok [ctxBytes (x.active.ctx n), slotHead (x.active.slot n false), slotHead (x.active.slot n true), recBytes (x.rec_ n)]
      else u.complete c .notAuthorised [])) ∧
  (∀ (s : State) (k : SpanId) (n : Nat), s.keystone = some k → s.ordering k 2 = true →
    let o := s.ordered k
    let e := (o.span k).stream.active.ctx n
    let b := (o.span k).stream.active.slot n true
    (e.state = .draining → (o.span k).refCount n = 0 → ((o.span k.other).refCount n = 0 ∨ (o.span k).cont.peerLost = true) →
      ∃ t sl rest, exec (.contextDrained n) s = .next t ∧ s.formsRecord t k (.eff (.ctxState n .unconfigured 0 0) :: rest) sl .ok) ∧
    ((e.state ≠ .draining ∨ (o.span k).refCount n ≠ 0) → exec (.contextDrained n) s = .next s) ∧
    (b.load = .loaded → e.state.installed = true → o.promoteAt k n < o.now k →
      ∃ t sl, exec (.contextPromote n) s = .next t ∧ s.formsRecord t k [.eff (.promote n)] sl .ok) ∧
    ((b.load ≠ .loaded ∨ o.now k ≤ o.promoteAt k n) → exec (.contextPromote n) s = .next s)) ∧
  (∀ (s : State) (sp : SpanId), s.regsCanonical = true →
    let x := (s.span sp).stream
    let n := s.selCtx sp
    let k := s.selSlot sp
    (∃ t, exec (.steCtxReadActive sp) s = .next t ∧ t.getWords sp (Reg.steCtxEntryn 0) 24 = ctxBytes (x.active.ctx n) ∧ (t.span sp).stream = x) ∧
    (∃ t, exec (.steCtxReadShadow sp) s = .next t ∧ t.getWords sp (Reg.steCtxEntryn 0) 24 = ctxBytes (x.shadow.ctx n) ∧ (t.span sp).stream = x) ∧
    (sparseWf (fun _ => CtxEntry.empty) none x.shadow.ctxs = true →
      ∃ t, exec (.steCtxWriteShadow sp) s = .next t ∧ (t.span sp).stream.active = x.active ∧ (t.span sp).stream.shadow.slots = x.shadow.slots ∧
        ∀ m, (t.span sp).stream.shadow.ctx m = if m = n then ctxOfBytes (s.getWords sp (Reg.steCtxEntryn 0) 24) else x.shadow.ctx m) ∧
    (sparseWf (fun _ => CtxEntry.empty) none x.active.ctxs = true → sparseWf (fun _ => Slot.empty) none x.active.slots = true →
      ∃ t, exec (.steCtxCommit sp) s = .next t ∧ t.fld sp Fld.steEvtCommitted = 1 ∧
        (∀ m, (t.span sp).stream.active.ctx m =
          if m = n then { x.shadow.ctx n with version := (x.active.ctx n).version + 1 } else x.active.ctx m) ∧
        ∀ m b, (t.span sp).stream.active.slot m b = if m = n then x.shadow.slot n b else x.active.slot m b) ∧
    ((x.active.ctx n).state ≠ .ready → exec (.steCtxClearState sp) s = .next s) ∧
    ((x.active.ctx n).state = .ready → sparseWf (fun _ => StreamRec.cleared) none x.states = true →
      ∃ t, exec (.steCtxClearState sp) s = .next t ∧ ∀ m, (t.span sp).stream.rec_ m = if m = n then StreamRec.cleared else x.rec_ m) ∧
    (sparseWf (fun _ => Slot.empty) none x.shadow.slots = true → s.fld sp Fld.vltStateVaultState ≠ 3 →
      (∃ t, exec (.steKsWriteShadow sp) s = .next t ∧ (t.span sp).stream.active = x.active ∧ (∀ i < 96, t.reg sp (Reg.steKsDatan i) = 0) ∧
        (t.span sp).stream.shadow.slot k.1 k.2 = slotOfBytes (s.getWords sp (Reg.steKsDatan 0) 96)) ∧
      (∃ t, exec (.steKsClearShadow sp) s = .next t ∧ (t.span sp).stream.active = x.active ∧ (∀ i < 96, t.reg sp (Reg.steKsDatan i) = 0) ∧
        (t.span sp).stream.shadow.slot k.1 k.2 = Slot.empty)) ∧
    (s.fld sp Fld.vltStateVaultState = 3 → ∃ t, exec (.steKsWriteShadow sp) s = .next t ∧
      ∀ m b, (t.span sp).stream.active.slot m b = Slot.empty ∧ (t.span sp).stream.shadow.slot m b = Slot.empty) ∧
    (∃ t, exec (.steKsReadHead sp) s = .next t ∧ t.getWords sp (Reg.steKsHeadn 0) 8 = slotHead (x.active.slot k.1 k.2) ∧
      (∀ i < 96, t.reg sp (Reg.steKsDatan i) = 0) ∧ (t.span sp).stream = x))

/-- The engine never signs at or below a nonce it has signed in the context, nor accepts a nonce twice: a signed frame raises the context's highest
nonce; an accepted frame's nonce was not seen, and afterwards exactly it and what was seen before is seen, as far as the window of 64 reaches back; other
contexts keep their state. -/
def Obligations.NoncesRiseAndAreAcceptedOnce : Prop :=
  ∀ (s : State) (sp : SpanId) (bank : Bank) (cfg : Storyboard) (port ctx : Nat) (f : List Byte) (h : Header) (t keyless order nomat : Nat) (tm : Template),
    let x := (s.span sp).stream
    let e := bank.ctx ctx
    cfg.template e.template = some tm → sparseWf (fun _ => StreamRec.cleared) none x.states = true →
      let index (n : Nat) : Nat := nonceIndex tm.mode e.rate n
      let seen (r : StreamRec) (j : Nat) : Prop := r.hwValid = true ∧
        (j = index r.nonceHw ∨ (j < index r.nonceHw ∧ r.replayMap.testBit (index r.nonceHw - 1 - j) = true))
      (∀ u v, s.signFrame sp bank cfg port ctx f h t keyless order nomat = (u, v) →
        (∀ m, m ≠ ctx → (u.span sp).stream.rec_ m = x.rec_ m) ∧
        (v.status = .ok → ((u.span sp).stream.rec_ ctx).hwValid = true ∧
          ((x.rec_ ctx).hwValid = true → index (x.rec_ ctx).nonceHw < index ((u.span sp).stream.rec_ ctx).nonceHw))) ∧
      (∀ u v, s.verifyFrame sp bank cfg port ctx f h t keyless order = (u, v) →
        (∀ m, m ≠ ctx → (u.span sp).stream.rec_ m = x.rec_ m) ∧
        (v.status = .ok → v.frame = f ∧ ∃ i, ¬ seen (x.rec_ ctx) i ∧
          ∀ j, index ((u.span sp).stream.rec_ ctx).nonceHw ≤ j + 64 →
            (seen ((u.span sp).stream.rec_ ctx) j ↔ seen (x.rec_ ctx) j ∨ j = i)) ∧
        (v.status ≠ .ok → ∀ j, seen ((u.span sp).stream.rec_ ctx) j ↔ seen (x.rec_ ctx) j))

/-! ### Stream ports and classification -/

/-- FRAME_RECEIVED completes at a port that is up: what is cut off or under 64 bytes, over 2,000 bytes, without room, or with a wrong FCS is dropped and counted in its own
counter; any other is counted, and a frame that is no MAC control frame and no PTP frame of a port that consumes them is queued for return after those
that wait, or dropped.
Completions stated here: FRAME_RECEIVED. -/
def Obligations.FramesAreAdmittedAndQueued : Prop :=
  ∀ (s : State) (sp : SpanId) (n : Nat) (f : List Byte) (cut : Bool), s.regsCanonical = true → n < 2 → s.portUp sp n = true →
    let kept (t : State) : Prop := ((t.span sp).port n).frames = ((s.span sp).port n).frames ∧ (t.span sp).stream = (s.span sp).stream
    let room : Prop := (f.length + 63) / 64 ≤ s.space sp n
    ((cut = true ∨ f.length < 64) → ∃ t, exec (.frameReceived sp n f cut) s = .next t ∧ kept t ∧
      t.fld sp (Fld.clsPortnRxRuntCount n) = min (s.fld sp (Fld.clsPortnRxRuntCount n) + 1) (2 ^ 32 - 1)) ∧
    (cut = false → 2000 < f.length → ∃ t, exec (.frameReceived sp n f cut) s = .next t ∧ kept t ∧
      t.fld sp (Fld.clsPortnRxOversizeCount n) = min (s.fld sp (Fld.clsPortnRxOversizeCount n) + 1) (2 ^ 32 - 1)) ∧
    (cut = false → 64 ≤ f.length → f.length ≤ 2000 →
      (¬ room → ∃ t, exec (.frameReceived sp n f cut) s = .next t ∧ kept t ∧
        t.fld sp (Fld.clsPortnRxNobufCount n) = min (s.fld sp (Fld.clsPortnRxNobufCount n) + 1) (2 ^ 32 - 1)) ∧
      (room → fcsValid f = false → ∃ t, exec (.frameReceived sp n f cut) s = .next t ∧ kept t ∧
        t.fld sp (Fld.clsPortnRxFcsErrCount n) = min (s.fld sp (Fld.clsPortnRxFcsErrCount n) + 1) (2 ^ 32 - 1)) ∧
      (room → fcsValid f = true → ∃ t, exec (.frameReceived sp n f cut) s = .next t ∧
        ((t.reg sp (Reg.clsPortnRxFramesLo n)).toNat + 2 ^ 32 * (t.reg sp (Reg.clsPortnRxFramesHi n)).toNat =
          ((s.reg sp (Reg.clsPortnRxFramesLo n)).toNat + 2 ^ 32 * (s.reg sp (Reg.clsPortnRxFramesHi n)).toNat + 1) % 2 ^ 64) ∧
        let h := parseFrame f (s.fld sp Fld.clsUdpSiUdpPort) (s.fld sp Fld.clsUdpSiSiSv) (s.fld sp Fld.clsUdpSiSiGoose)
          (s.fld sp (Fld.clsPortnCfgPtp n) == 1)
        (h.etype = 0x8808 → kept t) ∧
        (h.etype ≠ 0x8808 → h.cls ≠ .ptp → ((t.span sp).port n).frames = ((s.span sp).port n).frames ∨
          ∃ x, ((t.span sp).port n).frames = ((s.span sp).port n).frames ++ [x])))

/-- Transmission: by FRAME_RETURN the oldest frame of a port leaves and frees its cells, unless the partner's pause stops the line or a rung PTP slot goes
first; PAUSE_REPEAT sends PAUSE every 1.6 ms, or 16 ms in the 1 Gb/s mode, while space stays low; PARTNER_PAUSE_EXPIRY ends the partner's pause at its time;
by PTP_TX_DOORBELL a slot becomes busy once, and PTP_FRAME_INSERT sends the oldest one.
Completions stated here: FRAME_RETURN, PAUSE_REPEAT, PARTNER_PAUSE_EXPIRY, PTP_TX_DOORBELL, PTP_FRAME_INSERT. -/
def Obligations.FramesLeaveInOrder : Prop :=
  ∀ (s : State) (sp : SpanId) (n : Nat), s.regsCanonical = true → n < 2 →
    let p := (s.span sp).port n
    (∀ x rest, p.frames = x :: rest →
      (s.portUp sp n = true → s.partnerPaused sp n = false → (p.txBusy = [] ∨ p.inserted = true) → ∃ t l, exec (.frameReturn sp n) s = .next t ∧ ((t.span sp).port n).frames = rest ∧
        t.outputs = l ++ Output.frame sp (portNo sp n) x.out :: s.outputs ∧ ∀ o ∈ l, ∃ m q, o = .pause sp m q) ∧
      ((s.partnerPaused sp n = true ∨ (p.txBusy ≠ [] ∧ p.inserted = false)) → exec (.frameReturn sp n) s = .next s)) ∧
    (p.frames = [] → exec (.frameReturn sp n) s = .next s) ∧
    (s.portUp sp n = true → s.fld sp (Fld.clsPortnStatusXoff n) = 1 → s.space sp n < s.fld sp (Fld.clsPortnBufThrXon n) →
      let period := if s.portSlow sp n then 16000000 else 1600000
      (p.lastPause + period ≤ s.elapsed → exec (.pauseRepeat sp n) s = .next (s.sendPause sp n 0xFFFF)) ∧
      (s.elapsed < p.lastPause + period → exec (.pauseRepeat sp n) s = .next s)) ∧
    (∀ at_, p.pausedUntil = some at_ →
      (at_ ≤ s.elapsed → ∃ t, exec (.partnerPauseExpiry sp n) s = .next t ∧ t.partnerPaused sp n = false ∧
        t.fld sp (Fld.clsPortnStatusPartnerPause n) = 0 ∧ ((t.span sp).port n).frames = p.frames) ∧
      (s.elapsed < at_ → exec (.partnerPauseExpiry sp n) s = .next s)) ∧
    (∀ slot, slot < 8 → ∃ t, exec (.ptpTxDoorbell sp n slot) s = .next t ∧
      ((t.span sp).port n).txBusy = if p.txBusy.contains slot || p.txStuck.contains slot then p.txBusy else p.txBusy ++ [slot]) ∧
    (∀ slot rest bs, p.txBusy = slot :: rest → s.portUp sp n = true → s.partnerPaused sp n = false → (p.inserted = false ∨ p.frames = []) →
      s.guestRead sp 1 ((s.reg sp (Reg.clsPortnPtpTxqLo n)).toNat + 2 ^ 32 * (s.reg sp (Reg.clsPortnPtpTxqHi n)).toNat + 256 * slot) 256 = some bs →
        let body := sliceBytes bs 16 (min 240 (leField bs 2 2))
        ∃ t, exec (.ptpFrameInsert sp n) s = .next t ∧ ((t.span sp).port n).txBusy = rest ∧
          Output.frame sp (portNo sp n) (body ++ fcs body) ∈ t.outputs)

/-- Link, training, reservations and classification tables: by LINK_CHANGE LINK follows lock and the bit error ratio, a loss discards what waits; training
fails 500 ms after its start (TRAIN_TIMEOUT) and starts again 1 s later (TRAIN_RESTART) or on RETRAIN; RSV_CELLS (BUF_RSV_WRITE) takes effect when it lowers
or fits the pool, is held when not until BUF_RSV_RAISE_APPLY finds room, and is ignored past the limit; the window (CLS_EM_READ, CLS_EM_WRITE, CLS_EM_CLEAR)
reads the active table and writes the shadow table, and a commit (CLS_COMMIT) is adopted by both ports at their frame boundaries (PORT_BANK_ADOPT).
Completions stated here: LINK_CHANGE, TRAIN_TIMEOUT, TRAIN_RESTART, RETRAIN, BUF_RSV_WRITE, BUF_RSV_RAISE_APPLY, CLS_EM_READ, CLS_EM_WRITE,
CLS_EM_CLEAR, CLS_COMMIT, PORT_BANK_ADOPT. -/
def Obligations.LinksBuffersAndTablesFollowTheirRules : Prop :=
  ∀ (s : State) (sp : SpanId) (n : Nat), s.regsCanonical = true → n < 2 →
    let p := (s.span sp).port n
    let c := (s.span sp).cls
    (p.retired = false → s.fld sp (Fld.clsPortnCfgMode n) ≠ 4 →
      (s.fld sp (Fld.clsPortnStatusLink n) = 0 → ∃ t, exec (.linkChange sp n true false) s = .next t ∧
        t.fld sp (Fld.clsPortnStatusLink n) =
          boolNat (Action.ofCode ((s.span sp).rep.config.errorPolicy (0x100 + n)).1 != .retirePort)) ∧
      (s.fld sp (Fld.clsPortnStatusLink n) = 1 → ∃ t, exec (.linkChange sp n false false) s = .next t ∧
        t.fld sp (Fld.clsPortnStatusLink n) = 0 ∧ ((t.span sp).port n).frames = [] ∧ t.portUp sp n = false)) ∧
    (∀ at_, p.trainStart = some at_ →
      (at_ + 500 * ms ≤ s.elapsed → s.fld sp (Fld.clsPortnCfgMode n) = 2 → ∃ t, exec (.trainTimeout sp n) s = .next t ∧ t.fld sp (Fld.clsPortnStatusTrainFail n) = 1 ∧
        ((t.span sp).port n).trainStart = none) ∧
      (s.elapsed < at_ + 500 * ms → exec (.trainTimeout sp n) s = .next s)) ∧
    (∀ at_, p.trainFailed = some at_ →
      (at_ + sec ≤ s.elapsed → s.fld sp (Fld.clsPortnCfgMode n) = 2 → p.retired = false → exec (.trainRestart sp n) s = .next
        ((s.updPort sp n fun x => { x with trainStart := some s.elapsed, trainFailed := none }).setFld sp (Fld.clsPortnStatusTrainDone n) 0)) ∧
      (s.elapsed < at_ + sec → exec (.trainRestart sp n) s = .next s)) ∧
    (s.fld sp (Fld.clsPortnCfgMode n) = 2 → p.retired = false → ∃ t, exec (.retrain sp n) s = .next t ∧
      ((t.span sp).port n).trainStart = some s.elapsed ∧ t.fld sp (Fld.clsPortnStatusTrainDone n) = 0) ∧
    (∀ v : Word32, v.toNat < 65536 →
      (32704 < v.toNat + s.rsvCells sp (1 - n) → exec (.bufRsvWrite sp n v) s = .next s) ∧
      (v.toNat + s.rsvCells sp (1 - n) ≤ 32704 → (v.toNat ≤ s.rsvCells sp n ∨ v.toNat - s.rsvCells sp n ≤ s.freePool sp) →
        ∃ t, exec (.bufRsvWrite sp n v) s = .next t ∧ t.rsvCells sp n = v.toNat ∧ ((t.span sp).port n).heldRsv = none) ∧
      (v.toNat + s.rsvCells sp (1 - n) ≤ 32704 → s.rsvCells sp n < v.toNat → s.freePool sp < v.toNat - s.rsvCells sp n →
        exec (.bufRsvWrite sp n v) s = .next (s.updPort sp n fun x => { x with heldRsv := some v.toNat }))) ∧
    (∀ v, p.heldRsv = some v → v < 65536 → v + s.rsvCells sp (1 - n) ≤ 32704 → s.rsvCells sp n < v →
      (v - s.rsvCells sp n ≤ s.freePool sp → ∃ t, exec (.bufRsvRaiseApply sp n) s = .next t ∧ t.rsvCells sp n = v ∧
        ((t.span sp).port n).heldRsv = none) ∧
      (s.freePool sp < v - s.rsvCells sp n → exec (.bufRsvRaiseApply sp n) s = .next s)) ∧
    (let i := s.fld sp Fld.clsEmIndexIndex
      let e := EmTable.get c.active i
      (e.key < 2 ^ 256 → e.ctx < 4096 → ∃ t, exec (.clsEmRead sp) s = .next t ∧ t.emData sp = e ∧ (t.span sp).cls = c) ∧
      (sparseWf (fun _ => EmEntry.empty) none c.shadow = true →
        (∃ t, exec (.clsEmWrite sp) s = .next t ∧ (t.span sp).cls.active = c.active ∧ (t.span sp).cls.dirty = true ∧
          ∀ j, EmTable.get (t.span sp).cls.shadow j = if j = i then s.emData sp else EmTable.get c.shadow j) ∧
        (∃ t, exec (.clsEmClear sp) s = .next t ∧ (t.span sp).cls.active = c.active ∧ (t.span sp).cls.dirty = true ∧
          ∀ j, EmTable.get (t.span sp).cls.shadow j = if j = i then EmEntry.empty else EmTable.get c.shadow j))) ∧
    (s.fld sp Fld.clsCommitPending = 1 → exec (.clsCommit sp) s = .next s) ∧
    (s.fld sp Fld.clsCommitPending = 0 → ∃ t, exec (.clsCommit sp) s = .next t ∧ t.fld sp Fld.clsCommitPending = 1 ∧
      (t.span sp).cls = { c with
        active := c.shadow, dirty := false, old0 := some (s.portView sp 0), old1 := some (s.portView sp 1) }) ∧
    (∃ t, exec (.portBankAdopt sp n) s = .next t ∧ (t.span sp).cls = (if n = 0 then { c with old0 := none } else { c with old1 := none }) ∧
      (s.fld sp Fld.clsCommitPending = 1 → (if n = 0 then c.old1 else c.old0) = none →
        t.fld sp Fld.clsCommitPending = 0 ∧ t.fld sp Fld.clsEvtCommitted = 1))

/-! ### Big-number lanes -/

/-- The life of a lane's job: BNE_CMD_PUSH puts a command that breaks no rule into the queue, and refuses the whole job of another with one completion;
LANE_JOB_START starts a whole job on an idle lane with a cleared accumulator and its random values, unless 64 completions wait; JOB, LOAD, LOADG and
VALIDATE come first, CMP sets RESULT, LOOP_MARK and LOOP_BACK return while REJECT is set and COUNT allows; LANE_COMPLETION_POP takes the oldest
completion.
The end of a lane's job: STORE stages its value in the first run and compares it in the second; as a job that passed goes into the wipe, all its stores
are released or, where one is blocked, none, and the memory of the span changes in no other byte; LANE_ABORT ends a running job at its command, and from
operand 8 on stands for memory errors of a lane (the model's choice, log entry 54); LANE_WIPE_DONE ends a comparison, and wipes the lane and completes its
job; a vault job completes the use that waits for it with its answer.
Completions stated here: BNE_CMD_PUSH, LANE_JOB_START, JOB, VALIDATE, LOAD, STORE, LOADG, LOOP_MARK, LOOP_BACK, CMP, LANE_ABORT, LANE_WIPE_DONE,
LANE_COMPLETION_POP. -/
def Obligations.LaneJobsFollowTheirLife : Prop :=
  (∀ (s : State) (sp : SpanId) (k : Nat), s.regsCanonical = true → k < 8 → (s.span sp).lanes.length = 8 →
    let l := s.lane sp k
    (∀ w0 w1 w2 w3, w0 < 2 ^ 32 → w1 < 2 ^ 32 → w2 < 2 ^ 32 → w3 < 2 ^ 32 →
      let st := s.issueStatus sp k ⟨w0, w1, w2, w3⟩
      (st = .ok → ∃ t, exec (.bneCmdPush sp k w0 w1 w2 w3) s = .next t ∧ t.lane sp k = { l with queue := l.queue ++ [⟨w0, w1, w2, w3⟩], refusing := false } ∧
        t.fld sp (Fld.bneLanekIssueStatus k) = 0) ∧
      (st ≠ .ok → l.refusing = false → ∀ j rest, l.open_ = j :: rest → ∃ t x, exec (.bneCmdPush sp k w0 w1 w2 w3) s = .next t ∧
        (t.lane sp k).queue = l.queue.take (l.queue.length - l.open_.length) ∧ (t.lane sp k).refusing = true ∧
        (t.lane sp k).cpls = l.cpls ++ [x] ∧ x.status = st ∧ x.tag = j.tag ∧ x.index = l.open_.length)) ∧
    (∀ job rest, l.mode = .idle → s.unitState sp k = 0 → l.nextGuest = none → s.laneRoom sp = true → l.firstJob = some (job, rest) →
      let j := job.headD ⟨0, 0, 0, 0⟩
      (64 ≤ l.cpls.length → ∃ t, exec (.laneJobStart sp k) s = .next t ∧ t.lane sp k = { l with mode := .held }) ∧
      (∀ b s1, l.cpls.length < 64 → (j.rand = 0 ∨ s.entFatal sp = false) → s.laneRandom sp j = some (b, s1) →
        ∃ t, exec (.laneJobStart sp k) s = .next t ∧ (t.lane sp k).mode = .validating ∧ (t.lane sp k).job = job ∧ (t.lane sp k).queue = rest ∧
          (t.lane sp k).index = 0 ∧ (t.lane sp k).acc = 0 ∧ (t.lane sp k).chain = 0 ∧ (t.lane sp k).random = b) ∧
      (l.cpls.length < 64 → j.rand ≠ 0 → s.entFatal sp = true → ∃ t x, exec (.laneJobStart sp k) s = .next t ∧ (t.lane sp k).mode = .idle ∧
        (t.lane sp k).queue = rest ∧ (t.lane sp k).cpls = l.cpls ++ [x] ∧ x.status = .serviceUnavailable ∧ x.tag = j.tag)) ∧
    (∀ x rest, l.cpls = x :: rest → l.mode ≠ .held → ∃ t, exec (.laneCompletionPop sp k) s = .next t ∧ t.lane sp k = { l with cpls := rest }) ∧
    (∀ c, s.laneAt sp k 0x00 [.validating] c → c.close = false → ∃ t, exec (.job sp k) s = .next t ∧ t.lane sp k = { l with index := l.index + 1 }) ∧
    (∀ c, s.laneOp sp k 0x02 [.validating] c →
      (∀ bs, s.laneRead sp k c.addr (8 * c.count) = .ok bs →
        ∃ t, exec (.load sp k) s = .next t ∧ s.slotWritten t sp k c.dst (putLimbs (l.slot c.dst) 0 c.count (ofLe bs))) ∧
      (∀ a, s.laneRead sp k c.addr (8 * c.count) = .error a → s.onlyReports sp (0x440 + s.laneGuest sp k) →
        ∃ t, exec (.load sp k) s = .next t ∧ s.laneEnds t sp k .notAuthorised)) ∧
    (∀ c bs g, s.laneOp sp k 0x04 [.validating] c → s.laneRead sp k c.addr 64 = .ok (bs.take 64) → 64 ≤ bs.length →
      s.laneRead sp k c.addr (descriptorBytes (bs.take 64)) = .ok bs → parseGroup bs = .ok g →
      ((l.groups.filter fun x => x.1 ≠ c.group).map fun x => x.2.bytes).sum + descriptorBytes (bs.take 64) ≤ 5120 →
        ∃ t, exec (.loadg sp k) s = .next t ∧ s.laneEnds t sp k .ok ∧ (t.lane sp k).newGroup = some (c.group, g)) ∧
    (∀ c, s.laneAt sp k 0x01 [.validating] c → c.close = false →
      (l.lateStatus ≠ .ok → ∃ t, exec (.validate sp k) s = .next t ∧ s.laneEnds t sp k l.lateStatus) ∧
      (l.lateStatus = .ok → l.groupOf c = none → ∃ t, exec (.validate sp k) s = .next t ∧ (t.lane sp k).mode = .runFirst ∧
        (t.lane sp k).index = l.index + 1) ∧
      (∀ g, l.lateStatus = .ok → l.groupOf c = some g →
        let bad (x : Nat × Nat) : Bool := firstFail g (bitsOf c.w1 (8 * x.2 + 7) (8 * x.2)) (l.slot x.1) != .ok
        let sources := [c.srcA, c.srcB, c.srcC, c.dst].zipIdx
        ((sources.any bad) = false → ∃ t, exec (.validate sp k) s = .next t ∧ (t.lane sp k).mode = .runFirst ∧ (t.lane sp k).index = l.index + 1) ∧
        (∀ x, (sources.find? bad) = some x → ∃ t, exec (.validate sp k) s = .next t ∧
          s.laneEnds t sp k (firstFail g (bitsOf c.w1 (8 * x.2 + 7) (8 * x.2)) (l.slot x.1))))) ∧
    (∀ c, s.laneAt sp k 0x3A [.runFirst, .runSecond] c → c.close = false →
      ∃ t, exec (.loopMark sp k) s = .next t ∧ t.lane sp k = { l with mark := l.index, index := l.index + 1 }) ∧
    (∀ c, s.laneAt sp k 0x3B [.runFirst, .runSecond] c → c.close = false →
      (l.reject = false → ∃ t, exec (.loopBack sp k) s = .next t ∧ (t.lane sp k).index = l.index + 1 ∧ (t.lane sp k).mode = l.mode) ∧
      (l.reject = true → sparseGet 0 l.index l.loops < c.count → ∃ t, exec (.loopBack sp k) s = .next t ∧ (t.lane sp k).index = l.mark ∧
        (t.lane sp k).reject = false ∧ (t.lane sp k).mode = l.mode) ∧
      (l.reject = true → c.count ≤ sparseGet 0 l.index l.loops → ∃ t, exec (.loopBack sp k) s = .next t ∧ s.laneEnds t sp k .resourceExhausted)) ∧
    (∀ c, s.laneOp sp k 0x3C [.runFirst, .runSecond] c → ∃ t, exec (.cmp sp k) s = .next t ∧
      (t.lane sp k).result = (limbs (l.slot c.srcA) 0 c.count == limbs (l.slot c.srcB) 0 c.count) ∧ ∀ j, (t.lane sp k).slot j = l.slot j)) ∧
  (∀ (s : State) (sp : SpanId) (k : Nat), s.regsCanonical = true → k < 8 → (s.span sp).lanes.length = 8 →
    let l := s.lane sp k
    (∀ c, s.laneAt sp k 0x03 [.runFirst, .runSecond] c →
      let v := limbs (l.slot c.srcA) 0 c.count
      let all := l.staging ++ [⟨c.addr, c.count, v⟩]
      ((l.mode = .runSecond ∨ c.close = false ∨ l.repeats = true) → ∃ t, exec (.store sp k) s = .next t ∧
        (t.span sp).worlds = (s.span sp).worlds ∧
        (l.mode = .runFirst → (t.lane sp k).staging = all) ∧
        (l.mode = .runSecond → (t.lane sp k).staging = l.staging ∧ (t.lane sp k).compared = l.compared + 1 ∧ ((t.lane sp k).equal = true ↔
          l.equal = true ∧ ∃ x, l.staging[l.compared]? = some x ∧ x.value = v))) ∧
      (l.mode = .runFirst → c.close = true → l.repeats = false →
        (s.mayRelease sp k all → ∃ t, exec (.store sp k) s = .next t ∧ s.laneEnds t sp k .ok ∧
          (t.span sp).worlds = { (s.span sp).worlds with mem := s.memAfter sp k all }) ∧
        (¬ s.mayRelease sp k all → s.onlyReports sp (0x440 + s.laneGuest sp k) → ∃ t, exec (.store sp k) s = .next t ∧
          s.laneEnds t sp k .notAuthorised ∧ (t.span sp).worlds.mem = (s.span sp).worlds.mem))) ∧
    (l.mode.running = true → ∃ t, exec (.laneAbort sp k) s = .next t ∧ s.laneEnds t sp k .jobCancelled) ∧
    (l.mode.running = false → exec (.laneAbort sp k) s = .next s) ∧
    (l.mode.running = true → ∃ t, exec (.laneAbort sp (k + 8)) s = .next t ∧ s.laneEnds t sp k .faultMismatch) ∧
    (l.mode = .comparing → l.vault = none →
      let total (x : List (Nat × Nat)) : Nat := (x.map (·.2)).sum
      let same := l.equal = true ∧ l.compared = l.staging.length ∧ total l.loops = total l.firstLoops
      (¬ same → ∃ t, exec (.laneWipeDone sp k) s = .next t ∧ s.laneEnds t sp k .faultMismatch ∧ (t.span sp).worlds = (s.span sp).worlds) ∧
      (same → s.mayRelease sp k l.staging → ∃ t, exec (.laneWipeDone sp k) s = .next t ∧ s.laneEnds t sp k .ok ∧
        (t.span sp).worlds = { (s.span sp).worlds with mem := s.memAfter sp k l.staging })) ∧
    (∀ j rest, l.mode = .wiping → l.vault = none → l.job = j :: rest → l.nextGuest = none →
      (l.endStatus ≠ .arithGuard → l.endStatus ≠ .faultMismatch → ∃ t x, exec (.laneWipeDone sp k) s = .next t ∧
        (t.lane sp k).mode = .idle ∧ (t.lane sp k).slots = [] ∧ (t.lane sp k).acc = 0 ∧ (t.lane sp k).staging = [] ∧
        (t.lane sp k).cpls = l.cpls ++ [x] ∧ x.tag = j.tag ∧ x.status = l.endStatus ∧ x.opcode = l.endOpcode ∧ x.index = l.endIndex ∧
        x.result = l.result ∧ (t.span sp).worlds.mem = (s.span sp).worlds.mem) ∧
      (l.endStatus = .arithGuard → ∃ t, exec (.laneWipeDone sp k) s = .next t ∧ s.raised t sp (0x300 + k)) ∧
      (l.endStatus = .faultMismatch → l.memErr = false → ∃ t, exec (.laneWipeDone sp k) s = .next t ∧ s.raised t sp (0x308 + k)) ∧
      (l.endStatus = .faultMismatch → l.memErr = true → ∃ t, exec (.laneWipeDone sp k) s = .next t ∧ s.raised t sp (0x310 + k))) ∧
    (∀ j f, l.mode = .wiping → l.vault = some j → l.nextGuest = none → l.endStatus = .ok → (∀ c n, j.work ≠ .change c n) → j.answer = .ok f →
      ∃ u : State, exec (.laneWipeDone sp k) s = .next (u.complete j.caller .ok f) ∧
        (u.span sp).vault.jobs = (s.span sp).vault.jobs.erase j ∧ (u.lane sp k).slots = [] ∧ (u.lane sp k).mode = .idle))

/-- The modular commands (MADD, MSUB, MMUL, MMAC, MRED, MREDA, MINV, MEXP, CONV_IN, CONV_OUT) complete with the residues that their rules name, fully
reduced, for every source below four times the modulus: sums, differences, Montgomery products, chains of products, reductions, inverses and powers; the
integer commands (IMUL, IADD) give the exact product and sum; a source whose guard field is not clear ends the job with ARITH_GUARD.
Completions stated here: MADD, MSUB, MMUL, MMAC, MRED, MREDA, MINV, MEXP, CONV_IN, CONV_OUT, IMUL, IADD. -/
def Obligations.ModularCommandsAreExact : Prop :=
  ∀ (s : State) (sp : SpanId) (k : Nat) (c : LaneCmd) (g : Group), g.modulusOk →
    let l := s.lane sp k
    let n := g.limbs
    let p := g.p
    let a := limbs (l.slot c.srcA) 0 (n + 1)
    let b := limbs (l.slot c.srcB) 0 (n + 1)
    let dst (t : State) (r : Nat) : Prop := s.slotWritten t sp k c.dst (modResult n (l.slot c.dst) r)
    (s.laneRuns sp k 0x10 c g → a < 4 * p → b < 4 * p → ∃ t, exec (.madd sp k) s = .next t ∧ dst t ((a + b) % p)) ∧
    (s.laneRuns sp k 0x11 c g → a < 4 * p → b < 4 * p → ∃ t, exec (.msub sp k) s = .next t ∧ dst t ((a + 4 * p - b) % p)) ∧
    (s.laneRuns sp k 0x12 c g →
      (a < 4 * p → b < 4 * p → ∃ t r, exec (.mmul sp k) s = .next t ∧ r < p ∧ r * 2 ^ (64 * n) % p = a * b % p ∧ dst t r) ∧
      (4 * 2 ^ (64 * n) ≤ a → ∃ t, exec (.mmul sp k) s = .next t ∧ s.laneEnds t sp k .arithGuard)) ∧
    (s.laneRuns sp k 0x13 c g →
      let x (slot j : Nat) : Nat := limbs (limbs (l.slot slot) (j * (n + 1)) (n + 1)) 0 (n + 1)
      let acc := (if c.chainStart then 0 else l.acc) + ((List.range c.products).map fun j => x c.srcA j * x c.srcB j).sum
      (∀ j < c.products, x c.srcA j < 4 * 2 ^ (64 * n) ∧ x c.srcB j < 4 * 2 ^ (64 * n)) → acc < 2 ^ (128 * n + 16) →
        ∃ t, exec (.mmac sp k) s = .next t ∧ (t.lane sp k).acc = acc ∧
          (t.lane sp k).chain = (if c.chainStart then 0 else l.chain) + c.products ∧ ∀ j, (t.lane sp k).slot j = l.slot j) ∧
    (s.laneRuns sp k 0x14 c g → limbs (l.slot c.srcA) (2 * n) 1 = 0 →
      ∃ t, exec (.mred sp k) s = .next t ∧ dst t (limbs (l.slot c.srcA) 0 (2 * n) % p)) ∧
    (s.laneRuns sp k 0x15 c g → l.acc < 2 ^ 16 * p * p → ∃ t r, exec (.mreda sp k) s = .next t ∧ r < p ∧ r * 2 ^ (64 * n) % p = l.acc % p ∧
      dst t r ∧ (t.lane sp k).acc = 0 ∧ (t.lane sp k).chain = 0) ∧
    (s.laneRuns sp k 0x16 c g → a < 4 * p →
      (Nat.gcd a p = 1 → ∃ t r, exec (.minv sp k) s = .next t ∧ r < p ∧ r * a % p = 1 ∧ dst t r) ∧
      (Nat.gcd a p ≠ 1 → ∃ t, exec (.minv sp k) s = .next t ∧ s.laneEnds t sp k .notInvertible)) ∧
    (s.laneRuns sp k 0x17 c g → a < 4 * p →
      let e := limbs (l.slot c.srcB) 0 ((c.count + 63) / 64)
      e < 2 ^ c.count → ∃ t, exec (.mexp sp k) s = .next t ∧ dst t (a ^ e % p)) ∧
    (s.laneRuns sp k 0x18 c g → a < 4 * p → ∃ t, exec (.convIn sp k) s = .next t ∧ dst t (a * 2 ^ (64 * n) % p)) ∧
    (s.laneRuns sp k 0x19 c g → a < 4 * p → ∃ t r, exec (.convOut sp k) s = .next t ∧ r < p ∧ r * 2 ^ (64 * n) % p = a % p ∧ dst t r) ∧
    (s.laneRuns sp k 0x1A c g → limbs (l.slot c.srcA) n 1 = 0 → limbs (l.slot c.srcB) n 1 = 0 → n ≤ 64 → ∃ t, exec (.imul sp k) s = .next t ∧
      s.slotWritten t sp k c.dst (putLimbs (l.slot c.dst) 0 (2 * n) (limbs (l.slot c.srcA) 0 n * limbs (l.slot c.srcB) 0 n))) ∧
    (s.laneRuns sp k 0x1B c g → limbs (l.slot c.srcA) (2 * n) 1 = 0 → limbs (l.slot c.srcB) (2 * n) 1 = 0 → n ≤ 64 →
      ∃ t, exec (.iadd sp k) s = .next t ∧ s.slotWritten t sp k c.dst
        (putLimbs (l.slot c.dst) 0 (2 * n + 1) (limbs (l.slot c.srcA) 0 (2 * n) + limbs (l.slot c.srcB) 0 (2 * n))))

/-- Curve commands (ESMUL, DSMUL, EDMUL, XMUL) complete with a multiple of the point up to a factor of its projective form that the spec leaves open;
polynomial commands (PNTT, PINTT, PMAC, PADD, PSUB, PROUND, PNORM, PCODE, XOF, SAMPLE) work coefficient by coefficient on canonical polynomials, the inverse
transform undoes the transform, and a coefficient that is not canonical ends the job with ARITH_GUARD; what the spec does not state of PCODE, XOF and SAMPLE
is left uninterpreted (log entry 53), but that a polynomial they write is canonical.
Completions stated here: ESMUL, DSMUL, EDMUL, XMUL, PNTT, PINTT, PMAC, PADD, PSUB, PROUND, PNORM, PCODE, XOF, SAMPLE. -/
def Obligations.CurveAndPolynomialCommands : Prop :=
  (∀ (s : State) (sp : SpanId) (k : Nat) (c : LaneCmd) (g : Group), 1 < g.p →
    let l := s.lane sp k
    let n := g.limbs
    let p := g.p
    let scalar (slot : Nat) : Nat := limbs (l.slot slot) 0 n
    let co (i : Nat) : Nat := limbs (l.slot c.srcA) (i * n) n
    let point (t : State) (v : Nat → List Nat) : Prop := ∃ f, 0 < f ∧ f < p ∧ s.slotWritten t sp k c.dst (putCoords g (l.slot c.dst) (v f))
    limbs (l.slot c.srcB) n 1 = 0 → co 0 < p → co 1 < p → (∀ i, 2 ≤ i → i ≤ 5 → g.arrays.getD i 0 < p) →
      (s.laneRuns sp k 0x20 c g → ∃ t, exec (.esmul sp k) s = .next t ∧
        let r := PPoint.mul p (g.arrays.getD 2 0) (PPoint.ofAffine (co 0) (co 1)) (scalar c.srcB) (64 * n)
        point t fun f => [r.x * f % p, r.y * f % p, r.z * f % p]) ∧
      (s.laneRuns sp k 0x21 c g → limbs (l.slot c.srcC) n 1 = 0 → ∃ t, exec (.dsmul sp k) s = .next t ∧
        let ca := g.arrays.getD 2 0
        let r := (PPoint.mul p ca (PPoint.ofAffine (g.arrays.getD 4 0) (g.arrays.getD 5 0)) (scalar c.srcB) (64 * n)).add p ca
          (PPoint.mul p ca (PPoint.ofAffine (co 0) (co 1)) (scalar c.srcC) (64 * n))
        point t fun f => [r.x * f % p, r.y * f % p, r.z * f % p]) ∧
      (s.laneRuns sp k 0x22 c g → ∃ t, exec (.edmul sp k) s = .next t ∧
        let r := EPoint.mul p (g.arrays.getD 2 0) (g.arrays.getD 3 0) ⟨co 0, co 1, 1, co 0 * co 1 % p⟩ (scalar c.srcB) (64 * n)
        point t fun f => [r.x * f % p, r.y * f % p, r.z * f % p, r.t * f % p]) ∧
      (s.laneRuns sp k 0x23 c g → ∃ t, exec (.xmul sp k) s = .next t ∧
        let r := ladder p (g.arrays.getD 2 0) (co 0) (scalar c.srcB) g.modBits (1, 0, co 0, 1)
        point t fun f => [r.1 * f % p, r.2.1 * f % p])) ∧
  (∀ (s : State) (sp : SpanId) (k : Nat) (c : LaneCmd) (g : Group), (g.kind = 6 ∨ g.kind = 7) →
    let l := s.lane sp k
    let a := coeffs (l.slot c.srcA)
    let b := coeffs (l.slot c.srcB)
    let ok (x : List Nat) : Prop := ∀ v ∈ x, v < g.q
    let dst (t : State) (x : List Nat) : Prop := s.slotWritten t sp k c.dst (polyResult (l.slot c.dst) x)
    (s.laneRuns sp k 0x30 c g →
      (ok a → ∃ t x, exec (.pntt sp k) s = .next t ∧ x.length = 256 ∧ ok x ∧ dst t x ∧ pintt g 0 (polyResult 0 x) = .ok (polyResult 0 a)) ∧
      (¬ ok a → ∃ t, exec (.pntt sp k) s = .next t ∧ s.laneEnds t sp k .arithGuard)) ∧
    (s.laneRuns sp k 0x31 c g → ok a → ∃ t x, exec (.pintt sp k) s = .next t ∧ x.length = 256 ∧ ok x ∧ dst t x ∧
      pntt g 0 (polyResult 0 x) = .ok (polyResult 0 a)) ∧
    (s.laneRuns sp k 0x32 c g → ok a →
      let old := if c.chainStart then List.replicate 256 0 else coeffs (l.slot c.dst)
      let width := if g.kind = 6 then 2 else 4
      let bound := g.q + (if c.chainStart then 0 else sparseGet 0 c.dst l.polyChain) * width * g.q
      let chained (t : State) (b : List Nat) : Prop := ∃ x, x.length = 256 ∧ dst t x ∧ (c.chainEnd = true → ok x) ∧
        ∀ i < 256, x.getD i 0 % g.q = (old.getD i 0 + (products g a b).getD i 0) % g.q
      (∀ v ∈ old, v < bound) → bound + width * g.q ≤ 2 ^ 32 →
        (c.stream = false → ok b → ∃ t, exec (.pmac sp k) s = .next t ∧ chained t b) ∧
        (∀ bs, c.stream = true → s.laneRead sp k c.addr 1024 = .ok bs → ok (coeffs (ofLe bs)) →
          ∃ t, exec (.pmac sp k) s = .next t ∧ chained t (coeffs (ofLe bs)))) ∧
    (s.laneRuns sp k 0x33 c g → ok a → ok b → ∃ t, exec (.padd sp k) s = .next t ∧ dst t (a.zipWith (fun u v => (u + v) % g.q) b)) ∧
    (s.laneRuns sp k 0x34 c g → ok a → ok b → ∃ t, exec (.psub sp k) s = .next t ∧ dst t (a.zipWith (fun u v => (u + g.q - v) % g.q) b)) ∧
    (∀ v, s.laneRuns sp k 0x35 c g → pround g c.mode (l.slot c.dst) (l.slot c.srcA) (l.slot c.srcB) = .ok v →
      ∃ t, exec (.pround sp k) s = .next t ∧ (t.lane sp k).slot c.dst = v.1 ∧
        (∀ w, v.2 = some w → c.srcB ≠ c.dst → (t.lane sp k).slot c.srcB = w) ∧
        ∀ j, j ≠ c.dst → (j ≠ c.srcB ∨ v.2 = none) → (t.lane sp k).slot j = l.slot j) ∧
    (s.laneRuns sp k 0x36 c g → ok a → ∃ t, exec (.pnorm sp k) s = .next t ∧ (∀ j, (t.lane sp k).slot j = l.slot j) ∧
      ((t.lane sp k).mode = l.mode → (t.lane sp k).index = l.index + 1 →
        ((t.lane sp k).reject = true ↔ l.reject = true ∨ ∃ v ∈ a, c.addr % 2 ^ 32 ≤ min v (g.q - v)))) ∧
    (s.laneRuns sp k 0x37 c g →
      let r := Config.pcode c.mode g.kind (l.slot c.srcA)
      (Config.pcodePacks c.mode = true → ok a → ∃ t, exec (.pcode sp k) s = .next t ∧ s.slotWritten t sp k c.dst (r % 2 ^ (64 * 129))) ∧
      (Config.pcodePacks c.mode = true → ¬ ok a → ∃ t, exec (.pcode sp k) s = .next t ∧ s.laneEnds t sp k .arithGuard) ∧
      (Config.pcodePacks c.mode = false → ∃ t, exec (.pcode sp k) s = .next t ∧ s.slotWritten t sp k c.dst (canonicalSlot g (l.slot c.dst) r))) ∧
    (s.laneOp sp k 0x38 [.runFirst, .runSecond] c → ∃ t, exec (.xof sp k) s = .next t ∧
      let r := Config.xof c.mode c.count l.xof (l.slot c.srcA) (l.slot c.dst)
      s.slotWritten t sp k c.dst (r.2.1 % 2 ^ (64 * 129)) ∧ (t.lane sp k).xof = r.1) ∧
    (s.laneRuns sp k 0x39 c g → ∃ t x, exec (.sample sp k) s = .next t ∧ ok x ∧ dst t x ∧
      x = ((coeffs (Config.sample c.mode g.kind l.xof).1).map fun v => v % g.q) ∧ (t.lane sp k).xof = (Config.sample c.mode g.kind l.xof).2.1))

/-! ### Entropy -/

/-- The entropy unit: by RAW_BLOCK_COMPLETE a block that passes both health tests is conditioned into the pool, unless the pool is full; a failure
(SOURCE_TEST_FAIL, or in the block) restarts its source with a start-up test, which SOURCE_STARTUP_DONE ends, and the third within 600 s retires it; a request
(DRBG_GENERATE) is served by its instance, reseeded first where prediction resistance asks for it, and waits where no block is there; DRBG_RESEED takes a
block for a reseed that is due; in the fatal state nothing is served; RNG_GET completes with 1 to 8,192 bytes of instance 2, or waits for them;
RUSHES_CAPTURE_DONE fills the capture region.
Completions stated here: RAW_BLOCK_COMPLETE, SOURCE_STARTUP_DONE, SOURCE_TEST_FAIL, DRBG_GENERATE, DRBG_RESEED, RNG_GET, RUSHES_CAPTURE_DONE. -/
def Obligations.EntropyFollowsItsRules : Prop :=
  ∀ (s : State) (sp : SpanId), s.regsCanonical = true →
    let e := (s.span sp).entropy
    (∀ src, src < 4 →
      let x := e.src src
      let recent := x.fails.filter fun t => decide (s.now sp < t + 600 * sec)
      (∀ block, block.length = 128 → x.running = true → x.startup = false →
        let r := rctRun (rawBits block) x.lastBit x.run false
        r.2.2 = false → aptFails (rawBits block) = false →
          (16 ≤ e.pool.length → ∃ t, exec (.rawBlockComplete sp src block) s = .next t ∧
            (t.span sp).entropy = e.setSrc src { x with lastBit := r.1, run := r.2.1 }) ∧
          (e.rushes = none → e.pool.length < 16 → (s.span sp).cont.deferred = [] → (s.span sp).vault.waits = [] → e.d0.seeded = true → e.d1.seeded = true → e.d2.seeded = true →
            ∃ t, exec (.rawBlockComplete sp src block) s = .next t ∧ (t.span sp).entropy.pool = e.pool ++ [sha256 block] ∧
              t.fld sp Fld.rngStatusPool = e.pool.length + 1)) ∧
      (∀ i, ((∃ block, i = .rawBlockComplete sp src block ∧ block.length = 128 ∧ x.startup = false ∧
          ((rctRun (rawBits block) x.lastBit x.run false).2.2 = true ∨ aptFails (rawBits block) = true)) ∨
          (∃ test, i = .sourceTestFail sp src test)) → x.running = true → e.rushes = none →
        (recent.length < 2 → ∃ t, exec i s = .next t ∧ (t.span sp).entropy.pool = e.pool ∧
          ((t.span sp).entropy.src src).running = true ∧ ((t.span sp).entropy.src src).startup = true ∧
          ((t.span sp).entropy.src src).retired = false ∧ ((t.span sp).entropy.src src).fails = s.now sp :: recent) ∧
        (2 ≤ recent.length → ∃ t, exec i s = .next t ∧ ((t.span sp).entropy.src src).retired = true ∧
          ((t.span sp).entropy.src src).running = false)) ∧
      (x.running = true → x.startup = true →
        exec (.sourceStartupDone sp src) s = .next (s.updEnt sp fun e => e.setSrc src { x with startup := false })) ∧
      (x.startup = false → exec (.sourceStartupDone sp src) s = .next s)) ∧
    (∀ i n, i < 3 → n ≤ 8192 →
      let d := e.drbg i
      (s.entFatal sp = true → ∀ pr, exec (.drbgGenerate sp i n pr) s = .next s) ∧
      (s.entFatal sp = false → s.fld sp Fld.rngCtrlEnable ≠ 0 → d.seeded = true →
        (d.reqs < 65536 → s.elapsed < d.reseeded + sec → ∃ t, exec (.drbgGenerate sp i n false) s = .next t ∧
          (t.span sp).entropy = e.setDrbg i (d.generate n).2) ∧
        (∀ b rest, e.pool = b :: rest → ∃ t, exec (.drbgGenerate sp i n true) s = .next t ∧
          (t.span sp).entropy = ({ e with pool := rest } : Entropy).setDrbg i ((d.reseed b s.elapsed).generate n).2) ∧
        (e.pool = [] → ∃ t, exec (.drbgGenerate sp i n true) s = .next t ∧ (t.span sp).entropy = e ∧
          t.fld sp Fld.rngEvtStarved = 1 ∧ t.fld sp Fld.rngWaitsCount = min (s.fld sp Fld.rngWaitsCount + 1) (2 ^ 32 - 1)) ∧
        ((65536 ≤ d.reqs ∨ d.reseeded + sec ≤ s.elapsed) →
          (∀ b rest, e.pool = b :: rest → ∃ t, exec (.drbgReseed sp i) s = .next t ∧
            (t.span sp).entropy = ({ e with pool := rest } : Entropy).setDrbg i (d.reseed b s.elapsed)) ∧
          (e.pool = [] → exec (.drbgReseed sp i) s = .next s)) ∧
        (d.reqs < 65536 → s.elapsed < d.reseeded + sec → exec (.drbgReseed sp i) s = .next s))) ∧
    (∀ (c : Caller) (n : Nat), c.span = sp → s.started c 0x0A10 [some (num n)] = true → s.bars c 0x0A10 [] = none →
      (n < 1 ∨ 8192 < n → exec (.rngGet c n) s = .next (s.complete c .inputRange [])) ∧
      (1 ≤ n → n ≤ 8192 →
        (s.entFatal sp = true → exec (.rngGet c n) s = .next (s.complete c .serviceUnavailable [])) ∧
        (s.entFatal sp = false → s.fld sp Fld.rngCtrlEnable ≠ 0 → e.d2.seeded = true → e.d2.reqs < 65536 → s.elapsed < e.d2.reseeded + sec →
          ∃ t : State, exec (.rngGet c n) s = .next (t.complete c .ok [(e.d2.generate n).1]) ∧
            (t.span sp).entropy.d2 = (e.d2.generate n).2) ∧
        (s.entFatal sp = false → e.d2.seeded = false → ∃ t, exec (.rngGet c n) s = .next t ∧
          (t.span sp).vault.waits = (s.span sp).vault.waits ++ [(c, .rng n)]))) ∧
    (e.rushes = none → ∀ bits, exec (.rushesCaptureDone sp bits) s = .next s) ∧
    (∀ r bits, e.rushes = some r → r.done = false → ∃ t, exec (.rushesCaptureDone sp bits) s = .next t ∧
      (t.span sp).entropy = { e with rushes := some { r with done := true, bits := padBytes 131072 bits } } ∧
      t.fld sp Fld.rngRushesCountBits = 1048576)

/-! ### Tamper -/

/-- Tamper events: one of a watched source is counted in the current bucket and in its total, and reported; at the threshold of an armed policy the source
fires, which sets its count to 0 and its ALARM bit; without supply the event is stored with its tick while there is room; a source that is not watched, and
one under test, counts nothing. Buckets advance at WINDOW / 16.
The tamper commands: a self test holds one counting source for its stimulus, and its end shows PASS where the source saw it and FAIL where not;
TMP_ACK clears those of the named ALARM bits whose sources have shown no event for 1 s, and no other.
Completions stated here: TAMPER_EVENT, FILTER_BUCKET_ADVANCE, TMP_SELFTEST, SELFTEST_END, TMP_ACK. -/
def Obligations.TamperEventsFireAndAreTestedAndAcknowledged : Prop :=
  (∀ (s : State) (n : Nat), s.regsCanonical = true →
    let f := s.hub.tamper.filter n
    (s.watched n = false → exec (.tamperEvent n) s = .next s) ∧
    (s.watched n = true →
      (∀ x, s.hub.tamper.test = some x → x.n = n → exec (.tamperEvent n) s =
        .next (s.updTamper fun t => { t.setFilter { f with lastEvent := some s.elapsed } with test := some { x with seen := x.seen + 1 } })) ∧
      ((∀ x, s.hub.tamper.test = some x → x.n ≠ n) →
        let c := { f with lastEvent := some s.elapsed }.add
        let th := s.fld .a (Fld.tmpSrcnFilterThreshold n)
        let fires : Bool := decide (0 < th ∧ th ≤ c.count) && s.fld .a Fld.tmpStatusArmed == 1
        ∃ t, exec (.tamperEvent n) s = .next t ∧
          t.hub.tamper.filter n = (if fires then { c with buckets := List.replicate 16 0 } else c) ∧
          t.fld .a (Fld.tmpSrcnCountTotal n) = min (s.fld .a (Fld.tmpSrcnCountTotal n) + 1) (2 ^ 24 - 1) ∧
          t.fld .a Fld.tmpEvtEvent = 1 ∧
          (fires = true → (t.fld .a Fld.tmpAlarmAlarm).testBit n = true ∧ t.fld .a Fld.tmpEvtFired = 1) ∧
          (fires = false → t.fld .a Fld.tmpAlarmAlarm = s.fld .a Fld.tmpAlarmAlarm) ∧
          t.hub.tamper.gap = (if !s.powered ∧ s.hub.tamper.gap.length < 16 then s.hub.tamper.gap ++ [(s.aonTick, n)] else s.hub.tamper.gap))) ∧
    (n ∈ countingSources → 0 < s.bucketWidth n →
      (f.started + s.bucketWidth n ≤ s.elapsed → ∃ t, exec (.filterBucketAdvance n) s = .next t ∧
        t.hub.tamper.filter n = { f with buckets := 0 :: f.buckets.take 15, started := f.started + s.bucketWidth n }) ∧
      (s.elapsed < f.started + s.bucketWidth n → exec (.filterBucketAdvance n) s = .next s))) ∧
  (∀ (s : State) (c : Caller), s.regsCanonical = true →
    (∀ n, s.lineRuns c → s.started c 0x0901 [] = true → s.bars c 0x0901 [] = none →
      ((s.touch c).tamperMay c = false → exec (.tmpSelftest c (0x400 + n)) s = .next ((s.touch c).complete c .notAuthorised [])) ∧
      ((s.touch c).tamperMay c = true → n ∈ countingSources → (n < 12 → s.fld .a (Fld.tmpSrcnFilterMode n) ≠ 3) → s.hub.tamper.test = none →
        (∀ y ∈ s.hub.tamper.tests, y.2 + 1 * sec ≤ s.elapsed) → (s.span c.span).rep.log.roomOutsideReserve = true →
          ∃ t, exec (.tmpSelftest c (0x400 + n)) s = .next t ∧ t.hub.tamper.test = some ⟨n, c, s.elapsed, 0⟩ ∧
            t.fld .a Fld.tmpStatusTesting = 1 ∧ t.fld .a Fld.tmpTestSource = n ∧ t.fld .a Fld.tmpTestResult = 0)) ∧
    (∀ x p, s.hub.tamper.test = some x → ∃ t, exec (.selftestEnd p) s = .next t ∧ t.hub.tamper.test = none ∧ t.fld .a Fld.tmpStatusTesting = 0 ∧
      t.fld .a Fld.tmpTestResult = (if 0 < x.seen then 1 else 2) ∧ t.fld .a Fld.tmpEvtTestDone = 1) ∧
    (s.hub.tamper.test = none → ∀ p, exec (.selftestEnd p) s = .next s) ∧
    (∀ mask, s.lineRuns c → s.started c 0x0902 [] = true → s.bars c 0x0902 [] = none →
      ((s.touch c).tamperMay c = false → exec (.tmpAck c mask) s = .next ((s.touch c).complete c .notAuthorised [])) ∧
      ((s.touch c).tamperMay c = true → (s.span c.span).rep.log.mode = .normal → ∃ t, exec (.tmpAck c mask) s = .next t ∧
        ∀ n, n < 31 → (t.fld .a Fld.tmpAlarmAlarm).testBit n = ((s.fld .a Fld.tmpAlarmAlarm).testBit n &&
          !(mask.testBit n && match (s.hub.tamper.filter n).lastEvent with | some t => decide (t + 1 * sec ≤ s.elapsed) | none => true)))))

/-- The sensors: a conversion shows its code and, with trims, its temperature, and is an event once at a limit code; an untrimmed sensor yields one event
a second; a clock is an event outside 5 %; two consecutive samples of a level at alarm are an event, and two at normal arm it again; VBAK low is shown.
Completions stated here: TEMP_CONVERSION, UNTRIMMED_SENSOR_TICK, CLOCK_MEASURE, VBAK_LOSS, AON_LOSS, INPUT_SAMPLE. -/
def Obligations.SensorsYieldEvents : Prop :=
  ∀ (s : State), s.regsCanonical = true →
    (∀ k code, k < 3 →
      (s.powered = false → exec (.tempConversion k code) s = .next s) ∧
      (s.powered = true → ∃ t, exec (.tempConversion k code) s = .next t ∧ t.fld .a (Fld.tmpTempkValueCode k) = code % 4096 ∧
        ∀ c25 gain, s.tempTrims k = some (c25, gain) → s.hub.tamper.testing (0x10 + k) = false →
          let out := code % 4096 < s.fld .a (Fld.tmpTempkLimitLowCode k) ∨ s.fld .a (Fld.tmpTempkLimitHighCode k) ≤ code % 4096
          t.fld .a (Fld.tmpTempkValueTemp k) = (BitVec.ofInt 16 (tempQ4 c25 gain (code % 4096))).toNat ∧
          (out → (t.hub.tamper.filter (0x10 + k)).armed = false) ∧
          ((¬ out ∨ (s.hub.tamper.filter (0x10 + k)).armed = false) →
            t.fld .a (Fld.tmpSrcnCountTotal (0x10 + k)) = s.fld .a (Fld.tmpSrcnCountTotal (0x10 + k))) ∧
          (out → (s.hub.tamper.filter (0x10 + k)).armed = true → s.watched (0x10 + k) = true → s.hub.tamper.test = none →
            t.fld .a (Fld.tmpSrcnCountTotal (0x10 + k)) = min (s.fld .a (Fld.tmpSrcnCountTotal (0x10 + k)) + 1) (2 ^ 24 - 1)))) ∧
    (∀ k n, k < 3 → (n = 0x10 + k ∧ s.tempTrims k = none ∨ n = 0x14 + k ∧ s.supplyTrimmed k = false) →
      ((∀ t, (s.hub.tamper.filter n).lastEvent = some t → t + 1 * sec ≤ s.elapsed) →
        ∃ t, exec (.untrimmedSensorTick n) s = .next t ∧ exec (.tamperEvent n) s = .next t) ∧
      (∀ t, (s.hub.tamper.filter n).lastEvent = some t → s.elapsed < t + 1 * sec → exec (.untrimmedSensorTick n) s = .next s)) ∧
    (∀ k counts, k < 3 → s.powered = true → (∀ i, counts.getD i 0 * 1024 / 1000 < 2 ^ 21) →
      let sp : SpanId := if k = 0 then .a else .b
      ∃ t, exec (.clockMeasure k counts) s = .next t ∧ (k < 2 → ∀ i, i < 6 → t.fld sp (Fld.clkMeasnKhz i) = counts.getD i 0 * 1024 / 1000) ∧
        ((∀ x ∈ (measuredClocks k).zipIdx, x.2 = 4 ∨
            (95 * x.1 ≤ 100 * (counts.getD x.2 0 * 1024) ∧ 100 * (counts.getD x.2 0 * 1024) ≤ 105 * x.1)) → t.hub = s.hub) ∧
        ((∃ x ∈ (measuredClocks k).zipIdx, x.2 ≠ 4 ∧
            (100 * (counts.getD x.2 0 * 1024) < 95 * x.1 ∨ 105 * x.1 < 100 * (counts.getD x.2 0 * 1024))) →
          s.watched (0x18 + k) = true → s.hub.tamper.test = none →
          t.fld .a (Fld.tmpSrcnCountTotal (0x18 + k)) = min (s.fld .a (Fld.tmpSrcnCountTotal (0x18 + k)) + 1) (2 ^ 24 - 1))) ∧
    (∀ cases sns mesh, (s.powered = true ∨ s.hub.tamper.aonLost = false) →
      ∃ t, exec (.inputSample cases sns mesh) s = .next t ∧ t.fld .a Fld.tmpLevelsCase = cases % 256 ∧ t.fld .a Fld.tmpLevelsLoopSns = sns % 16 ∧
        ∀ i, i < 8 → (s.fld .a (Fld.tmpSrcnFilterMode i) = 1 ∨ s.fld .a (Fld.tmpSrcnFilterMode i) = 2) →
          let f := s.hub.tamper.filter i
          let alarm := if s.fld .a (Fld.tmpSrcnFilterMode i) = 1 then cases.testBit i else !cases.testBit i
          (t.hub.tamper.filter i).alarmRun = (if alarm then min (f.alarmRun + 1) 2 else 0) ∧
          (t.hub.tamper.filter i).normalRun = (if alarm then 0 else min (f.normalRun + 1) 2) ∧
          (f.armed = true → alarm = true → 1 ≤ f.alarmRun → s.watched i = true → s.hub.tamper.test = none →
            (t.hub.tamper.filter i).armed = false ∧
            t.fld .a (Fld.tmpSrcnCountTotal i) = min (s.fld .a (Fld.tmpSrcnCountTotal i) + 1) (2 ^ 24 - 1)) ∧
          ((f.armed = false ∨ alarm = false ∨ f.alarmRun = 0) → t.fld .a (Fld.tmpSrcnCountTotal i) = s.fld .a (Fld.tmpSrcnCountTotal i))) ∧
    (∃ t, exec .vbakLoss s = .next t ∧ t.fld .a Fld.tmpStatusVbakOk = 0 ∧ t.fld .a Fld.tmpEvtVbakLoss = 1 ∧
      (s.hub.tamper.gapOpen = true → t.fld .a Fld.tmpGapInfoVbakLost = 1) ∧ t.a = s.a ∧ t.b = s.b) ∧
    (s.hub.power.converter = false → ∃ t, exec .aonLoss s = .next t ∧ t.hub.regs = [] ∧ t.hub.anchors = [] ∧ t.hub.anchorsValid = false ∧
      t.hub.witness = HubState.reset.witness ∧ t.a = s.a ∧ t.b = s.b) ∧
    (s.hub.power.converter = true → exec .aonLoss s = .next s)

/-! ### Host ports -/

/-- Doorbells, fetch and start: a tail or head within its queue pair is taken, any other value counts as a range error; a fetch from the pair whose turn it
is moves the descriptor at the head into the in-flight pool; a descriptor starts behind no earlier one that has not started and no barrier, and one that the checks refuse completes at
once with their status.
Completions stated here: SQ_DOORBELL, CQ_DOORBELL, DESCRIPTOR_FETCH, COMMAND_START. -/
def Obligations.DoorbellsFetchAndStartDescriptors : Prop :=
  ∀ (s : State) (sp : SpanId), s.regsCanonical = true →
    let h := (s.span sp).host
    let refused (t : State) : Prop := (t.span sp).host.queues = h.queues ∧ (t.span sp).host.inflight = h.inflight ∧
      (srcGet 0x180 (t.span sp).err.srcs).count = satInc32 (srcGet 0x180 (s.span sp).err.srcs).count 1
    (∀ fn j n v, s.localQueue sp fn j = some n →
      let q := h.queue n
      (q.enabled = true → q.draining = false → v < q.size →
        exec (.sqDoorbell sp fn j v) s = .next (s.updHost sp fun h => h.setQueue { q with sqTail := v })) ∧
      ((q.enabled = false ∨ q.draining = true ∨ q.size ≤ v) → ∃ t, exec (.sqDoorbell sp fn j v) s = .next t ∧ refused t) ∧
      (let moved : Prop := (v + q.size - q.cqHead) % q.size ≤ (q.cqTail + q.size - q.cqHead) % q.size
       (q.enabled = true → v < q.size → moved → exec (.cqDoorbell sp fn j v) s = .next (s.updHost sp fun h => h.setQueue { q with cqHead := v })) ∧
       ((q.enabled = false ∨ q.size ≤ v ∨ ¬ moved) → ∃ t, exec (.cqDoorbell sp fn j v) s = .next t ∧ refused t))) ∧
    (∀ n fn desc input, s.fnOfQueue sp n = some fn →
      (s.mayFetch sp n fn = true → s.nextFetch sp = some n → ∃ t, exec (.descriptorFetch sp none n desc input) s = .next t ∧
        (t.span sp).host.inflight = h.inflight ++ [descriptor n fn (h.queue n).sqHead desc input s.elapsed] ∧
        (t.span sp).host.queue n = { h.queue n with sqHead := ((h.queue n).sqHead + 1) % (h.queue n).size } ∧
        ∀ m, m ≠ n → (t.span sp).host.queue m = h.queue m) ∧
      (s.mayFetch sp n fn = false ∨ s.nextFetch sp ≠ some n → exec (.descriptorFetch sp none n desc input) s = .next s)) ∧
    (∀ g x n desc input bs, s.guest sp g = some x → s.mayFetchGuest sp g x (x.queue n) = true → (x.queue n).n = n →
      s.guestRead sp g ((x.queue n).sqBase + 64 * (x.queue n).sqHead) 64 = some bs → leField bs 0x14 4 ≤ inLenMax →
        s.guestRead sp g (leField bs 0x18 8) (leField bs 0x14 4) ≠ none →
        ∃ t x', exec (.descriptorFetch sp (some g) n desc input) s = .next t ∧ t.guest sp g = some x' ∧
          x'.inflight = x.inflight ++ [descriptor n (g - 1) (x.queue n).sqHead bs (s.guestRead sp g (leField bs 0x18 8) (leField bs 0x14 4)) s.elapsed] ∧
          (x'.queue n).sqHead = ((x.queue n).sqHead + 1) % (x.queue n).size) ∧
    (∀ n slot d oF cF, (h.inflight.find? fun x => x.queue == n && x.slot == slot && x.stage == .fetched) = some d →
      let l := before h.inflight d
      let d' := { d with stage := if (s.span sp).worlds.hung.isEmpty then .started else .deferred, since := s.elapsed, outFails := oF, cqFails := cF }
      let l' := h.inflight.map fun x => if x = d then d' else x
      let q := h.queue n
      let free : Prop := (∀ x ∈ l, x.stage ≠ .fetched ∧ x.flags % 2 = 0) ∧ (d.flags % 2 = 1 → l = [])
      (¬ free → exec (.commandStart sp none n slot oF cF) s = .next s) ∧
      (free → s.startRefusal sp false d' = none → exec (.commandStart sp none n slot oF cF) s =
        .next (s.updHost sp fun h => { h with inflight := l' })) ∧
      (∀ st len, free → s.startRefusal sp false d' = some (st, len) →
        ∃ t, exec (.commandStart sp none n slot oF cF) s = .next t ∧ (t.span sp).host.inflight = l'.erase d' ∧
          (cF = false → (h.fnState d.fn).busMaster = true → (h.fnState d.fn).d0 = true →
            Output.cqEntry sp n q.cqTail d.cid st d.slot q.sqHead len q.phase false 0 ∈ t.outputs ∧
              ((t.span sp).host.queue n).cqTail = (q.cqTail + 1) % q.size)))

/-- Waiting, cancelling, configuration and resets: a deferred command ends after its limit, a cancelled one when it has not begun to change state; a queue
pair is enabled with fresh pointers and the role epoch in force, and drains when disabled; assignments are rewritten only while nothing uses them; a
function reset discards what has not been sent and completes nothing; the loss of PCIe is a PF reset without bus mastering; a function that its command
register takes out of bus mastering holds its writes, and what was held is then issued in order. A masked vector is pending.
Completions stated here: DEFERRED_TIMEOUT, MSIX_AGG_TIMEOUT, HOST_CANCEL, HOST_Q_ENABLE, HOST_Q_DISABLE, HOST_FN_QUEUES_WRITE, FUNCTION_LEVEL_RESET,
VF_ENABLE_CLEAR, PCIE_RESET, BUS_MASTER_RESTORE. -/
def Obligations.QueuesDrainAndFunctionsReset : Prop :=
  ∀ (s : State) (sp : SpanId), s.regsCanonical = true →
    let h := (s.span sp).host
    let gone (t : State) (p : InFlight → Prop) : Prop := ∀ d ∈ (t.span sp).host.inflight, p d → d.stage = .sent ∧ d.silent = true
    (∀ g n slot d, ((s.inflightOf sp g).find? fun x => x.queue == n && x.slot == slot && x.stage == .deferred) = some d →
      (s.elapsed < d.since + s.deferLimit sp g → exec (.deferredTimeout sp g n slot) s = .next s) ∧
      (d.since + s.deferLimit sp g ≤ s.elapsed → exec (.deferredTimeout sp g n slot) s =
        .next ((s.dropWait (d.caller sp g)).complete (d.caller sp g) .deferredTimeout []))) ∧
    (∀ n, let q := h.queue n
      let fn := (s.fnOfQueue sp n).getD 0
      (0 < q.unsignalled → q.aggTime ≠ 0 → q.oldest + q.aggTime * us ≤ s.elapsed → ∃ t, exec (.msixAggTimeout sp none n) s = .next t ∧
        (t.span sp).host.queue n = { q with unsignalled := 0 } ∧
        let f := h.fnState fn
        let e := f.vector q.vector
        (f.msixEnable = true → q.vector < vectorCount fn →
          (f.fnMask = false → e.masked = false → f.busMaster = true → f.d0 = true → t.outputs = .msix sp fn q.vector e.addr e.data :: s.outputs) ∧
          (f.fnMask = true ∨ e.masked = true → t.outputs = s.outputs ∧ ((t.span sp).host.fnState fn).pbits.testBit q.vector = true))) ∧
      ((q.unsignalled = 0 ∨ q.aggTime = 0 ∨ s.elapsed < q.oldest + q.aggTime * us) → exec (.msixAggTimeout sp none n) s = .next s)) ∧
    (∀ fn j n cid, s.localQueue sp fn j = some n →
      ((h.inflight.filter fun d => d.queue == n && d.cid == cid) = [] → exec (.hostCancel sp fn j cid) s = .next (s.hostEvt sp fn 5)) ∧
      (∀ d, (h.inflight.filter fun d => d.queue == n && d.cid == cid) = [d] →
        ((d.stage = .started ∨ d.stage = .sent) → exec (.hostCancel sp fn j cid) s = .next s) ∧
        ((d.stage = .fetched ∨ d.stage = .deferred ∨ d.stage = .lane) → ∃ t, exec (.hostCancel sp fn j cid) s = .next t ∧
          (t.span sp).host.inflight = h.inflight.erase d))) ∧
    (∀ fn n, s.selected sp fn = some n →
      let q := h.queue n
      ((h.fnState fn).flr = true ∨ q.draining = true → exec (.hostQEnable sp fn) s = .next (s.hostEvt sp fn 3)) ∧
      ((h.fnState fn).flr = false → q.draining = false → q.enabled = false → ∃ t, exec (.hostQEnable sp fn) s = .next t ∧
        (t.span sp).host.queue n = { q with
          enabled := true, error := false, phase := true, sqHead := 0, sqTail := 0, cqHead := 0, cqTail := 0
          roleEpoch := (s.span sp).rep.epoch, unsignalled := 0, oldest := 0 }) ∧
      (q.enabled = false → exec (.hostQDisable sp fn) s = .next s) ∧
      (q.enabled = true → ∃ t, exec (.hostQDisable sp fn) s = .next t ∧ gone t (fun d => d.queue = n) ∧
        ((t.span sp).host.queue n).enabled = h.inflight.any (fun d => d.queue == n && d.stage == .sent))) ∧
    (∀ n (v : Word32), n < 33 →
      let first := getBits v 7 0
      let count := getBits v 24 16
      let ok : Prop := h.vfEnable = false ∧ first + count ≤ 256 ∧
        (∀ q, q < 256 → ((s.fnQueues sp n).1 ≤ q ∧ q < (s.fnQueues sp n).1 + (s.fnQueues sp n).2) ∨ (first ≤ q ∧ q < first + count) →
          (h.queue q).enabled = false) ∧
        ∀ m, m < 33 → m ≠ n → 0 < count → 0 < (s.fnQueues sp m).2 → ¬ ((s.fnQueues sp m).1 < first + count ∧ first < (s.fnQueues sp m).1 + (s.fnQueues sp m).2)
      (ok → ∃ t, exec (.hostFnQueuesWrite sp n v) s = .next t ∧ t.fnQueues sp n = (first, count) ∧ (t.span sp).host = h) ∧
      (¬ ok → exec (.hostFnQueuesWrite sp n v) s = .next (s.hostEvt sp 0 3))) ∧
    (∀ fn, 1 ≤ fn → fn < 33 → ∃ t, exec (.functionLevelReset sp fn) s = .next t ∧ gone t (fun d => d.fn = fn) ∧
      ((t.span sp).host.fnState fn).evt = 0 ∧ ((t.span sp).host.fnState fn).ien = 0 ∧ (∀ x ∈ (t.span sp).host.held, x.1 ≠ fn) ∧
      ((t.span sp).host.fnState fn).flr = h.inflight.any fun d => d.fn == fn && d.stage == .sent) ∧
    (∃ t, exec (.functionLevelReset sp 0) s = .next t ∧ gone t (fun d => d.fn < 33) ∧ (t.span sp).host.vfEnable = false ∧
      (t.span sp).host.numVfs = 0 ∧ t.reg sp Reg.hostIen = resetWord Reg.hostIen ∧ t.reg sp Reg.hostDefer = resetWord Reg.hostDefer) ∧
    (∃ t, exec (.vfEnableClear sp) s = .next t ∧ gone t (fun d => 1 ≤ d.fn ∧ d.fn < 33) ∧ (t.span sp).host.vfEnable = false) ∧
    (∃ t, exec (.pcieReset sp) s = .next t ∧ gone t (fun d => d.fn < 33) ∧ (t.span sp).host.linkUp = false ∧
      ∀ n, n < 33 → ((t.span sp).host.fnState n).busMaster = false) ∧
    (∀ fn (v : Word32), fn < 33 → h.exists_ fn = true → v.getLsbD 2 = false → ∃ t, exec (.registerWrite sp (.fn fn) (cfgBase + 4) v) s = .next t ∧
      ((t.span sp).host.fnState fn).busMaster = false) ∧
    (∀ fn, fn < 33 → ∃ t, exec (.busMasterRestore sp fn) s = .next t ∧
      t.outputs = ((h.held.filter fun x => x.1 == fn).map (·.2)).reverse ++ s.outputs ∧
      (t.span sp).host.held = (h.held.filter fun x => x.1 ≠ fn) ∧ ((t.span sp).host.fnState fn).busMaster = true)

/-! ### Worlds -/

/-- Takes: at the start of a slot the Keeper saves the registers of the guest it takes off a core and restores those of a guest that is RUNNING; in the
slot of one that is not, and after the last slot, the core idles.
Completions stated here: TAKE_SLOT_START, TAKE_SLOT_END. -/
def Obligations.TakesFollowTheirCycle : Prop :=
  ∀ (s : State) (sp : SpanId) (core : Nat), (s.span sp).worlds.cores.length = 6 → 2 ≤ core → core < 6 → s.fld sp Fld.kprStatusKeeperUp ≠ 0 →
    let i : CoreId := .span sp core
    let saves (t : State) : Prop := ∀ g, (s.core i).guest = some g → (s.core i).v.level ≠ 2 → (core, g, (s.core i).v) ∈ (t.span sp).worlds.saved
    (∀ g a b, s.slotNow sp core = some (g, a, b) → (s.core i).take ≠ some (a, b) →
      (s.fld sp (Fld.kprGuestgStateState g) = 2 → ∃ t, exec (.takeSlotStart sp core) s = .next t ∧ saves t ∧ (t.core i).guest = some g ∧
        (t.core i).take = some (a, b) ∧ (t.core i).wid = g ∧ ((s.core i).guest = none → (t.core i).v = s.savedCore sp core g)) ∧
      (s.fld sp (Fld.kprGuestgStateState g) ≠ 2 → ∃ t, exec (.takeSlotStart sp core) s = .next t ∧ saves t ∧ (t.core i).guest = none ∧
        (t.core i).v = idleCore ∧ (t.core i).take = some (a, b))) ∧
    (∀ g a b, s.slotNow sp core = some (g, a, b) → (s.core i).take = some (a, b) → exec (.takeSlotStart sp core) s = .next s) ∧
    (s.slotNow sp core = none → exec (.takeSlotStart sp core) s = .next s ∧
      ∃ t, exec (.takeSlotEnd sp core) s = .next t ∧ saves t ∧ (t.core i).guest = none ∧ (t.core i).v = idleCore ∧ (t.core i).take = none)

/-- Hypercalls: the Keeper answers a guest's call with a status in g1 and results from w0 on and returns to the guest; a timer is set, cancelled or fires; a
virtual interrupt is masked, unmasked or acknowledged; a watchdog is kicked; a call queue is enabled in the guest's own memory; a call is cancelled; a unit
is gated when it is idle, and a request that waits is granted, or ends at its limit; power is back after 200 us with the lane wiped.
Completions stated here: HC_INFO, HC_YIELD, HC_TIMER, HC_TIMER_FIRE, HC_IRQ, HC_WDT_KICK, HC_VC_CONFIG, HC_VC_CANCEL, HC_UNIT, HC_TIME,
UNIT_GATE_GRANT, UNIT_REQUEST_TIMEOUT, UNIT_POWER_RESTORED. -/
def Obligations.HypercallsAnswerTheirGuest : Prop :=
  ∀ (s : State) (sp : SpanId) (core : Nat), s.regsCanonical = true → (s.span sp).worlds.cores.length = 6 →
    let i : CoreId := .span sp core
    let x := s.core i
    let arg (k : Nat) : Nat := s.callArg sp core k
    let c := (s.span sp).rep.config
    (∀ st results, 2 ≤ core → core < 6 → x.v.level = 2 → results.length ≤ 4 → sparseWf (fun _ => 0) none x.v.globals = true →
      sparseWf (fun _ => 0) none x.v.phys = true → x.v.newWcwp = none → x.v.newWrb = none → x.v.newWres = none → x.v.newWown = none →
      (x.v.wcwp + 96 - x.h.cwp.toNat % 96) % 96 + 16 ≤ x.v.wres →
        let t := s.answerCall sp core st results
        (t.core i).reg 1 = BitVec.ofNat 64 st.code ∧ (t.core i).v.pc = x.h.pc ∧ (t.core i).v.level = x.h.psr.toNat % 4 ∧
          (∀ j v, results[j]? = some v → (t.core i).reg (8 + j) = BitVec.ofNat 64 v) ∧ (t.span sp).rep = (s.span sp).rep) ∧
    (∀ g, s.inCall sp core 1 = some g → exec (.hcInfo sp core) s = .next (s.answerCall sp core .ok
      [g, c.world g 10 2, ((List.range 8).map fun k => if s.laneGuest sp k = g then 2 ^ k else 0).sum, (s.span sp).rep.epoch])) ∧
    (∀ g, s.inCall sp core 2 = some g → ∃ t, exec (.hcYield sp core) s = .next t ∧ (t.core i).v.sleep = .yield) ∧
    (∀ g y, s.inCall sp core 3 = some g → s.guest sp g = some y → ∃ (t : State) (y' : Guest), exec (.hcTimer sp core) s = .next (State.answerCall t sp core .ok []) ∧
      t.guest sp g = some y' ∧ y'.timer = (if arg 0 = 0 ∨ arg 0 ≤ tai64 (s.now sp) then none else some (arg 0)) ∧
      y'.pending = (if arg 0 ≠ 0 ∧ arg 0 ≤ tai64 (s.now sp) then y.pending ||| 1 else y.pending)) ∧
    (∀ g y d, s.guest sp g = some y → y.timer = some d →
      (d ≤ tai64 (s.now sp) → ∃ t, exec (.hcTimerFire sp g) s = .next t ∧
        t.guest sp g = some { y with timer := none, pending := y.pending ||| 1 }) ∧
      (tai64 (s.now sp) < d → exec (.hcTimerFire sp g) s = .next s)) ∧
    (∀ g y, s.inCall sp core 4 = some g → s.guest sp g = some y →
      (arg 0 < 1 ∨ 3 < arg 0 ∨ 48 ≤ arg 1 → exec (.hcIrq sp core) s = .next (s.answerCall sp core .inputRange [])) ∧
      (1 ≤ arg 0 → arg 0 ≤ 3 → arg 1 < 48 → ∃ (t : State) (y' : Guest), exec (.hcIrq sp core) s = .next (State.answerCall t sp core .ok []) ∧ t.guest sp g = some y' ∧
        ∀ n, y'.masked.testBit n = (if n = arg 1 ∧ arg 0 ≤ 2 then arg 0 == 1 else y.masked.testBit n) ∧
          y'.pending.testBit n = (if n = arg 1 ∧ arg 0 = 3 then false else y.pending.testBit n))) ∧
    (∀ g y, s.inCall sp core 5 = some g → s.guest sp g = some y → ∃ t : State, exec (.hcWdtKick sp core) s = .next (t.answerCall sp core .ok []) ∧
      t.guest sp g = some { y with kicked := s.elapsed, half := false }) ∧
    (∀ g y, s.inCall sp core 6 = some g → s.guest sp g = some y →
      let ok : Prop := arg 0 < c.world g 14 1 ∧ arg 1 % 4096 = 0 ∧ arg 2 % 4096 = 0 ∧ 4 ≤ arg 3 ∧ arg 3 ≤ 12 ∧ arg 4 < 2 ^ 16 ∧ arg 5 ≤ 1
      let fits : Prop := arg 1 + 64 * 2 ^ arg 3 ≤ s.guestSize sp g ∧ arg 2 + 16 * 2 ^ arg 3 ≤ s.guestSize sp g
      (¬ ok → exec (.hcVcConfig sp core) s = .next (s.answerCall sp core .inputRange [])) ∧
      (ok → ¬ fits → exec (.hcVcConfig sp core) s = .next (s.answerCall sp core .notAuthorised [])) ∧
      (ok → fits → arg 5 = 1 → (y.queue (arg 0)).enabled = false → ∃ (t : State) (y' : Guest), exec (.hcVcConfig sp core) s = .next (State.answerCall t sp core .ok []) ∧
        t.guest sp g = some y' ∧ y'.queue (arg 0) = { QueuePair.reset (arg 0) with
          sqBase := arg 1, cqBase := arg 2, sizeLog2 := arg 3, aggCount := arg 4 % 256, aggTime := arg 4 / 256, enabled := true
          roleEpoch := (s.span sp).rep.epoch })) ∧
    (∀ g y, s.inCall sp core 7 = some g → s.guest sp g = some y → arg 0 < c.world g 14 1 → arg 1 < 2 ^ 16 →
      ((∀ d ∈ y.inflight, ¬ (d.queue = arg 0 ∧ d.cid = arg 1)) → exec (.hcVcCancel sp core) s = .next (s.answerCall sp core .ok [])) ∧
      (∀ d, (y.inflight.filter fun d => d.queue == arg 0 && d.cid == arg 1) = [d] → d.stage = .fetched →
        (∀ b, b.length = 16 → s.guestWrite sp g ((y.queue (arg 0)).cqBase + 16 * (y.queue (arg 0)).cqTail) b ≠ none) → ∃ (t : State) (y' : Guest),
        exec (.hcVcCancel sp core) s = .next (State.answerCall t sp core .ok []) ∧ t.guest sp g = some y' ∧ y'.inflight = y.inflight.erase d)) ∧
    (∀ g, s.inCall sp core 9 = some g →
      exec (.hcTime sp core) s = .next (s.answerCall sp core .ok [tai64 (s.now sp), s.fld sp Fld.tbStatusQualified])) ∧
    (∀ g, s.inCall sp core 8 = some g →
      let u := arg 0
      let ok : Prop := u < 10 ∧ 1 ≤ arg 1 ∧ arg 1 ≤ 3 ∧ 1 ≤ arg 2 ∧ arg 2 ≤ 10000
      let mine : Prop := g = 1 ∨ (u < 8 ∧ s.laneGuest sp u = g)
      (¬ ok → exec (.hcUnit sp core) s = .next (s.answerCall sp core .inputRange [])) ∧
      (ok → ¬ mine → exec (.hcUnit sp core) s = .next (s.answerCall sp core .notAuthorised [])) ∧
      (ok → mine → (8 ≤ u → s.fld sp (Fld.clsPortnCfgMode (u - 8)) = 4) → 2 ≤ arg 1 → s.unitState sp u = 0 →
        (∀ r ∈ (s.span sp).worlds.requests, r.unit ≠ u) →
        (s.unitIdle sp u = true → ∃ t, exec (.hcUnit sp core) s = .next (State.answerCall t sp core .ok [arg 1 - 1]) ∧
          t.unitState sp u = arg 1 - 1 ∧ (u, g) ∈ (t.span sp).worlds.gated) ∧
        (s.unitIdle sp u = false → ∃ t, exec (.hcUnit sp core) s = .next t ∧ (t.core i).v.sleep = .hyper ∧
          (t.span sp).worlds.requests = (s.span sp).worlds.requests ++ [⟨g, core, u, arg 1, s.elapsed + arg 2 * ms⟩]))) ∧
    (∀ u r, u < 10 → ((s.span sp).worlds.requests.find? fun r => r.unit == u) = some r → r.action = 2 ∨ r.action = 3 →
      (s.unitIdle sp u = true → ∃ t, exec (.unitGateGrant sp u) s = .next t ∧ t.unitState sp u = r.action - 1 ∧
        (t.span sp).worlds.requests = (s.span sp).worlds.requests.erase r) ∧
      (s.unitIdle sp u = false → s.unitState sp u = 0 → exec (.unitGateGrant sp u) s = .next s)) ∧
    (∀ g r, ((s.span sp).worlds.requests.find? fun r => r.guest == g && r.core == core) = some r →
      (s.elapsed < r.deadline → exec (.unitRequestTimeout sp g core) s = .next s) ∧
      (r.deadline ≤ s.elapsed → ∃ t, exec (.unitRequestTimeout sp g core) s = .next t ∧ t.fld sp Fld.kprEvtUnitTimeout = 1 ∧
        (t.span sp).worlds.requests = (s.span sp).worlds.requests.erase r ∧ ∀ u, u < 10 → t.unitState sp u = s.unitState sp u)) ∧
    (∀ u y, u < 10 → ((s.span sp).worlds.restoring.find? fun y => y.1 == u) = some y →
      (s.elapsed < y.2 + 200 * us → exec (.unitPowerRestored sp u) s = .next s) ∧
      (y.2 + 200 * us ≤ s.elapsed → ∃ t, exec (.unitPowerRestored sp u) s = .next t ∧ t.unitState sp u = 0 ∧
        (u < 8 → (s.span sp).lanes.length = 8 → (t.lane sp u).slots = [] ∧ (t.lane sp u).groups = (s.lane sp u).groups)))

/-- Doorbells, watchdogs, images and gates: a guest's doorbell moves its own queue pair; the secure world kicks the watchdog of its core, which after
1,000 ms restarts and is reported; a guest's watchdog interrupts at half its period and is a fault at its end; a guest runs once its image has the digest
of its scene; only the Keeper flips the gate banks, and only the secure world writes the shadow bank.
Completions stated here: KPR_VC_DB, KPR_SWDT_KICK, SWDT_EXPIRY, GUEST_WDT_HALF, GUEST_WDT_EXPIRY, GUEST_IMAGE_LOADED, GATE_FLIP, GATE_WR_WRITE,
GATE_WR_CLEAR. -/
def Obligations.WatchdogsImagesAndGatesFollowTheirRules : Prop :=
  ∀ (s : State) (sp : SpanId), s.regsCanonical = true →
    (∀ core (v : Word32) x, core < 6 → (∃ pa, s.reachMem (.span sp core) .write (windowBase + Reg.kprVcDb) 4 = .ok pa) →
      s.guest sp (s.worldOn (.span sp core)) = some x →
      let q := x.queue (getBits v 1 0)
      let val := getBits v 27 16
      (getBits v 2 2 = 0 → q.enabled = true → q.draining = false → val < q.size → exec (.kprVcDb sp core v) s =
        .next (s.updGuest sp (s.worldOn (.span sp core)) fun x => x.setQueue { q with sqTail := val })) ∧
      (getBits v 2 2 ≠ 0 → q.enabled = true → val < q.size → (val + q.size - q.cqHead) % q.size ≤ (q.cqTail + q.size - q.cqHead) % q.size →
        exec (.kprVcDb sp core v) s = .next (s.updGuest sp (s.worldOn (.span sp core)) fun x => x.setQueue { q with cqHead := val })) ∧
      (q.size ≤ val → exec (.kprVcDb sp core v) s = .next (s.dbRange sp 0))) ∧
    (∀ core, core < 2 → (∃ pa, s.reachMem (.span sp core) .write (windowBase + Reg.kprSwdtKick) 4 = .ok pa) →
      ∃ t, exec (.kprSwdtKick sp core) s = .next t ∧ (t.span sp).worlds = (let w := (s.span sp).worlds
          let up := w.hung.filter fun x => x ≠ core
          if core = 0 then { w with kick0 := s.elapsed, hung := up } else { w with kick1 := s.elapsed, hung := up }) ∧ (t.reg sp Reg.kprStatus).getLsbD (1 + core) = true) ∧
    (∀ core, 2 ≤ core → core < 6 → (∃ pa, s.reachMem (.span sp core) .write (windowBase + Reg.kprSwdtKick) 4 = .ok pa) →
      s.worldOn (.span sp core) ≠ 0 → exec (.kprSwdtKick sp core) s = .next s) ∧
    (∀ core a, core < 6 → s.reachMem (.span sp core) .write (windowBase + Reg.kprSwdtKick) 4 = .error a →
      exec (.kprSwdtKick sp core) s = .next (s.abort (.span sp core) a false)) ∧
    (∀ core, core < 2 → (s.reg sp Reg.kprStatus).getLsbD (1 + core) = true →
      let kick := if core = 0 then (s.span sp).worlds.kick0 else (s.span sp).worlds.kick1
      (s.elapsed < kick + 1000 * ms → exec (.swdtExpiry sp core) s = .next s) ∧
      (kick + 1000 * ms ≤ s.elapsed → ∃ t, exec (.swdtExpiry sp core) s = .next t ∧ t.fld sp Fld.kprEvtSwdtExpired = 1 ∧
        (if core = 0 then (t.span sp).worlds.kick0 else (t.span sp).worlds.kick1) = s.elapsed ∧
        (srcGet 0x470 (t.span sp).err.srcs).count = satInc32 (srcGet 0x470 (s.span sp).err.srcs).count 1)) ∧
    (∀ g x, s.guest sp g = some x → 2 ≤ g → g ≤ 33 → 0 < s.guestWdt sp g →
      (x.half = false → x.kicked + s.guestWdt sp g / 2 ≤ s.wdtNow sp g →
        ∃ t, exec (.guestWdtHalf sp g) s = .next t ∧ t.guest sp g = some { x with half := true, pending := x.pending ||| 2 ^ 16 }) ∧
      ((x.half = true ∨ s.wdtNow sp g < x.kicked + s.guestWdt sp g / 2) → exec (.guestWdtHalf sp g) s = .next s) ∧
      (x.kicked + s.guestWdt sp g ≤ s.wdtNow sp g → ∃ t, exec (.guestWdtExpiry sp g) s = .next t ∧ t.fld sp Fld.kprEvtGuestFault = 1 ∧
        (srcGet (0x480 + g) (t.span sp).err.srcs).count = satInc32 (srcGet (0x480 + g) (s.span sp).err.srcs).count 1) ∧
      (s.wdtNow sp g < x.kicked + s.guestWdt sp g → exec (.guestWdtExpiry sp g) s = .next s)) ∧
    (∀ g digest p, g < 34 → (s.span sp).rep.config.scene 8 g = some p →
      (s.fld sp (Fld.kprGuestgStateState g) = 1 ∨ s.fld sp (Fld.kprGuestgStateState g) = 3) →
      (digest = sliceBytes p 24 32 → ∃ t, exec (.guestImageLoaded sp g digest) s = .next t ∧ t.fld sp (Fld.kprGuestgStateState g) = 2) ∧
      (digest ≠ sliceBytes p 24 32 → ∃ t, exec (.guestImageLoaded sp g digest) s = .next t ∧ t.fld sp Fld.kprEvtGuestFault = 1)) ∧
    (∀ core, core < 6 →
      (s.worldOn (.span sp core) = 0x3C → ∃ t, exec (.gateFlip sp core) s = .next t ∧ t.fld sp Fld.gateStatusShadowReady = 0 ∧
        t.fld sp Fld.gateEvtFlipped = 1 ∧ (∀ o ∈ gateOffsets, t.reg sp o = sparseGet 0 o (s.span sp).worlds.gateShadow) ∧
        ∀ o ∈ gateOffsets, sparseGet 0 o (t.span sp).worlds.gateShadow = s.reg sp o) ∧
      (s.worldOn (.span sp core) ≠ 0x3C → exec (.gateFlip sp core) s = .next (s.abort (.span sp core)
        ⟨.dataAbort, windowBase + Reg.gateCtrl, s.worldOn (.span sp core), .write, some 30, true⟩ false)) ∧
      (s.worldOn (.span sp core) = 0 → sparseWf (fun _ => (0 : Word32)) none (s.span sp).worlds.gateShadow = true →
        (∃ t, exec (.gateWrWrite sp core) s = .next t ∧ (∀ o, t.reg sp o = s.reg sp o ∨ o = Reg.gateStatus) ∧
          ∀ x ∈ s.gateEntry sp false, sparseGet 0 x.1 (t.span sp).worlds.gateShadow = x.2) ∧
        ∃ t, exec (.gateWrClear sp core) s = .next t ∧ (∀ o, t.reg sp o = s.reg sp o ∨ o = Reg.gateStatus) ∧
          ∀ x ∈ s.gateEntry sp true, sparseGet 0 x.1 (t.span sp).worlds.gateShadow = 0) ∧
      (s.worldOn (.span sp core) ≠ 0 → exec (.gateWrWrite sp core) s = .next (s.abort (.span sp core)
          ⟨.dataAbort, windowBase + Reg.gateWrOp, s.worldOn (.span sp core), .write, some 30, true⟩ false) ∧
        exec (.gateWrClear sp core) s = .next (s.abort (.span sp core)
          ⟨.dataAbort, windowBase + Reg.gateWrOp, s.worldOn (.span sp core), .write, some 30, true⟩ false)))

/-! ### Pier cores: register instructions -/

/-- The specifiers 8 to 23 name the sixteen registers of the window from WCWP on, 24 names lk, and 7 the stack pointer of the level; g0 reads zero and a
write of it is discarded. Every arithmetic, logic, comparison and constant instruction writes the exact result of its definition into its destination
register and advances, and changes nothing else. A reserved register specifier makes any instruction that uses it illegal.
Completions stated here: ADD, SUB, AND, OR, XOR, ANDN, SHL, SHR, SAR, CMPEQ, CMPLT, CMPLTU, MIN, MINU, MAX, MAXU, MUL, MULHS, MULHU, QUO, QUOU, MOD,
MODU, ADD32, SUB32, ADDK, ANDK, ORK, XORK, CMPLTK, CMPLTUK, SHLK, SHRK, SARK, HIK, PCK. -/
def Obligations.PierComputesExactResults : Prop :=
  ∀ (s : State) (i : CoreId) (rd rs1 rs2 : BitVec 5), s.runs i →
    let x := s.core i
    let a := x.reg rs1.toNat
    let b := x.reg rs2.toNat
    x.reg 0 = 0 ∧ (∀ y w, (x.setReg 0 y).reg w = x.reg w) ∧ (∀ j, j < 16 → x.reg (8 + j) = x.v.p ((x.v.wcwp + j) % 96)) ∧ x.reg 24 = x.v.lk ∧
    x.reg 7 = (if x.v.level = 0 then x.v.spU else if x.v.level = 1 then x.v.spK else x.spH) ∧
    (rd.toNat < 25 → rs1.toNat < 25 → rs2.toNat < 25 →
      s.yields i (.add i rd rs1 rs2) rd (a + b) ∧ s.yields i (.sub i rd rs1 rs2) rd (a - b) ∧ s.yields i (.andOp i rd rs1 rs2) rd (a &&& b) ∧
      s.yields i (.orOp i rd rs1 rs2) rd (a ||| b) ∧ s.yields i (.xorOp i rd rs1 rs2) rd (a ^^^ b) ∧
      s.yields i (.andn i rd rs1 rs2) rd (a &&& ~~~ b) ∧ s.yields i (.shl i rd rs1 rs2) rd (a <<< (b.toNat % 64)) ∧
      s.yields i (.shr i rd rs1 rs2) rd (a >>> (b.toNat % 64)) ∧ s.yields i (.sar i rd rs1 rs2) rd (a.sshiftRight (b.toNat % 64)) ∧
      s.yields i (.cmpeq i rd rs1 rs2) rd (if a = b then 1 else 0) ∧ s.yields i (.cmplt i rd rs1 rs2) rd (if a.toInt < b.toInt then 1 else 0) ∧
      s.yields i (.cmpltu i rd rs1 rs2) rd (if a.toNat < b.toNat then 1 else 0) ∧
      s.yields i (.minOp i rd rs1 rs2) rd (if a.toInt ≤ b.toInt then a else b) ∧
      s.yields i (.maxOp i rd rs1 rs2) rd (if a.toInt ≤ b.toInt then b else a) ∧
      s.yields i (.minu i rd rs1 rs2) rd (if a.toNat ≤ b.toNat then a else b) ∧
      s.yields i (.maxu i rd rs1 rs2) rd (if a.toNat ≤ b.toNat then b else a) ∧ s.yields i (.mul i rd rs1 rs2) rd (a * b) ∧
      s.yields i (.mulhs i rd rs1 rs2) rd (((a.signExtend 128 * b.signExtend 128) >>> 64).setWidth 64) ∧
      s.yields i (.mulhu i rd rs1 rs2) rd (((a.setWidth 128 * b.setWidth 128) >>> 64).setWidth 64) ∧
      s.yields i (.quo i rd rs1 rs2) rd (if b = 0 then 0 else a.sdiv b) ∧ s.yields i (.quou i rd rs1 rs2) rd (if b = 0 then 0 else a / b) ∧
      s.yields i (.modOp i rd rs1 rs2) rd (if b = 0 then a else a.srem b) ∧ s.yields i (.modu i rd rs1 rs2) rd (if b = 0 then a else a % b) ∧
      s.yields i (.add32 i rd rs1 rs2) rd (((a + b).setWidth 32).signExtend 64) ∧
      s.yields i (.sub32 i rd rs1 rs2) rd (((a - b).setWidth 32).signExtend 64)) ∧
    (∀ imm : BitVec 16, rd.toNat < 25 → rs1.toNat < 25 →
      s.yields i (.addk i rd rs1 imm) rd (a + imm.signExtend 64) ∧ s.yields i (.andk i rd rs1 imm) rd (a &&& imm.setWidth 64) ∧
      s.yields i (.ork i rd rs1 imm) rd (a ||| imm.setWidth 64) ∧ s.yields i (.xork i rd rs1 imm) rd (a ^^^ imm.setWidth 64) ∧
      s.yields i (.cmpltk i rd rs1 imm) rd (if a.toInt < imm.toInt then 1 else 0) ∧
      s.yields i (.cmpltuk i rd rs1 imm) rd (if a.toNat < imm.toNat then 1 else 0)) ∧
    (∀ sh : BitVec 6, rd.toNat < 25 → rs1.toNat < 25 →
      s.yields i (.shlk i rd rs1 sh) rd (a <<< sh.toNat) ∧ s.yields i (.shrk i rd rs1 sh) rd (a >>> sh.toNat) ∧
      s.yields i (.sark i rd rs1 sh) rd (a.sshiftRight sh.toNat)) ∧
    (∀ imm : BitVec 21, rd.toNat < 25 → s.yields i (.hik i rd imm) rd (imm.signExtend 64 * 65536) ∧
      s.yields i (.pck i rd imm) rd (x.v.pc + imm.signExtend 64 * 65536)) ∧
    (∀ (imm off : BitVec 16) (sh pos wm1 : BitVec 6) (k : BitVec 21) (n : BitVec 12) (c : Instr),
      (25 ≤ rd.toNat ∨ 25 ≤ rs1.toNat ∨ 25 ≤ rs2.toNat) ∧ c ∈ [Instr.add i rd rs1 rs2, .sub i rd rs1 rs2, .andOp i rd rs1 rs2, .orOp i rd rs1 rs2,
          .xorOp i rd rs1 rs2, .andn i rd rs1 rs2, .shl i rd rs1 rs2, .shr i rd rs1 rs2, .sar i rd rs1 rs2, .cmpeq i rd rs1 rs2,
          .cmplt i rd rs1 rs2, .cmpltu i rd rs1 rs2, .minOp i rd rs1 rs2, .minu i rd rs1 rs2, .maxOp i rd rs1 rs2, .maxu i rd rs1 rs2,
          .mul i rd rs1 rs2, .mulhs i rd rs1 rs2, .mulhu i rd rs1 rs2, .quo i rd rs1 rs2, .quou i rd rs1 rs2, .modOp i rd rs1 rs2,
          .modu i rd rs1 rs2, .add32 i rd rs1 rs2, .sub32 i rd rs1 rs2, .bprm i rd rs1 rs2, .waitc i rd rs1 rs2] ∨
        (25 ≤ rd.toNat ∨ 25 ≤ rs1.toNat) ∧ c ∈ [Instr.addk i rd rs1 imm, .andk i rd rs1 imm, .ork i rd rs1 imm, .xork i rd rs1 imm,
          .cmpltk i rd rs1 imm, .cmpltuk i rd rs1 imm, .shlk i rd rs1 sh, .shrk i rd rs1 sh, .sark i rd rs1 sh, .ld64 i rd rs1 imm,
          .ld32s i rd rs1 imm, .ld32u i rd rs1 imm, .ld16s i rd rs1 imm, .ld16u i rd rs1 imm, .ld8s i rd rs1 imm, .ld8u i rd rs1 imm,
          .st64 i rd rs1 imm, .st32 i rd rs1 imm, .st16 i rd rs1 imm, .st8 i rd rs1 imm, .bfx i rd rs1 pos wm1, .bfxs i rd rs1 pos wm1,
          .bfi i rd rs1 pos wm1, .clz i rd rs1, .clzw i rd rs1] ∨
        25 ≤ rd.toNat ∧ c ∈ [Instr.hik i rd k, .pck i rd k, .mfsr i rd n, .mfw i rd n] ∨
        25 ≤ rs1.toNat ∧ c ∈ [Instr.callr i rs1, .ret i rs1, .jmpr i rs1, .mtsr i n rs1, .mtw i n rs1] ∨
        (25 ≤ rs1.toNat ∨ 25 ≤ rs2.toNat) ∧ c ∈ [Instr.breq i rs1 rs2 off, .brne i rs1 rs2 off, .brlt i rs1 rs2 off, .brge i rs1 rs2 off,
          .brltu i rs1 rs2 off, .brgeu i rs1 rs2 off] →
      exec c s = .next (s.takeTrap i .illegal false 0 0))

/-- CLZ writes the number of zero bits above the highest set bit of rs1, and 64 when rs1 is 0; CLZW does the same over rs1[31:0], with 32 for zero; BFX and
BFXS extract a field, with zeros or with its sign, BFI inserts one and keeps the rest of rd, and BPRM selects each result byte by a nibble of rs2. A field
that runs over bit 63 is illegal.
Completions stated here: BFX, BFXS, BFI, CLZ, CLZW, BPRM. -/
def Obligations.PierBitInstructionsFollowTheirRules : Prop :=
  ∀ (s : State) (i : CoreId) (rd rs1 rs2 : BitVec 5), s.runs i → rd.toNat < 25 → rs1.toNat < 25 →
    let x := s.core i
    let a := x.reg rs1.toNat
    (∃ n, n ≤ 64 ∧ s.yields i (.clz i rd rs1) rd (BitVec.ofNat 64 n) ∧ (a = 0 → n = 64) ∧
      (a ≠ 0 → n < 64 ∧ a.getLsbD (63 - n) = true ∧ ∀ k, 63 - n < k → a.getLsbD k = false)) ∧
    (∃ n, n ≤ 32 ∧ s.yields i (.clzw i rd rs1) rd (BitVec.ofNat 64 n) ∧ (a.toNat % 2 ^ 32 = 0 → n = 32) ∧
      (a.toNat % 2 ^ 32 ≠ 0 → n < 32 ∧ a.getLsbD (31 - n) = true ∧ ∀ k, 31 - n < k → k < 32 → a.getLsbD k = false)) ∧
    (∀ pos wm1 : BitVec 6,
      let w := wm1.toNat + 1
      (pos.toNat + w ≤ 64 →
        (∃ r, s.yields i (.bfx i rd rs1 pos wm1) rd r ∧ ∀ k, k < 64 → r.getLsbD k = (decide (k < w) && a.getLsbD (pos.toNat + k))) ∧
        (∃ r, s.yields i (.bfxs i rd rs1 pos wm1) rd r ∧ ∀ k, k < 64 → r.getLsbD k = a.getLsbD (pos.toNat + min k (w - 1))) ∧
        (∃ r, s.yields i (.bfi i rd rs1 pos wm1) rd r ∧ ∀ k, k < 64 → r.getLsbD k =
          if pos.toNat ≤ k ∧ k < pos.toNat + w then a.getLsbD (k - pos.toNat) else (x.reg rd.toNat).getLsbD k)) ∧
      (64 < pos.toNat + w → ∀ c ∈ [Instr.bfx i rd rs1 pos wm1, .bfxs i rd rs1 pos wm1, .bfi i rd rs1 pos wm1],
        exec c s = .next (s.takeTrap i .illegal false 0 0))) ∧
    (rs2.toNat < 25 → ∃ r, s.yields i (.bprm i rd rs1 rs2) rd r ∧ ∀ j, j < 8 →
      let n := (x.reg rs2.toNat).toNat / 2 ^ (4 * j) % 16
      r.toNat / 256 ^ j % 256 = if 8 ≤ n then 0 else a.toNat / 256 ^ n % 256)

/-! ### Pier cores: memory -/

/-- Loads and stores: a load writes the bytes at rs1 + SIMM16, in little-endian order and extended by its kind, into rd; a store writes the low bytes of rd
there and no other byte of any memory; a load of a control register reads it as the core; an access that is stopped takes its exception instead, and so does
one whose address is not a multiple of its size.
Completions stated here: LD64, LD32S, LD32U, LD16S, LD16U, LD8S, LD8U, ST64, ST32, ST16, ST8. -/
def Obligations.PierLoadsAndStoresReachTheirBytes : Prop :=
  ∀ (s : State) (i : CoreId) (rd rs1 : BitVec 5) (imm : BitVec 16), s.runs i → s.memCanonical = true → rd.toNat < 25 → rs1.toNat < 25 →
    let x := s.core i
    let addr := (x.reg rs1.toNat + imm.signExtend 64).toNat
    let device (pa : Nat) : Prop := i ≠ .supervisor ∧ ∃ off, place pa = .regs off
    (∀ (c : Instr) (n : Nat) (signed : Bool), (c, n, signed) ∈ [(Instr.ld64 i rd rs1 imm, 8, false), (.ld32s i rd rs1 imm, 4, true),
        (.ld32u i rd rs1 imm, 4, false), (.ld16s i rd rs1 imm, 2, true), (.ld16u i rd rs1 imm, 2, false), (.ld8s i rd rs1 imm, 1, true),
        (.ld8u i rd rs1 imm, 1, false)] →
      (∀ pa, s.reachMem i .read addr n = .ok pa → ¬ device pa → ∃ r, s.yields i c rd r ∧
        r.toNat % 2 ^ (8 * n) = ofLe ((s.memOf i).bytes pa n) ∧
        (signed = false → r.toNat < 2 ^ (8 * n)) ∧ (signed = true → ∀ k, 8 * n ≤ k → k < 64 → r.getLsbD k = r.getLsbD (8 * n - 1))) ∧
      (∀ sp core pa off, i = .span sp core → s.reachMem i .read addr n = .ok pa → place pa = .regs off →
        ∃ t, exec c s = .next t ∧ ((s.readReg sp (.core core) off).2.core i = x →
          t.core i = x.wrote rd (extend n signed (s.readReg sp (.core core) off).1.toNat))) ∧
      (∀ e, s.reachMem i .read addr n = .error e → exec c s = .next (s.abort i e false)) ∧
      (addr % n ≠ 0 → ∃ e, s.reachMem i .read addr n = .error e ∧ e.cause = .align)) ∧
    (∀ (c : Instr) (n : Nat), (c, n) ∈ [(Instr.st64 i rd rs1 imm, 8), (.st32 i rd rs1 imm, 4), (.st16 i rd rs1 imm, 2), (.st8 i rd rs1 imm, 1)] →
      (∀ pa, s.reachMem i .write addr n = .ok pa → ¬ device pa → ∃ t, exec c s = .next t ∧ s.onlyCore t i ∧
        t.core i = { x with v := { x.v with pc := x.v.pc + 4 } } ∧
        (∀ a, (t.memOf i).read a = if pa ≤ a ∧ a < pa + n then BitVec.ofNat 8 ((x.reg rd.toNat).toNat / 256 ^ (a - pa)) else (s.memOf i).read a) ∧
        ∀ sp core, i ≠ .span sp core → i = .supervisor ∨ (∃ k, i = .span sp.other k) → t.memOf (.span sp core) = s.memOf (.span sp core)) ∧
      (∀ sp core pa off, i = .span sp core → s.reachMem i .write addr n = .ok pa → place pa = .regs off →
        let s' := s.writeReg sp (.core core) (s.worldOn i) off ((x.reg rd.toNat).setWidth 32)
        (s'.core i = x → ∃ t, exec c s = .next t ∧ t.core i = { x with v := { x.v with pc := x.v.pc + 4 } }) ∧
        ((s'.core i).v ≠ x.v → exec c s = .next s')) ∧
      (∀ e, s.reachMem i .write addr n = .error e → exec c s = .next (s.abort i e false)) ∧
      (addr % n ≠ 0 → ∃ e, s.reachMem i .write addr n = .error e ∧ e.cause = .align))

/-! ### Pier cores: control and exceptions -/

/-- Branches, jumps, calls and returns: a branch goes to PC + 4 × OFF16 when its condition holds and to the next instruction when not; CALL and CALLR write lk,
move the window up by ten and keep the caller's w10 to w15 as the callee's w0 to w5; RET moves it back; what they need spilled or filled comes first, and a
fault there leaves them undone.
Completions stated here: BREQ, BRNE, BRLT, BRGE, BRLTU, BRGEU, JMP, CALL, CALLR, RET, JMPR. -/
def Obligations.PierBranchesCallsAndReturns : Prop :=
  ∀ (s : State) (i : CoreId) (rs1 rs2 : BitVec 5), s.runs i → rs1.toNat < 25 → rs2.toNat < 25 →
    let x := s.core i
    let a := x.reg rs1.toNat
    let b := x.reg rs2.toNat
    let goes (c : Instr) (pc : Word64) : Prop := s.becomes i c { x with v := { x.v with pc := pc } }
    (∀ off : BitVec 16,
      let there := x.v.pc + off.signExtend 64 * 4
      let next := x.v.pc + 4
      goes (.breq i rs1 rs2 off) (if a = b then there else next) ∧ goes (.brne i rs1 rs2 off) (if a = b then next else there) ∧
      goes (.brlt i rs1 rs2 off) (if a.toInt < b.toInt then there else next) ∧ goes (.brge i rs1 rs2 off) (if a.toInt < b.toInt then next else there) ∧
      goes (.brltu i rs1 rs2 off) (if a.toNat < b.toNat then there else next) ∧
      goes (.brgeu i rs1 rs2 off) (if a.toNat < b.toNat then next else there)) ∧
    (∀ off : BitVec 26, goes (.jmp i off) (x.v.pc + off.signExtend 64 * 4)) ∧ goes (.jmpr i rs1) a ∧
    (∀ (c : Instr) (target : Word64), (c = .callr i rs1 ∧ target = a ∨ ∃ off : BitVec 26, c = .call i off ∧ target = x.v.pc + off.signExtend 64 * 4) →
      let limit := 96 - 21 * (i.top - x.v.level)
      (x.v.wres + 10 ≤ limit → ∃ t, exec c s = .next t ∧ s.onlyCore t i ∧ s.sameMemory t ∧ (t.core i).v.pc = target ∧
        (t.core i).v.lk = x.v.pc + 4 ∧ (t.core i).v.wcwp = (x.v.wcwp + 10) % 96 ∧ (t.core i).v.wres = x.v.wres + 10 ∧ (t.core i).v.wrb = x.v.wrb ∧
        (x.v.wcwp < 96 → (x.v.wcwp + 16) % 96 = (x.v.wrb + x.v.wres) % 96 → ∀ j, j < 6 → (t.core i).reg (8 + j) = x.reg (18 + j))) ∧
      (∀ s1, State.spillFor i limit 10 16 s = (s1, none) → ∃ t, exec c s = .next t ∧ s1.sameMemory t ∧ (t.core i).v.pc = target ∧
        (t.core i).v.lk = x.v.pc + 4 ∧ (t.core i).v.wcwp = (x.v.wcwp + 10) % 96 ∧ (t.core i).v.wres = (s1.core i).v.wres + 10) ∧
      (∀ s1 e, State.spillFor i limit 10 16 s = (s1, some e) → exec c s = .next (s1.abort i e true))) ∧
    ((26 ≤ x.v.wres → s.becomes i (.ret i rs1)
        { x with v := { x.v with pc := a, wcwp := (x.v.wcwp + 86) % 96, wres := x.v.wres - 10 } }) ∧
      (∀ s1, State.fillFor i 10 16 s = (s1, none) → ∃ t, exec (.ret i rs1) s = .next t ∧ s1.sameMemory t ∧ (t.core i).v.pc = a ∧
        (t.core i).v.wcwp = (x.v.wcwp + 86) % 96 ∧ (t.core i).v.wres = (s1.core i).v.wres - 10) ∧
      (∀ s1 e, State.fillFor i 10 16 s = (s1, some e) → exec (.ret i rs1) s = .next (s1.abort i e true)))

/-- Exceptions: SCALL enters kernel, or hypervisor from hypervisor, with the address of the next instruction and its number; HCALL enters hypervisor from
kernel on cores 2 to 5 and is illegal elsewhere; an interrupt that is takeable is taken before the instruction at PC, and any other is not; TRET restores
PC, PSR and the window that the entry saved.
Completions stated here: SCALL, HCALL, TRET, INTERRUPT_TAKEN, HTCMP_TIMER. -/
def Obligations.PierExceptionsEnterAndReturn : Prop :=
  ∀ (s : State) (i : CoreId),
    let x := s.core i
    (s.runs i →
      (∀ n, x.v.entryFits → x.v.level ≤ 2 → ∃ t, exec (.scall i n) s = .next t ∧
        s.entered t i (if x.v.level = 2 then 2 else 1) .scall n.toNat (x.v.pc + 4) 0) ∧
      (x.v.entryFits → i.top = 2 → x.v.level = 1 → (x.guest = none ∨ (1 ≤ (x.reg 1).toNat ∧ (x.reg 1).toNat ≤ 9)) →
        ∃ t, exec (.hcall i) s = .next t ∧ s.entered t i 2 .hcall 0 (x.v.pc + 4) 0) ∧
      ((i.top ≠ 2 ∨ x.v.level ≠ 1) → exec (.hcall i) s = .next (s.takeTrap i .illegal false 0 0)) ∧
      (x.v.entryFits → x.v.level ≤ 2 →
        s.entered (s.takeTrap i .illegal false 0 0) i (if x.v.level = 2 then 2 else 1) .illegal 0 x.v.pc 0) ∧
      (let tr := x.trap x.v.level
       let down := (x.v.wcwp + 96 - tr.cwp.toNat % 96) % 96
       (1 ≤ x.v.level → tr.psr.toNat % 4 ≤ i.top → x.v.newWcwp = none → x.v.newWrb = none → x.v.newWres = none → x.v.newWown = none →
          down + 16 ≤ x.v.wres → ∃ t, exec (.tret i) s = .next t ∧ s.onlyCore t i ∧ s.sameMemory t ∧ t.core i = { x with v := { x.v with
            wcwp := tr.cwp.toNat % 96, wres := x.v.wres - down, pc := tr.pc, level := tr.psr.toNat % 4, ie := tr.psr.toNat / 4 % 2 == 1 } }) ∧
       ((x.v.level = 0 ∨ i.top < tr.psr.toNat % 4) → exec (.tret i) s = .next (s.takeTrap i .illegal false 0 0)))) ∧
    (∀ n : Interrupt, s.a.worlds.cores.length = 6 → s.b.worlds.cores.length = 6 →
      (s.alive i = true → s.takeable i n = true → x.v.sleep = .awake → x.v.entryFits →
        ∃ t, exec (.interruptTaken i n) s = .next t ∧ s.entered t i (match n with | .irq => i.top | .virq => 1 | .timer => 2) n.cause 0 x.v.pc 0) ∧
      (s.takeable i n = false → exec (.interruptTaken i n) s = .next s) ∧
      (s.takeable i n = true → s.intPending i n = true ∧ x.v.level ≤ (match n with | .irq => i.top | .virq => 1 | .timer => 2) ∧
        (x.v.level = (match n with | .irq => i.top | .virq => 1 | .timer => 2) → x.v.ie = true))) ∧
    exec (.htcmpTimer i) s = exec (.interruptTaken i .timer) s

/-! ### Pier cores: special registers, sleep and events -/

/-- Special registers and events: MFSR reads and MTSR writes a register that N names at its level, with read-only fields kept and window state held until the
next TRET, and is illegal otherwise; MFW and MTW reach the interrupted window while it is resident; FENCE only advances; WFE clears a set EV or sleeps, and
wakes by EV or an interrupt; SEV sets EV on its own event set; WAITC completes with the last value once it reaches the target or its time is over, and
sleeps until then; RESTART starts a core at its reset vector.
Completions stated here: WFE, WFE_WAKE, SEV, WAITC, WAITC_WAKE, MFSR, MTSR, MFW, MTW, FENCE, PIER_CORE_RESTART. -/
def Obligations.PierSystemInstructionsFollowTheirRules : Prop :=
  ∀ (s : State) (i : CoreId) (rd rs1 rs2 : BitVec 5),
    let x := s.core i
    let a := x.reg rs1.toNat
    let b := x.reg rs2.toNat
    (s.runs i → rd.toNat < 25 → rs1.toNat < 25 →
      (∀ n : BitVec 12,
        (∀ r w, srLevels i.top n.toNat = some (r, w) →
          (r ≤ x.v.level → s.yields i (.mfsr i rd n) rd (s.srGet i n.toNat)) ∧
          (w ≤ x.v.level → s.becomes i (.mtsr i n rs1) { x.srPut n.toNat a with v := { (x.srPut n.toNat a).v with pc := x.v.pc + 4 } }) ∧
          (x.v.level < r → exec (.mfsr i rd n) s = .next (s.takeTrap i .illegal false 0 0)) ∧
          (x.v.level < w → exec (.mtsr i n rs1) s = .next (s.takeTrap i .illegal false 0 0))) ∧
        (srLevels i.top n.toNat = none → exec (.mfsr i rd n) s = .next (s.takeTrap i .illegal false 0 0) ∧
          exec (.mtsr i n rs1) s = .next (s.takeTrap i .illegal false 0 0)) ∧
        (let p := ((x.trap x.v.level).cwp.toNat + n.toNat) % 96
         (1 ≤ x.v.level → n.toNat < 16 → (p + 96 - x.v.wrb) % 96 < x.v.wres →
            s.yields i (.mfw i rd n) rd (x.v.p p) ∧
            s.becomes i (.mtw i n rs1) { x with v := { x.v.setP p a with pc := x.v.pc + 4 } }) ∧
         ((x.v.level = 0 ∨ 16 ≤ n.toNat ∨ x.v.wres ≤ (p + 96 - x.v.wrb) % 96) → exec (.mfw i rd n) s = .next (s.takeTrap i .illegal false 0 0) ∧
            exec (.mtw i n rs1) s = .next (s.takeTrap i .illegal false 0 0)))) ∧
      s.becomes i (.fence i) { x with v := { x.v with pc := x.v.pc + 4 } } ∧
      (x.v.ev = true → s.becomes i (.wfe i) { x with v := { x.v with ev := false, pc := x.v.pc + 4 } }) ∧
      (x.v.ev = false → s.becomes i (.wfe i) { x with v := { x.v with sleep := .wfe } }) ∧
      (∃ t, exec (.sev i) s = .next t ∧ s.sameMemory t ∧ t.core i = { x with v := { x.v with ev := true, pc := x.v.pc + 4 } } ∧
        ∀ j, j ≠ i → t.core j = if j ∈ i.eventSet then { s.core j with v := { (s.core j).v with ev := true } } else s.core j) ∧
      (rs2.toNat < 25 →
        (∀ pa, s.reachMem i .read a.toNat 8 = .ok pa → (i = .supervisor ∨ ∃ off, place pa = .dram off) →
          let v := ofLe ((s.memOf i).bytes pa 8)
          ((b.toNat ≤ v ∨ x.reg rd.toNat = 0) → s.yields i (.waitc i rd rs1 rs2) rd (BitVec.ofNat 64 v)) ∧
          (v < b.toNat → x.reg rd.toNat ≠ 0 → s.becomes i (.waitc i rd rs1 rs2) { x with v := { x.v with
            sleep := .waitc rd.toNat a.toNat b.toNat (s.cyc i + (x.reg rd.toNat).toNat) (s.cyc i) v } })) ∧
        (∀ e, s.reachMem i .read a.toNat 8 = .error e →
          ∃ s' : State, (∀ j, s'.core j = s.core j) ∧ exec (.waitc i rd rs1 rs2) s = .next (s'.abort i e false)))) ∧
    (s.a.worlds.cores.length = 6 → s.b.worlds.cores.length = 6 →
      (x.v.sleep = .wfe → s.alive i = true → x.v.ev = true →
        s.becomes i (.wfeWake i) { x with v := { x.v with ev := false, sleep := .awake, pc := x.v.pc + 4 } }) ∧
      (x.v.sleep ≠ .wfe → exec (.wfeWake i) s = .next s) ∧
      (∀ r addr target deadline at_ seen, x.v.sleep = .waitc r addr target deadline at_ seen → s.alive i = true → s.anyTakeable i = false →
        ∀ pa, s.reachMem i .read addr 8 = .ok pa → (i = .supervisor ∨ ∃ off, place pa = .dram off) →
          let v := ofLe ((s.memOf i).bytes pa 8)
          ((v ≠ seen ∨ x.v.ev = true ∨ at_ + 256 ≤ s.cyc i) → (target ≤ v ∨ deadline ≤ s.cyc i) → r < 25 →
            s.becomes i (.waitcWake i) (({ x with v := { x.v with sleep := .awake } } : PierCore).wrote (BitVec.ofNat 5 r) (BitVec.ofNat 64 v))) ∧
          (v = seen → x.v.ev = false → s.cyc i < at_ + 256 → exec (.waitcWake i) s = .next s))) ∧
    (∀ sp m core w, core < 6 → s.a.worlds.cores.length = 6 → s.b.worlds.cores.length = 6 → s.reaches sp m .write (Reg.pierCorecCtrl core) w →
      let y := s.core (.span sp core)
      ∃ t, exec (.pierCoreRestart sp m core) s = .next t ∧ t.core (.span sp core) = { y with dfault := false, v := { y.v with
        level := (CoreId.span sp core).top, sleep := .awake,
        pc := (s.reg sp (Reg.pierCorecRstvecHi core)) ++ (s.reg sp (Reg.pierCorecRstvecLo core)) } })

/-! ### The vault store -/

/-- The vault store: a program that reads back as its target leaves the queue, and a commit word makes its records or slates whole; one that does not is repeated, and
after four attempts reported and begun anew; after a power-fail warning the running program ends and only a commit word that is due follows, and a flush
that is late is reported; an erase with bad bits is repeated up to three times, then its sector is marked unusable; a sector is reclaimed only when its live
records have been copied forward.
Completions stated here: NOR_PROGRAM_DONE, NOR_ERASE_DONE, FLUSH_LATE, SUPERSEDED_RECLAIM. -/
def Obligations.ProgramsAndErasesFollowTheirRules : Prop :=
  ∀ (s : State) (sp : SpanId), s.regsCanonical = true →
    let v := (s.span sp).nvs
    let full : Prop := s.fld sp Fld.nvsStatusFlushed = 1
    (∀ p rest, v.progs = p :: rest →
      (v.pfwAt ≠ none → full → ∀ ok, exec (.norProgramDone sp ok) s = .next s) ∧
      (v.pfwAt = none →
        (∀ n t0, p.salt = some (n, t0) → ∃ t, exec (.norProgramDone sp true) s = .next t ∧ ∀ x ∈ (t.span sp).vault.mn, x.1 ≠ n) ∧
        (p.salt = none → p.area = .log → ∃ t, exec (.norProgramDone sp true) s = .next t ∧ (t.span sp).nvs.progs = rest ∧
          (t.span sp).nvs.home = v.home ∧ (t.span sp).rep.log =
            (if p.commitWord = true ∧ ∀ q ∈ rest, q.area = .log → q.csn = p.csn → q.commitWord = true then (s.span sp).rep.log.commitPage p.csn
              else (s.span sp).rep.log)) ∧
        (p.salt = none → p.area ≠ .log → ∃ t, exec (.norProgramDone sp true) s = .next t ∧ (t.span sp).nvs.progs = rest ∧
          (t.span sp).rep = (s.span sp).rep ∧ (t.span sp).nvs.home = (if p.commitWord = true then v.home.map (fun h => if h.area = p.area ∧ h.csn = p.csn then { h with torn := false } else h)
            else v.home)) ∧
        (p.attempts < 3 → exec (.norProgramDone sp false) s =
          .next (s.updNvs sp fun v => { v with progs := { p with attempts := p.attempts + 1 } :: rest })) ∧
        (3 ≤ p.attempts → s.onlyReports sp 0x500 → ∃ t, exec (.norProgramDone sp false) s = .next t ∧
          (p.area ≠ .log → (t.span sp).nvs.progs = { p with attempts := 0 } :: rest) ∧ t.fld sp Fld.nvsEvtProgFail = 1 ∧ s.raised t sp 0x500)) ∧
      (∀ w, v.pfwAt = some w → ¬ full → p.salt = none →
        let due : Prop := ∃ q r, rest = q :: r ∧ q.commitWord = true ∧ p.commitWord = false ∧ q.area = p.area ∧ q.csn = p.csn ∧ s.elapsed ≤ w + ms
        (due → ∃ t, exec (.norProgramDone sp true) s = .next t ∧ (t.span sp).nvs.progs = rest ∧ t.fld sp Fld.nvsStatusFlushed ≠ 1) ∧
        (¬ due → ∃ t, exec (.norProgramDone sp true) s = .next t ∧ (t.span sp).nvs.progs = rest ∧ t.fld sp Fld.nvsStatusFlushed = 1 ∧
          t.fld sp Fld.nvsFlushUsUs = min ((s.elapsed - w) / us) 4095))) ∧
    (∀ w, v.pfwAt = some w → ¬ full → s.fld sp Fld.nvsEvtFlushLate = 0 →
      (s.elapsed < w + 2500 * us → exec (.flushLate sp) s = .next s) ∧
      (w + 2500 * us ≤ s.elapsed → ∃ t, exec (.flushLate sp) s = .next t ∧ t.fld sp Fld.nvsEvtFlushLate = 1)) ∧
    (v.pfwAt = none → exec (.flushLate sp) s = .next s) ∧
    (∀ e rest bad, v.erases = e :: rest →
      (v.pfwAt ≠ none → exec (.norEraseDone sp bad) s = .next s) ∧
      (v.pfwAt = none → e.suspended = false → s.eraseWaits sp = false →
        (bad ≠ 0 → e.repeats < 3 → exec (.norEraseDone sp bad) s =
          .next (s.updNvs sp fun v => { v with erases := { e with repeats := e.repeats + 1 } :: rest })) ∧
        (bad ≠ 0 → 3 ≤ e.repeats → ∃ t, exec (.norEraseDone sp bad) s = .next t ∧ e.addr ∈ (t.span sp).nvs.unusable ∧
          t.fld sp Fld.nvsEvtEraseFail = 1) ∧
        (bad = 0 → e.purpose = .reclaim → rest = [] → (s.span sp).rep.log.queued = 0 → ∃ t, exec (.norEraseDone sp bad) s = .next t ∧
          (t.span sp).nvs.erases = [] ∧ (t.span sp).rep = (s.span sp).rep ∧ t.fld sp Fld.nvsStatusErasing = 0 ∧
          (t.span sp).nvs.home = v.home.filter fun h => !(h.area == e.area && h.area.base + 4096 * h.sector == e.addr && (h.voided || h.torn))))) ∧
    (∀ area sector,
      let here := v.home.filter fun h => h.area == area && h.sector == sector
      ((∀ h ∈ here, h.voided = false ∧ h.torn = false) ∨ v.homeSector area = sector → exec (.supersededReclaim sp area sector) s = .next s) ∧
      ((∃ h ∈ here, h.voided = true ∨ h.torn = true) → v.homeSector area ≠ sector →
        (v.copyForward (v.liveIn area sector)).liveIn area sector = [] →
          ∃ t, exec (.supersededReclaim sp area sector) s = .next t ∧
            (∃ e ∈ (t.span sp).nvs.erases, e.area = area ∧ e.addr = area.base + 4096 * sector ∧ e.purpose = .reclaim) ∧
            (v.liveIn area sector = [] → (t.span sp).nvs.home = v.home)))

/-! ### Fuses and the life cycle -/

/-- Fuses: a read shows the three readings of the word, helper words as zero; a scan records its time and temperature and counts the marginal words, waits
while a program runs, and is due every 24 h or after 10 degrees; a program sets the named bits, is repeated up to four times, and changes no other word.
Completions stated here: FUSE_READ, FUSE_SCAN, FUSE_SCAN_PERIODIC, FUSE_PROGRAM_DONE. -/
def Obligations.FusesReadScanAndProgram : Prop :=
  ∀ (s : State) (sp : SpanId), s.regsCanonical = true →
    let f := (s.span sp).fuses
    (let n := s.fld sp Fld.fuseAddrWord
      ∃ t, exec (.fuseRead sp) s = .next t ∧ (∀ off, off ∉ [Reg.fuseDataNorm, Reg.fuseDataLow, Reg.fuseDataHigh] → t.reg sp off = s.reg sp off) ∧
        t.reg sp Reg.fuseDataNorm = (if n < 256 then BitVec.ofNat 32 (f.word n).norm else 0) ∧
        t.reg sp Reg.fuseDataLow = (if n < 256 then BitVec.ofNat 32 (f.word n).low else 0) ∧
        t.reg sp Reg.fuseDataHigh = (if n < 256 then BitVec.ofNat 32 (f.word n).high else 0) ∧ (t.span sp).fuses = f) ∧
    (∀ changed,
      (f.progs ≠ [] → exec (.fuseScan sp changed) s = .next (s.updFuses sp fun f => { f with scanWaits := true })) ∧
      (f.progs = [] →
        (∃ t, exec (.fuseScan sp changed) s = .next t ∧ t.fld sp Fld.fuseEvtScanDone = 1) ∧
        ((∀ w ∈ changed ++ f.words, w.clean = true) → ∃ t, exec (.fuseScan sp changed) s = .next t ∧ t.fld sp Fld.fuseStatusMarginal = 0 ∧
          t.fld sp Fld.fuseFirstMarginalValid = 0 ∧ (t.span sp).fuses.marginal = [] ∧ (t.span sp).fuses.scanned = true ∧
          (t.span sp).fuses.scanAt = s.elapsed ∧ (t.span sp).fuses.scanTemp = s.dieTemp sp ∧ (t.span sp).rep = (s.span sp).rep) ∧
        ((∃ w ∈ f.words, w.clean = false) → ∃ t, exec (.fuseScan sp []) s = .next t ∧ t.fld sp Fld.fuseEvtMarginal = 1 ∧
          t.fld sp Fld.fuseFirstMarginalValid = 1)) ∧
      let due : Prop := f.scanned = true ∧ (f.scanAt + 86400 * sec ≤ s.elapsed ∨ 160 ≤ (s.dieTemp sp - f.scanTemp).natAbs)
      (due → exec (.fuseScanPeriodic sp changed) s = exec (.fuseScan sp changed) s) ∧
      (¬ due → exec (.fuseScanPeriodic sp changed) s = .next s)) ∧
    (∀ p rest norm low high, f.progs = p :: rest → p.bits ≠ 0 →
      let w := f.word p.word
      let reads (x y : Nat) : Prop := (x ||| (y &&& p.bits)) &&& p.bits = p.bits
      let all : Prop := reads w.norm norm ∧ reads w.low low ∧ reads w.high high
      (all → (rest ≠ [] ∨ f.scanWaits = false) → s.hub.transition = none → ∃ t, exec (.fuseProgramDone sp norm low high) s = .next t ∧
        (t.span sp).fuses.progs = rest ∧ ((t.span sp).fuses.word p.word) = ⟨p.word, w.norm ||| p.bits, w.low ||| p.bits, w.high ||| p.bits⟩ ∧
        ∀ n, n ≠ p.word → (t.span sp).fuses.word n = f.word n) ∧
      (¬ all → p.attempts < 4 → ∃ t, exec (.fuseProgramDone sp norm low high) s = .next t ∧
        (t.span sp).fuses.progs = { p with attempts := p.attempts + 1 } :: rest ∧ ∀ n, n ≠ p.word → (t.span sp).fuses.word n = f.word n))

/-- The life cycle: a caller that may ask for a transition gets a challenge of 32 bytes for it, or waits for them; a transition is taken up when the spans are joined, it is one
step from the present state, fresh and signed as R379 says, and it then programs the fuses of both spans before the state changes; a debug certificate
gives its rights to the monitor session it was issued for, and is refused in BLANK, TESTED and SCRAP.
Completions stated here: LC_CHALLENGE, LC_TRANSITION, DBG_PRESENT. -/
def Obligations.TheLifeCycleMovesBySignedRequests : Prop :=
  ∀ (s : State) (c : Caller), s.lineRuns c →
    (s.started c 0x0B01 [] = true → s.bars c 0x0B01 [] = none →
      (s.lifeCaller c = false → exec (.lcChallenge c) s = .next (s.complete c .notAuthorised [])) ∧
      (s.lifeCaller c = true → s.lcState = 5 → exec (.lcChallenge c) s = .next (s.complete c .lifecycleState [])) ∧
      (s.lifeCaller c = true → s.lcState ≠ 5 →
        (s.entFatal c.span = true → exec (.lcChallenge c) s = .next (s.complete c .serviceUnavailable [])) ∧
        (s.entFatal c.span = false → s.random c.span 0 32 false = none → ∃ t, exec (.lcChallenge c) s = .next t ∧
          (t.span c.span).vault.waits = (s.span c.span).vault.waits ++ [(c, .challenge)]) ∧
        (∀ b s1, s.entFatal c.span = false → s.random c.span 0 32 false = some (b, s1) →
          ∃ t : State, exec (.lcChallenge c) s = .next (t.complete c .ok [b]) ∧ (t.span c.span).vault.lcChallenge = some ⟨b, none, s.elapsed⟩))) ∧
    (∀ req, s.started c 0x0B02 [] = true → s.bars c 0x0B02 [] = none →
      (∀ st, s.lifeRefusal c req = some st → exec (.lcTransition c req) s = .next (s.complete c st [])) ∧
      (s.lifeRefusal c req = none →
        let r := (s.span c.span).rep
        let src := leField req 8 1
        let sigs := ((keyedSigsFrom req (leField req 72 2) 80).bind fun x => if x.2 = req.length then some x.1 else none).getD []
        let signed : Prop := signersOnce sigs = true ∧ lifeSigned r.config src sigs = true ∧
          sigs.all (fun e => (e.1.role == 1 || e.1.role == 3) && keyedHolds r.config (s.span c.span).fuses "AKNLS-V1" (req.take 80) e) = true
        (s.lifeFresh c req = false → exec (.lcTransition c req) s = .next (s.complete c .notAuthorised [])) ∧
        (s.lifeFresh c req = true → (s.lcState < 2 ∨ r.log.roomOutsideReserve = true) → s.hub.transition = none →
          ∃ t, exec (.lcTransition c req) s = .next t ∧
            (signed → (t.span c.span).vault.lcChallenge = none ∧ t.lcState = s.lcState ∧ (t.a.fuses.progs ≠ [] ∨ t.b.fuses.progs ≠ []) ∧
              ∃ w, t.hub.transition = some w ∧ w.src = src ∧ w.dst = src + 1 ∧ w.caller = c) ∧
            (¬ signed → t.hub.transition = none ∧ ∃ u : State, t = u.complete c .notAuthorised [] ∧ (u.span c.span).vault.lcChallenge = none)))) ∧
    (∀ cert m, c.origin = .monitor → s.hub.monitor.session = some m →
      ((s.lcState < 2 ∨ 4 < s.lcState) → exec (.dbgPresent c cert) s = .next (s.complete c .lifecycleState [])) ∧
      (2 ≤ s.lcState → s.lcState ≤ 4 →
        (s.certRefused c.span m cert = true → exec (.dbgPresent c cert) s = .next (s.complete c .notAuthorised [])) ∧
        (s.certRefused c.span m cert = false → s.monRoom c.span 0x0B04 = false → exec (.dbgPresent c cert) s = .next (s.monFull c)) ∧
        (s.monRoom c.span 0x0B04 = true → ∃ t : State, exec (.dbgPresent c cert) s = .next (t.complete c (if s.certRefused c.span m cert = true then .notAuthorised else .ok) []) ∧
          (s.certRefused c.span m cert = false → (t.hub.monitor.session.bind fun x => x.cert) =
            some ⟨leField cert 8 4, leField cert 80 8, ofTai64 (leField cert 72 8), sha256 cert⟩ ∧ t.fld .a Fld.lcsEvtDebugStart = 1))))

/-! ### Reports and clocks -/

/-- Reports: in a cycle the report queue takes the oldest hub report, or the pending report of the lowest source, and at a full queue loses its oldest entry,
which is counted; a pop shows the oldest entry or, at an empty queue, sets UNDERRUN; the secure world moves the queue into its ring in order; a source may
queue again in a new millisecond; a hub report counts at its source where it arrives; ERR_READ answers from the ring.
Reference clocks: a die that loses SYSREF runs from its own oscillator until SYSREF has been back for 100 ms, each once and with a report; a lost PCIe clock
takes the host port's link down; a SerDes PLL that cannot lock takes its port's link down.
Completions stated here: SYSREF_LOST, SYSREF_RESTORED, PCIE_REFCLK_LOST, SERDES_LOCK_FAIL, QUEUE_POP, REPORT_INTAKE, QUOTA_WINDOW_ROLL,
HUB_REPORT_ARRIVAL, REPORT_DRAIN. -/
def Obligations.ReportsAreQueuedAndClocksFallBack : Prop :=
  (∀ (s : State) (sp : SpanId), s.regsCanonical = true →
    let e := (s.span sp).err
    let next (r : Report) : List Report := (if e.queue.entries.length < reportDepth then e.queue.entries else e.queue.entries.drop 1) ++ [{ r with seq := e.queue.w }]
    (∀ r rest, e.hubWait = r :: rest → ∃ t, exec (.reportIntake sp) s = .next t ∧ (t.span sp).err.hubWait = rest ∧
      (t.span sp).err.queue.entries = next r ∧ (t.span sp).err.queue.w = (e.queue.w + 1) % 65536 ∧
      (t.fld sp Fld.errQLostLostCnt = s.fld sp Fld.errQLostLostCnt ↔
        e.queue.entries.length < reportDepth ∨ s.fld sp Fld.errQLostLostCnt = 2 ^ (Fld.errQLostLostCnt.hi + 1 - Fld.errQLostLostCnt.lo) - 1)) ∧
    (∀ x r, e.hubWait = [] → (e.srcs.find? fun x => x.pending.isSome) = some x → x.pending = some r →
      ∃ t, exec (.reportIntake sp) s = .next t ∧ (t.span sp).err.queue.entries = next { r with suppressed := x.suppressed } ∧
        srcGet x.source (t.span sp).err.srcs = { x with pending := none, queued := x.queued + 1, suppressed := false }) ∧
    (e.hubWait = [] → (∀ x ∈ e.srcs, x.pending = none) → exec (.reportIntake sp) s = .next s) ∧
    (∀ r rest, e.queue.entries = r :: rest → ∃ t, exec (.queuePop sp) s = .next t ∧ (t.span sp).err.queue.entries = rest ∧
      (t.span sp).err.queue.e = (e.queue.e + 1) % 65536 ∧
      ∀ i, i < 8 → t.reg sp (Reg.errQEntryn i) = BitVec.ofNat 32 (leField (reportBytes r) (4 * i) 4)) ∧
    (e.queue.entries = [] → ∃ t, exec (.queuePop sp) s = .next t ∧ (t.span sp).err = e ∧ t.fld sp Fld.errQCountUnderrun = 1 ∧
      ∀ i, i < 8 → t.reg sp (Reg.errQEntryn i) = s.reg sp (Reg.errQEntryn i)) ∧
    (s.secureUp sp = true → ∃ t, exec (.reportDrain sp) s = .next t ∧ (t.span sp).err.queue.entries = [] ∧
      (e.ring.entries.length + e.queue.entries.length ≤ ringDepth → (t.span sp).err.ring.entries = e.ring.entries ++ e.queue.entries)) ∧
    (e.window = s.now sp / ms → exec (.quotaWindowRoll (.span sp)) s = .next s) ∧
    (e.window ≠ s.now sp / ms → ∃ t, exec (.quotaWindowRoll (.span sp)) s = .next t ∧
      (∀ x ∈ (t.span sp).err.srcs, x.queued = 0) ∧ (t.span sp).err.queue = e.queue ∧ (t.span sp).err.srcs.map (·.count) = e.srcs.map (·.count)) ∧
    (s.hub.window ≠ s.elapsed / ms → ∃ t, exec (.quotaWindowRoll .hub) s = .next t ∧ (∀ x ∈ t.hub.srcs, x.queued = 0) ∧ t.a = s.a ∧ t.b = s.b) ∧
    (∀ r rest, (match sp with | .a => s.hub.toA | .b => s.hub.toB) = r :: rest →
      ((s.span sp).cont.hubLink = false → exec (.hubReportArrival sp) s = .next s) ∧
      ((s.span sp).cont.hubLink = true → ∃ t, exec (.hubReportArrival sp) s = .next t ∧
        (s.onlyReports sp r.source → s.raised t sp r.source ∧ (t.span sp).err.hubWait = e.hubWait ++ [{ r with time := s.now sp }] ∧
          (t.reg sp Reg.errClassSticky).getLsbD r.cls = decide (r.cls < 32)))) ∧
    (∀ c first count, c.origin ≠ .monitor → s.started c 0x0A02 [] = true → (s.span c.span).rep.epoch ≠ 0 →
      ((s.touch c).reportsMay c = false → exec (.errRead c sp first count) s = .next ((s.touch c).complete c .notAuthorised [])) ∧
      ((s.touch c).reportsMay c = true → 1 ≤ count → count ≤ 256 → first < 65536 → s.secureUp sp = true →
        let r := e.ring.lapRead ringDepth count ⟨first, 0, false⟩
        exec (.errRead c sp first count) s = .next ((s.touch c).complete c .ok [r.1.flatMap reportBytes, num r.2.e, num r.2.lost])))) ∧
  (∀ (s : State) (sp : SpanId), s.regsCanonical = true →
    (s.fld sp Fld.clkStatusSysFallback = 0 →
      (∃ t, exec (.sysrefLost (.span sp)) s = .next t ∧ t.fld sp Fld.clkStatusSysFallback = 1 ∧ t.fld sp Fld.clkStatusSysLock = 0 ∧
        t.fld sp Fld.clkEvtSysLost = 1) ∧ exec (.sysrefRestored (.span sp)) s = .next s) ∧
    (s.fld sp Fld.clkStatusSysFallback = 1 →
      (∃ t, exec (.sysrefRestored (.span sp)) s = .next t ∧ t.fld sp Fld.clkStatusSysFallback = 0 ∧ t.fld sp Fld.clkStatusSysLock = 1 ∧
        t.fld sp Fld.clkEvtSysRestored = 1) ∧ exec (.sysrefLost (.span sp)) s = .next s) ∧
    (∀ i back, (i = .sysrefLost .hub ∧ back = false) ∨ (i = .sysrefRestored .hub ∧ back = true) →
      (s.hub.fallback ≠ back → exec i s = .next s) ∧
      (s.hub.fallback = back → ∃ t, exec i s = .next t ∧ t.hub.fallback = !back ∧ (srcGet 0x524 t.hub.srcs).count = satInc32 (srcGet 0x524 s.hub.srcs).count 1)) ∧
    (∃ t, exec (.pcieRefclkLost sp) s = .next t ∧ t.fld sp Fld.clkStatusPcieLock = 0 ∧ t.fld sp Fld.clkEvtPcieLost = 1 ∧
      (t.span sp).host.linkUp = false) ∧
    (∀ n, n < 2 → ∃ t, exec (.serdesLockFail sp n) s = .next t ∧ t.fld sp (Fld.clsPortnStatusBlockLock n) = 0 ∧
      (t.reg sp Reg.clkStatus).getLsbD (3 + n) = false ∧ (t.reg sp Reg.clkEvt).getLsbD (3 + n) = true))

/-! ### Power -/

/-- The field side: a classification, a change of the input and a telemetry update are shown and evaluate the available tier, whose change is reported, and whose
end while the spans run asserts the power-fail warning; the warning starts the flush of both spans and the gap record, and ends only after 100 ms above the
threshold; a start of the converter and a loss of supply reset the logic side, which keeps what its NOR holds, while the always-on domain goes on.
Completions stated here: POE_CLASSIFICATION, HOLD_CHARGED, UVLO, INPUT_SOURCE_CHANGE, PFW_ASSERT, PFW_RELEASE, PWR_TELEMETRY. -/
def Obligations.PowerFollowsItsInputs : Prop :=
  ∀ s : State,
    let p := s.hub.power
    let tiered (t : State) : Prop := t.hub.power.tier = t.hub.power.tierOf ∧
      (t.hub.power.tier ≠ p.tier → (srcGet 0x541 t.hub.srcs).count = satInc32 (srcGet 0x541 s.hub.srcs).count 1) ∧
      (t.hub.power.tier ≠ p.tier → t.hub.power.tier = 0 → (s.hub.sup.spanRailsA = true ∨ s.hub.sup.spanRailsB = true) → t.hub.power.pfw = true)
    (∀ straps granted, ∃ t, exec (.poeClassification straps granted) s = .next t ∧ tiered t ∧
      t.hub.power.assigned = min granted 8 ∧ t.hub.power.requested = strapClass straps) ∧
    (∀ source, source < 3 → source ≠ p.source → ∃ t, exec (.inputSourceChange source) s = .next t ∧ tiered t ∧ t.hub.power.source = source ∧
      t.fld .a Fld.pwrEvtSourceChange = 1 ∧ t.fld .b Fld.pwrEvtSourceChange = 1) ∧
    (exec (.inputSourceChange p.source) s = .next s) ∧
    (∀ x : Telemetry, ∃ t, exec (.pwrTelemetry x) s = .next t ∧ tiered t ∧ t.hub.power.vin = max x.vaux x.vpoe ∧ t.hub.power.vhold = x.vhold ∧
      t.hub.power.aux = decide (3600 < x.vaux) ∧ (max x.vaux x.vpoe ≤ 3850 → t.hub.power.above = none) ∧
      (3850 < max x.vaux x.vpoe → t.hub.power.tier ≠ 0 → t.hub.power.above = some (p.above.getD s.elapsed))) ∧
    (p.pfw = true → exec .pfwAssert s = .next s) ∧
    (p.pfw = false → ∃ t, exec .pfwAssert s = .next t ∧ t.hub.power.pfw = true ∧ t.hub.power.above = none ∧ .pfwN true ∈ t.outputs ∧
      t.hub.tamper.gapOpen = true ∧ t.hub.tamper.gap = [] ∧
      ∀ sp : SpanId, t.fld sp Fld.pwrEvtPfwAssert = 1 ∧ (t.span sp).rep = (s.span sp).rep ∧ (t.span sp).nvs.progs = (s.span sp).nvs.progs ∧
        (t.span sp).nvs.pfwAt = some ((s.span sp).nvs.pfwAt.getD s.elapsed) ∧
        ((s.span sp).nvs.pfwAt = none → ∀ e ∈ (t.span sp).nvs.erases.head?, e.suspended = true)) ∧
    ((p.pfw = false ∨ ∀ t0, p.above = some t0 → s.elapsed < t0 + 100 * ms) → exec .pfwRelease s = .next s) ∧
    (∀ t0, p.pfw = true → p.above = some t0 → t0 + 100 * ms ≤ s.elapsed → ∃ t, exec .pfwRelease s = .next t ∧ t.hub.power.pfw = false ∧
      t.hub.tamper.gapOpen = (s.hub.tamper.gapOpen && s.hub.tamper.outage) ∧ (∀ sp : SpanId, (t.span sp).nvs.pfwAt = none) ∧
      (p.converter = true → s.hub.sup.running = true → p.tier ≠ 0 → t.hub.sup.spanRailsA = true ∧ t.hub.sup.spanRailsB = true)) ∧
    (p.converter = true → exec .holdCharged s = .next s) ∧
    (p.converter = false → exec .uvlo s = .next s) ∧
    (∀ i, (i = .holdCharged ∧ p.converter = false) ∨ (i = .uvlo ∧ p.converter = true) → ∃ t, exec i s = .next t ∧
      t.hub.power.converter = !p.converter ∧ t.hub.sup.running = false ∧ t.deck = [] ∧ t.hub.anchors = s.hub.anchors ∧ t.hub.witness = s.hub.witness ∧
      (i = .uvlo → t.hub.regs = s.hub.regs ∧ t.hub.power.pfw = true) ∧
      ∀ sp : SpanId, (t.span sp).rep = (s.span sp).rep ∧ (t.span sp).cont.mode = .joining ∧ (t.span sp).cont.journal = (s.span sp).cont.journal ∧
        (t.span sp).boot.stage = 0 ∧ (t.span sp).lanes = List.replicate 8 Lane.empty ∧ (t.span sp).worlds.mem = [] ∧
        (t.reg sp Reg.hubResetCause).getLsbD 0 = true)

/-! ### Boot, resets and firmware -/

/-- Boot: the supervisor starts from the first bank that verifies, and the span rails follow the power; a span's boot waits while its rails are off or its reset
is due; in SCRAP it stops at step 2 and loses its rails; without a bank that verifies it stays at step 3; a trial bank is tried once; the configuration
waits for the random generators, the vault for the join, the pending zeroisations and a scene list that matches its epoch record, and the ports for a
qualified time.
Completions stated here: SUPERVISOR_START, SPAN_BOOT. -/
def Obligations.BootWaitsForWhatItsStepsNeed : Prop :=
  ∀ (s : State) (sp : SpanId), s.regsCanonical = true →
    let b := (s.span sp).boot
    let up : Prop := s.railsOn sp = true ∧ b.resetDue = none
    (∀ ok,
      (s.hub.power.converter = false ∨ s.hub.sup.running = true → exec (.supervisorStart ok) s = .next s) ∧
      (s.hub.power.converter = true → s.hub.sup.running = false →
        let good (x : SpanState) : Bool := x.bankOk x.nvs.boot.active
        let active (x : SpanState) : FwBank := if x.nvs.boot.active = 0 then x.nvs.bank0 else x.nvs.bank1
        ∃ t, exec (.supervisorStart ok) s = .next t ∧ t.hub.sup.running = true ∧
          t.hub.sup.romOnly = (!good s.a && !good s.b) ∧
          t.hub.sup.section_ = (if good s.a = true then (active s.a).supervisor else if good s.b = true then (active s.b).supervisor else []) ∧
          t.fld .a Fld.tmpStatusVbakOk = boolNat ok ∧
          (s.hub.power.pfw = false → s.hub.power.tier ≠ 0 → t.hub.sup.spanRailsA = true ∧ t.hub.sup.spanRailsB = true))) ∧
    (∀ half changed,
      let i : Instr := .spanBoot sp half changed
      (¬ up ∨ 10 ≤ b.stage → exec i s = .next s) ∧
      (up →
        (b.stage = 1 → (s.span sp).fuses.progs ≠ [] → exec i s = .next s) ∧
        (b.stage = 0 → (s.span sp).fuses.progs = [] → (s.span sp).fuses.life = 5 → changed = [] → ∃ t, exec i s = .next t ∧
          (t.span sp).boot.stage = 2 ∧ t.railsOn sp = false) ∧
        (b.stage = 2 → (s.span sp).fuses.life ≠ 5 → (s.span sp).bankOk 0 = false → (s.span sp).bankOk 1 = false → ∃ t, exec i s = .next t ∧
          (t.span sp).boot.stage = 3) ∧
        (∀ k, b.stage = 2 → (s.span sp).fuses.life ≠ 5 → s.hub.power.pfw = false → k < 2 → (s.span sp).bankOk k = true →
          (∀ n, (s.span sp).nvs.boot = ⟨1 - k, some k, n⟩ → ∃ t, exec i s = .next t ∧
            (n = 0 → (t.span sp).boot.bank = k ∧ (t.span sp).boot.trial = true) ∧
            (n ≠ 0 → (s.span sp).bankOk (1 - k) = true → (t.span sp).boot.bank = 1 - k ∧ (t.span sp).boot.trial = false ∧ (t.span sp).boot.fallback = true)) ∧
          ((s.span sp).nvs.boot = ⟨k, none, 0⟩ → ∃ t, exec i s = .next t ∧ (t.span sp).boot.bank = k ∧ (t.span sp).boot.trial = false ∧
            (t.span sp).boot.fallback = false) ∧
          ((s.span sp).nvs.boot = ⟨1 - k, none, 0⟩ → (s.span sp).bankOk (1 - k) = false → ∃ t, exec i s = .next t ∧ (t.span sp).boot.bank = k ∧
            (t.span sp).boot.fallback = true)) ∧
        (b.stage = 6 → s.fld sp Fld.rngCtrlEnable = 1 → s.entFatal sp = false →
          ((s.span sp).entropy.d0.seeded && (s.span sp).entropy.d1.seeded && (s.span sp).entropy.d2.seeded) = false → exec i s = .next s) ∧
        (b.stage = 8 → ((s.span sp).cont.mode.joined = false ∨ s.settlePending.fld .a Fld.tmpStatusPending = 1 ∨
            (b.mismatch = true ∧ ((s.span sp).cont.mode ≠ .follower ∨ (s.span sp).listDiffers = true))) → exec i s = .next s) ∧
        (b.stage = 8 → (s.span sp).cont.mode.joined = true → s.settlePending.fld .a Fld.tmpStatusPending = 0 → b.mismatch = false → ∃ t, exec i s = .next t ∧
          9 ≤ (t.span sp).boot.stage ∧ t.fld sp Fld.hostStatusReady = 1 ∧ t.fld sp Fld.kprStatusKeeperUp = 1 ∧
          (s.fld sp Fld.vltStateVaultState = 1 → t.fld sp Fld.vltStateVaultState = 2) ∧
          (s.fld sp Fld.vltStateVaultState ≠ 1 → t.fld sp Fld.vltStateVaultState = s.fld sp Fld.vltStateVaultState)) ∧
        (b.stage = 9 → b.cause ≤ 1 → b.restart = false → s.fld sp Fld.tbStatusQualified = 0 → exec i s = .next s) ∧
        (b.stage = 9 → (∃ e ∈ (s.span sp).nvs.erases, e.purpose = .floor) → exec i s = .next s) ∧
        (b.stage = 9 → b.cause ≤ 1 → b.restart = false → s.fld sp Fld.tbStatusQualified = 1 → (∀ e ∈ (s.span sp).nvs.erases, e.purpose ≠ .floor) →
          ∃ t, exec i s = .next t ∧ (t.span sp).boot.stage = 10 ∧ t.fld sp Fld.steCtrlEnable = 1 ∧ t.fld sp Fld.hubEvtBootDone = 1)))

/-- Resets: a module reset waits for both flushes, at most 2.5 ms, and then resets both spans, which keep what NOR holds; a span reset that is due keeps the
replica, the contexts and the key slots of the span and takes its links down; a block reset returns the fields that it reaches to their reset values and leaves
the registers of other blocks alone.
Completions stated here: MODULE_RESET, SPAN_RESET, BLOCK_RESET. -/
def Obligations.ResetsKeepWhatTheirDomainKeeps : Prop :=
  ∀ s : State, s.regsCanonical = true →
    (s.hub.power.converter = false → exec .moduleReset s = .next s) ∧
    (s.hub.power.converter = true →
      let resets : Prop := ∃ t, exec .moduleReset s = .next t ∧ t.deck = [] ∧ t.hub.update.state = 0 ∧ t.hub.monitor.session = none ∧
        ∀ sp : SpanId, (t.span sp).rep = (s.span sp).rep ∧ (t.span sp).cont.mode = .joining ∧ (t.span sp).boot.stage = 0 ∧
          (t.span sp).lanes = List.replicate 8 Lane.empty ∧ (t.reg sp Reg.hubResetCause).getLsbD 1 = true
      (s.a.nvs.pfwAt = none → s.b.nvs.pfwAt = none → s.a.nvs.progs = [] → s.b.nvs.progs = [] → resets) ∧
      (∀ w, (s.a.nvs.pfwAt = some w ∨ s.b.nvs.pfwAt = some w) → w + 2500 * us ≤ s.elapsed → resets) ∧
      (s.a.nvs.pfwAt = none → s.b.nvs.pfwAt = none → (s.a.nvs.progs ≠ [] ∨ s.b.nvs.progs ≠ []) → ∃ t, exec .moduleReset s = .next t ∧
        s.a.rep = t.a.rep ∧ s.b.rep = t.b.rep ∧ t.a.cont = s.a.cont ∧ t.b.cont = s.b.cont ∧ t.a.nvs.pfwAt = some s.elapsed ∧ t.b.nvs.pfwAt = some s.elapsed)) ∧
    (∀ sp : SpanId,
      ((s.span sp).boot.resetDue = none → exec (.spanReset sp) s = .next s) ∧
      (∀ cause, (s.span sp).boot.resetDue = some cause → cause < 5 → ∃ t, exec (.spanReset sp) s = .next t ∧
        (t.span sp).rep = (s.span sp).rep ∧ (t.span sp).cont.mode = .joining ∧ (t.span sp).cont.hubLink = false ∧
        (t.span sp).boot.stage = 0 ∧ (t.span sp).boot.resetDue = none ∧ (t.span sp).lanes = List.replicate 8 Lane.empty ∧
        (t.reg sp Reg.hubResetCause).getLsbD cause = true ∧ (t.span sp.other).rep = (s.span sp.other).rep ∧
        ((s.span sp).entropy.rushes = none → (t.span sp).stream = (s.span sp).stream))) ∧
    (∀ (sp : SpanId) (mask : Nat),
      let hit (off : Nat) : Prop := ∃ b, b < 8 ∧ mask.testBit b = true ∧ off / 0x10000 = blockWindow b
      (mask.testBit 2 = false →
        (∀ g ∈ (s.span sp).worlds.guests, s.fld sp (Fld.kprGuestgInflightInFlight g.g) = g.inflight.length) → ∃ t, exec (.blockReset sp mask) s = .next t ∧ (∀ off, ¬ hit off → t.reg sp off = s.reg sp off) ∧
        (t.span sp).rep = (s.span sp).rep ∧ (t.span sp).stream = (s.span sp).stream ∧
        ∀ off, hit off → off / 0x10000 ∈ [0, 1, 9] → ∀ f ∈ fieldsAt off,
          getBits (t.reg sp off) f.hi f.lo = getBits (if f.block then resetWord off else s.reg sp off) f.hi f.lo) ∧
      (mask.testBit 2 = true → (s.span sp).lanes.length = 8 → ∃ t, exec (.blockReset sp mask) s = .next t ∧
        ∀ l ∈ (t.span sp).lanes, l.queue = [] ∧ l.groups = []))

/-- Firmware: a staged image that passes its checks has both inactive banks erased for it; when both are programmed and verified the image is staged, else the
staging fails; an update moves from span to span as each becomes follower on its trial bank, ends with the floors raised, and fails after 300 s.
Completions stated here: SB_FW_STAGE, FW_BANK_VERIFIED, FW_UPDATE_STEP_ADVANCE, FW_UPDATE_TIMEOUT. -/
def Obligations.UpdatesMoveFromSpanToSpan : Prop :=
  ∀ s : State,
    let u := s.hub.update
    (∀ c img, s.started c 0x0509 [some img] = true → ∃ t, exec (.sbFwStage c img) s = .next t ∧
      (∀ st, s.fwRefusal c img = some st → t = s.complete c st []) ∧
      (s.fwRefusal c img = none → t.hub.update.state = 1 ∧ t.hub.update.bank = fwBankOf img ∧ t.hub.update.caller = some c ∧
        ∀ sp : SpanId, ((t.span sp).nvs.bank (1 - (t.span sp).boot.bank)).valid = false ∧ ∃ e ∈ (t.span sp).nvs.erases, e.purpose = .bank)) ∧
    (∀ okA okB,
      let idle : Prop := u.state = 1 ∧ (∀ e ∈ s.a.nvs.erases ++ s.b.nvs.erases, e.purpose ≠ .bank) ∧ s.secureUp .a = true ∧ s.secureUp .b = true
      (¬ idle → exec (.fwBankVerified okA okB) s = .next s) ∧
      (idle → ∃ t, exec (.fwBankVerified okA okB) s = .next t ∧ t.hub.update.state = (if okA = true ∧ okB = true then 2 else 0) ∧
        (okA = true → t.a.nvs.bank (1 - t.a.boot.bank) = u.bank) ∧ (okB = true → t.b.nvs.bank (1 - t.b.boot.bank) = u.bank))) ∧
    (u.state = 3 →
      (s.stepReached = true → ∃ t, exec .fwUpdateStepAdvance s = .next t ∧ t.hub.update.state = 4 ∧ t.hub.update.step = 3 ∧
        (t.span u.target).nvs.boot = ⟨(s.span u.target).boot.bank, none, 0⟩ ∧ (t.span u.target).boot.trial = false) ∧
      (s.stepReached = false → exec .fwUpdateStepAdvance s = .next s)) ∧
    (u.state = 4 →
      let moved : Prop := (s.span u.target).cont.mode = .keystone ∧ (s.span u.target.other).cont.mode = .follower
      (moved → ∃ t, exec .fwUpdateStepAdvance s = .next t ∧ t.hub.update.state = 5 ∧ t.hub.update.step = 4 ∧ t.hub.update.target = u.target.other ∧
        t.hub.update.since = s.elapsed ∧ (t.span u.target.other).boot.resetDue = some 4 ∧
        (t.span u.target.other).nvs.boot.trial = some (1 - (s.span u.target.other).boot.bank)) ∧
      (¬ moved → exec .fwUpdateStepAdvance s = .next s)) ∧
    (u.state = 5 →
      (s.stepReached = true → ∃ t, exec .fwUpdateStepAdvance s = .next t ∧ t.hub.update.state = 6 ∧ t.hub.sup.section_ = u.bank.supervisor ∧
        t.fld .a Fld.hubEvtUpdateDone = 1 ∧ ∀ sp : SpanId, (t.span sp).nvs.storedFloor = max (s.span sp).nvs.storedFloor u.bank.floor) ∧
      (s.stepReached = false → exec .fwUpdateStepAdvance s = .next s)) ∧
    (u.state ∉ [3, 4, 5] → exec .fwUpdateStepAdvance s = .next s) ∧
    ((u.state = 3 ∨ u.state = 5) → u.since + 300 * sec ≤ s.elapsed → s.stepReached = false → ∃ t, exec .fwUpdateTimeout s = .next t ∧
      t.hub.update.state = 7 ∧ t.fld .a Fld.hubEvtUpdateFailed = 1) ∧
    ((u.state ≠ 3 ∧ u.state ≠ 5) ∨ s.elapsed < u.since + 300 * sec ∨ s.stepReached = true → exec .fwUpdateTimeout s = .next s)

/-! ### The monitor -/

/-- The monitor: HELLO opens a session with a new identifier and no certificate, BYE, a break, 600 s without a line or the certificate's end close it; a new
rate applies 10 ms after its OK; a line needs a session and its right, and answers a source's counter and clears it, the readings of a fuse word, a program
of fuses in BLANK and TESTED alone, a capture of noise on a span that is not the keystone, and the entries of a core's trace ring.
Completions stated here: ERR_READ, MON_HELLO, MON_BYE, MON_BAUD, MON_BAUD_APPLY, MON_BREAK, MON_SESSION_EXPIRY, MON_INFO, MON_SRC, MON_TRACE,
MON_FUSE, MON_FPROG, MON_RUSHES_ON, MON_RUSHES_OFF, MON_RUSHES_READ. -/
def Obligations.MonitorLinesNeedASessionAndTheirRights : Prop :=
  ∀ s : State, s.regsCanonical = true →
    let m := s.hub.monitor
    let run : Prop := s.hub.sup.running = true
    (s.hub.sup.running = false → exec .monHello s = .next s ∧ exec .monBye s = .next s ∧ exec .monInfo s = .next s) ∧
    (run → s.lineBusy = false → ∃ (t : State) (x : MonSession), exec .monHello s = .next t ∧ t.hub.monitor.session = some x ∧ x.id ≠ 0 ∧ x.cert = none ∧
      (m.session ≠ none → t.hub.monitor.halts = []) ∧ t.fld .a Fld.monEvtSessionStart = 1 ∧ t.fld .b Fld.monEvtSessionStart = 1) ∧
    (run → s.lineBusy = false → m.session ≠ none → ∃ t, exec .monBye s = .next t ∧ t.hub.monitor.session = none ∧ t.hub.monitor.halts = [] ∧
      t.a.entropy.rushes = none ∧ t.b.entropy.rushes = none ∧ t.fld .a Fld.monEvtSessionEnd = 1) ∧
    (run → s.lineBusy = false → m.session = none → ∀ i, i ∈ [Instr.monBye, .monBaud 115200, .monInfo] →
      exec i s = .next (s.complete (s.monCaller .a) .notAuthorised [])) ∧
    (run → s.lineBusy = false → m.session ≠ none →
      (∀ rate, rate ∈ baudRates → ∃ t, exec (.monBaud rate) s = .next t ∧ t.hub.monitor.nextBaud = some (rate, s.elapsed) ∧
        t.hub.monitor.baud = m.baud) ∧
      (∀ rate, rate ∉ baudRates → exec (.monBaud rate) s = .next (s.complete (s.monCaller .a) .monitorSyntax [])) ∧
      (exec .monInfo s = .next (s.complete (s.monCaller .a) .ok
        [num s.a.fuses.life, num s.b.fuses.life, num (s.fld .a Fld.hubFwVersionVersion), num (s.fld .b Fld.hubFwVersionVersion),
          num (s.reg .a Reg.cntState).toNat, num (s.reg .b Reg.cntState).toNat, num (s.span (s.keystone.getD .a)).rep.epoch]))) ∧
    (m.nextBaud = none → exec .monBaudApply s = .next s) ∧
    (∀ rate t0, m.nextBaud = some (rate, t0) →
      (s.elapsed < t0 + 10 * ms → exec .monBaudApply s = .next s) ∧
      (t0 + 10 * ms ≤ s.elapsed → ∃ t, exec .monBaudApply s = .next t ∧ t.hub.monitor = { m with baud := rate, nextBaud := none })) ∧
    (run → ∀ framing, ∃ t, exec (.monBreak framing) s = .next t ∧ t.hub.monitor.session = none ∧
      t.hub.monitor.baud = (if framing = true then m.baud else 115200)) ∧
    (m.session = none → exec .monSessionExpiry s = .next s) ∧
    (∀ x, m.session = some x →
      let late : Prop := x.lastLine + 600 * sec ≤ s.elapsed ∨ ∃ c, x.cert = some c ∧ c.notAfter < s.now (s.keystone.getD .a)
      (late → ∃ t, exec .monSessionExpiry s = .next t ∧ t.hub.monitor.session = none) ∧ (¬ late → exec .monSessionExpiry s = .next s)) ∧
    (∀ sp : SpanId, s.monReady sp →
      let c := s.monCaller sp
      let u := s.lined sp
      (∀ word v, word < 256 → v < 2 ^ 32 →
        (s.lcState ≤ 1 → exec (.monFprog sp word v) s = .next (u.programFuse sp word v true)) ∧
        (1 < s.lcState → exec (.monFprog sp word v) s = .next (u.complete c .lifecycleState []))) ∧
      (s.lcState ≠ 5 →
        (∀ i r, (i, r) ∈ [((.monSrc sp 0x100 : Instr), 0), (.monFuse sp 0, 6), (.monRushesOn sp 0, 7), (.monRushesOff sp, 7), (.monRushesRead sp 0 1, 7),
            (.monMem sp 1 0 1, 2), (.monHalt sp 2, 3), (.monStep sp 2 1, 3), (.monGo sp 2, 3), (.monRegs sp 2, 3), (.monTrace sp 2 0 1, 4)] →
          s.monRight r = false → exec i s = .next (u.complete c .notAuthorised [])) ∧
        (∀ source, source < 4096 → s.monRight 0 = true → ∃ (t : State) (info : List Byte),
          exec (.monSrc sp source) s = .next (t.complete c .ok (s.isolatedLine c sp ++ [num (srcGet source (s.span sp).err.srcs).count, info])) ∧
            (srcGet source (t.span sp).err.srcs).count = 0) ∧
        (∀ first count, s.started c 0x0A02 [] = true → (s.span sp).rep.epoch ≠ 0 → s.monRight 0 = true → 1 ≤ count → count ≤ 256 → first < 65536 →
          s.secureUp sp = true →
            let r := (s.span sp).err.ring.lapRead ringDepth count ⟨first, 0, false⟩
            ∃ t : State, exec (.errRead c sp first count) s =
              .next (t.complete c .ok (s.isolatedLine c sp ++ [r.1.flatMap reportBytes, num r.2.e, num r.2.lost]))) ∧
        (∀ word, word < 256 → s.monRight 6 = true →
          let w := (s.span sp).fuses.word word
          exec (.monFuse sp word) s = .next (u.complete c .ok [num w.norm, num w.low, num w.high])) ∧
        (s.monRight 7 = true →
          (∀ source, source < 4 →
            let mode := (s.span sp).cont.mode
            let bad : Prop := mode ∈ [.keystone, .solo, .seeking, .rejoining] ∨ s.entFatal sp = true ∨ ((s.span sp).entropy.src source).retired = true
            (bad → exec (.monRushesOn sp source) s = .next (u.complete c .serviceUnavailable [])) ∧
            (¬ bad → ∃ t, exec (.monRushesOn sp source) s = .next t ∧ ((t.span sp).entropy.rushes.map fun r => r.source) = some source)) ∧
          (∃ t, exec (.monRushesOff sp) s = .next t ∧ (t.span sp).entropy.rushes = none) ∧
          (∀ off len, 1 ≤ len → len ≤ 4096 → off + len ≤ 131072 → exec (.monRushesRead sp off len) s =
            .next (u.complete c .ok [sliceBytes (((s.span sp).entropy.rushes.map (·.bits)).getD []) off len]))) ∧
        (∀ core first count, 2 ≤ core → core < 6 → first < 65536 → 1 ≤ count → count ≤ 4096 → s.monRight 4 = true →
          let r := ((s.span sp).worlds.ring core).lapRead ringDepth count ⟨first, 0, false⟩
          exec (.monTrace sp core first count) s = .next (u.complete c .ok [r.1.flatten, num r.2.e, num r.2.lost]))))

/-- Cores under the monitor: a halt waits for the take of a guest in reach, is then in effect and shown, and is answered; a halted core answers its registers,
carries out a number of instructions when its guest's take goes on, and goes on after GO; a read of a guest's memory answers the bytes of the mapped pages.
Completions stated here: MON_MEM, MON_HALT, MON_HALT_EFFECT, MON_STEP, MON_GO, MON_REGS. -/
def Obligations.MonitorHaltsStepsAndReadsGuests : Prop :=
  ∀ (s : State) (sp : SpanId), s.regsCanonical = true →
    (∀ core, let x := s.core (.span sp core)
      (x.guest = none → exec (.monHaltEffect sp core) s = .next s) ∧
      (∀ a b, x.take = some (a, b) → (s.now sp < a + 4 * us ∨ b ≤ s.now sp) → exec (.monHaltEffect sp core) s = .next s) ∧
      (∀ g a b h, core < 6 → x.guest = some g → x.take = some (a, b) → a + 4 * us ≤ s.now sp → s.now sp < b → s.haltOf sp core g = none →
        (s.hub.monitor.halts.find? fun h => h.span == sp && h.core == core && !h.effective) = some h → g ∈ s.monOnCore sp core →
          ∃ t, exec (.monHaltEffect sp core) s = .next t ∧ (t.haltOf sp core g).isSome = true ∧ t.fld sp Fld.monEvtHalt = 1)) ∧
    (s.monReady sp → s.lcState ≠ 5 →
      let c := s.monCaller sp
      let u := s.lined sp
      (s.monRight 3 = true → ∀ core, core < 6 →
        (s.monOnCore sp core = [] → ∀ i, i ∈ [(.monHalt sp core : Instr), .monStep sp core 1, .monGo sp core, .monRegs sp core] →
          exec i s = .next (u.complete c .notAuthorised [])) ∧
        (s.monOnCore sp core ≠ [] →
          (∀ g, (s.core (.span sp core)).guest = some g → g ∈ s.monOnCore sp core →
            ((s.haltOf sp core g).isSome = true → exec (.monHalt sp core) s = .next (u.complete c .ok [])) ∧
            (s.haltOf sp core g = none → s.monRoom sp 0x0B0A = true → ∃ t, exec (.monHalt sp core) s = .next t ∧
              t.hub.monitor.halts = s.hub.monitor.halts ++ [⟨sp, core, 0, false, 0, some c.session, 0, none⟩])) ∧
          (s.haltsOn sp core = [] → exec (.monStep sp core 1) s = .next (u.complete c .notAuthorised []) ∧
            exec (.monRegs sp core) s = .next (u.complete c .notAuthorised []) ∧ exec (.monGo sp core) s = .next (u.complete c .ok [])) ∧
          (∀ h rest, s.haltsOn sp core = h :: rest →
            (∀ n, n = 0 ∨ 1000 < n → exec (.monStep sp core n) s = .next (s.complete c .monitorSyntax [])) ∧
            (∀ n, 1 ≤ n → n ≤ 1000 → ∃ t, exec (.monStep sp core n) s = .next t ∧
              ((s.core (.span sp core)).guest = none → t.hub.monitor.halts =
                s.hub.monitor.halts.map fun y => if y = h then { y with steps := n, stepper := some c.session } else y)) ∧
            (s.monRoom sp 0x0B0A = false → exec (.monGo sp core) s = .next (u.monFull c)) ∧
            (s.monRoom sp 0x0B0A = true → ∃ t, exec (.monGo sp core) s = .next t ∧ t.haltsOn sp core = [] ∧ t.fld sp Fld.monEvtResume = 1) ∧
            ((s.core (.span sp core)).guest ≠ some h.guest →
              let x : PierCore := { s.core (.span sp core) with v := s.savedCore sp core h.guest }
              exec (.monRegs sp core) s = .next (u.complete c .ok (((List.range 8).map fun r => num (x.reg r).toNat) ++
                [num x.v.lk.toNat, num x.v.pc.toNat, num x.psr.toNat] ++ (List.range 16).map fun r => num (x.reg (8 + r)).toNat)))))) ∧
      (s.monRight 2 = true → ∀ g ipa len, 1 ≤ len → ipa % 4096 + len ≤ 4096 →
        ((s.monGuest g = false ∨ s.guest sp g = none) → exec (.monMem sp g ipa len) s = .next (u.complete c .notAuthorised [])) ∧
        (s.monGuest g = true → s.guest sp g ≠ none →
          (∀ pa, u.translate sp g ipa .read = some pa → u.monReads sp g ipa pa = true → exec (.monMem sp g ipa len) s =
            .next ((u.monLine .ok).emit (.reply c .ok false [(s.span sp).worlds.mem.bytes pa len]))) ∧
          (u.translate sp g ipa .read = none → exec (.monMem sp g ipa len) s =
            .next ((u.monLine .notAuthorised).emit (.reply c .notAuthorised false []))))))
end

