-- ==== Sys2Proof/Laws/Accepted.lean ====
section
/-!
SUPPORT. When the storyboard commands are accepted: each check of R43 and R45, and each of the feasibility table, as a hypothesis of its own, so that no proof
unfolds the decisions.
-/

namespace Sys2Proof.Laws

open Sys2Proof.Machine

/-- An image is feasible where each check of the feasibility table finds nothing. -/
theorem infeasible_none {s : State} {sp : SpanId} {st : Staged} {t : Nat} {c : Storyboard} (hc : st.after (s.span sp).rep.config = c)
    (h1 : check1 st.ops = none) (h2 : check2 st.ops c = none) (h3 : check3 (s.span sp) st c = none) (h4 : check4 st.ops c = none)
    (h5 : check5 (s.span sp) st.ops c = none) (h6 : check6 (s.span sp) st t = none) (h7 : check7 (s.span sp).rep st.ops c = none)
    (h8 : check8 s st.ops c = none) (h9 : check9 st c (s.span sp).rep.config = none) (h10 : check10 (s.span sp) st.ops c = none)
    (h11 : s.check11 st.ops c = none) : s.infeasible sp st t = none := by
  subst hc
  simp only [State.infeasible, h1, h2, h3, h4, h5, h6, h7, h8, h9, h10, h11]
  rfl

/-- SB_STAGE is accepted where every check of R43 passes. -/
theorem decideStage_isOk {s : State} {sp : SpanId} {c : Caller} {img : List Byte} {st : Staged}
    (h1 : s.producerMay sp c = true) (h2 : (s.span sp).rep.staged = none) (h3 : (s.span sp).rep.log.roomOutsideReserve = true)
    (h4 : parseImage img = some st) (h5 : ((s.span sp).rep.epoch == 0 && !st.full) = false) (h6 : sliceBytes img 0x28 16 = s.unitId sp)
    (h7 : decide (if st.full then st.epoch ≤ (s.span sp).rep.epoch else st.epoch ≤ st.baseEpoch) = false)
    (h8 : (!st.full && (st.baseEpoch != (s.span sp).rep.epoch || sliceBytes img 0x60 32 != (s.span sp).rep.config.digest)) = false)
    (h9 : (!st.full && !st.ops.all (opApplies (s.span sp).rep.config)) = false) (h10 : st.sigsHold (s.span sp).rep = true)
    (h11 : s.infeasible sp st (st.second (s.now sp)) = none) : (s.decideStage sp c img).isOk = true := by
  simp only [State.decideStage, refuseIf, h1, h2, h3, h4, h5, h6, h7, h8, h9, h10, h11, bne_self_eq_false, Option.isSome_none, Bool.not_true, if_false,
    Bool.false_eq_true, bind, Except.bind]
  rfl

/-- SB_SIGN is accepted where every check of R45 passes and no feasibility check fails after it. -/
theorem decideSign_isOk {s : State} {sp : SpanId} {c : Caller} {e : SigEntry} {st : Staged}
    (h1 : ((s.lcState == 2 || s.lcState == 3) && ((s.span sp).rep.epoch == 0 || ((s.span sp).rep.sessionOf c).any fun y =>
      y.signer.role.code == e.role && y.signer.owner == e.owner && y.signer.index == e.signer)) = true)
    (h2 : (s.span sp).rep.staged = some st) (h3 : (st.state == .quorumPending && decide (st.closeAt ≤ s.now sp)) = false)
    (h4 : (s.span sp).rep.log.roomOutsideReserve = true) (h5 : ({ st with sigs := st.sigs ++ [e] } : Staged).sigsHold (s.span sp).rep = true)
    (h6 : s.infeasible sp { st with sigs := st.sigs ++ [e] } (({ st with sigs := st.sigs ++ [e] } : Staged).second (s.now sp)) = none) :
    (s.decideSign sp c e).isOk = true := by
  simp only [State.decideSign, refuseIf, h1, h2, h3, h4, h5, h6, ite_self, Bool.not_true, if_false, Bool.false_eq_true, bind, Except.bind]
  rfl

end Sys2Proof.Laws
end

