-- ==== Sys2Proof/Laws/Sparse.lean ====
section
/-!
SUPPORT. The laws of sparse lists in canonical form, and of the memory that is one: a write is read back, leaves every other key alone, and keeps
the canonical form.
-/

namespace Sys2Proof.Laws

open Sys2Proof.Machine

variable {α : Type}

@[simp] theorem sparseGet_nil (d : α) (k : Nat) : sparseGet d k [] = d := rfl

/-- A list in canonical form has no key at or below its bound. -/
theorem sparseGet_below [DecidableEq α] (dflt : Nat → α) (d : α) (k : Nat) :
    ∀ (l : List (Nat × α)) (lo : Nat), sparseWf dflt (some lo) l = true → k ≤ lo → sparseGet d k l = d
  | [], _, _, _ => rfl
  | (k', v) :: t, lo, h, hk => by
    simp only [sparseWf, Bool.and_eq_true, decide_eq_true_eq] at h
    have hne : ¬ k' = k := by omega
    simp only [sparseGet, hne, if_false]
    exact sparseGet_below dflt d k t k' h.2 (by omega)

/-- The bound of a canonical form may be lowered. -/
theorem sparseWf_weaken [DecidableEq α] (dflt : Nat → α) {l : List (Nat × α)} {lo hi : Nat} (h : sparseWf dflt (some hi) l = true)
    (hle : lo ≤ hi) : sparseWf dflt (some lo) l = true := by
  cases l with
  | nil => rfl
  | cons x t =>
    simp only [sparseWf, Bool.and_eq_true, decide_eq_true_eq] at h ⊢
    exact ⟨⟨by omega, h.1.2⟩, h.2⟩

/-- A canonical list with a bound is canonical without one. -/
theorem sparseWf_of_some [DecidableEq α] (dflt : Nat → α) {l : List (Nat × α)} {lo : Nat} (h : sparseWf dflt (some lo) l = true) :
    sparseWf dflt none l = true := by
  cases l with
  | nil => rfl
  | cons x t => simp only [sparseWf, Bool.and_eq_true, decide_eq_true_eq] at h ⊢; exact ⟨⟨trivial, h.1.2⟩, h.2⟩

/-- A write keeps the canonical form above a bound. -/
theorem sparseSet_wf_some [DecidableEq α] (dflt : Nat → α) (k : Nat) (v : α) :
    ∀ (l : List (Nat × α)) (lo : Nat), lo < k → sparseWf dflt (some lo) l = true →
      sparseWf dflt (some lo) (sparseSet k v (decide (v ≠ dflt k)) l) = true
  | [], lo, hlo, _ => by
    by_cases hv : v = dflt k <;> simp [sparseSet, sparseWf, hv, hlo]
  | (k', v') :: t, lo, hlo, h => by
    simp only [sparseWf, Bool.and_eq_true, decide_eq_true_eq] at h
    obtain ⟨⟨hlk, hv'⟩, ht⟩ := h
    unfold sparseSet
    by_cases h1 : k < k'
    · rw [if_pos h1]
      by_cases hv : v = dflt k
      · simp [hv, sparseWf, hlk, hv', ht]
      · simp [hv, sparseWf, hlo, h1, hv', ht]
    · rw [if_neg h1]
      by_cases h2 : k = k'
      · rw [if_pos h2]
        by_cases hv : v = dflt k
        · subst h2
          have ht' := sparseWf_weaken dflt ht (Nat.le_of_lt hlk)
          simp [hv, ht']
        · subst h2
          simp [hv, sparseWf, hlo, ht]
      · rw [if_neg h2]
        have ih := sparseSet_wf_some dflt k v t k' (by omega) ht
        simp only [sparseWf, Bool.and_eq_true, decide_eq_true_eq]
        exact ⟨⟨hlk, hv'⟩, ih⟩

/-- A write keeps the canonical form. -/
theorem sparseSet_wf [DecidableEq α] (dflt : Nat → α) (k : Nat) (v : α) (l : List (Nat × α)) (h : sparseWf dflt none l = true) :
    sparseWf dflt none (sparseSet k v (decide (v ≠ dflt k)) l) = true := by
  cases l with
  | nil => by_cases hv : v = dflt k <;> simp [sparseSet, sparseWf, hv]
  | cons x t =>
    obtain ⟨k', v'⟩ := x
    simp only [sparseWf, Bool.and_eq_true, decide_eq_true_eq] at h
    obtain ⟨⟨-, hv'⟩, ht⟩ := h
    unfold sparseSet
    by_cases h1 : k < k'
    · rw [if_pos h1]
      by_cases hv : v = dflt k
      · simp [hv, sparseWf, hv', ht]
      · simp [hv, sparseWf, h1, hv', ht]
    · rw [if_neg h1]
      by_cases h2 : k = k'
      · rw [if_pos h2]
        subst h2
        by_cases hv : v = dflt k
        · simp [hv, sparseWf_of_some dflt ht]
        · simp [hv, sparseWf, ht]
      · rw [if_neg h2]
        have ih := sparseSet_wf_some dflt k v t k' (by omega) ht
        simp only [sparseWf, Bool.and_eq_true, decide_eq_true_eq]
        exact ⟨⟨trivial, hv'⟩, ih⟩

/-- Another key reads as before a write. -/
theorem sparseGet_set_ne (d : α) {k j : Nat} (v : α) (b : Bool) (hne : j ≠ k) :
    ∀ (l : List (Nat × α)), sparseGet d j (sparseSet k v b l) = sparseGet d j l
  | [] => by
    cases b
    · rfl
    · simp [sparseSet, sparseGet, Ne.symm hne]
  | (k', v') :: t => by
    unfold sparseSet
    by_cases h1 : k < k'
    · rw [if_pos h1]
      cases b
      · rfl
      · simp only [if_true, sparseGet]
        rw [if_neg (Ne.symm hne)]
    · rw [if_neg h1]
      by_cases h2 : k = k'
      · rw [if_pos h2]
        subst h2
        cases b
        · simp only [sparseGet, Bool.false_eq_true, if_false, if_neg (Ne.symm hne)]
        · simp only [sparseGet, if_true, if_neg (Ne.symm hne)]
      · rw [if_neg h2]
        simp only [sparseGet]
        by_cases h3 : k' = j
        · rw [if_pos h3, if_pos h3]
        · rw [if_neg h3, if_neg h3]
          exact sparseGet_set_ne d v b hne t

/-- A written key above the bound of a canonical list reads what was written. -/
theorem sparseGet_set_some [DecidableEq α] (dflt : Nat → α) (k : Nat) (v : α) :
    ∀ (l : List (Nat × α)) (lo : Option Nat), sparseWf dflt lo l = true →
      sparseGet (dflt k) k (sparseSet k v (decide (v ≠ dflt k)) l) = v
  | [], _, _ => by
    by_cases hv : v = dflt k <;> simp [sparseSet, sparseGet, hv]
  | (k', v') :: t, lo, h => by
    simp only [sparseWf, Bool.and_eq_true, decide_eq_true_eq] at h
    obtain ⟨-, ht⟩ := h
    unfold sparseSet
    by_cases h1 : k < k'
    · rw [if_pos h1]
      by_cases hv : v = dflt k
      · have hne : ¬ k' = k := by omega
        have hb := sparseGet_below dflt (dflt k) k t k' ht (by omega)
        simp [hv, sparseGet, hne, hb]
      · simp [hv, sparseGet]
    · rw [if_neg h1]
      by_cases h2 : k = k'
      · rw [if_pos h2]
        subst h2
        by_cases hv : v = dflt k
        · have hb := sparseGet_below dflt (dflt k) k t k ht (Nat.le_refl k)
          simp [hv, hb]
        · simp [hv, sparseGet]
      · rw [if_neg h2]
        have hne : ¬ k' = k := by omega
        simp only [sparseGet, if_neg hne]
        exact sparseGet_set_some dflt k v t (some k') ht

/-! ### Memory -/

/-- A byte that was written reads back. -/
theorem memory_read_write {m : Memory} (h : m.wf = true) (pa : Nat) (b : Byte) : (m.write pa b).read pa = b := by
  exact sparseGet_set_some (fun _ => (0 : Byte)) pa b m none h

/-- Every other byte reads as before a write. -/
theorem memory_read_write_ne (m : Memory) {pa q : Nat} (b : Byte) (hne : q ≠ pa) : (m.write pa b).read q = m.read q :=
  sparseGet_set_ne 0 b _ hne m

/-- A write keeps the canonical form of memory. -/
theorem memory_write_wf {m : Memory} (h : m.wf = true) (pa : Nat) (b : Byte) : (m.write pa b).wf = true :=
  sparseSet_wf (fun _ => (0 : Byte)) pa b m h

/-- Writing a byte string keeps the canonical form of memory. -/
theorem memory_setBytes_wf : ∀ (bs : List Byte) {m : Memory} (_ : m.wf = true) (pa : Nat), (m.setBytes pa bs).wf = true
  | [], _, h, _ => h
  | b :: t, _, h, pa => memory_setBytes_wf t (memory_write_wf h pa b) (pa + 1)

/-- A byte outside the bytes written reads as before. -/
theorem memory_read_setBytes_ne : ∀ (bs : List Byte) (m : Memory) (pa q : Nat), (q < pa ∨ pa + bs.length ≤ q) →
    (m.setBytes pa bs).read q = m.read q
  | [], _, _, _, _ => rfl
  | b :: t, m, pa, q, h => by
    simp only [List.length_cons] at h
    have ih := memory_read_setBytes_ne t (m.write pa b) (pa + 1) q (by omega)
    simp only [Memory.setBytes]
    rw [ih]
    exact memory_read_write_ne m b (by omega)

/-- A filter keeps the canonical form above a bound. -/
theorem sparseWf_filter [DecidableEq α] (dflt : Nat → α) (p : Nat × α → Bool) :
    ∀ (l : List (Nat × α)) (lo : Option Nat), sparseWf dflt lo l = true → sparseWf dflt lo (l.filter p) = true
  | [], _, _ => rfl
  | x :: t, lo, h => by
    obtain ⟨k, v⟩ := x
    have h0 := h
    simp only [sparseWf, Bool.and_eq_true, decide_eq_true_eq] at h
    obtain ⟨⟨hlo, hv⟩, ht⟩ := h
    have ih := sparseWf_filter dflt p t (some k) ht
    by_cases hp : p (k, v) = true
    · rw [List.filter_cons_of_pos hp]
      simp only [sparseWf, Bool.and_eq_true, decide_eq_true_eq]
      exact ⟨⟨hlo, hv⟩, ih⟩
    · rw [List.filter_cons_of_neg hp]
      cases lo with
      | none => exact sparseWf_of_some dflt ih
      | some l => exact sparseWf_weaken dflt ih (Nat.le_of_lt (by simpa using hlo))

/-- Zeroing a range keeps the canonical form of memory. -/
theorem memory_zero_wf {m : Memory} (h : m.wf = true) (pa n : Nat) : (m.zero pa n).wf = true :=
  sparseWf_filter (fun _ => (0 : Byte)) _ m none h

/-- A byte outside a zeroed range reads as before. -/
theorem memory_read_zero_ne : ∀ (m : Memory) (pa n q : Nat), (q < pa ∨ pa + n ≤ q) → (m.zero pa n).read q = m.read q
  | [], _, _, _, _ => rfl
  | (k, v) :: t, pa, n, q, h => by
    have ih := memory_read_zero_ne t pa n q h
    unfold Memory.zero Memory.read at ih ⊢
    by_cases hk : k < pa ∨ pa + n ≤ k
    · rw [List.filter_cons_of_pos (by simpa using hk)]
      simp only [sparseGet]
      by_cases hq : k = q
      · rw [if_pos hq, if_pos hq]
      · rw [if_neg hq, if_neg hq]; exact ih
    · rw [List.filter_cons_of_neg (by simpa using hk)]
      have hq : ¬ k = q := by omega
      simp only [sparseGet, if_neg hq]
      exact ih

end Sys2Proof.Laws
end

