-- ==== Sys2Proof/Laws/State.lean ====
section
/-!
SUPPORT. What each named update of the state leaves alone, one lemma for each field and update, and how control registers read after a write.
-/

namespace Sys2Proof.Laws

open Sys2Proof.Machine

/-! ### Spans and the hub -/

@[simp] theorem other_other (sp : SpanId) : sp.other.other = sp := by cases sp <;> rfl
@[simp] theorem other_ne (sp : SpanId) : sp.other ≠ sp := by cases sp <;> decide
@[simp] theorem span_setSpan (s : State) (sp : SpanId) (x : SpanState) : (s.setSpan sp x).span sp = x := by cases sp <;> rfl
@[simp] theorem span_setSpan_other (s : State) (sp : SpanId) (x : SpanState) : (s.setSpan sp x).span sp.other = s.span sp.other := by
  cases sp <;> rfl
theorem span_setSpan_ne (s : State) {sp q : SpanId} (x : SpanState) (h : q ≠ sp) : (s.setSpan sp x).span q = s.span q := by
  cases sp <;> cases q <;> first | rfl | exact absurd rfl h
@[simp] theorem span_upd (s : State) (sp : SpanId) (f : SpanState → SpanState) : (s.upd sp f).span sp = f (s.span sp) := by
  cases sp <;> rfl
@[simp] theorem span_upd_other (s : State) (sp : SpanId) (f : SpanState → SpanState) : (s.upd sp f).span sp.other = s.span sp.other := by
  cases sp <;> rfl
theorem span_upd_ne (s : State) {sp q : SpanId} (f : SpanState → SpanState) (h : q ≠ sp) : (s.upd sp f).span q = s.span q :=
  span_setSpan_ne s _ h
@[simp] theorem span_updHub (s : State) (q : SpanId) (f : HubState → HubState) : (s.updHub f).span q = s.span q := by cases q <;> rfl
@[simp] theorem hub_updHub (s : State) (f : HubState → HubState) : (s.updHub f).hub = f s.hub := rfl
@[simp] theorem hub_setSpan (s : State) (sp : SpanId) (x : SpanState) : (s.setSpan sp x).hub = s.hub := by cases sp <;> rfl
@[simp] theorem deck_setSpan (s : State) (sp : SpanId) (x : SpanState) : (s.setSpan sp x).deck = s.deck := by cases sp <;> rfl
@[simp] theorem outputs_setSpan (s : State) (sp : SpanId) (x : SpanState) : (s.setSpan sp x).outputs = s.outputs := by cases sp <;> rfl
@[simp] theorem elapsed_setSpan (s : State) (sp : SpanId) (x : SpanState) : (s.setSpan sp x).elapsed = s.elapsed := by cases sp <;> rfl
@[simp] theorem free_setSpan (s : State) (sp : SpanId) (x : SpanState) : (s.setSpan sp x).free = s.free := by cases sp <;> rfl
@[simp] theorem pending_setSpan (s : State) (sp : SpanId) (x : SpanState) : (s.setSpan sp x).pending = s.pending := by cases sp <;> rfl
@[simp] theorem hub_upd (s : State) (sp : SpanId) (f : SpanState → SpanState) : (s.upd sp f).hub = s.hub := by cases sp <;> rfl
@[simp] theorem deck_upd (s : State) (sp : SpanId) (f : SpanState → SpanState) : (s.upd sp f).deck = s.deck := by cases sp <;> rfl
@[simp] theorem outputs_upd (s : State) (sp : SpanId) (f : SpanState → SpanState) : (s.upd sp f).outputs = s.outputs := by cases sp <;> rfl
@[simp] theorem elapsed_upd (s : State) (sp : SpanId) (f : SpanState → SpanState) : (s.upd sp f).elapsed = s.elapsed := by cases sp <;> rfl
@[simp] theorem free_upd (s : State) (sp : SpanId) (f : SpanState → SpanState) : (s.upd sp f).free = s.free := by cases sp <;> rfl
@[simp] theorem pending_upd (s : State) (sp : SpanId) (f : SpanState → SpanState) : (s.upd sp f).pending = s.pending := by cases sp <;> rfl
@[simp] theorem hub_updRep (s : State) (sp : SpanId) (f : Replica → Replica) : (s.updRep sp f).hub = s.hub := by cases sp <;> rfl
@[simp] theorem deck_updRep (s : State) (sp : SpanId) (f : Replica → Replica) : (s.updRep sp f).deck = s.deck := by cases sp <;> rfl
@[simp] theorem outputs_updRep (s : State) (sp : SpanId) (f : Replica → Replica) : (s.updRep sp f).outputs = s.outputs := by cases sp <;> rfl
@[simp] theorem elapsed_updRep (s : State) (sp : SpanId) (f : Replica → Replica) : (s.updRep sp f).elapsed = s.elapsed := by cases sp <;> rfl
@[simp] theorem free_updRep (s : State) (sp : SpanId) (f : Replica → Replica) : (s.updRep sp f).free = s.free := by cases sp <;> rfl
@[simp] theorem pending_updRep (s : State) (sp : SpanId) (f : Replica → Replica) : (s.updRep sp f).pending = s.pending := by cases sp <;> rfl
@[simp] theorem hub_updCont (s : State) (sp : SpanId) (f : Cont → Cont) : (s.updCont sp f).hub = s.hub := by cases sp <;> rfl
@[simp] theorem deck_updCont (s : State) (sp : SpanId) (f : Cont → Cont) : (s.updCont sp f).deck = s.deck := by cases sp <;> rfl
@[simp] theorem outputs_updCont (s : State) (sp : SpanId) (f : Cont → Cont) : (s.updCont sp f).outputs = s.outputs := by cases sp <;> rfl
@[simp] theorem elapsed_updCont (s : State) (sp : SpanId) (f : Cont → Cont) : (s.updCont sp f).elapsed = s.elapsed := by cases sp <;> rfl
@[simp] theorem free_updCont (s : State) (sp : SpanId) (f : Cont → Cont) : (s.updCont sp f).free = s.free := by cases sp <;> rfl
@[simp] theorem pending_updCont (s : State) (sp : SpanId) (f : Cont → Cont) : (s.updCont sp f).pending = s.pending := by cases sp <;> rfl
@[simp] theorem hub_updWorlds (s : State) (sp : SpanId) (f : Worlds → Worlds) : (s.updWorlds sp f).hub = s.hub := by cases sp <;> rfl
@[simp] theorem deck_updWorlds (s : State) (sp : SpanId) (f : Worlds → Worlds) : (s.updWorlds sp f).deck = s.deck := by cases sp <;> rfl
@[simp] theorem outputs_updWorlds (s : State) (sp : SpanId) (f : Worlds → Worlds) : (s.updWorlds sp f).outputs = s.outputs := by cases sp <;> rfl
@[simp] theorem elapsed_updWorlds (s : State) (sp : SpanId) (f : Worlds → Worlds) : (s.updWorlds sp f).elapsed = s.elapsed := by cases sp <;> rfl
@[simp] theorem free_updWorlds (s : State) (sp : SpanId) (f : Worlds → Worlds) : (s.updWorlds sp f).free = s.free := by cases sp <;> rfl
@[simp] theorem pending_updWorlds (s : State) (sp : SpanId) (f : Worlds → Worlds) : (s.updWorlds sp f).pending = s.pending := by cases sp <;> rfl
@[simp] theorem deck_updHub (s : State) (f : HubState → HubState) : (s.updHub f).deck = s.deck := rfl
@[simp] theorem outputs_updHub (s : State) (f : HubState → HubState) : (s.updHub f).outputs = s.outputs := rfl
@[simp] theorem elapsed_updHub (s : State) (f : HubState → HubState) : (s.updHub f).elapsed = s.elapsed := rfl
@[simp] theorem free_updHub (s : State) (f : HubState → HubState) : (s.updHub f).free = s.free := rfl
@[simp] theorem pending_updHub (s : State) (f : HubState → HubState) : (s.updHub f).pending = s.pending := rfl

/-! ### Free values and outputs -/

@[simp] theorem a_emit (s : State) (o : Output) : (s.emit o).a = s.a := rfl
@[simp] theorem b_emit (s : State) (o : Output) : (s.emit o).b = s.b := rfl
@[simp] theorem hub_emit (s : State) (o : Output) : (s.emit o).hub = s.hub := rfl
@[simp] theorem deck_emit (s : State) (o : Output) : (s.emit o).deck = s.deck := rfl
@[simp] theorem elapsed_emit (s : State) (o : Output) : (s.emit o).elapsed = s.elapsed := rfl
@[simp] theorem free_emit (s : State) (o : Output) : (s.emit o).free = s.free := rfl
@[simp] theorem pending_emit (s : State) (o : Output) : (s.emit o).pending = s.pending := rfl
@[simp] theorem outputs_emit (s : State) (o : Output) : (s.emit o).outputs = o :: s.outputs := rfl
@[simp] theorem span_emit (s : State) (o : Output) (q : SpanId) : (s.emit o).span q = s.span q := by cases q <;> rfl
@[simp] theorem a_draw (s : State) (n : Nat) : (s.draw n).2.a = s.a := rfl
@[simp] theorem b_draw (s : State) (n : Nat) : (s.draw n).2.b = s.b := rfl
@[simp] theorem hub_draw (s : State) (n : Nat) : (s.draw n).2.hub = s.hub := rfl
@[simp] theorem deck_draw (s : State) (n : Nat) : (s.draw n).2.deck = s.deck := rfl
@[simp] theorem outputs_draw (s : State) (n : Nat) : (s.draw n).2.outputs = s.outputs := rfl
@[simp] theorem elapsed_draw (s : State) (n : Nat) : (s.draw n).2.elapsed = s.elapsed := rfl
@[simp] theorem pending_draw (s : State) (n : Nat) : (s.draw n).2.pending = s.pending := rfl
@[simp] theorem free_draw (s : State) (n : Nat) : (s.draw n).2.free = s.free + n := rfl
@[simp] theorem span_draw (s : State) (n : Nat) (q : SpanId) : (s.draw n).2.span q = s.span q := by cases q <;> rfl

/-! ### Control registers -/

@[simp] theorem deck_setReg (s : State) (sp : SpanId) (off : Nat) (v : Word32) : (s.setReg sp off v).deck = s.deck := by
  unfold State.setReg; dsimp only; split <;> simp
@[simp] theorem deck_setFld (s : State) (sp : SpanId) (r : FieldRef) (v : Nat) : (s.setFld sp r v).deck = s.deck := by
  simp [State.setFld]
@[simp] theorem outputs_setReg (s : State) (sp : SpanId) (off : Nat) (v : Word32) : (s.setReg sp off v).outputs = s.outputs := by
  unfold State.setReg; dsimp only; split <;> simp
@[simp] theorem outputs_setFld (s : State) (sp : SpanId) (r : FieldRef) (v : Nat) : (s.setFld sp r v).outputs = s.outputs := by
  simp [State.setFld]
@[simp] theorem elapsed_setReg (s : State) (sp : SpanId) (off : Nat) (v : Word32) : (s.setReg sp off v).elapsed = s.elapsed := by
  unfold State.setReg; dsimp only; split <;> simp
@[simp] theorem elapsed_setFld (s : State) (sp : SpanId) (r : FieldRef) (v : Nat) : (s.setFld sp r v).elapsed = s.elapsed := by
  simp [State.setFld]
@[simp] theorem free_setReg (s : State) (sp : SpanId) (off : Nat) (v : Word32) : (s.setReg sp off v).free = s.free := by
  unfold State.setReg; dsimp only; split <;> simp
@[simp] theorem free_setFld (s : State) (sp : SpanId) (r : FieldRef) (v : Nat) : (s.setFld sp r v).free = s.free := by
  simp [State.setFld]
@[simp] theorem pending_setReg (s : State) (sp : SpanId) (off : Nat) (v : Word32) : (s.setReg sp off v).pending = s.pending := by
  unfold State.setReg; dsimp only; split <;> simp
@[simp] theorem pending_setFld (s : State) (sp : SpanId) (r : FieldRef) (v : Nat) : (s.setFld sp r v).pending = s.pending := by
  simp [State.setFld]

/-- A span's registers and the hub's TMP registers are listed in canonical form. -/
def RegsWf (s : State) : Prop :=
  sparseWf resetWord none s.a.regs = true ∧ sparseWf resetWord none s.b.regs = true ∧ sparseWf resetWord none s.hub.regs = true

/-- A register that was written reads what was written. -/
theorem reg_setReg {s : State} (h : RegsWf s) (sp : SpanId) (off : Nat) (v : Word32) : (s.setReg sp off v).reg sp off = v := by
  unfold State.reg State.setReg
  by_cases ht : inTmp off = true
  · simp only [ht, if_true, hub_updHub]
    exact sparseGet_set_some resetWord off v s.hub.regs none h.2.2
  · simp only [ht, if_false, span_upd]
    cases sp
    · exact sparseGet_set_some resetWord off v s.a.regs none h.1
    · exact sparseGet_set_some resetWord off v s.b.regs none h.2.1

/-- Every other register of either span reads as before. -/
theorem reg_setReg_ne (s : State) (sp q : SpanId) {off j : Nat} (v : Word32) (hne : j ≠ off) :
    (s.setReg sp off v).reg q j = s.reg q j := by
  unfold State.reg State.setReg
  by_cases ht : inTmp off = true
  · simp only [ht, if_true, hub_updHub, span_updHub]
    split
    · exact sparseGet_set_ne _ v _ hne _
    · rfl
  · simp only [ht, hub_upd]
    split
    · simp
    · by_cases hq : q = sp
      · subst hq; simp [sparseGet_set_ne _ v _ hne]
      · simp [span_upd_ne s _ hq]

/-- A register write keeps the canonical form. -/
theorem regsWf_setReg {s : State} (h : RegsWf s) (sp : SpanId) (off : Nat) (v : Word32) : RegsWf (s.setReg sp off v) := by
  obtain ⟨ha, hb, hh⟩ := h
  unfold State.setReg
  by_cases ht : inTmp off = true
  · simp only [ht, if_true]
    exact ⟨ha, hb, sparseSet_wf resetWord off v _ hh⟩
  · simp only [ht]
    cases sp
    · exact ⟨sparseSet_wf resetWord off v _ ha, hb, hh⟩
    · exact ⟨ha, sparseSet_wf resetWord off v _ hb, hh⟩

theorem regsWf_setFld {s : State} (h : RegsWf s) (sp : SpanId) (r : FieldRef) (v : Nat) : RegsWf (s.setFld sp r v) :=
  regsWf_setReg h sp _ _

theorem regsWf_reset : RegsWf State.reset := ⟨rfl, rfl, rfl⟩

end Sys2Proof.Laws
end

