-- ==== Sys2Proof/Laws/Updates.lean ====
section
/-!
SUPPORT. The updates of one unit of a span, and writes of control registers: the fields that they leave alone, one lemma for each field and update, so that
no proof unfolds a record update.
-/

namespace Sys2Proof.Laws

open Sys2Proof.Machine

/-! ### Updates of one unit -/

@[simp] theorem span_updRep (s : State) (sp : SpanId) (f : Replica → Replica) : (s.updRep sp f).span sp = { s.span sp with rep := f (s.span sp).rep } := by cases sp <;> rfl
@[simp] theorem span_updRep_other (s : State) (sp : SpanId) (f : Replica → Replica) : (s.updRep sp f).span sp.other = s.span sp.other := by cases sp <;> rfl
@[simp] theorem reg_updRep (s : State) (sp : SpanId) (f : Replica → Replica) (q : SpanId) (off : Nat) : (s.updRep sp f).reg q off = s.reg q off := by cases sp <;> cases q <;> rfl
@[simp] theorem fld_updRep (s : State) (sp : SpanId) (f : Replica → Replica) (q : SpanId) (r : FieldRef) : (s.updRep sp f).fld q r = s.fld q r := by simp [State.fld]
@[simp] theorem span_updCont (s : State) (sp : SpanId) (f : Cont → Cont) : (s.updCont sp f).span sp = { s.span sp with cont := f (s.span sp).cont } := by cases sp <;> rfl
@[simp] theorem span_updCont_other (s : State) (sp : SpanId) (f : Cont → Cont) : (s.updCont sp f).span sp.other = s.span sp.other := by cases sp <;> rfl
@[simp] theorem reg_updCont (s : State) (sp : SpanId) (f : Cont → Cont) (q : SpanId) (off : Nat) : (s.updCont sp f).reg q off = s.reg q off := by cases sp <;> cases q <;> rfl
@[simp] theorem fld_updCont (s : State) (sp : SpanId) (f : Cont → Cont) (q : SpanId) (r : FieldRef) : (s.updCont sp f).fld q r = s.fld q r := by simp [State.fld]
@[simp] theorem span_updWorlds (s : State) (sp : SpanId) (f : Worlds → Worlds) : (s.updWorlds sp f).span sp = { s.span sp with worlds := f (s.span sp).worlds } := by cases sp <;> rfl
@[simp] theorem span_updWorlds_other (s : State) (sp : SpanId) (f : Worlds → Worlds) : (s.updWorlds sp f).span sp.other = s.span sp.other := by cases sp <;> rfl
@[simp] theorem reg_updWorlds (s : State) (sp : SpanId) (f : Worlds → Worlds) (q : SpanId) (off : Nat) : (s.updWorlds sp f).reg q off = s.reg q off := by cases sp <;> cases q <;> rfl
@[simp] theorem fld_updWorlds (s : State) (sp : SpanId) (f : Worlds → Worlds) (q : SpanId) (r : FieldRef) : (s.updWorlds sp f).fld q r = s.fld q r := by simp [State.fld]
@[simp] theorem span_updStream (s : State) (sp : SpanId) (f : Stream → Stream) : (s.updStream sp f).span sp = { s.span sp with stream := f (s.span sp).stream } := by cases sp <;> rfl
@[simp] theorem span_updStream_other (s : State) (sp : SpanId) (f : Stream → Stream) : (s.updStream sp f).span sp.other = s.span sp.other := by cases sp <;> rfl
@[simp] theorem reg_updStream (s : State) (sp : SpanId) (f : Stream → Stream) (q : SpanId) (off : Nat) : (s.updStream sp f).reg q off = s.reg q off := by cases sp <;> cases q <;> rfl
@[simp] theorem fld_updStream (s : State) (sp : SpanId) (f : Stream → Stream) (q : SpanId) (r : FieldRef) : (s.updStream sp f).fld q r = s.fld q r := by simp [State.fld]
@[simp] theorem hub_updStream (s : State) (sp : SpanId) (f : Stream → Stream) : (s.updStream sp f).hub = s.hub := by cases sp <;> rfl
@[simp] theorem deck_updStream (s : State) (sp : SpanId) (f : Stream → Stream) : (s.updStream sp f).deck = s.deck := by cases sp <;> rfl
@[simp] theorem outputs_updStream (s : State) (sp : SpanId) (f : Stream → Stream) : (s.updStream sp f).outputs = s.outputs := by cases sp <;> rfl
@[simp] theorem elapsed_updStream (s : State) (sp : SpanId) (f : Stream → Stream) : (s.updStream sp f).elapsed = s.elapsed := by cases sp <;> rfl
@[simp] theorem free_updStream (s : State) (sp : SpanId) (f : Stream → Stream) : (s.updStream sp f).free = s.free := by cases sp <;> rfl
@[simp] theorem pending_updStream (s : State) (sp : SpanId) (f : Stream → Stream) : (s.updStream sp f).pending = s.pending := by cases sp <;> rfl
@[simp] theorem span_updCls (s : State) (sp : SpanId) (f : Cls → Cls) : (s.updCls sp f).span sp = { s.span sp with cls := f (s.span sp).cls } := by cases sp <;> rfl
@[simp] theorem span_updCls_other (s : State) (sp : SpanId) (f : Cls → Cls) : (s.updCls sp f).span sp.other = s.span sp.other := by cases sp <;> rfl
@[simp] theorem reg_updCls (s : State) (sp : SpanId) (f : Cls → Cls) (q : SpanId) (off : Nat) : (s.updCls sp f).reg q off = s.reg q off := by cases sp <;> cases q <;> rfl
@[simp] theorem fld_updCls (s : State) (sp : SpanId) (f : Cls → Cls) (q : SpanId) (r : FieldRef) : (s.updCls sp f).fld q r = s.fld q r := by simp [State.fld]
@[simp] theorem hub_updCls (s : State) (sp : SpanId) (f : Cls → Cls) : (s.updCls sp f).hub = s.hub := by cases sp <;> rfl
@[simp] theorem deck_updCls (s : State) (sp : SpanId) (f : Cls → Cls) : (s.updCls sp f).deck = s.deck := by cases sp <;> rfl
@[simp] theorem outputs_updCls (s : State) (sp : SpanId) (f : Cls → Cls) : (s.updCls sp f).outputs = s.outputs := by cases sp <;> rfl
@[simp] theorem elapsed_updCls (s : State) (sp : SpanId) (f : Cls → Cls) : (s.updCls sp f).elapsed = s.elapsed := by cases sp <;> rfl
@[simp] theorem free_updCls (s : State) (sp : SpanId) (f : Cls → Cls) : (s.updCls sp f).free = s.free := by cases sp <;> rfl
@[simp] theorem pending_updCls (s : State) (sp : SpanId) (f : Cls → Cls) : (s.updCls sp f).pending = s.pending := by cases sp <;> rfl
@[simp] theorem span_updErr (s : State) (sp : SpanId) (f : ErrHub → ErrHub) : (s.updErr sp f).span sp = { s.span sp with err := f (s.span sp).err } := by cases sp <;> rfl
@[simp] theorem span_updErr_other (s : State) (sp : SpanId) (f : ErrHub → ErrHub) : (s.updErr sp f).span sp.other = s.span sp.other := by cases sp <;> rfl
@[simp] theorem reg_updErr (s : State) (sp : SpanId) (f : ErrHub → ErrHub) (q : SpanId) (off : Nat) : (s.updErr sp f).reg q off = s.reg q off := by cases sp <;> cases q <;> rfl
@[simp] theorem fld_updErr (s : State) (sp : SpanId) (f : ErrHub → ErrHub) (q : SpanId) (r : FieldRef) : (s.updErr sp f).fld q r = s.fld q r := by simp [State.fld]
@[simp] theorem hub_updErr (s : State) (sp : SpanId) (f : ErrHub → ErrHub) : (s.updErr sp f).hub = s.hub := by cases sp <;> rfl
@[simp] theorem deck_updErr (s : State) (sp : SpanId) (f : ErrHub → ErrHub) : (s.updErr sp f).deck = s.deck := by cases sp <;> rfl
@[simp] theorem outputs_updErr (s : State) (sp : SpanId) (f : ErrHub → ErrHub) : (s.updErr sp f).outputs = s.outputs := by cases sp <;> rfl
@[simp] theorem elapsed_updErr (s : State) (sp : SpanId) (f : ErrHub → ErrHub) : (s.updErr sp f).elapsed = s.elapsed := by cases sp <;> rfl
@[simp] theorem free_updErr (s : State) (sp : SpanId) (f : ErrHub → ErrHub) : (s.updErr sp f).free = s.free := by cases sp <;> rfl
@[simp] theorem pending_updErr (s : State) (sp : SpanId) (f : ErrHub → ErrHub) : (s.updErr sp f).pending = s.pending := by cases sp <;> rfl
@[simp] theorem span_updHost (s : State) (sp : SpanId) (f : HostPort → HostPort) : (s.updHost sp f).span sp = { s.span sp with host := f (s.span sp).host } := by cases sp <;> rfl
@[simp] theorem span_updHost_other (s : State) (sp : SpanId) (f : HostPort → HostPort) : (s.updHost sp f).span sp.other = s.span sp.other := by cases sp <;> rfl
@[simp] theorem reg_updHost (s : State) (sp : SpanId) (f : HostPort → HostPort) (q : SpanId) (off : Nat) : (s.updHost sp f).reg q off = s.reg q off := by cases sp <;> cases q <;> rfl
@[simp] theorem fld_updHost (s : State) (sp : SpanId) (f : HostPort → HostPort) (q : SpanId) (r : FieldRef) : (s.updHost sp f).fld q r = s.fld q r := by simp [State.fld]
@[simp] theorem hub_updHost (s : State) (sp : SpanId) (f : HostPort → HostPort) : (s.updHost sp f).hub = s.hub := by cases sp <;> rfl
@[simp] theorem deck_updHost (s : State) (sp : SpanId) (f : HostPort → HostPort) : (s.updHost sp f).deck = s.deck := by cases sp <;> rfl
@[simp] theorem outputs_updHost (s : State) (sp : SpanId) (f : HostPort → HostPort) : (s.updHost sp f).outputs = s.outputs := by cases sp <;> rfl
@[simp] theorem elapsed_updHost (s : State) (sp : SpanId) (f : HostPort → HostPort) : (s.updHost sp f).elapsed = s.elapsed := by cases sp <;> rfl
@[simp] theorem free_updHost (s : State) (sp : SpanId) (f : HostPort → HostPort) : (s.updHost sp f).free = s.free := by cases sp <;> rfl
@[simp] theorem pending_updHost (s : State) (sp : SpanId) (f : HostPort → HostPort) : (s.updHost sp f).pending = s.pending := by cases sp <;> rfl
@[simp] theorem span_updNvs (s : State) (sp : SpanId) (f : Nvs → Nvs) : (s.updNvs sp f).span sp = { s.span sp with nvs := f (s.span sp).nvs } := by cases sp <;> rfl
@[simp] theorem span_updNvs_other (s : State) (sp : SpanId) (f : Nvs → Nvs) : (s.updNvs sp f).span sp.other = s.span sp.other := by cases sp <;> rfl
@[simp] theorem reg_updNvs (s : State) (sp : SpanId) (f : Nvs → Nvs) (q : SpanId) (off : Nat) : (s.updNvs sp f).reg q off = s.reg q off := by cases sp <;> cases q <;> rfl
@[simp] theorem fld_updNvs (s : State) (sp : SpanId) (f : Nvs → Nvs) (q : SpanId) (r : FieldRef) : (s.updNvs sp f).fld q r = s.fld q r := by simp [State.fld]
@[simp] theorem hub_updNvs (s : State) (sp : SpanId) (f : Nvs → Nvs) : (s.updNvs sp f).hub = s.hub := by cases sp <;> rfl
@[simp] theorem deck_updNvs (s : State) (sp : SpanId) (f : Nvs → Nvs) : (s.updNvs sp f).deck = s.deck := by cases sp <;> rfl
@[simp] theorem outputs_updNvs (s : State) (sp : SpanId) (f : Nvs → Nvs) : (s.updNvs sp f).outputs = s.outputs := by cases sp <;> rfl
@[simp] theorem elapsed_updNvs (s : State) (sp : SpanId) (f : Nvs → Nvs) : (s.updNvs sp f).elapsed = s.elapsed := by cases sp <;> rfl
@[simp] theorem free_updNvs (s : State) (sp : SpanId) (f : Nvs → Nvs) : (s.updNvs sp f).free = s.free := by cases sp <;> rfl
@[simp] theorem pending_updNvs (s : State) (sp : SpanId) (f : Nvs → Nvs) : (s.updNvs sp f).pending = s.pending := by cases sp <;> rfl
@[simp] theorem span_updEnt (s : State) (sp : SpanId) (f : Entropy → Entropy) : (s.updEnt sp f).span sp = { s.span sp with entropy := f (s.span sp).entropy } := by cases sp <;> rfl
@[simp] theorem span_updEnt_other (s : State) (sp : SpanId) (f : Entropy → Entropy) : (s.updEnt sp f).span sp.other = s.span sp.other := by cases sp <;> rfl
@[simp] theorem reg_updEnt (s : State) (sp : SpanId) (f : Entropy → Entropy) (q : SpanId) (off : Nat) : (s.updEnt sp f).reg q off = s.reg q off := by cases sp <;> cases q <;> rfl
@[simp] theorem fld_updEnt (s : State) (sp : SpanId) (f : Entropy → Entropy) (q : SpanId) (r : FieldRef) : (s.updEnt sp f).fld q r = s.fld q r := by simp [State.fld]
@[simp] theorem hub_updEnt (s : State) (sp : SpanId) (f : Entropy → Entropy) : (s.updEnt sp f).hub = s.hub := by cases sp <;> rfl
@[simp] theorem deck_updEnt (s : State) (sp : SpanId) (f : Entropy → Entropy) : (s.updEnt sp f).deck = s.deck := by cases sp <;> rfl
@[simp] theorem outputs_updEnt (s : State) (sp : SpanId) (f : Entropy → Entropy) : (s.updEnt sp f).outputs = s.outputs := by cases sp <;> rfl
@[simp] theorem elapsed_updEnt (s : State) (sp : SpanId) (f : Entropy → Entropy) : (s.updEnt sp f).elapsed = s.elapsed := by cases sp <;> rfl
@[simp] theorem free_updEnt (s : State) (sp : SpanId) (f : Entropy → Entropy) : (s.updEnt sp f).free = s.free := by cases sp <;> rfl
@[simp] theorem pending_updEnt (s : State) (sp : SpanId) (f : Entropy → Entropy) : (s.updEnt sp f).pending = s.pending := by cases sp <;> rfl
@[simp] theorem span_updFuses (s : State) (sp : SpanId) (f : Fuses → Fuses) : (s.updFuses sp f).span sp = { s.span sp with fuses := f (s.span sp).fuses } := by cases sp <;> rfl
@[simp] theorem span_updFuses_other (s : State) (sp : SpanId) (f : Fuses → Fuses) : (s.updFuses sp f).span sp.other = s.span sp.other := by cases sp <;> rfl
@[simp] theorem reg_updFuses (s : State) (sp : SpanId) (f : Fuses → Fuses) (q : SpanId) (off : Nat) : (s.updFuses sp f).reg q off = s.reg q off := by cases sp <;> cases q <;> rfl
@[simp] theorem fld_updFuses (s : State) (sp : SpanId) (f : Fuses → Fuses) (q : SpanId) (r : FieldRef) : (s.updFuses sp f).fld q r = s.fld q r := by simp [State.fld]
@[simp] theorem hub_updFuses (s : State) (sp : SpanId) (f : Fuses → Fuses) : (s.updFuses sp f).hub = s.hub := by cases sp <;> rfl
@[simp] theorem deck_updFuses (s : State) (sp : SpanId) (f : Fuses → Fuses) : (s.updFuses sp f).deck = s.deck := by cases sp <;> rfl
@[simp] theorem outputs_updFuses (s : State) (sp : SpanId) (f : Fuses → Fuses) : (s.updFuses sp f).outputs = s.outputs := by cases sp <;> rfl
@[simp] theorem elapsed_updFuses (s : State) (sp : SpanId) (f : Fuses → Fuses) : (s.updFuses sp f).elapsed = s.elapsed := by cases sp <;> rfl
@[simp] theorem free_updFuses (s : State) (sp : SpanId) (f : Fuses → Fuses) : (s.updFuses sp f).free = s.free := by cases sp <;> rfl
@[simp] theorem pending_updFuses (s : State) (sp : SpanId) (f : Fuses → Fuses) : (s.updFuses sp f).pending = s.pending := by cases sp <;> rfl

/-! ### The hub, ports and lanes -/

@[simp] theorem a_updTamper (s : State) (f : Tamper → Tamper) : (s.updTamper f).a = s.a := rfl
@[simp] theorem b_updTamper (s : State) (f : Tamper → Tamper) : (s.updTamper f).b = s.b := rfl
@[simp] theorem deck_updTamper (s : State) (f : Tamper → Tamper) : (s.updTamper f).deck = s.deck := rfl
@[simp] theorem outputs_updTamper (s : State) (f : Tamper → Tamper) : (s.updTamper f).outputs = s.outputs := rfl
@[simp] theorem elapsed_updTamper (s : State) (f : Tamper → Tamper) : (s.updTamper f).elapsed = s.elapsed := rfl
@[simp] theorem free_updTamper (s : State) (f : Tamper → Tamper) : (s.updTamper f).free = s.free := rfl
@[simp] theorem pending_updTamper (s : State) (f : Tamper → Tamper) : (s.updTamper f).pending = s.pending := rfl
@[simp] theorem tamper_updTamper (s : State) (f : Tamper → Tamper) : (s.updTamper f).hub.tamper = f s.hub.tamper := rfl
@[simp] theorem span_updTamper (s : State) (f : Tamper → Tamper) (q : SpanId) : (s.updTamper f).span q = s.span q := by cases q <;> rfl
@[simp] theorem hub_updPort (s : State) (sp : SpanId) (n : Nat) (f : StreamPort → StreamPort) : (s.updPort sp n f).hub = s.hub := by cases sp <;> rfl
@[simp] theorem hub_send (s : State) (q : SpanId) (m : DeckMsg) : (s.send q m).hub = s.hub := rfl
@[simp] theorem deck_updPort (s : State) (sp : SpanId) (n : Nat) (f : StreamPort → StreamPort) : (s.updPort sp n f).deck = s.deck := by cases sp <;> rfl
@[simp] theorem deck_send (s : State) (q : SpanId) (m : DeckMsg) : (s.send q m).deck = s.deck ++ [(q, m)] := rfl
@[simp] theorem outputs_updPort (s : State) (sp : SpanId) (n : Nat) (f : StreamPort → StreamPort) : (s.updPort sp n f).outputs = s.outputs := by cases sp <;> rfl
@[simp] theorem outputs_send (s : State) (q : SpanId) (m : DeckMsg) : (s.send q m).outputs = s.outputs := rfl
@[simp] theorem elapsed_updPort (s : State) (sp : SpanId) (n : Nat) (f : StreamPort → StreamPort) : (s.updPort sp n f).elapsed = s.elapsed := by cases sp <;> rfl
@[simp] theorem elapsed_send (s : State) (q : SpanId) (m : DeckMsg) : (s.send q m).elapsed = s.elapsed := rfl
@[simp] theorem free_updPort (s : State) (sp : SpanId) (n : Nat) (f : StreamPort → StreamPort) : (s.updPort sp n f).free = s.free := by cases sp <;> rfl
@[simp] theorem free_send (s : State) (q : SpanId) (m : DeckMsg) : (s.send q m).free = s.free := rfl
@[simp] theorem pending_updPort (s : State) (sp : SpanId) (n : Nat) (f : StreamPort → StreamPort) : (s.updPort sp n f).pending = s.pending := by cases sp <;> rfl
@[simp] theorem pending_send (s : State) (q : SpanId) (m : DeckMsg) : (s.send q m).pending = s.pending := rfl
@[simp] theorem span_send (s : State) (q : SpanId) (m : DeckMsg) (sp : SpanId) : (s.send q m).span sp = s.span sp := by cases sp <;> rfl
@[simp] theorem tb_updPort (s : State) (sp : SpanId) (n : Nat) (f : StreamPort → StreamPort) (q : SpanId) : ((s.updPort sp n f).span q).tb = (s.span q).tb := by
  cases sp <;> cases q <;> simp only [State.updPort] <;> first | rfl | (split <;> rfl)
@[simp] theorem rep_updPort (s : State) (sp : SpanId) (n : Nat) (f : StreamPort → StreamPort) (q : SpanId) : ((s.updPort sp n f).span q).rep = (s.span q).rep := by
  cases sp <;> cases q <;> simp only [State.updPort] <;> first | rfl | (split <;> rfl)
@[simp] theorem cont_updPort (s : State) (sp : SpanId) (n : Nat) (f : StreamPort → StreamPort) (q : SpanId) : ((s.updPort sp n f).span q).cont = (s.span q).cont := by
  cases sp <;> cases q <;> simp only [State.updPort] <;> first | rfl | (split <;> rfl)
@[simp] theorem err_updPort (s : State) (sp : SpanId) (n : Nat) (f : StreamPort → StreamPort) (q : SpanId) : ((s.updPort sp n f).span q).err = (s.span q).err := by
  cases sp <;> cases q <;> simp only [State.updPort] <;> first | rfl | (split <;> rfl)
@[simp] theorem host_updPort (s : State) (sp : SpanId) (n : Nat) (f : StreamPort → StreamPort) (q : SpanId) : ((s.updPort sp n f).span q).host = (s.span q).host := by
  cases sp <;> cases q <;> simp only [State.updPort] <;> first | rfl | (split <;> rfl)
@[simp] theorem nvs_updPort (s : State) (sp : SpanId) (n : Nat) (f : StreamPort → StreamPort) (q : SpanId) : ((s.updPort sp n f).span q).nvs = (s.span q).nvs := by
  cases sp <;> cases q <;> simp only [State.updPort] <;> first | rfl | (split <;> rfl)
@[simp] theorem fuses_updPort (s : State) (sp : SpanId) (n : Nat) (f : StreamPort → StreamPort) (q : SpanId) : ((s.updPort sp n f).span q).fuses = (s.span q).fuses := by
  cases sp <;> cases q <;> simp only [State.updPort] <;> first | rfl | (split <;> rfl)
@[simp] theorem vault_updPort (s : State) (sp : SpanId) (n : Nat) (f : StreamPort → StreamPort) (q : SpanId) : ((s.updPort sp n f).span q).vault = (s.span q).vault := by
  cases sp <;> cases q <;> simp only [State.updPort] <;> first | rfl | (split <;> rfl)
@[simp] theorem stream_updPort (s : State) (sp : SpanId) (n : Nat) (f : StreamPort → StreamPort) (q : SpanId) : ((s.updPort sp n f).span q).stream = (s.span q).stream := by
  cases sp <;> cases q <;> simp only [State.updPort] <;> first | rfl | (split <;> rfl)
@[simp] theorem boot_updPort (s : State) (sp : SpanId) (n : Nat) (f : StreamPort → StreamPort) (q : SpanId) : ((s.updPort sp n f).span q).boot = (s.span q).boot := by
  cases sp <;> cases q <;> simp only [State.updPort] <;> first | rfl | (split <;> rfl)
@[simp] theorem cls_updPort (s : State) (sp : SpanId) (n : Nat) (f : StreamPort → StreamPort) (q : SpanId) : ((s.updPort sp n f).span q).cls = (s.span q).cls := by
  cases sp <;> cases q <;> simp only [State.updPort] <;> first | rfl | (split <;> rfl)
@[simp] theorem lanes_updPort (s : State) (sp : SpanId) (n : Nat) (f : StreamPort → StreamPort) (q : SpanId) : ((s.updPort sp n f).span q).lanes = (s.span q).lanes := by
  cases sp <;> cases q <;> simp only [State.updPort] <;> first | rfl | (split <;> rfl)
@[simp] theorem entropy_updPort (s : State) (sp : SpanId) (n : Nat) (f : StreamPort → StreamPort) (q : SpanId) : ((s.updPort sp n f).span q).entropy = (s.span q).entropy := by
  cases sp <;> cases q <;> simp only [State.updPort] <;> first | rfl | (split <;> rfl)
@[simp] theorem worlds_updPort (s : State) (sp : SpanId) (n : Nat) (f : StreamPort → StreamPort) (q : SpanId) : ((s.updPort sp n f).span q).worlds = (s.span q).worlds := by
  cases sp <;> cases q <;> simp only [State.updPort] <;> first | rfl | (split <;> rfl)

/-! ### Control registers -/

/-- A write of a control register changes no field of a span but its registers. -/
theorem span_setReg (s : State) (sp : SpanId) (off : Nat) (v : Word32) (q : SpanId) :
    (s.setReg sp off v).span q = { s.span q with regs := ((s.setReg sp off v).span q).regs } := by
  unfold State.setReg; dsimp only; split <;> cases sp <;> cases q <;> rfl

@[simp] theorem tb_setReg (s : State) (sp : SpanId) (off : Nat) (v : Word32) (q : SpanId) : ((s.setReg sp off v).span q).tb = (s.span q).tb := by
  rw [span_setReg]
@[simp] theorem tb_setFld (s : State) (sp : SpanId) (r : FieldRef) (v : Nat) (q : SpanId) : ((s.setFld sp r v).span q).tb = (s.span q).tb := by
  simp [State.setFld]
@[simp] theorem tb_setBit (s : State) (sp : SpanId) (off bit : Nat) (v : Bool) (q : SpanId) : ((s.setBit sp off bit v).span q).tb = (s.span q).tb := by
  simp [State.setBit]
@[simp] theorem tb_set64 (s : State) (sp : SpanId) (lo hi v : Nat) (q : SpanId) : ((s.set64 sp lo hi v).span q).tb = (s.span q).tb := by
  simp [State.set64]
@[simp] theorem rep_setReg (s : State) (sp : SpanId) (off : Nat) (v : Word32) (q : SpanId) : ((s.setReg sp off v).span q).rep = (s.span q).rep := by
  rw [span_setReg]
@[simp] theorem rep_setFld (s : State) (sp : SpanId) (r : FieldRef) (v : Nat) (q : SpanId) : ((s.setFld sp r v).span q).rep = (s.span q).rep := by
  simp [State.setFld]
@[simp] theorem rep_setBit (s : State) (sp : SpanId) (off bit : Nat) (v : Bool) (q : SpanId) : ((s.setBit sp off bit v).span q).rep = (s.span q).rep := by
  simp [State.setBit]
@[simp] theorem rep_set64 (s : State) (sp : SpanId) (lo hi v : Nat) (q : SpanId) : ((s.set64 sp lo hi v).span q).rep = (s.span q).rep := by
  simp [State.set64]
@[simp] theorem cont_setReg (s : State) (sp : SpanId) (off : Nat) (v : Word32) (q : SpanId) : ((s.setReg sp off v).span q).cont = (s.span q).cont := by
  rw [span_setReg]
@[simp] theorem cont_setFld (s : State) (sp : SpanId) (r : FieldRef) (v : Nat) (q : SpanId) : ((s.setFld sp r v).span q).cont = (s.span q).cont := by
  simp [State.setFld]
@[simp] theorem cont_setBit (s : State) (sp : SpanId) (off bit : Nat) (v : Bool) (q : SpanId) : ((s.setBit sp off bit v).span q).cont = (s.span q).cont := by
  simp [State.setBit]
@[simp] theorem cont_set64 (s : State) (sp : SpanId) (lo hi v : Nat) (q : SpanId) : ((s.set64 sp lo hi v).span q).cont = (s.span q).cont := by
  simp [State.set64]
@[simp] theorem err_setReg (s : State) (sp : SpanId) (off : Nat) (v : Word32) (q : SpanId) : ((s.setReg sp off v).span q).err = (s.span q).err := by
  rw [span_setReg]
@[simp] theorem err_setFld (s : State) (sp : SpanId) (r : FieldRef) (v : Nat) (q : SpanId) : ((s.setFld sp r v).span q).err = (s.span q).err := by
  simp [State.setFld]
@[simp] theorem err_setBit (s : State) (sp : SpanId) (off bit : Nat) (v : Bool) (q : SpanId) : ((s.setBit sp off bit v).span q).err = (s.span q).err := by
  simp [State.setBit]
@[simp] theorem err_set64 (s : State) (sp : SpanId) (lo hi v : Nat) (q : SpanId) : ((s.set64 sp lo hi v).span q).err = (s.span q).err := by
  simp [State.set64]
@[simp] theorem host_setReg (s : State) (sp : SpanId) (off : Nat) (v : Word32) (q : SpanId) : ((s.setReg sp off v).span q).host = (s.span q).host := by
  rw [span_setReg]
@[simp] theorem host_setFld (s : State) (sp : SpanId) (r : FieldRef) (v : Nat) (q : SpanId) : ((s.setFld sp r v).span q).host = (s.span q).host := by
  simp [State.setFld]
@[simp] theorem host_setBit (s : State) (sp : SpanId) (off bit : Nat) (v : Bool) (q : SpanId) : ((s.setBit sp off bit v).span q).host = (s.span q).host := by
  simp [State.setBit]
@[simp] theorem host_set64 (s : State) (sp : SpanId) (lo hi v : Nat) (q : SpanId) : ((s.set64 sp lo hi v).span q).host = (s.span q).host := by
  simp [State.set64]
@[simp] theorem nvs_setReg (s : State) (sp : SpanId) (off : Nat) (v : Word32) (q : SpanId) : ((s.setReg sp off v).span q).nvs = (s.span q).nvs := by
  rw [span_setReg]
@[simp] theorem nvs_setFld (s : State) (sp : SpanId) (r : FieldRef) (v : Nat) (q : SpanId) : ((s.setFld sp r v).span q).nvs = (s.span q).nvs := by
  simp [State.setFld]
@[simp] theorem nvs_setBit (s : State) (sp : SpanId) (off bit : Nat) (v : Bool) (q : SpanId) : ((s.setBit sp off bit v).span q).nvs = (s.span q).nvs := by
  simp [State.setBit]
@[simp] theorem nvs_set64 (s : State) (sp : SpanId) (lo hi v : Nat) (q : SpanId) : ((s.set64 sp lo hi v).span q).nvs = (s.span q).nvs := by
  simp [State.set64]
@[simp] theorem fuses_setReg (s : State) (sp : SpanId) (off : Nat) (v : Word32) (q : SpanId) : ((s.setReg sp off v).span q).fuses = (s.span q).fuses := by
  rw [span_setReg]
@[simp] theorem fuses_setFld (s : State) (sp : SpanId) (r : FieldRef) (v : Nat) (q : SpanId) : ((s.setFld sp r v).span q).fuses = (s.span q).fuses := by
  simp [State.setFld]
@[simp] theorem fuses_setBit (s : State) (sp : SpanId) (off bit : Nat) (v : Bool) (q : SpanId) : ((s.setBit sp off bit v).span q).fuses = (s.span q).fuses := by
  simp [State.setBit]
@[simp] theorem fuses_set64 (s : State) (sp : SpanId) (lo hi v : Nat) (q : SpanId) : ((s.set64 sp lo hi v).span q).fuses = (s.span q).fuses := by
  simp [State.set64]
@[simp] theorem vault_setReg (s : State) (sp : SpanId) (off : Nat) (v : Word32) (q : SpanId) : ((s.setReg sp off v).span q).vault = (s.span q).vault := by
  rw [span_setReg]
@[simp] theorem vault_setFld (s : State) (sp : SpanId) (r : FieldRef) (v : Nat) (q : SpanId) : ((s.setFld sp r v).span q).vault = (s.span q).vault := by
  simp [State.setFld]
@[simp] theorem vault_setBit (s : State) (sp : SpanId) (off bit : Nat) (v : Bool) (q : SpanId) : ((s.setBit sp off bit v).span q).vault = (s.span q).vault := by
  simp [State.setBit]
@[simp] theorem vault_set64 (s : State) (sp : SpanId) (lo hi v : Nat) (q : SpanId) : ((s.set64 sp lo hi v).span q).vault = (s.span q).vault := by
  simp [State.set64]
@[simp] theorem stream_setReg (s : State) (sp : SpanId) (off : Nat) (v : Word32) (q : SpanId) : ((s.setReg sp off v).span q).stream = (s.span q).stream := by
  rw [span_setReg]
@[simp] theorem stream_setFld (s : State) (sp : SpanId) (r : FieldRef) (v : Nat) (q : SpanId) : ((s.setFld sp r v).span q).stream = (s.span q).stream := by
  simp [State.setFld]
@[simp] theorem stream_setBit (s : State) (sp : SpanId) (off bit : Nat) (v : Bool) (q : SpanId) : ((s.setBit sp off bit v).span q).stream = (s.span q).stream := by
  simp [State.setBit]
@[simp] theorem stream_set64 (s : State) (sp : SpanId) (lo hi v : Nat) (q : SpanId) : ((s.set64 sp lo hi v).span q).stream = (s.span q).stream := by
  simp [State.set64]
@[simp] theorem boot_setReg (s : State) (sp : SpanId) (off : Nat) (v : Word32) (q : SpanId) : ((s.setReg sp off v).span q).boot = (s.span q).boot := by
  rw [span_setReg]
@[simp] theorem boot_setFld (s : State) (sp : SpanId) (r : FieldRef) (v : Nat) (q : SpanId) : ((s.setFld sp r v).span q).boot = (s.span q).boot := by
  simp [State.setFld]
@[simp] theorem boot_setBit (s : State) (sp : SpanId) (off bit : Nat) (v : Bool) (q : SpanId) : ((s.setBit sp off bit v).span q).boot = (s.span q).boot := by
  simp [State.setBit]
@[simp] theorem boot_set64 (s : State) (sp : SpanId) (lo hi v : Nat) (q : SpanId) : ((s.set64 sp lo hi v).span q).boot = (s.span q).boot := by
  simp [State.set64]
@[simp] theorem cls_setReg (s : State) (sp : SpanId) (off : Nat) (v : Word32) (q : SpanId) : ((s.setReg sp off v).span q).cls = (s.span q).cls := by
  rw [span_setReg]
@[simp] theorem cls_setFld (s : State) (sp : SpanId) (r : FieldRef) (v : Nat) (q : SpanId) : ((s.setFld sp r v).span q).cls = (s.span q).cls := by
  simp [State.setFld]
@[simp] theorem cls_setBit (s : State) (sp : SpanId) (off bit : Nat) (v : Bool) (q : SpanId) : ((s.setBit sp off bit v).span q).cls = (s.span q).cls := by
  simp [State.setBit]
@[simp] theorem cls_set64 (s : State) (sp : SpanId) (lo hi v : Nat) (q : SpanId) : ((s.set64 sp lo hi v).span q).cls = (s.span q).cls := by
  simp [State.set64]
@[simp] theorem port0_setReg (s : State) (sp : SpanId) (off : Nat) (v : Word32) (q : SpanId) : ((s.setReg sp off v).span q).port0 = (s.span q).port0 := by
  rw [span_setReg]
@[simp] theorem port0_setFld (s : State) (sp : SpanId) (r : FieldRef) (v : Nat) (q : SpanId) : ((s.setFld sp r v).span q).port0 = (s.span q).port0 := by
  simp [State.setFld]
@[simp] theorem port0_setBit (s : State) (sp : SpanId) (off bit : Nat) (v : Bool) (q : SpanId) : ((s.setBit sp off bit v).span q).port0 = (s.span q).port0 := by
  simp [State.setBit]
@[simp] theorem port0_set64 (s : State) (sp : SpanId) (lo hi v : Nat) (q : SpanId) : ((s.set64 sp lo hi v).span q).port0 = (s.span q).port0 := by
  simp [State.set64]
@[simp] theorem port1_setReg (s : State) (sp : SpanId) (off : Nat) (v : Word32) (q : SpanId) : ((s.setReg sp off v).span q).port1 = (s.span q).port1 := by
  rw [span_setReg]
@[simp] theorem port1_setFld (s : State) (sp : SpanId) (r : FieldRef) (v : Nat) (q : SpanId) : ((s.setFld sp r v).span q).port1 = (s.span q).port1 := by
  simp [State.setFld]
@[simp] theorem port1_setBit (s : State) (sp : SpanId) (off bit : Nat) (v : Bool) (q : SpanId) : ((s.setBit sp off bit v).span q).port1 = (s.span q).port1 := by
  simp [State.setBit]
@[simp] theorem port1_set64 (s : State) (sp : SpanId) (lo hi v : Nat) (q : SpanId) : ((s.set64 sp lo hi v).span q).port1 = (s.span q).port1 := by
  simp [State.set64]
@[simp] theorem lanes_setReg (s : State) (sp : SpanId) (off : Nat) (v : Word32) (q : SpanId) : ((s.setReg sp off v).span q).lanes = (s.span q).lanes := by
  rw [span_setReg]
@[simp] theorem lanes_setFld (s : State) (sp : SpanId) (r : FieldRef) (v : Nat) (q : SpanId) : ((s.setFld sp r v).span q).lanes = (s.span q).lanes := by
  simp [State.setFld]
@[simp] theorem lanes_setBit (s : State) (sp : SpanId) (off bit : Nat) (v : Bool) (q : SpanId) : ((s.setBit sp off bit v).span q).lanes = (s.span q).lanes := by
  simp [State.setBit]
@[simp] theorem lanes_set64 (s : State) (sp : SpanId) (lo hi v : Nat) (q : SpanId) : ((s.set64 sp lo hi v).span q).lanes = (s.span q).lanes := by
  simp [State.set64]
@[simp] theorem entropy_setReg (s : State) (sp : SpanId) (off : Nat) (v : Word32) (q : SpanId) : ((s.setReg sp off v).span q).entropy = (s.span q).entropy := by
  rw [span_setReg]
@[simp] theorem entropy_setFld (s : State) (sp : SpanId) (r : FieldRef) (v : Nat) (q : SpanId) : ((s.setFld sp r v).span q).entropy = (s.span q).entropy := by
  simp [State.setFld]
@[simp] theorem entropy_setBit (s : State) (sp : SpanId) (off bit : Nat) (v : Bool) (q : SpanId) : ((s.setBit sp off bit v).span q).entropy = (s.span q).entropy := by
  simp [State.setBit]
@[simp] theorem entropy_set64 (s : State) (sp : SpanId) (lo hi v : Nat) (q : SpanId) : ((s.set64 sp lo hi v).span q).entropy = (s.span q).entropy := by
  simp [State.set64]
@[simp] theorem worlds_setReg (s : State) (sp : SpanId) (off : Nat) (v : Word32) (q : SpanId) : ((s.setReg sp off v).span q).worlds = (s.span q).worlds := by
  rw [span_setReg]
@[simp] theorem worlds_setFld (s : State) (sp : SpanId) (r : FieldRef) (v : Nat) (q : SpanId) : ((s.setFld sp r v).span q).worlds = (s.span q).worlds := by
  simp [State.setFld]
@[simp] theorem worlds_setBit (s : State) (sp : SpanId) (off bit : Nat) (v : Bool) (q : SpanId) : ((s.setBit sp off bit v).span q).worlds = (s.span q).worlds := by
  simp [State.setBit]
@[simp] theorem worlds_set64 (s : State) (sp : SpanId) (lo hi v : Nat) (q : SpanId) : ((s.set64 sp lo hi v).span q).worlds = (s.span q).worlds := by
  simp [State.set64]
@[simp] theorem deck_setBit (s : State) (sp : SpanId) (off bit : Nat) (v : Bool) : (s.setBit sp off bit v).deck = s.deck := by simp [State.setBit]
@[simp] theorem deck_set64 (s : State) (sp : SpanId) (lo hi v : Nat) : (s.set64 sp lo hi v).deck = s.deck := by simp [State.set64]
@[simp] theorem outputs_setBit (s : State) (sp : SpanId) (off bit : Nat) (v : Bool) : (s.setBit sp off bit v).outputs = s.outputs := by simp [State.setBit]
@[simp] theorem outputs_set64 (s : State) (sp : SpanId) (lo hi v : Nat) : (s.set64 sp lo hi v).outputs = s.outputs := by simp [State.set64]
@[simp] theorem elapsed_setBit (s : State) (sp : SpanId) (off bit : Nat) (v : Bool) : (s.setBit sp off bit v).elapsed = s.elapsed := by simp [State.setBit]
@[simp] theorem elapsed_set64 (s : State) (sp : SpanId) (lo hi v : Nat) : (s.set64 sp lo hi v).elapsed = s.elapsed := by simp [State.set64]
@[simp] theorem free_setBit (s : State) (sp : SpanId) (off bit : Nat) (v : Bool) : (s.setBit sp off bit v).free = s.free := by simp [State.setBit]
@[simp] theorem free_set64 (s : State) (sp : SpanId) (lo hi v : Nat) : (s.set64 sp lo hi v).free = s.free := by simp [State.set64]
@[simp] theorem pending_setBit (s : State) (sp : SpanId) (off bit : Nat) (v : Bool) : (s.setBit sp off bit v).pending = s.pending := by simp [State.setBit]
@[simp] theorem pending_set64 (s : State) (sp : SpanId) (lo hi v : Nat) : (s.set64 sp lo hi v).pending = s.pending := by simp [State.set64]
@[simp] theorem deck_setLane (s : State) (sp : SpanId) (k : Nat) (l : Lane) : (s.setLane sp k l).deck = s.deck := by simp [State.setLane]
@[simp] theorem outputs_setLane (s : State) (sp : SpanId) (k : Nat) (l : Lane) : (s.setLane sp k l).outputs = s.outputs := by simp [State.setLane]
@[simp] theorem elapsed_setLane (s : State) (sp : SpanId) (k : Nat) (l : Lane) : (s.setLane sp k l).elapsed = s.elapsed := by simp [State.setLane]
@[simp] theorem free_setLane (s : State) (sp : SpanId) (k : Nat) (l : Lane) : (s.setLane sp k l).free = s.free := by simp [State.setLane]
@[simp] theorem pending_setLane (s : State) (sp : SpanId) (k : Nat) (l : Lane) : (s.setLane sp k l).pending = s.pending := by simp [State.setLane]
@[simp] theorem tb_setLane (s : State) (sp : SpanId) (k : Nat) (l : Lane) (q : SpanId) : ((s.setLane sp k l).span q).tb = (s.span q).tb := by
  by_cases h : q = sp
  · subst h; simp [State.setLane]
  · simp [State.setLane, span_upd_ne s _ h]
@[simp] theorem rep_setLane (s : State) (sp : SpanId) (k : Nat) (l : Lane) (q : SpanId) : ((s.setLane sp k l).span q).rep = (s.span q).rep := by
  by_cases h : q = sp
  · subst h; simp [State.setLane]
  · simp [State.setLane, span_upd_ne s _ h]
@[simp] theorem cont_setLane (s : State) (sp : SpanId) (k : Nat) (l : Lane) (q : SpanId) : ((s.setLane sp k l).span q).cont = (s.span q).cont := by
  by_cases h : q = sp
  · subst h; simp [State.setLane]
  · simp [State.setLane, span_upd_ne s _ h]
@[simp] theorem err_setLane (s : State) (sp : SpanId) (k : Nat) (l : Lane) (q : SpanId) : ((s.setLane sp k l).span q).err = (s.span q).err := by
  by_cases h : q = sp
  · subst h; simp [State.setLane]
  · simp [State.setLane, span_upd_ne s _ h]
@[simp] theorem host_setLane (s : State) (sp : SpanId) (k : Nat) (l : Lane) (q : SpanId) : ((s.setLane sp k l).span q).host = (s.span q).host := by
  by_cases h : q = sp
  · subst h; simp [State.setLane]
  · simp [State.setLane, span_upd_ne s _ h]
@[simp] theorem nvs_setLane (s : State) (sp : SpanId) (k : Nat) (l : Lane) (q : SpanId) : ((s.setLane sp k l).span q).nvs = (s.span q).nvs := by
  by_cases h : q = sp
  · subst h; simp [State.setLane]
  · simp [State.setLane, span_upd_ne s _ h]
@[simp] theorem fuses_setLane (s : State) (sp : SpanId) (k : Nat) (l : Lane) (q : SpanId) : ((s.setLane sp k l).span q).fuses = (s.span q).fuses := by
  by_cases h : q = sp
  · subst h; simp [State.setLane]
  · simp [State.setLane, span_upd_ne s _ h]
@[simp] theorem vault_setLane (s : State) (sp : SpanId) (k : Nat) (l : Lane) (q : SpanId) : ((s.setLane sp k l).span q).vault = (s.span q).vault := by
  by_cases h : q = sp
  · subst h; simp [State.setLane]
  · simp [State.setLane, span_upd_ne s _ h]
@[simp] theorem stream_setLane (s : State) (sp : SpanId) (k : Nat) (l : Lane) (q : SpanId) : ((s.setLane sp k l).span q).stream = (s.span q).stream := by
  by_cases h : q = sp
  · subst h; simp [State.setLane]
  · simp [State.setLane, span_upd_ne s _ h]
@[simp] theorem boot_setLane (s : State) (sp : SpanId) (k : Nat) (l : Lane) (q : SpanId) : ((s.setLane sp k l).span q).boot = (s.span q).boot := by
  by_cases h : q = sp
  · subst h; simp [State.setLane]
  · simp [State.setLane, span_upd_ne s _ h]
@[simp] theorem cls_setLane (s : State) (sp : SpanId) (k : Nat) (l : Lane) (q : SpanId) : ((s.setLane sp k l).span q).cls = (s.span q).cls := by
  by_cases h : q = sp
  · subst h; simp [State.setLane]
  · simp [State.setLane, span_upd_ne s _ h]
@[simp] theorem port0_setLane (s : State) (sp : SpanId) (k : Nat) (l : Lane) (q : SpanId) : ((s.setLane sp k l).span q).port0 = (s.span q).port0 := by
  by_cases h : q = sp
  · subst h; simp [State.setLane]
  · simp [State.setLane, span_upd_ne s _ h]
@[simp] theorem port1_setLane (s : State) (sp : SpanId) (k : Nat) (l : Lane) (q : SpanId) : ((s.setLane sp k l).span q).port1 = (s.span q).port1 := by
  by_cases h : q = sp
  · subst h; simp [State.setLane]
  · simp [State.setLane, span_upd_ne s _ h]
@[simp] theorem entropy_setLane (s : State) (sp : SpanId) (k : Nat) (l : Lane) (q : SpanId) : ((s.setLane sp k l).span q).entropy = (s.span q).entropy := by
  by_cases h : q = sp
  · subst h; simp [State.setLane]
  · simp [State.setLane, span_upd_ne s _ h]
@[simp] theorem worlds_setLane (s : State) (sp : SpanId) (k : Nat) (l : Lane) (q : SpanId) : ((s.setLane sp k l).span q).worlds = (s.span q).worlds := by
  by_cases h : q = sp
  · subst h; simp [State.setLane]
  · simp [State.setLane, span_upd_ne s _ h]
@[simp] theorem lanes_setLane (s : State) (sp : SpanId) (k : Nat) (l : Lane) : ((s.setLane sp k l).span sp).lanes = (s.span sp).lanes.set k l := by simp [State.setLane]

/-- A control register that was written, by fields or by halves, keeps the canonical form. -/
theorem regsWf_setBit {s : State} (h : RegsWf s) (sp : SpanId) (off bit : Nat) (v : Bool) : RegsWf (s.setBit sp off bit v) := regsWf_setReg h sp _ _
theorem regsWf_set64 {s : State} (h : RegsWf s) (sp : SpanId) (lo hi v : Nat) : RegsWf (s.set64 sp lo hi v) :=
  regsWf_setReg (regsWf_setReg h sp _ _) sp _ _

end Sys2Proof.Laws
end

