-- ==== Sys2Proof/WellFormed.lean ====
section
/-!
DEFINITION. When a command is one that the block's doors can carry: every operand lies in the range of the field that holds it.
A meaning needs none of this; an operand out of range gets the status or the silence that its rule gives it.
-/

namespace Sys2Proof

open Machine

/-! ### Ranges of single operands -/

/-- An 8-bit field. -/
def u8 (v : Nat) : Bool := decide (v < 2 ^ 8)
/-- A 16-bit field. -/
def u16 (v : Nat) : Bool := decide (v < 2 ^ 16)
/-- A 32-bit field. -/
def u32 (v : Nat) : Bool := decide (v < 2 ^ 32)
/-- A 64-bit field. -/
def u64 (v : Nat) : Bool := decide (v < 2 ^ 64)
/-- The offset of a 32-bit register in the twenty blocks of a span's register window (R5, R461), or of a word of BAR2 or of configuration space that a
PCIe function reaches (R235, R237, log entry 43). -/
def registerOffset (v : Nat) : Bool :=
  v % 4 == 0 && (decide (v < 0x140000) || decide (0x10000000 ≤ v ∧ v < 0x10002000) || decide (0x20000000 ≤ v ∧ v < 0x20001000))
/-- A local stream port (Architecture). -/
def portNo (v : Nat) : Bool := decide (v < 2)
/-- A deck link (R259). -/
def linkNo (v : Nat) : Bool := decide (v < 2)
/-- A PTP transmit slot (R112). -/
def ptpSlot (v : Nat) : Bool := decide (v < 8)
/-- One of the eight big-number lanes of a span. -/
def laneNo (v : Nat) : Bool := decide (v < 8)
/-- A Pier core of a span (Architecture). -/
def coreNo (v : Nat) : Bool := decide (v < 6)
/-- A guest: station, owners, or 0 for the secure world. -/
def guestNo (v : Nat) : Bool := decide (v ≤ 33)
/-- An owner, or 0 for the site (R59). -/
def ownerNo (v : Nat) : Bool := decide (v ≤ 32)
/-- The PF or one of 32 VFs (R240). -/
def functionNo (v : Nat) : Bool := decide (v ≤ 32)
/-- A queue pair of a host port (R239). -/
def queueNo (v : Nat) : Bool := decide (v < 256)
/-- A stream context (R113). -/
def contextNo (v : Nat) : Bool := decide (v < 4096)
/-- One of the four noise sources of a span (R284). -/
def noiseNo (v : Nat) : Bool := decide (v < 4)
/-- A DRBG instance of a span (R289). -/
def drbgNo (v : Nat) : Bool := decide (v < 3)
/-- A temperature sensor or a clock measurement: Span A, Span B, hub (R300, R301). -/
def sensorNo (v : Nat) : Bool := decide (v < 3)
/-- A tamper source index (R301). -/
def tamperNo (v : Nat) : Bool := decide (v < 31)
/-- A unit that HC_UNIT names (R330). -/
def unitNo (v : Nat) : Bool := u8 v
/-- A fuse word (R375). -/
def fuseNo (v : Nat) : Bool := decide (v < 512)
/-- The PF's own queues, or a guest's (R324). -/
def optGuest (g : Option Nat) : Bool := g.all guestNo

/-- A caller's door and the fields that its descriptor carries (R54, R242, R324). -/
def Machine.Caller.wf (c : Caller) : Bool :=
  u32 c.session && u64 c.epoch &&
    match c.origin with
    | .host n q cid => functionNo n && queueNo q && u16 cid
    | .guest g q cid => guestNo g && queueNo q && u16 cid
    | .mgmt n x => u32 n && x.length == 32
    | .monitor | .device => true
    | .proposal pid => u64 pid

/-- The caller of a Pier instruction: a core of a span, or the supervisor core. -/
def Machine.CoreId.wf : CoreId → Bool
  | .span _ c => coreNo c
  | .supervisor => true

/-- A register master: a core, a PCIe function, or the hub link (R7). -/
def Machine.Master.wf : Master → Bool
  | .core c => coreNo c
  | .fn n => functionNo n
  | .hub => true

/-- A signer: an owner and an 8-bit index (R60). -/
def Machine.Signer.wf (x : Signer) : Bool := ownerNo x.owner && u8 x.index

/-- The head fields of a signature entry (R41). -/
def Machine.SigEntry.wf (e : SigEntry) : Bool := u8 e.alg && u8 e.role && u8 e.owner && u8 e.signer && u64 e.signTime

/-- A command is well formed: each operand fits its field. -/
def Instr.wf : Instr → Bool
  | .registerWrite _ m off _ => m.wf && registerOffset off
  | .rcRead _ m off => m.wf && registerOffset off
  | .loReadShadow _ m off => m.wf && registerOffset off
  | .loWriteHold _ m off _ => m.wf && registerOffset off
  | .hiWriteCommit _ m off _ => m.wf && registerOffset off
  | .sbStage c _ => c.wf
  | .sbSign c e => c.wf && e.wf
  | .sbApply c t => c.wf && u64 t
  | .sbWithdraw c epoch => c.wf && u64 epoch
  | .sbStatus c => c.wf
  | .imageValidated => true
  | .approvalWindowClose => true
  | .prepare _ => true
  | .ready _ => true
  | .decision _ => true
  | .decideDeadline _ => true
  | .decisionQuery _ => true
  | .epochTick _ => true
  | .osOpen c who => c.wf && who.wf
  | .osProve c _ _ => c.wf
  | .osClose c id => c.wf && u32 id
  | .sessionIdleTimeout id => u32 id
  | .sessionAgeLimit id => u32 id
  | .propSubmit c owner _ _ => c.wf && ownerNo owner
  | .propVote c pid _ _ => c.wf && u64 pid
  | .propWithdraw c pid => c.wf && u64 pid
  | .propStatus c pid => c.wf && u64 pid
  | .proposalExecute pid => u64 pid
  | .proposalLockTimeout pid => u64 pid
  | .proposalExpiry pid => u64 pid
  | .proposalBeginTimeout pid => u64 pid
  | .proposalRecordExpiry pid => u64 pid
  | .cerBegin c pid => c.wf && u64 pid
  | .cerRenew c lock => c.wf && ownerNo lock
  | .cerStep c lock idx _ => c.wf && ownerNo lock && u32 idx
  | .cerEnd c lock => c.wf && ownerNo lock
  | .ceremonyLeaseExpiry lock => ownerNo lock
  | .checkpointPair => true
  | .logExport c first => c.wf && u64 first
  | .logRead c first count => c.wf && u64 first && u32 count
  | .logAck c seq _ producer ackTime _ => c.wf && u64 seq && u8 producer && u64 ackTime
  | .logInfo c => c.wf
  | .frameReceived _ n _ _ => portNo n
  | .frameReturn _ n => portNo n
  | .pauseRepeat _ n => portNo n
  | .partnerPauseExpiry _ n => portNo n
  | .ptpTxDoorbell _ n slot => portNo n && ptpSlot slot
  | .ptpFrameInsert _ n => portNo n
  | .linkChange _ n _ _ => portNo n
  | .trainTimeout _ n => portNo n
  | .trainRestart _ n => portNo n
  | .retrain _ n => portNo n
  | .bufRsvWrite _ n _ => portNo n
  | .bufRsvRaiseApply _ n => portNo n
  | .clsEmRead _ => true
  | .clsEmWrite _ => true
  | .clsEmClear _ => true
  | .clsCommit _ => true
  | .portBankAdopt _ n => portNo n
  | .ctxConfig c _ => c.wf
  | .ctxKeyLoad c _ => c.wf
  | .ctxKeyClear c ctx _ => c.wf && u16 ctx
  | .ctxCommit c ctx => c.wf && u16 ctx
  | .ctxActivate c ctx => c.wf && u16 ctx
  | .ctxSuspend c ctx => c.wf && u16 ctx
  | .ctxResume c ctx => c.wf && u16 ctx
  | .ctxDrain c ctx => c.wf && u16 ctx
  | .ctxRead c ctx => c.wf && u16 ctx
  | .contextDrained n => contextNo n
  | .contextPromote n => contextNo n
  | .steCtxReadActive _ => true
  | .steCtxWriteShadow _ => true
  | .steCtxReadShadow _ => true
  | .steCtxCommit _ => true
  | .steCtxClearState _ => true
  | .steKsWriteShadow _ => true
  | .steKsClearShadow _ => true
  | .steKsReadHead _ => true
  | .tbStep _ _ => true
  | .tbSet _ _ => true
  | .tbSlew _ _ => true
  | .slewComplete _ => true
  | .tbQualify _ => true
  | .tbUnqualify _ => true
  | .tbRefLost _ => true
  | .tbPeerMeasure _ => true
  | .utcOffsetChange _ => true
  | .ppsInEdge _ => true
  | .ppsOutRise _ => true
  | .ppsOutFall _ => true
  | .keyGenerate c _ => c.wf
  | .keyImportSealed c _ => c.wf
  | .keyUnwrap c _ => c.wf
  | .keyDerive c _ => c.wf
  | .keySetUsage c handle usage flags => c.wf && u64 handle && u32 usage && u32 flags
  | .keySetState c handle st => c.wf && u64 handle && u32 st
  | .keyDestroy c handle => c.wf && u64 handle
  | .keyDestroyTimeout handle => u64 handle
  | .objectDestroyed handle => u64 handle
  | .ctrCreate c initial limit _ => c.wf && u64 initial && u64 limit
  | .ctrDestroy c handle => c.wf && u64 handle
  | .keySign c handle _ _ => c.wf && u64 handle
  | .keyVerify c handle type _ _ _ _ => c.wf && u64 handle && u32 type
  | .keyAgree c handle _ => c.wf && u64 handle
  | .keyEncap c handle type _ => c.wf && u64 handle && u32 type
  | .keyDecap c handle _ => c.wf && u64 handle
  | .keyPublic c handle => c.wf && u64 handle
  | .keyInfo c handle => c.wf && u64 handle
  | .keyList c first count => c.wf && u64 first && u32 count
  | .ctrRead c handle => c.wf && u64 handle
  | .ctrIncr c handle step => c.wf && u64 handle && u64 step
  | .keyExportSealed c wrapping handle => c.wf && u64 wrapping && u64 handle
  | .vaultJobDispatch _ => true
  | .bneCmdPush _ k w0 w1 w2 w3 => laneNo k && u32 w0 && u32 w1 && u32 w2 && u32 w3
  | .laneJobStart _ k => laneNo k
  | .job _ k => laneNo k
  | .validate _ k => laneNo k
  | .load _ k => laneNo k
  | .store _ k => laneNo k
  | .loadg _ k => laneNo k
  | .madd _ k => laneNo k
  | .msub _ k => laneNo k
  | .mmul _ k => laneNo k
  | .mmac _ k => laneNo k
  | .mred _ k => laneNo k
  | .mreda _ k => laneNo k
  | .minv _ k => laneNo k
  | .mexp _ k => laneNo k
  | .convIn _ k => laneNo k
  | .convOut _ k => laneNo k
  | .imul _ k => laneNo k
  | .iadd _ k => laneNo k
  | .esmul _ k => laneNo k
  | .dsmul _ k => laneNo k
  | .edmul _ k => laneNo k
  | .xmul _ k => laneNo k
  | .pntt _ k => laneNo k
  | .pintt _ k => laneNo k
  | .pmac _ k => laneNo k
  | .padd _ k => laneNo k
  | .psub _ k => laneNo k
  | .pround _ k => laneNo k
  | .pnorm _ k => laneNo k
  | .pcode _ k => laneNo k
  | .xof _ k => laneNo k
  | .sample _ k => laneNo k
  | .loopMark _ k => laneNo k
  | .loopBack _ k => laneNo k
  | .cmp _ k => laneNo k
  | .laneAbort _ k => decide (k < 2 ^ 32)
  | .laneWipeDone _ k => laneNo k
  | .laneCompletionPop _ k => laneNo k
  | .sqDoorbell _ fn queue v => functionNo fn && queueNo queue && u32 v
  | .cqDoorbell _ fn queue v => functionNo fn && queueNo queue && u32 v
  | .descriptorFetch _ g queue desc _ => optGuest g && queueNo queue && desc.length == 64
  | .commandStart _ g queue slot _ _ => optGuest g && queueNo queue && u16 slot
  | .deferredTimeout _ g queue slot => optGuest g && queueNo queue && u16 slot
  | .msixAggTimeout _ g queue => optGuest g && queueNo queue
  | .hostCancel _ fn queue cid => functionNo fn && queueNo queue && u16 cid
  | .hostQEnable _ fn => functionNo fn
  | .hostQDisable _ fn => functionNo fn
  | .hostFnQueuesWrite _ n _ => functionNo n
  | .functionLevelReset _ fn => functionNo fn
  | .vfEnableClear _ => true
  | .pcieReset _ => true
  | .busMasterRestore _ fn => functionNo fn
  | .hello _ => true
  | .forward _ => true
  | .recMsg _ => true
  | .ack _ => true
  | .commit _ => true
  | .commitAck _ => true
  | .result _ => true
  | .renew _ _ => true
  | .vote _ => true
  | .timeMsg _ => true
  | .digestMsg _ => true
  | .bucket _ => true
  | .handover _ => true
  | .leaseRenewTimer _ => true
  | .leaseExpiry _ => true
  | .takeover _ => true
  | .handoverStart _ => true
  | .soloRecordAck _ => true
  | .deckHeartbeat link => linkNo link
  | .deckLinkDown link retrans silence => linkNo link && u32 retrans && u32 silence
  | .deckRetrain link => linkNo link
  | .deckLinkUp link => linkNo link
  | .peerLost _ => true
  | .rejoinRetry _ => true
  | .sbKeystonePref c _ => c.wf
  | .sbKeystoneForce c _ term csn t _ => c.wf && u64 term && u64 csn && u64 t
  | .rawBlockComplete _ src _ => noiseNo src
  | .sourceStartupDone _ src => noiseNo src
  | .sourceTestFail _ src test => noiseNo src && u32 test
  | .drbgGenerate _ inst n _ => drbgNo inst && u32 n
  | .drbgReseed _ inst => drbgNo inst
  | .rngGet c n => c.wf && u32 n
  | .rushesCaptureDone _ _ => true
  | .tamperEvent n => tamperNo n
  | .filterBucketAdvance n => tamperNo n
  | .tempConversion k code => sensorNo k && u16 code
  | .untrimmedSensorTick n => tamperNo n
  | .clockMeasure k _ => sensorNo k
  | .tmpSelftest c source => c.wf && u16 source
  | .selftestEnd _ => true
  | .tmpAck c mask => c.wf && u32 mask
  | .vbakLoss => true
  | .takeSlotStart _ core => coreNo core
  | .hcInfo _ core => coreNo core
  | .hcYield _ core => coreNo core
  | .hcTimer _ core => coreNo core
  | .hcTimerFire _ g => guestNo g
  | .hcIrq _ core => coreNo core
  | .hcWdtKick _ core => coreNo core
  | .hcVcConfig _ core => coreNo core
  | .hcVcCancel _ core => coreNo core
  | .hcUnit _ core => coreNo core
  | .hcTime _ core => coreNo core
  | .unitGateGrant _ unit => unitNo unit
  | .unitRequestTimeout _ g core => guestNo g && coreNo core
  | .unitPowerRestored _ unit => unitNo unit
  | .kprVcDb _ core _ => coreNo core
  | .kprSwdtKick _ core => coreNo core
  | .swdtExpiry _ core => coreNo core
  | .guestWdtHalf _ g => guestNo g
  | .guestWdtExpiry _ g => guestNo g
  | .worldRestart c g => c.wf && guestNo g
  | .guestImageLoaded _ g _ => guestNo g
  | .gateFlip _ core => coreNo core
  | .gateWrWrite _ core => coreNo core
  | .gateWrClear _ core => coreNo core
  | .add p _ _ _ => p.wf
  | .sub p _ _ _ => p.wf
  | .andOp p _ _ _ => p.wf
  | .orOp p _ _ _ => p.wf
  | .xorOp p _ _ _ => p.wf
  | .andn p _ _ _ => p.wf
  | .shl p _ _ _ => p.wf
  | .shr p _ _ _ => p.wf
  | .sar p _ _ _ => p.wf
  | .cmpeq p _ _ _ => p.wf
  | .cmplt p _ _ _ => p.wf
  | .cmpltu p _ _ _ => p.wf
  | .minOp p _ _ _ => p.wf
  | .minu p _ _ _ => p.wf
  | .maxOp p _ _ _ => p.wf
  | .maxu p _ _ _ => p.wf
  | .mul p _ _ _ => p.wf
  | .mulhs p _ _ _ => p.wf
  | .mulhu p _ _ _ => p.wf
  | .quo p _ _ _ => p.wf
  | .quou p _ _ _ => p.wf
  | .modOp p _ _ _ => p.wf
  | .modu p _ _ _ => p.wf
  | .add32 p _ _ _ => p.wf
  | .sub32 p _ _ _ => p.wf
  | .addk p _ _ _ => p.wf
  | .andk p _ _ _ => p.wf
  | .ork p _ _ _ => p.wf
  | .xork p _ _ _ => p.wf
  | .cmpltk p _ _ _ => p.wf
  | .cmpltuk p _ _ _ => p.wf
  | .shlk p _ _ _ => p.wf
  | .shrk p _ _ _ => p.wf
  | .sark p _ _ _ => p.wf
  | .hik p _ _ => p.wf
  | .pck p _ _ => p.wf
  | .ld64 p _ _ _ => p.wf
  | .ld32s p _ _ _ => p.wf
  | .ld32u p _ _ _ => p.wf
  | .ld16s p _ _ _ => p.wf
  | .ld16u p _ _ _ => p.wf
  | .ld8s p _ _ _ => p.wf
  | .ld8u p _ _ _ => p.wf
  | .st64 p _ _ _ => p.wf
  | .st32 p _ _ _ => p.wf
  | .st16 p _ _ _ => p.wf
  | .st8 p _ _ _ => p.wf
  | .breq p _ _ _ => p.wf
  | .brne p _ _ _ => p.wf
  | .brlt p _ _ _ => p.wf
  | .brge p _ _ _ => p.wf
  | .brltu p _ _ _ => p.wf
  | .brgeu p _ _ _ => p.wf
  | .jmp p _ => p.wf
  | .call p _ => p.wf
  | .callr p _ => p.wf
  | .ret p _ => p.wf
  | .jmpr p _ => p.wf
  | .bfx p _ _ _ _ => p.wf
  | .bfxs p _ _ _ _ => p.wf
  | .bfi p _ _ _ _ => p.wf
  | .clz p _ _ => p.wf
  | .clzw p _ _ => p.wf
  | .bprm p _ _ _ => p.wf
  | .wfe p => p.wf
  | .wfeWake p => p.wf
  | .sev p => p.wf
  | .waitc p _ _ _ => p.wf
  | .waitcWake p => p.wf
  | .scall p _ => p.wf
  | .hcall p => p.wf
  | .tret p => p.wf
  | .mfsr p _ _ => p.wf
  | .mtsr p _ _ => p.wf
  | .mfw p _ _ => p.wf
  | .mtw p _ _ => p.wf
  | .fence p => p.wf
  | .interruptTaken p _ => p.wf
  | .htcmpTimer p => p.wf
  | .pierCoreRestart _ m core => m.wf && coreNo core
  | .norProgramDone _ _ => true
  | .norEraseDone _ bad => u32 bad
  | .flushLate _ => true
  | .supersededReclaim _ _ sector => u32 sector
  | .fuseRead _ => true
  | .fuseScan _ _ => true
  | .fuseScanPeriodic _ _ => true
  | .lcChallenge c => c.wf
  | .lcTransition c _ => c.wf
  | .dbgPresent c _ => c.wf
  | .sysrefLost _ => true
  | .sysrefRestored _ => true
  | .pcieRefclkLost _ => true
  | .serdesLockFail _ n => portNo n
  | .queuePop _ => true
  | .reportIntake _ => true
  | .quotaWindowRoll _ => true
  | .hubReportArrival _ => true
  | .reportDrain _ => true
  | .errRead c _ e count => c.wf && u32 e && u32 count
  | .errAck c mask => c.wf && u32 mask
  | .poeClassification straps granted => u8 straps && u8 granted
  | .holdCharged => true
  | .uvlo => true
  | .inputSourceChange source => u8 source
  | .pfwAssert => true
  | .pfwRelease => true
  | .pwrTelemetry _ => true
  | .supervisorStart _ => true
  | .spanBoot _ half _ => u32 half
  | .joinTimeout _ => true
  | .moduleReset => true
  | .spanReset _ => true
  | .blockReset _ mask => u32 mask
  | .sbSpanReset c _ => c.wf
  | .sbFwStage c _ => c.wf
  | .fwBankVerified _ _ => true
  | .sbFwUpdate c _ => c.wf
  | .fwUpdateStepAdvance => true
  | .fwUpdateTimeout => true
  | .monHello => true
  | .monBye => true
  | .monBaud rate => u32 rate
  | .monBaudApply => true
  | .monBreak _ => true
  | .monSessionExpiry => true
  | .monInfo => true
  | .monSrc _ source => u16 source
  | .monMem _ g ipa len => guestNo g && u64 ipa && u32 len
  | .monHalt _ core => coreNo core
  | .monHaltEffect _ core => coreNo core
  | .monStep _ core n => coreNo core && u32 n
  | .monGo _ core => coreNo core
  | .monRegs _ core => coreNo core
  | .monTrace _ core first count => coreNo core && u64 first && u32 count
  | .monFuse _ word => fuseNo word
  | .monFprog _ word v => fuseNo word && u32 v
  | .monRushesOn _ source => noiseNo source
  | .monRushesOff _ => true
  | .monRushesRead _ off len => u32 off && u32 len
  | .hubLinkDown _ => true
  | .hubLinkUp _ => true
  | .aonLoss => true
  | .tlsConnectionReset conn => u32 conn
  | .fuseProgramDone _ norm low high => u32 norm && u32 low && u32 high
  | .takeSlotEnd _ core => coreNo core
  | .inputSample cases sns _ => u32 cases && u32 sns

end Sys2Proof
end

