-- ==== Sys2Proof/Tests/Slice0.lean ====
section
/-!
SUPPORT. The model's own tests: a well-formed and an ill-formed command for each check of `Instr.wf`, values that the spec's examples and tables give, and
for each statement with hypotheses a state that meets them.
-/

namespace Sys2Proof.Tests

open Machine

set_option Elab.async false

/-! ### Small states -/

/-- Span A holds the lease and Span B follows. -/
def keyCont : Cont := { Cont.reset with mode := .keystone, term := 1, leaseEnd := 1000000000000, deckUp0 := true, hubLink := true }

/-- The follower's side of it. -/
def folCont : Cont := { Cont.reset with mode := .follower, term := 1, deckUp0 := true, hubLink := true }

/-- A span that has booted, at epoch 1. -/
def upSpan (c : Cont) : SpanState :=
  { SpanState.reset with cont := c, boot := { BootState.reset with stage := 10 }, rep := { Replica.reset with epoch := 1 } }

/-- Both spans run and are joined, with the power good, the supervisor running, and a monitor session. -/
def upState : State :=
  let h := HubState.reset
  { State.reset with
    a := upSpan keyCont
    b := upSpan folCont
    hub := { h with
      power := { h.power with pfw := false, tier := 1, aux := true }
      sup := ⟨true, false, [], true, true⟩
      monitor := { h.monitor with session := some ⟨7, zeroBytes 32, 0, none, 0, 0, 0⟩ } } }

/-- `upState` after a change of Span A. -/
def upA (f : SpanState → SpanState) : State := upState.upd .a f

/-- The management service with session 5 on Span A. -/
def mgmt : Caller := ⟨.a, .mgmt 1 (zeroBytes 32), 5, 1⟩

/-- An open session of a producer on the management service. -/
def session5 : Session :=
  { id := 5, origin := .mgmt 1 (zeroBytes 32), span := .a, signer := ⟨.producer, 0, 0⟩, keyDigest := [], binding := [], openedAt := 0, lastAt := 0, exportFrom := some 0 }

/-- `upState` with that session. -/
def withSession : State := upA fun x => { x with rep := { x.rep with sessions := [session5] } }

/-- `State.reset` with the slots of the register window open to the secure world on Span A. -/
def gated : State :=
  (List.range 29).foldl (fun s n => (s.setReg .a (Reg.gateSlotsRdLo n) 1).setReg .a (Reg.gateSlotsWrLo n) 1) State.reset

/-- An access of a core that passes its checks. -/
theorem reaches_core (s : State) (sp : SpanId) (c : Nat) (k : AccessKind) (off w : Nat) (hc : c < 6) (ho : off < 0x10000000)
    (hw : s.worldOn (.span sp c) = w)
    (hr : (match s.reachMem (.span sp c) k (windowBase + off) 4 with | .ok pa => pa == windowBase + off | .error _ => false) = true) :
    s.reaches sp (.core c) k off w := by
  intro f
  have h6 : ¬ 6 ≤ c := by omega
  simp only [State.access, h6, if_false]
  split at hr
  · rename_i pa h
    have : pa = windowBase + off := by simpa using hr
    subst this
    simp [h, ho, hw]
  · cases hr

/-- An access of a function that passes its checks. -/
theorem reaches_fn (s : State) (sp : SpanId) (k : AccessKind) (off : Nat) (h4 : off / 0x10000 = 4) (ha : off % 4 = 0)
    (hf : (s.span sp).host.answers 0 = true) : s.reaches sp (.fn 0) k off 0x3F := by
  intro f
  simp [State.access, h4, ha, hf]

/-! ### Well-formedness -/

/-- Each check of `Instr.wf` refuses a term just outside its range. -/
theorem test_wf_refuses :
    [Instr.poeClassification 256 0, .msixAggTimeout .a none 256, .keyPublic { mgmt with epoch := 2 ^ 64 } 0, .keyPublic mgmt (2 ^ 64), .monBaud (2 ^ 32),
      .ctxRead mgmt (2 ^ 16), .keyPublic { mgmt with session := 2 ^ 32 } 0, .keyPublic ⟨.a, .host 33 0 0, 0, 0⟩ 0, .keyPublic ⟨.a, .host 0 256 0, 0, 0⟩ 0,
      .keyPublic ⟨.a, .host 0 0 (2 ^ 16), 0, 0⟩ 0, .keyPublic ⟨.a, .guest 34 0 0, 0, 0⟩ 0, .keyPublic ⟨.a, .mgmt (2 ^ 32) (zeroBytes 32), 0, 0⟩ 0,
      .keyPublic ⟨.a, .mgmt 1 [], 0, 0⟩ 0, .keyPublic ⟨.a, .proposal (2 ^ 64), 0, 0⟩ 0, .rcRead .a .hub 0x140000, .rcRead .a .hub 2, .rcRead .a (.core 6) 0,
      .rcRead .a (.fn 33) 0, .frameReturn .a 2, .deckRetrain 2, .ptpTxDoorbell .a 0 8, .validate .a 8, .swdtExpiry .a 6, .hcTimerFire .a 34, .cerRenew mgmt 33,
      .hostQEnable .a 33, .contextDrained 4096, .monRushesOn .a 4, .drbgReseed .a 3, .clockMeasure 3 [], .tamperEvent 31, .unitGateGrant .a 256, .monFuse .a 512,
      .fence (.span .a 6), .osOpen mgmt ⟨.officer, 33, 0⟩, .osOpen mgmt ⟨.officer, 0, 256⟩, .sbSign mgmt ⟨256, 1, 0, 0, 0, []⟩,
      .descriptorFetch .a (some 34) 0 (zeroBytes 64) none, .descriptorFetch .a none 0 (zeroBytes 63) none].all (fun i => !i.wf) = true := by decide +kernel

/-- The last terms inside those ranges are well formed. -/
theorem test_wf_accepts :
    [Instr.poeClassification 255 255, .msixAggTimeout .a none 255, .keyPublic { mgmt with epoch := 2 ^ 64 - 1, session := 2 ^ 32 - 1 } (2 ^ 64 - 1),
      .monBaud (2 ^ 32 - 1), .ctxRead mgmt (2 ^ 16 - 1), .keyPublic ⟨.a, .host 32 255 65535, 0, 0⟩ 0, .keyPublic ⟨.a, .guest 33 255 65535, 0, 0⟩ 0,
      .rcRead .a .hub 0x13FFFC, .rcRead .a (.core 5) 0, .rcRead .a (.fn 32) 0, .frameReturn .a 1, .deckRetrain 1, .ptpTxDoorbell .a 1 7, .validate .a 7,
      .swdtExpiry .a 5, .hcTimerFire .a 33, .cerRenew mgmt 32, .hostQEnable .a 32, .contextDrained 4095, .monRushesOn .a 3, .drbgReseed .a 2, .clockMeasure 2 [],
      .tamperEvent 30, .unitGateGrant .a 255, .monFuse .a 511, .fence .supervisor, .osOpen mgmt ⟨.officer, 32, 255⟩,
      .descriptorFetch .a (some 33) 0 (zeroBytes 64) none].all Instr.wf = true := by decide +kernel

/-! ### Witnesses: the machine, registers, time -/

theorem witness_StepRunsFrontCommand :
    ({ State.reset with pending := [.flushLate .a] }).pending = Instr.flushLate .a :: [] ∧ State.reset.pending = [] := ⟨rfl, rfl⟩

theorem witness_EveryStepKeepsCanonicalForm : State.reset.canonical = true ∧ ∃ t, step State.reset = .next t := ⟨by decide +kernel, _, rfl⟩

/-- A register with fields, an offset without a register, and a register that a read shows. -/
theorem witness_RegistersFollowTheirAccessCodes :
    (gated.reaches .a (.core 0) .write Reg.pwrIen 0 ∧ gated.tmpGone .a Reg.pwrIen = false ∧ plainRegister Reg.pwrIen = true ∧ fieldsAt Reg.pwrIen ≠ []) ∧
    (gated.reaches .a (.core 0) .write 0xEFFFC 0 ∧ gated.tmpGone .a 0xEFFFC = false ∧ plainRegister 0xEFFFC = true ∧ fieldsAt 0xEFFFC = []) ∧
    (gated.reaches .a (.core 0) .read Reg.pwrEvt 0 ∧ gated.regsCanonical = true ∧ gated.tmpGone .a Reg.pwrEvt = false ∧ storedRegister Reg.pwrEvt = true ∧
      gated.shadowOf .a (.core 0) Reg.pwrEvt = none ∧ (Master.core 0).fnNo = 0 ∧ fieldsAt Reg.pwrEvt ≠ []) :=
  ⟨⟨reaches_core _ _ _ _ _ _ (by decide) (by decide) (by decide +kernel) (by decide +kernel), by decide +kernel⟩,
    ⟨reaches_core _ _ _ _ _ _ (by decide) (by decide) (by decide +kernel) (by decide +kernel), by decide +kernel⟩,
    ⟨reaches_core _ _ _ _ _ _ (by decide) (by decide) (by decide +kernel) (by decide +kernel), by decide +kernel⟩⟩

/-- `gated` with a shadow of the time pair. -/
def shadowed : State := gated.upd .a fun x => { x with shadows := [(.core 0, Reg.tbTimeSecHi, 9)] }

/-- `gated` with a held half. -/
def held (off : Nat) : State := gated.upd .a fun x => { x with holds := [(.core 0, off, 9)] }

/-- The pair of the time, as core 0 reads its halves. -/
theorem witness_PairsAreReadWhole :
    (gated.reaches .a (.core 0) .read Reg.tbTimeSecLo 0 ∧ gated.tmpGone .a Reg.tbTimeSecLo = false ∧ isLo Reg.tbTimeSecLo = true ∧
      fieldsAt Reg.tbTimeSecLo ≠ [] ∧ gated.shadowOf .a (.core 0) Reg.tbTimeSecLo = none) ∧
    (shadowed.reaches .a (.core 0) .read (Reg.tbTimeSecLo + 4) 0 ∧ shadowed.tmpGone .a (Reg.tbTimeSecLo + 4) = false ∧
      fieldsAt (Reg.tbTimeSecLo + 4) ≠ [] ∧ shadowed.shadowOf .a (.core 0) (Reg.tbTimeSecLo + 4) = some 9) :=
  ⟨⟨reaches_core _ _ _ _ _ _ (by decide) (by decide) (by decide +kernel) (by decide +kernel), by decide +kernel⟩,
    ⟨reaches_core _ _ _ _ _ _ (by decide) (by decide) (by decide +kernel) (by decide +kernel), by decide +kernel⟩⟩

/-- Core 0 may write the halves of a pair, whose lower half it has written. -/
def pairHeld (off : Nat) : Prop :=
  (held off).reaches .a (.core 0) .write off 0 ∧ (held off).reaches .a (.core 0) .write (off + 4) 0 ∧ isLo off = true ∧ writable off = true ∧
    (held off).tmpGone .a off = false ∧ (held off).tmpGone .a (off + 4) = false ∧
    (((held off).span .a).holds.find? fun z => z.1 == .core 0 && z.2.1 == off) = some (.core 0, off, 9)

theorem witness_PairsAreWrittenWhole_cls : pairHeld (Reg.clsPortnPtpRxqLo 0) ∧ Reg.clsPortnPtpRxqLo 0 / 0x10000 = 1 :=
  ⟨⟨reaches_core _ _ _ _ _ _ (by decide) (by decide) (by decide +kernel) (by decide +kernel),
    reaches_core _ _ _ _ _ _ (by decide) (by decide) (by decide +kernel) (by decide +kernel), by decide +kernel⟩, by decide⟩

theorem witness_PairsAreWrittenWhole_pier : pairHeld (Reg.pierCorecRstvecLo 5) ∧ Reg.pierCorecRstvecLo 5 / 0x10000 = 17 :=
  ⟨⟨reaches_core _ _ _ _ _ _ (by decide) (by decide) (by decide +kernel) (by decide +kernel),
    reaches_core _ _ _ _ _ _ (by decide) (by decide) (by decide +kernel) (by decide +kernel), by decide +kernel⟩, by decide⟩

/-! ### Witnesses: the time base -/

/-- Span B is behind the time master, Span A, in a mode; its last measurement was a millisecond ago. -/
def behind (n : Nat) (m : Mode) : State :=
  let s := (upA fun x => { x with tb := { x.tb with ns := n } }).setFld .a Fld.tbStatusTimeMaster 1
  { (s.upd .b fun x => { x with cont := { x.cont with mode := m }, tb := { x.tb with measuredAt := some 0 } }) with elapsed := 1000000 }

/-- A span that may set its time, in a step, a slew at its end, and an alignment of a follower at 40 ns, at 1 ms and beyond. -/
theorem witness_TimeIsSetSteppedSlewedAndFollowed :
    (State.reset.servoIgnored .a = false ∧ (State.reset.span .a).tb.step = none ∧ (State.reset.span .a).tb.set = none ∧ State.reset.regsCanonical = true) ∧
    (max (5 : Word32).toNat (State.reset.reg .a Reg.tbSlewNs).toInt.natAbs ≠ 0) ∧
    (∃ s : State, s.servoIgnored .a = false ∧ (s.span .a).tb.slew = some ⟨4, 5, 5, 0⟩) ∧
    (∀ d ∈ [0, 40, 1000000, 1000001], ∀ m ∈ [Mode.follower, .rejoining], ∃ s : State, s.regsCanonical = true ∧ (s.span .b).cont.mode = m ∧
      s.fld SpanId.b.other Fld.tbStatusTimeMaster = 1 ∧ (s.span .b).tb.measuredAt = some 0 ∧ 0 + ms ≤ s.elapsed ∧ (s.now .a : Int) - (s.now .b : Int) = d) ∧
    (∃ s : State, s.regsCanonical = true ∧ (s.span .a).cont.deckUp = true ∧
      s.deck.find? (fun x => x.1 == SpanId.a && (match x.2 with | .time _ => true | _ => false)) = some (.a, .time 3)) := by
  refine ⟨by decide +kernel, by decide +kernel, ⟨State.reset.upd .a fun x => { x with tb := { x.tb with slew := some ⟨4, 5, 5, 0⟩ } }, by decide +kernel⟩, ?_,
    ⟨{ upState with deck := [(.a, .time 3)] }, by decide +kernel⟩⟩
  intro d hd m hm
  simp only [List.mem_cons, List.not_mem_nil, or_false] at hd hm
  rcases hd with rfl | rfl | rfl | rfl <;> rcases hm with rfl | rfl
  · exact ⟨behind 0 .follower, by decide +kernel⟩
  · exact ⟨behind 0 .rejoining, by decide +kernel⟩
  · exact ⟨behind 40 .follower, by decide +kernel⟩
  · exact ⟨behind 40 .rejoining, by decide +kernel⟩
  · exact ⟨behind 1000000 .follower, by decide +kernel⟩
  · exact ⟨behind 1000000 .rejoining, by decide +kernel⟩
  · exact ⟨behind 1000001 .follower, by decide +kernel⟩
  · exact ⟨behind 1000001 .rejoining, by decide +kernel⟩

/-- The events of the time base: QUALIFIED set and clear, a locked reference, 1PPS in and out, and the second at which UTC changes. -/
theorem witness_TimeBaseEventsFollowTheirRules :
    (State.reset.regsCanonical = true ∧ State.reset.servoIgnored .a = false ∧ (State.reset.span .a).boot.stage ≠ 9 ∧ State.reset.hub.tamper.gapOpen = false ∧
      State.reset.hub.tamper.gap = []) ∧
    (let s := State.reset.setFld .a Fld.tbStatusQualified 1
     s.regsCanonical = true ∧ s.servoIgnored .a = false ∧ s.fld .a Fld.tbStatusQualified = 1) ∧
    (let s := (State.reset.setFld .a Fld.tbCtrlRefSel 1).setFld .a Fld.tbStatusRefLock 1
     s.regsCanonical = true ∧ s.fld .a Fld.tbCtrlRefSel ≠ 0 ∧ s.fld .a Fld.tbStatusRefLock ≠ 0) ∧
    (let s := State.reset.setFld .a Fld.tbCtrlPpsInEn 1
     s.regsCanonical = true ∧ s.fld .a Fld.tbCtrlPpsInEn = 1) ∧
    (let s := State.reset.setFld .a Fld.tbCtrlPpsOutEn 1
     s.regsCanonical = true ∧ s.fld .a Fld.tbCtrlPpsOutEn = 1 ∧ (s.span .a).tb.ppsFall = none ∧ s.ppsDue .a = true) ∧
    (let s := State.reset.upd .a (fun x => { x with tb := { x.tb with ppsFall := some 0 } })
     (s.span .a).tb.ppsFall = some 0 ∧ 0 ≤ s.elapsed) ∧
    (let s := (State.reset.upd .a fun x => { x with tb := { x.tb with sec := 1 } }).setFld .a Fld.tbUtcAtSecLoSec 1
     s.regsCanonical = true ∧ s.fld .a Fld.tbUtcAtSecLoSec ≠ 0 ∧ (s.span .a).tb.sec % 2 ^ 32 = s.fld .a Fld.tbUtcAtSecLoSec) := by
  decide +kernel

/-! ### Witnesses: commands and the change record -/

theorem ex_ok {α ε : Type} {d : Except ε α} (h : d.isOk = true) : ∃ p, d = .ok p := by
  cases d with
  | ok p => exact ⟨p, rfl⟩
  | error e => cases h

theorem ex_some {α : Type} {d : Option α} (h : d.isSome = true) : ∃ p, d = some p := by
  cases d with
  | some p => exact ⟨p, rfl⟩
  | none => cases h

theorem witness_DecidedCommandsFormOneRecord : ∃ (i : Instr) (c : Caller) (op : Nat) (kc : KCmd) (s s1 : State) (rnd : List Byte) (p : Prepared),
    lateCommand i = some (c, op, kc) ∧ s.admitted c op kc.inputs kc.resources ∧ (s.span c.span).cont.mode = .keystone ∧
      (s.touch c).asked c.span c kc = some (rnd, s1) ∧ (s1.span c.span).rep.laneType kc = none ∧ s1.ordering c.span p.slates.length = true ∧
      s1.currentFor c.span kc ∧ (s1.ordered c.span).decideCmd c.span c kc rnd = .ok p := by
  let kc : KCmd := .sessionClose 5 1
  obtain ⟨⟨rnd, s1⟩, h1⟩ := ex_some (d := (withSession.touch mgmt).asked .a mgmt kc) (by decide +kernel)
  obtain ⟨p, hp⟩ := ex_ok (d := (((withSession.touch mgmt).waitOver .a (.cmd mgmt)).ordered .a).decideCmd .a mgmt kc []) (by decide +kernel)
  have h0 : (withSession.touch mgmt).asked .a mgmt kc = some ([], (withSession.touch mgmt).waitOver .a (.cmd mgmt)) := rfl
  refine ⟨.osClose mgmt 5, mgmt, 0x0603, kc, withSession, (withSession.touch mgmt).waitOver .a (.cmd mgmt), [], p, rfl, ?_, by decide +kernel, h0,
    by decide +kernel, ?_, ?_, hp⟩
  · unfold State.admitted; decide +kernel
  · have : (match (((withSession.touch mgmt).waitOver .a (.cmd mgmt)).ordered .a).decideCmd .a mgmt kc [] with
      | .ok p => ((withSession.touch mgmt).waitOver .a (.cmd mgmt)).ordering .a p.slates.length | .error _ => false) = true := by decide +kernel
    rw [hp] at this
    exact this
  · unfold State.currentFor; decide +kernel

/-- A sealed key of the P-256 type, by its head. -/
def ecBlob : List Byte := [0, 0, 0, 0, 0, 0, 0, 0, 0, 0, 0x10]

/-- The owner of the producers has its KEK. -/
def withOrk (s : State) : State := s.updRep .a fun r => { r with orks := [(0, [])] }

/-- A step that makes an asymmetric key asks for a lane. -/
theorem witness_DecidedCommands_lane : ∃ (i : Instr) (c : Caller) (op : Nat) (kc : KCmd) (s s1 : State) (rnd : List Byte) (y : Nat),
    lateCommand i = some (c, op, kc) ∧ s.admitted c op kc.inputs kc.resources ∧ (s.span c.span).cont.mode = .keystone ∧
      (s.touch c).asked c.span c kc = some (rnd, s1) ∧ (s1.span c.span).rep.laneType kc = some y := by
  let kc : KCmd := .cerStep 0 1 (.keyImportSealed ⟨7, ecBlob, 1⟩)
  have h : (withOrk withSession).admitted mgmt 0x0623 kc.inputs kc.resources := by unfold State.admitted; decide +kernel
  exact ⟨.cerStep mgmt 0 1 (.keyImportSealed ⟨7, ecBlob, 1⟩), mgmt, 0x0623, kc, withOrk withSession, ((withOrk withSession).touch mgmt).waitOver .a (.cmd mgmt), [],
    0x10, rfl, h, by decide +kernel, rfl, by decide +kernel⟩

/-- A proposal of the producers that has its quorum: prefer Span B as keystone. -/
def approved : Proposal :=
  ⟨1, 0, .single (.sbKeystonePref .b), 0, 1, 0, 1000000000000, [], [], [⟨0, [], true⟩], .executing, 0, 0, .ok⟩

/-- `upState` with that proposal. -/
def withProposal : State := upA fun x => { x with rep := { x.rep with props := [approved] } }

/-- The command that executes it. -/
def executing : Caller := ⟨.a, .proposal 1, 0, 0⟩

theorem witness_ApprovedCommandsFormOneRecord : ∃ (i : Instr) (c : Caller) (q : QCmd) (pid : Nat) (k : SpanId) (x : Proposal) (s s1 : State)
    (rnd : List Byte) (p : Prepared), quorumCommand i = some (c, q) ∧ c.origin = .proposal pid ∧ s.keystone = some k ∧
      ((s.ordered k).span k).rep.prop pid = some x ∧ x.state = .executing ∧ x.body = .single q ∧ (s.span k).executing pid = false ∧
      s.asked k (internalCaller k 0) (.propExecute pid) = some (rnd, s1) ∧ (s1.span k).rep.laneType (.propExecute pid) = none ∧
      s1.ordering k p.slates.length = true ∧ s1.currentFor k (.propExecute pid) ∧ (s1.ordered k).decideExecute k pid rnd = .ok p := by
  let s1 := withProposal.waitOver .a (.cmd (internalCaller .a 0))
  obtain ⟨p, hp⟩ := ex_ok (d := (s1.ordered .a).decideExecute .a 1 []) (by decide +kernel)
  refine ⟨.sbKeystonePref executing .b, executing, .sbKeystonePref .b, 1, .a, approved, withProposal, s1, [], p, rfl, rfl, by decide +kernel,
    by decide +kernel, rfl, rfl, by decide +kernel, rfl, by decide +kernel, ?_, ?_, hp⟩
  · have : (match (s1.ordered .a).decideExecute .a 1 [] with | .ok p => s1.ordering .a p.slates.length | .error _ => false) = true := by decide +kernel
    rw [hp] at this
    exact this
  · unfold State.currentFor; decide +kernel

/-- A proposal to import an asymmetric key asks for a lane. -/
theorem witness_ApprovedCommands_lane :
    let q : QCmd := .keyImportSealed ⟨7, ecBlob, 1⟩
    let x := { approved with body := .single q }
    let s := withOrk (upA fun x => { x with rep := { x.rep with props := [{ approved with body := .single q }] } })
    s.keystone = some .a ∧ ((s.ordered .a).span .a).rep.prop 1 = some x ∧ (s.span .a).executing 1 = false ∧
      (s.asked .a (internalCaller .a 0) (.propExecute 1)).isSome = true ∧
      (((s.asked .a (internalCaller .a 0) (.propExecute 1)).map fun y => (y.2.span .a).rep.laneType (.propExecute 1)) = some (some 0x10)) := by decide +kernel

/-- `withSession` with an open vault. -/
def openVault : State := withSession.setFld .a Fld.vltStateVaultState 2

theorem witness_CommandsUnderQuorumAwaitQuorum : ∃ (i : Instr) (c : Caller) (q : QCmd) (s : State),
    quorumCommand i = some (c, q) ∧ (∀ pid, c.origin ≠ .proposal pid) ∧ c.origin ≠ .monitor ∧ s.started c q.opcode q.inputVals = true ∧ s.isolated c.span = false ∧
      s.lcState ≠ 4 ∧ (s.span c.span).rep.epoch ≠ 0 ∧ s.vaultOpen c.span = true :=
  ⟨.sbKeystonePref mgmt .b, mgmt, .sbKeystonePref .b, openVault, rfl, (by intro _ h; cases h), (by intro h; cases h), by decide +kernel, by decide +kernel,
    by decide +kernel, by decide +kernel, by decide +kernel⟩

/-! ### Witnesses: accepted commands -/

/-- Bytes at an offset of a payload. -/
def putAt (p : List Byte) (off : Nat) (b : List Byte) : List Byte := p.take off ++ b ++ p.drop (off + b.length)

/-- The producer's public key on P-384, with the private key 1. -/
def producerKey : List Byte := (ecCurve 0x11).public 1

/-- Its signature over a message, with the nonce 1. -/
def signedBy1 (m : List Byte) : List Byte := (ecCurve 0x11).sign 1 (sha384 m) 1

/-- A SITE payload: one producer, a quorum of one, ANCHORED, a window of 60 s. -/
def sitePayload : List Byte := putAt (putAt (putAt (zeroBytes 168) 2 [1, 1, 1]) 8 (leBytes 2 60)) 64 producerKey

/-- The site, sixteen contexts of owner 1, its quota, and a template of NONCE_MODE SV with tags of 16 bytes. -/
def book : Storyboard :=
  [⟨1, 0, 0, sitePayload⟩, ⟨4, 1, 0, [0, 0, 16, 0, 1, 0, 0, 0]⟩, ⟨6, 1, 1, putAt (zeroBytes 16) 4 (leBytes 4 100 ++ leBytes 4 10)⟩,
    ⟨10, 0, 1, putAt (zeroBytes 128) 3 [1, 0, 0, 0, 0, 16]⟩]

/-- A fuse array in SHIPPED. -/
def shipped : Fuses := { Fuses.reset with words := (List.range 3).map fun j => ⟨15 + j, lifeCode 2, lifeCode 2, lifeCode 2⟩ }

/-- The producer's session with the digest of its key. -/
def session6 : Session := { session5 with keyDigest := sha256 producerKey }

/-- A ceremony of the producers with one step, approved. -/
def ceremony : Proposal :=
  { approved with id := 2, body := .ceremony [(0x0507, sha256 (QCmd.sbKeystonePref .b).body)], votes := [⟨0, sha256 producerKey, true⟩], state := .approved }

/-- The joined module under `book`, in SHIPPED, with an open vault and a change of Span A's replica. -/
def ruled (f : Replica → Replica) : State :=
  let s := { upState with a := { upState.a with fuses := shipped }, b := { upState.b with fuses := shipped } }
  (s.updRep .a fun r => f { r with config := book, sessions := [session6] }).setFld .a Fld.vltStateVaultState 2

/-- A GATE payload: the slots 6 to 13 of the lanes are the secure world's. -/
def gatePayload : List Byte :=
  zeroBytes 24 ++ ((List.range 29).flatMap fun k => if 6 ≤ k ∧ k ≤ 13 then leBytes 8 1 ++ leBytes 8 1 ++ zeroBytes 8 else zeroBytes 24) ++ zeroBytes 8

/-- A WORLD scene of a guest: cores 2 to 5, one take of 100 us, 1 MiB, four call queues, a deferral of 10 ms and a watchdog of 1,000 ms. -/
def worldScene (g : Nat) : Scene := ⟨8, 0, g, putAt (zeroBytes 512) 4 [0x3C, 0x3C, 1, 0, 100, 0, 1, 0, 0, 0, 4, 0, 0, 0, 10, 0, 232, 3]⟩

/-- The first scenes of `book` with those that feasibility asks for. -/
def site : Storyboard :=
  book.take 3 ++ ((List.range 4).map fun i => ⟨3, 0, i, putAt (zeroBytes 64) 0 [4, 0, 1]⟩) ++
    [⟨7, 0, 0, zeroBytes 8⟩, ⟨7, 0, 1, zeroBytes 8⟩, ⟨9, 0, 0, gatePayload⟩, ⟨9, 0, 1, gatePayload⟩, ⟨12, 0, 0, []⟩, ⟨13, 0, 0, []⟩,
      ⟨2, 1, 1, zeroBytes 8⟩, worldScene 2]

/-- `ruled` under `site`, with its backup supply. -/
def sited (f : Replica → Replica) : State := ((ruled id).updRep .a fun r => f { r with config := site }).setFld .a Fld.tmpStatusVbakOk 1

/-- The SHA-256 digest of the storyboard `site`, as a constant, so that an image that names it is cheap to read. -/
def siteDigest : List Byte :=
  [55, 250, 91, 200, 132, 228, 129, 204, 77, 102, 73, 230, 29, 98, 126, 168, 21, 205, 248, 57, 169, 227, 196, 159, 98, 73, 45, 156, 194, 14, 243, 174]
theorem site_digest : site.digest = siteDigest := by decide +kernel

/-- A delta that replaces the scene of host port 0 at epoch 2, with the bytes of its signature entries, `n` of them. -/
def siteImage (n : Nat) (sigs : List Byte) : List Byte :=
  let h := putAt (putAt (zeroBytes 128) 0 (asciiBytes "AKNSTORY" ++ [1, 0, 2, 0, 128])) 0x10 (leBytes 4 (168 + sigs.length) ++ [1, 0, 0, 0, 2, 0, 0, 0, 0, 0, 0, 0, 1])
  let h := putAt (putAt (putAt (putAt h 0x28 ((sited id).unitId .a)) 0x48 [2]) 0x58 [128, 0, 0, 0, 160, 0]) 0x60 siteDigest
  h ++ [7, 0, 0, 1, 0, 0, 0, 0, 144, 0, 0, 0, 16, 0, 0, 0] ++ zeroBytes 16 ++ leBytes 2 n ++ [0, 0] ++ leBytes 4 (8 + sigs.length) ++ sigs

/-- The producer's signature entry over that image, which has room for `n` bytes of entries. -/
def siteEntry (body : List Byte) : SigEntry :=
  let e : SigEntry := ⟨1, 1, 0, 0, 0, zeroBytes 96⟩
  { e with sig := signedBy1 (asciiBytes "AKNSB-V1" ++ sha384 body ++ e.head) }

/-- That image with the producer's signature, and without. -/
def image2 : List Byte :=
  let e := siteEntry ((siteImage 1 (zeroBytes 112)).take 160)
  siteImage 1 (e.head ++ e.sig)

/-- An image whose approval is complete. -/
def staged : Staged :=
  { full := false, epoch := 2, baseEpoch := 1, siteId := [], atTime := false, switchTime := 0, body := [], ops := [], sigs := [], state := .validated
    closeAt := 1000000000, validA := true, validB := true, tsw := 0, apply := none }

/-- The image without a signature, as it is staged. -/
def parsed : Staged := (parseImage (siteImage 0 [])).getD staged
def unsigned : Staged := { parsed with closeAt := 1000000000 }

/-- The one operation of both images, and the scenes after it. -/
def siteOps : List SceneOp := [⟨1, ⟨7, 0, 0, zeroBytes 16⟩⟩]
def siteAfter : Storyboard := (site.filter fun y => !(y.type == 7 && y.inst == 0)) ++ [⟨7, 0, 0, zeroBytes 16⟩]

/-- The signed image as it parses. -/
def signed : Staged := (parseImage image2).getD staged

theorem getD_of_isSome {x : Option Staged} (h : x.isSome = true) : x = some (x.getD staged) := by
  cases x with
  | none => cases h
  | some y => rfl

theorem parsed_signed : parseImage image2 = some signed := getD_of_isSome (by decide +kernel)
theorem parsed_unsigned : parseImage (siteImage 0 []) = some parsed := getD_of_isSome (by decide +kernel)

/-- Both images have that operation and lead to those scenes. -/
theorem site_ops : (signed.ops = siteOps ∧ signed.full = false) ∧ parsed.ops = siteOps ∧ parsed.full = false :=
  ⟨⟨by decide +kernel, by decide +kernel⟩, by decide +kernel, by decide +kernel⟩
theorem site_after (st : Staged) (h : st.ops = siteOps) (hf : st.full = false) : st.after site = siteAfter := by
  simp only [Staged.after, h, hf, Staged.moves]
  decide +kernel

/-- The scenes after it are feasible, whoever signed the image. -/
theorem site_feasible {s : State} (hs : s = sited id ∨ s = sited fun r => { r with staged := some unsigned }) (st : Staged) (t : Nat)
    (h : st.ops = siteOps) (hf : st.full = false) (hi : st.siteId = signed.siteId) : s.infeasible .a st t = none := by
  have ha : st.after (s.span .a).rep.config = siteAfter := by
    rcases hs with rfl | rfl <;> exact site_after st h hf
  refine Laws.infeasible_none ha ?_ ?_ ?_ ?_ ?_ ?_ ?_ ?_ ?_ ?_ ?_
  all_goals (try simp only [check3, check6, check9]); (try rw [h]); (try rw [hi]); rcases hs with rfl | rfl <;>
    first | decide +kernel | simp [firstBad, siteOps]

theorem sited_digest : ((sited id).span .a).rep.config.digest = siteDigest := site_digest

/-- What SB_STAGE checks of the signed image before feasibility. -/
theorem signed_base : (((sited id).span .a).rep.epoch == 0 && !signed.full) = false ∧
    (!signed.full && (signed.baseEpoch != ((sited id).span .a).rep.epoch || sliceBytes image2 0x60 32 != ((sited id).span .a).rep.config.digest)) = false :=
  ⟨by rw [site_ops.1.2]; decide +kernel, by rw [sited_digest, site_ops.1.2]; decide +kernel⟩
theorem signed_site : sliceBytes image2 0x28 16 = (sited id).unitId .a := by decide +kernel
theorem signed_epochs :
    decide (if signed.full then signed.epoch ≤ ((sited id).span .a).rep.epoch else signed.epoch ≤ signed.baseEpoch) = false := by
  simp only [site_ops.1.2, if_false, Bool.false_eq_true]
  decide +kernel
theorem signed_applies : (!signed.full && !signed.ops.all (opApplies ((sited id).span .a).rep.config)) = false := by
  rw [site_ops.1.1, site_ops.1.2]; decide +kernel
theorem signed_sigs : signed.sigsHold ((sited id).span .a).rep = true := by decide +kernel

theorem unsigned_site : parsed.siteId = signed.siteId := by decide +kernel

/-- A signed image is accepted. -/
theorem witness_signed : ((sited id).decideStage .a mgmt image2).isOk = true :=
  Laws.decideStage_isOk (by decide +kernel) (by decide +kernel) (by decide +kernel) parsed_signed signed_base.1 signed_site signed_epochs signed_base.2
    signed_applies signed_sigs (site_feasible (.inl rfl) _ _ site_ops.1.1 site_ops.1.2 rfl)

/-- An unsigned image is accepted and waits for its quorum. -/
theorem witness_unsigned : ((sited id).decideStage .a mgmt (siteImage 0 [])).isOk = true :=
  Laws.decideStage_isOk (by decide +kernel) (by decide +kernel) (by decide +kernel) parsed_unsigned (by decide +kernel)
    (by decide +kernel) (by decide +kernel) (by rw [sited_digest]; decide +kernel) (by decide +kernel) (by decide +kernel)
    (site_feasible (.inl rfl) parsed _ site_ops.2.1 site_ops.2.2 unsigned_site)

/-- The unsigned image with the producer's entry. -/
def countersigned : Staged := { unsigned with sigs := unsigned.sigs ++ [siteEntry unsigned.body] }
theorem countersigned_feasible (t : Nat) : (sited fun r => { r with staged := some unsigned }).infeasible .a countersigned t = none :=
  site_feasible (.inr rfl) countersigned t (by simp only [countersigned, unsigned]; exact site_ops.2.1)
    (by simp only [countersigned, unsigned]; exact site_ops.2.2) (by simp only [countersigned, unsigned]; exact unsigned_site)

/-- A signature entry is accepted. -/
theorem witness_entry : ((sited fun r => { r with staged := some unsigned }).decideSign .a mgmt (siteEntry unsigned.body)).isOk = true :=
  Laws.decideSign_isOk (st := unsigned) (by decide +kernel) rfl (by decide +kernel) (by decide +kernel) (by decide +kernel) (countersigned_feasible _)

theorem witness_AcceptedStoryboardCommandsDecide :
    ((sited id).decideStage .a mgmt image2).isOk = true ∧ ((sited id).decideStage .a mgmt (siteImage 0 [])).isOk = true ∧
    ((sited fun r => { r with staged := some unsigned }).decideSign .a mgmt (siteEntry unsigned.body)).isOk = true ∧
    ((ruled fun r => { r with staged := some staged }).decideApply .a mgmt 0).isOk = true ∧
    ((ruled fun r => { r with staged := some staged }).decideSbWithdraw .a mgmt 2).isOk = true :=
  ⟨witness_signed, witness_unsigned, witness_entry, by decide +kernel, by decide +kernel⟩

/-- An open proposal without votes. -/
def voted : Proposal := { ceremony with id := 3, state := .opened, votes := [] }

/-- The body of a proposal to prefer Span B as keystone. -/
def preferB : PropBody := .single (.sbKeystonePref .b)

/-- The producers' first proposal, before its votes. -/
def submitted : Proposal :=
  { id := 1, owner := 0, body := preferB, proposer := 0, epoch := 1, tOpen := 0, tClose := (ruled id).a.rep.config.window
    versions := (ruled id).a.versionsOf preferB.subjects, pd := [], votes := [], state := .opened, quorumAt := 0, closedAt := 0, status := .ok }

theorem witness_AcceptedSessionAndProposalCommandsDecide :
    ((ruled id).decideOpen .a mgmt { session6 with id := 9 }).isOk = true ∧
    ((ruled id).decideClose .a mgmt 5 1).isOk = true ∧
    ((ruled fun r => { r with props := [voted] }).decideWithdraw .a mgmt 3).isOk = true ∧
    ((ruled fun r => { r with props := [voted] }).decideVote .a mgmt 3 true (signedBy1 (voteMessage voted.pd true 0 0))).isOk = true ∧
    ((ruled id).decideSubmit .a mgmt 0 preferB (signedBy1 (voteMessage (proposalDigest ((ruled id).unitId .a) submitted) true 0 0))).isOk = true := by
  decide +kernel

/-- The producers' lock, as session 5 holds it. -/
def heldLock (n : Nat) : Lock := ⟨0, 5, 2, 30000000000, 1, n, [], [], []⟩

theorem witness_AcceptedCeremonyCommandsDecide :
    ((ruled fun r => { r with props := [ceremony] }).decideBegin .a mgmt 2).isOk = true ∧
    ((ruled fun r => { r with props := [ceremony], locks := [heldLock 0] }).decideRenew .a mgmt 0).isOk = true ∧
    ((ruled fun r => { r with props := [ceremony], locks := [heldLock 0] }).decideStep .a mgmt 0 1 (.sbKeystonePref .b) []).isOk = true ∧
    ((ruled fun r => { r with props := [ceremony], locks := [heldLock 1] }).decideEnd .a mgmt 0).isOk = true := by decide +kernel

/-- A counter of the site with one step left. -/
def counter : CtrObj := ⟨1, 99, 99, 100, [], 1⟩

/-- A slate, as the head of the log. -/
def slate1 : Slate := ⟨1, 0, 1, devSlate 0x0401 .ok .hub 0 [], zeroBytes 32⟩

/-- The log with that slate, covered by a checkpoint. -/
def logged : State :=
  ruled fun r => { r with log := { r.log with entries := [⟨0, slate1, false⟩], wp := 1, nextSeq := 2, cpSeq := some 1 } }

theorem witness_AcceptedLogAndCounterCommandsDecide :
    (logged.decideAck .a mgmt 1 (sha256 (slateBytes slate1)) 0 0 (signedBy1 (ackMessage (logged.unitId .a) 1 (sha256 (slateBytes slate1)) 0))).isOk = true ∧
    ((ruled fun r => { r with log := { r.log with entries := [⟨0, slate1, false⟩], wp := 1, nextSeq := 2 } }).decideExport .a mgmt 1).isOk = true ∧
    ((ruled id).decideErrAck .a mgmt 1).isOk = true ∧
    ((ruled fun r => { r with ctrs := [counter] }).decideIncr .a mgmt 1 1).isOk = true := by decide +kernel
/-! ### Witnesses: what commands under quorum do -/

/-- An AES-256 object of the producers, with SERIAL 7: a wrapping key with the bytes 00 to 1F. -/
def wrapper : KeyObj :=
  ⟨7, 2, .active, 1, 0, 0x60, false, false, 0, 1, (List.range 32).map (BitVec.ofNat 8), 0, 0, 0, [], [], []⟩

/-- An HMAC object of the producers with SERIAL 8, from which AES keys may be derived. -/
def root8 : KeyObj := ⟨8, 3, .active, 1, 0, 0x80, false, false, 0x60, 1, zeroBytes 32, 0, 0, 0, [], [], []⟩

/-- The wrapped key of RFC 3394, 4.1: 128 bits under the 128-bit key 00 to 0F. -/
def wrapped41 : List Byte :=
  [0x1F, 0xA6, 0x8B, 0x0A, 0x81, 0x12, 0xB4, 0x47, 0xAE, 0xF3, 0x4B, 0xD8, 0xFB, 0x5A, 0x7B, 0x82, 0x9D, 0x3E, 0x86, 0x23, 0x71, 0xD2, 0xCF, 0xE5]

/-- A sealed blob of sixteen zero bytes as an AES-128 key under `wrapper`. -/
def blob : List Byte :=
  let head := putAt (putAt (putAt (putAt (putAt (zeroBytes 0x90) 0 (asciiBytes "AKNBLOB1" ++ [1, 0, 1, 1])) 0xC (leBytes 4 0xB0)) 0x28 [0x20]) 0x34 [16]) 0x60
    (wrapKcv wrapper.material)
  let ct := gcmCtr wrapper.material (zeroBytes 12) (zeroBytes 16)
  head ++ ct ++ gcmTag wrapper.material (zeroBytes 12) head ct

/-- A command under quorum is accepted for an owner, with Span A's replica as changed and a change of its stream contexts. -/
def takes (owner : Nat) (f : Replica → Replica) (g : Stream → Stream) (q : QCmd) : Bool :=
  (((ruled f).upd .a fun x => { x with stream := g x.stream }).prepareQ .a mgmt owner q (zeroBytes 64) 5000000000 none).isOk

/-- The objects of the two keys. -/
def keys (r : Replica) : Replica := { r with objs := [wrapper, root8] }

/-- Each command that creates a key is accepted, for the producers and for an owner. -/
theorem witness_CreatedKeysFollowTheirRules :
    takes 0 id id (.keyGenerate ⟨1, 0x20, 1, 0, [], 0⟩) = true ∧ takes 1 id id (.keyGenerate ⟨2, 0x100, 0, 0, [], 0⟩) = true ∧
    takes 0 keys id (.keyDerive ⟨8, 1, [1], [], 2, 32, 0x60, []⟩) = true := by decide +kernel

theorem witness_CreatedKeys_import : takes 0 keys id (.keyImportSealed ⟨7, blob, 0x20⟩) = true := by decide +kernel

theorem witness_CreatedKeys_unwrap :
    takes 0 (fun r => { r with objs := [{ wrapper with type := 1, material := wrapper.material.take 16 }] }) id
      (.keyUnwrap ⟨7, 1, wrapped41, 1, 0x20, 0, []⟩) = true := by decide +kernel

theorem witness_ChangedKeysAndCountersFollowTheirRules :
    takes 0 keys id (.keySetUsage 7 0x40 0) = true ∧ takes 0 keys id (.keySetState 7 2) = true ∧
    (∀ st ∈ [ObjState.suspended, .fenced], takes 0 (fun r => { r with objs := [{ wrapper with state := st }] }) id (.keySetState 7 1) = true) ∧
    takes 0 keys id (.keyDestroy 7) = true ∧ takes 0 id id (.ctrCreate 5 5 []) = true ∧ takes 1 id id (.ctrCreate 0 (2 ^ 64 - 1) []) = true ∧
    takes 0 (fun r => { r with ctrs := [counter] }) id (.ctrDestroy 1) = true := by decide +kernel

/-- An AES-128 object of owner 1 for the engine. -/
def tagKey : KeyObj := ⟨2 ^ 32, 1, .active, 1, 1, 0x100, false, false, 0, 1, zeroBytes 16, 0, 0, 0, [], [], []⟩

/-- Context 15 of owner 1, in a state. -/
def ctx15 (st : CtxState) : CtxEntry := ⟨st, 1, 2, 16, 1, 1, 1, 0, 4000, 1000, 1, 0, 0, zeroBytes 32, 0, 0⟩

/-- Context 15 in both banks. -/
def with15 (st : CtxState) (x : Stream) : Stream := { x with active := ⟨[(15, ctx15 st)], []⟩, shadow := ⟨[(15, ctx15 st)], []⟩ }

/-- The object of owner 1. -/
def keys1 (r : Replica) : Replica := { r with objs := [tagKey] }

theorem witness_ContextAndSiteCommandsFollowTheirRules :
    (takes 1 id id (.ctxConfig ⟨15, 1, 2, 16, 1, 1, 0, 4000, 1000, zeroBytes 32⟩) = true ∧
      takes 1 id (with15 .ready) (.ctxConfig ⟨0, 2, 4, 16, 1, 3, 255, 65535, 65535, zeroBytes 31 ++ [1]⟩) = true) ∧
    takes 1 keys1 (with15 .ready) (.ctxKeyLoad ⟨15, false, 2 ^ 32, 1, 2, 0⟩) = true ∧
    takes 1 keys1 (with15 .ready) (.ctxKeyLoad ⟨15, true, 2 ^ 32, 1, 2, 7⟩) = true ∧
    takes 1 id (with15 .ready) (.ctxKeyClear 15 false) = true ∧ takes 1 id (with15 .active) (.ctxKeyClear 15 true) = true ∧
    takes 1 id (with15 .ready) (.ctxCommit 15) = true ∧ takes 1 id (with15 .ready) (.ctxActivate 15) = true ∧
    takes 1 id (with15 .active) (.ctxSuspend 15) = true ∧ takes 1 id (with15 .suspended) (.ctxResume 15) = true ∧
    ([CtxState.ready, .active, .suspended].all fun st => takes 1 id (with15 st) (.ctxDrain 15)) = true ∧
    takes 0 id id (.sbKeystonePref .b) = true ∧ takes 0 id id (.sbSpanReset .a) = true ∧
    takes 0 id id (.worldRestart 1) = true ∧ takes 32 id id (.worldRestart 33) = true := by decide +kernel

/-- An update to the staged bank, by a keystone span whose peer follows. -/
theorem witness_SbFwUpdate :
    let s := { ruled id with hub := { (ruled id).hub with update := { (ruled id).hub.update with state := 2 } } }
    (s.prepareQ .a mgmt 0 (.sbFwUpdate s.hub.update.bank.digest) [] 0 none).isOk = true := by decide +kernel

/-! ### Witnesses: doors and deadlines -/

/-- An image that changes nothing but the epoch, validating, with its switch at once. -/
def still : Staged := { staged with siteId := zeroBytes 16, state := .validating, validA := false, validB := false }

/-- Both spans under `site` with that image staged. -/
def switching : State :=
  let s := sited id
  let f (r : Replica) : Replica := { r with config := site, staged := some still }
  (s.updRep .a f).updRep .b f

/-- A state at a time since reset, with the leases long enough for it. -/
def aged (n : Nat) (s : State) : State :=
  let f (x : SpanState) : SpanState := { x with tb := { x.tb with sec := n / 1000000000, ns := n % 1000000000 }, cont := { x.cont with leaseEnd := 2 * n + 1000000000000 } }
  { s with elapsed := n, a := f s.a, b := f s.b }

theorem witness_ReadingCommandsAnswerFromTheReplica :
    (let s := ruled fun r => { r with props := [voted], log := { r.log with entries := [⟨0, slate1, false⟩], wp := 1, nextSeq := 2 } }
     let r := ((s.touch mgmt).span .a).rep
     (∀ pid ∈ [0, 3, 4], s.admitted mgmt 0x0614 [some (num pid)] []) ∧ (r.sessionOf mgmt).isSome = true ∧ (r.prop 3).isSome = true ∧ r.prop 4 = none ∧
     s.admitted mgmt 0x0634 [] [] ∧ s.admitted mgmt 0x0505 [] [] ∧
     (mgmt.origin ≠ .monitor ∧ (∀ n ∈ [1, 512], s.admitted mgmt 0x0632 [some (num 1), some (num n)] []) ∧
       (r.producerSession mgmt).map (·.exportFrom) = some (some 0) ∧ r.log.lowest ≤ 1 ∧ 1 < r.log.nextSeq)) ∧
    (let s := (ruled fun r => { r with epoch := 0 }).updCont .a fun k => { k with mode := .isolated }
     s.admitted mgmt 0x0634 [] [] ∧ s.isolated .a = true ∧ s.admitted mgmt 0x0505 [] [] ∧ ((s.touch mgmt).span .a).rep.epoch = 0) := by
  unfold State.admitted; decide +kernel

/-- `ruled` with random bits seeded. -/
def seeded (f : Replica → Replica) (l : List Challenge) : State :=
  ((ruled f).upd .a fun x => { x with
    entropy := { x.entropy with d0 := ⟨true, zeroBytes 32, zeroBytes 32, 0, 0⟩, d1 := ⟨true, zeroBytes 32, zeroBytes 32, 0, 0⟩ }, vault := { x.vault with challenges := l } }).setFld .a Fld.rngCtrlEnable 1

/-- A challenge of session 5's signer, with the producer's answer to it, and one that does not verify. -/
def challenge1 : Challenge := ⟨zeroBytes 32, some ⟨.producer, 0, 0⟩, 0⟩

/-- The answer. -/
def answer1 : List Byte := signedBy1 (proveMessage ((seeded id []).unitId .a) (zeroBytes 32) ⟨.producer, 0, 0⟩ mgmt.binding)

theorem witness_SessionsOpenByChallenge :
    (let s := seeded id []
     s.admitted mgmt 0x0601 [some (num 1), some (num 0), some (num 0)] [] ∧ mgmt.mayOpen ⟨.producer, 0, 0⟩ = true ∧
       ((s.span .a).vault.lockouts.any fun l => l.signer == ⟨.producer, 0, 0⟩ && decide (s.elapsed < l.until_)) = false ∧
       (s.span .a).rep.sessions.length < 64 ∧ s.entFatal .a = false ∧ (s.random .a 0 32 false).isSome = true) ∧
    (let s := seeded id [challenge1]
     (∀ sig ∈ [[], answer1], s.admitted mgmt 0x0602 [some (zeroBytes 32), some sig] []) ∧
       ((s.span .a).vault.challenges.find? fun y => y.bytes == zeroBytes 32 && y.signer.any mgmt.mayOpen) = some challenge1 ∧
       (s.span .a).rep.config.signerKey ⟨.producer, 0, 0⟩ = some ⟨0, 1, producerKey⟩ ∧ s.elapsed ≤ challenge1.issued + 60 * sec ∧
       ([[], answer1].map fun sig => verifySig 1 producerKey (proveMessage (s.unitId .a) (zeroBytes 32) ⟨.producer, 0, 0⟩ mgmt.binding) sig) = [false, true]) ∧
    (let s2 := (seeded id []).setFails .a ⟨.producer, 0, 0⟩ 0 0
     s2.entFatal .a = false ∧ (s2.random .a 0 4 false).isSome = true ∧ (s2.span .a).cont.mode = .keystone) := by
  unfold State.admitted; decide +kernel

/-- A proposal in a state, whose quorum was complete at 0 and that closed at 0. -/
def proposed (st : PropState) : Proposal := { approved with state := st, tClose := 0 }

/-- A day after reset, with the proposal in a state and the producers' lock held for another proposal. -/
def dayLater (st : PropState) : State := aged 86400000000000 (ruled fun r => { r with props := [proposed st, { ceremony with state := .inCeremony }], locks := [heldLock 0] })

theorem witness_DeadlinesCloseByRecord :
    ([PropState.opened, .approved, .executing, .executed].all fun st =>
      let s := dayLater st
      decide (s.keystone = some .a) && s.ordering .a 32 && (((s.ordered .a).span .a).rep.prop 1 == some (proposed st))) = true ∧
    (let s := dayLater .executing
     let r := ((s.ordered .a).span .a).rep
     r.session 5 = some session6 ∧ session6.openedAt + 28800 * sec ≤ (s.ordered .a).now .a ∧
       (r.sessions.filter fun x => match x.origin with | .mgmt n _ => n == 1 | _ => false) ≠ [] ∧ r.lock 0 = some (heldLock 0) ∧
       (heldLock 0).deadline ≤ (s.ordered .a).now .a ∧ (heldLock 0).pid ≠ 1 ∧ PropState.executed.final = true ∧ (r.prop 2).isSome = true) ∧
    (let s := aged 86400000000000 (ruled fun r => { r with staged := some { staged with state := .quorumPending }, log := { r.log with sinceCp := 1 } })
     s.keystone = some .a ∧ s.ordering .a 32 = true ∧ (((s.ordered .a).span .a).rep.staged.map (·.state)) = some .quorumPending ∧
       staged.closeAt ≤ (s.ordered .a).now .a ∧ (s.span .a).cont.deferred = [] ∧ 0 < (s.orderedLog .a).sinceCp ∧
       (s.orderedLog .a).cpTime + 60 * sec ≤ s.now .a) ∧
    (let s := ruled fun r => { r with props := [approved, voted] }
     s.keystone = some .a ∧ s.ordering .a 32 = true ∧ (s.ordered .a).now .a < session6.lastAt + 300 * sec ∧ (s.ordered .a).now .a < voted.tClose) := by
  decide +kernel

theorem witness_ImageValidated :
    switching.keystone = some .a ∧ ((switching.ordered .a).span .a).rep.staged = some still ∧ (switching.span .a).cont.mode = .keystone ∧
      (switching.span .b).cont.mode = .follower ∧ still.atTime = false ∧ switching.infeasible .a still (still.second (switching.now .a)) = none ∧ switching.infeasible .b still (still.second (switching.now .b)) = none ∧
      switching.ordering .a 1 = true := by decide +kernel

theorem witness_ImageValidated_digest :
    ((switching.span .b).rep.staged.map fun y => y.digest (switching.span .b).rep) = some (still.digest ((switching.ordered .a).span .a).rep) := rfl

/-- `switching` with the image prepared on both spans, its lock, and a message for a span; `tsw` is its switch time. -/
def prepared (sp : SpanId) (m : List DeckMsg) (tsw : Nat) : State :=
  let f (r : Replica) : Replica := { r with staged := some { still with state := .prepared, tsw := tsw, apply := some mgmt }, locks := [⟨0, 0, 0, 30000000000, 1, 0, [], [], []⟩] }
  let g (c : Cont) : Cont := { c with prepared := some (2, [1]) }
  { (((switching.updRep .a f).updRep .b f).updCont .a g).updCont .b g with deck := m.map fun x => (sp, x) }

theorem witness_SwitchIsDecidedByBothSpans :
    ((((prepared .b [.prepare 2 0] 0).receive .b (fun m => match m with | .prepare e t => some (e, t) | _ => none)).map (·.1)) = some (2, 0) ∧
      ((prepared .b [] 0).span .b).rep.staged.map (·.epoch) = some 2 ∧ (prepared .b [] 0).infeasible .b still (still.second ((prepared .b [] 0).now .b)) = none) ∧
    ((((prepared .a [.ready 2 [1]] 1000000).receive .a (fun m => match m with
        | .ready e d => some (e, .inl d) | .infeasible e c i => some (e, .inr (c, i)) | _ => none)).map (·.1)) =
      some (2, (.inl [1] : List Byte ⊕ Nat × Nat))) ∧
    (((prepared .a [] 1000000).undecided .a).map (fun y => (y.1.epoch, y.2)) = some (2, [1]) ∧ (prepared .a [] 1000000).now .a + ms ≤ 1000000 ∧
      (prepared .a [] 1000000).witnessReach .a = true ∧ 1000000 ≤ (prepared .a [] 1000000).now .a + ms) ∧
    ((((prepared .b [.decision 2 true] 0).receive .b (fun m => match m with | .decision e c => some (e, c) | _ => none)).map (·.1)) =
      some (2, true)) ∧
    ((prepared .b [] 1000000).runsApply .b = false ∧ ((prepared .b [] 500000).span .b).cont.decision = none ∧
      500000 ≤ (prepared .b [] 500000).now .b + 500 * us) := by decide +kernel

theorem witness_EpochTickInstallsTheCommittedImage :
    let s := (prepared .b [] 0).updCont .b fun c => { c with decision := some (2, true) }
    ((s.span .b).rep.staged.map (·.epoch)) = some 2 ∧ (s.span .b).cont.decision = some (2, true) ∧ 0 ≤ s.now .b ∧ (s.span .b).rep.epoch < 2 ∧
      ((prepared .b [] 1).span .b).cont.decision ≠ some (2, true) ∧ (prepared .b [] 1).now .b < 1 := by decide +kernel
/-! ### Witnesses: Continuity -/

/-- The first message to a span that a pattern takes from a state with messages, and the state without them. -/
def takesMsg {α : Type} [DecidableEq α] (s : State) (sp : SpanId) (m : DeckMsg) (p : DeckMsg → Option α) (x : α) : Bool :=
  ({ s with deck := [(sp, m)] }.receive sp p).any fun y : α × State => decide (y.1 = x) && y.2.deck == []

theorem witness_LinksFollowTheirEvents :
    (upState.regsCanonical = true ∧ upState.a.cont.linkUp 0 = true ∧ upState.a.cont.linkUp 1 = false ∧ (upState.span .a).cont.hubLink = true ∧
      upState.a.cont.retrainAt 1 ≤ upState.elapsed) ∧
    (let s := upState.updCont .a fun c => { c with deck1At := 5 }
     s.a.cont.linkUp 1 = false ∧ s.elapsed < s.a.cont.retrainAt 1) ∧
    ((upState.updCont .b fun c => { c with peerLost := true }).span .b).speaks = true := by decide +kernel

/-- A change of the site alone, as Span B forwards it. -/
def change1 : Change := ⟨1, .device, .span .b, [], [.eff (.setPref .b)], [], none, .ok, [], none, false, none⟩

/-- A command that Span B has prepared and forwards. -/
def change2 : Change := ⟨2, .command, .span .b, [], [], [], some { mgmt with span := .b }, .ok, [], some (.sessionClose 5 1), false, some []⟩

/-- The record of it with CSN 1. -/
def record1 : Record := ⟨1, 1, 1, 0, 0, 0, [], change1⟩

/-- A span has prepared that record. -/
def opened (sp : SpanId) : State := upState.updCont sp fun c => { c with lastCsn := 1, open_ := [record1] }

/-- The command that a RESULT completes. -/
def forwarded1 : Change := { change1 with caller := some { mgmt with span := .b }, origin := .span .b }

theorem witness_RecordsPassBetweenTheSpans :
    (upState.keystone = some .a ∧ takesMsg upState .a (.forward change1) (fun m => match m with | .forward c => some c | _ => none) change1 ∧
      upState.ordering .a 0 = true ∧ upState.versionsHold .a change1.versions = true ∧ upState.versionsHold .a [(.obj 1, 5)] = false) ∧
    (let s := upA fun x => { x with rep := { x.rep with sessions := [{ session5 with span := .b }] } }
     takesMsg s .a (.forward change2) (fun m => match m with | .forward c => some c | _ => none) change2 ∧ s.versionsHold .a change2.versions = true ∧
       s.ordering .a 1 = true ∧ (match (s.ordered .a).decideCmd .a { mgmt with span := .b } (.sessionClose 5 1) [] with
         | .ok p => decide (p.slates.length = 1) | .error _ => false) = true) ∧
    (takesMsg upState .b (.record record1) (fun m => match m with | .record r => some r | _ => none) record1 ∧
      record1.csn = (upState.span .b).cont.lastCsn + 1 ∧ (upState.span .b).cont.mode = .follower ∧ (upState.span .b).cont.peerLost = false ∧
      record1.csn ≠ ((opened .b).span .b).cont.lastCsn + 1) ∧
    (takesMsg (opened .a) .a (.ack 1) (fun m => match m with | .ack n => some n | _ => none) 1 ∧ ((opened .a).span .a).cont.mode = .keystone ∧
      (((opened .a).span .a).cont.open_.any fun r => r.csn == 1) = true) ∧
    (takesMsg (opened .b) .b (.commit 1) (fun m => match m with | .commit n => some n | _ => none) 1 ∧ ((opened .b).span .b).cont.open_ = record1 :: [] ∧
      ((opened .b).span .b).cont.csn < 1) ∧
    takesMsg (opened .a) .a (.commitAck 1) (fun m => match m with | .commitAck n => some n | _ => none) 1 ∧
    (let s := (opened .a).updCont .a fun c => { c with mode := .solo }
     (s.span .a).cont.mode = .solo ∧ s.witnessReach .a = true ∧ (s.span .a).cont.open_.head? = some record1) ∧
    (let s := upState.updCont .b fun c => { c with forwarded := [forwarded1] }
     takesMsg s .b (.result 1 .ok []) (fun m => match m with | .result i st f => some (i, st, f) | _ => none) (1, .ok, []) ∧
      ((s.span .b).cont.forwarded.find? fun y => y.id == 1) = some forwarded1) := by
  decide +kernel

/-- A hundred milliseconds after reset, with Span A's Continuity state changed and a message of the witness. -/
def later (n : Nat) (f : Cont → Cont) (renews votes : List (SpanId × Nat × Nat)) : State :=
  { (aged n upState).updCont .a f with hub := { upState.hub with renews := renews, votes := votes } }

theorem witness_LeaseFollowsItsVotes :
    ((later 100000000 id [] []).regsCanonical = true ∧ ((later 100000000 id [] []).span .a).cont.renewSent + 100 * ms ≤ (later 100000000 id [] []).elapsed ∧
      ((later 100000000 id [] []).span .a).worlds.hung = [] ∧
      (later 99999999 id [] []).elapsed < ((later 99999999 id [] []).span .a).cont.renewSent + 100 * ms) ∧
    (let s := later 0 id [(.a, 1, 0)] []
     (s.hub.renews.find? fun r => r.1 == .a) = some (.a, 1, 0) ∧ s.witnessReach .a = true ∧ s.hub.witness.term ≤ 1) ∧
    (let s := later 0 id [(.a, 1, 0)] []
     let s := { s with hub := { s.hub with witness := { s.hub.witness with term := 2, holder := some .b } } }
     1 < s.hub.witness.term ∧ s.hub.witness.holder ≠ some .a) ∧
    (takesMsg upState .b (.renew 1 0) (fun m => match m with | .renew t at_ => some (t, at_) | _ => none) (1, 0) ∧ (upState.span .b).cont.voteTerm ≤ 1 ∧
      1 < ((upState.updCont .b fun c => { c with voteTerm := 2 }).span .b).cont.voteTerm) ∧
    ((later 0 id [] [(.a, 1, 0)]).hub.votes.find? fun v => v.1 == .a) = some (.a, 1, 0) ∧
    ((upState.hub.votes.find? fun v => v.1 == .a) = none ∧
      takesMsg upState .a (.vote 1 0) (fun m => match m with | .vote t at_ => some (t, at_) | _ => none) (1, 0)) ∧
    (let s := later 0 (fun c => { c with mode := .solo, leaseEnd := 0 }) [] []
     (s.span .a).cont.leaseEnd ≤ s.now .a ∧ (s.span .a).cont.mode = .solo) ∧
    (let s := (later 0 (fun c => { c with leaseEnd := 0 }) [] []).setFld .a Fld.tbStatusTimeMaster 1
     s.regsCanonical = true ∧ (s.span .a).cont.leaseEnd ≤ s.now .a ∧ (s.span .a).cont.mode = .keystone ∧ s.fld .a Fld.tbStatusTimeMaster = 1) := by
  decide +kernel

/-- A split of 5 ms, in a mode of Span A, while Span B does not hold the lease. -/
def split (n : Nat) (m : Mode) : State :=
  let f (c : Cont) : Cont := { c with deckUp0 := false }
  (((aged n upState).updCont .a fun c => { f c with mode := m }).updCont .b fun c => { f c with mode := .isolated })

/-- `ruled` at epoch 1 with Span A isolated. -/
def alone : State := ruled id |>.updCont .a fun c => { c with mode := .isolated }

theorem witness_LeaseMovesOnlyAsTheRulesSay :
    ([Mode.keystone, .solo, .follower, .rejoining, .isolated, .seeking].all fun m =>
      let s := split 5000000 m
      s.regsCanonical && (s.span .a).cont.peerLost == false && (s.span .a).cont.deckUp == false && (s.span .a).cont.mode != .joining &&
        decide ((s.span .a).cont.linksAt + 5 * ms ≤ s.elapsed)) = true ∧
    (split 4999999 .follower).elapsed < ((split 4999999 .follower).span .a).cont.linksAt + 5 * ms ∧
    (let s := split 5000000 .seeking
     s.soloOk .a = true ∧ (s.span .a).cont.promiseEnd ≤ s.elapsed ∧ s.keystone = none ∧ s.witnessReach .a = true ∧ s.witnessFree = true) ∧
    (let s := split 5000000 .seeking
     { s with hub := { s.hub with witness := { s.hub.witness with soloCsn := 1, soloTerm := 1 } } }.soloOk .a = false) ∧
    (let s := upState.updCont .b fun c => { c with mode := .seeking }
     s.soloOk .b = true ∧ s.keystone ≠ none) ∧
    (let s := aged 60000000000 (upA fun x => { x with rep := { x.rep with pref := some .b } })
     (s.span .a).cont.mode = .keystone ∧ (s.span .b).cont.mode = .follower ∧ (s.span .a).cont.joinedAt + 60 * sec ≤ s.elapsed ∧
       (s.span .a).rep.pref = some .b ∧ (s.span .a).cont.peerLost = false ∧ (s.span .a).cont.open_ = []) ∧
    (takesMsg upState .b (.handover 2) (fun m => match m with | .handover t => some t | _ => none) 2 ∧ (upState.span .b).cont.mode = .follower ∧
      (upState.span .b).cont.open_ = []) ∧
    (let s := aged 2000000000 (upA fun x => { x with cont := Cont.reset, boot := { x.boot with helloAt := some 0 } })
     (s.span .a).boot.helloAt = some 0 ∧ (s.span .a).cont.mode = .joining ∧ 0 + 2 * sec ≤ s.elapsed) ∧
    ((∀ sp ∈ [SpanId.a, .b], ∀ n ∈ [0, 1], alone.started mgmt 0x0506 [some (num sp.code), some (num 1), some (num n), some (num 0), none] = true) ∧ alone.lcState ≠ 4 ∧ (alone.span .a).rep.epoch ≠ 0 ∧ alone.epochFits mgmt [] = true) := by
  decide +kernel

/-- The producer's signature of a force of Span A. -/
def forced (csn : Nat) : List (Nat × List Byte) := [(0, signedBy1 (forceMessage (alone.unitId .a) .a 1 csn 0))]

/-- The refusal of a force that its signatures do not carry, and its acceptance where they do. -/
theorem witness_SbKeystoneForce : alone.forceRefusal mgmt .a 1 0 0 [] = some .notAuthorised ∧ alone.forceRefusal mgmt .a 1 1 0 (forced 1) = some .staleBase ∧
    alone.forceRefusal mgmt .a 1 0 0 (forced 0) = none := by decide +kernel

/-- What a span says of itself, in a mode. -/
def helloIn (m : Mode) : Hello := ⟨m, 1, 0, [], 0, 0, 1, 0, 0⟩

/-- A span hears another's HELLO, in a mode of its own. -/
def hears (sp : SpanId) (m : Mode) (h : Hello) : Bool :=
  takesMsg (upState.updCont sp fun c => { c with mode := m }) sp (.hello h) (fun m => match m with | .hello h => some h | _ => none) h

/-- Span B rejoins, with a message for it. -/
def rejoining (n : Nat) : State := upState.updCont .b fun c => { c with mode := .rejoining, mismatches := n }

theorem witness_RejoinMakesAFollower :
    (hears .b .isolated (helloIn .keystone) ∧ hears .b .seeking (helloIn .solo) ∧ hears .b .joining (helloIn .keystone) ∧ hears .a .joining (helloIn .isolated) ∧
      hears .a .keystone (helloIn .rejoining)) ∧
    (let s := (upState.upd .a fun x => { x with cont := { x.cont with mode := .joining }, boot := { x.boot with helloAt := some 0 } })
     (s.span .a).boot.helloAt.isSome = true ∧ s.requests .a = true ∧ s.grantable .a = true) ∧
    (upState.requests .b = false) ∧
    ((upState.span .a).fw.formatMin ≤ (helloIn .rejoining).formatMax ∧ (helloIn .rejoining).formatMin ≤ (upState.span .a).fw.formatMax) ∧
    ([0, 1, 2].all fun n => ((rejoining n).span .b).cont.mode == .rejoining && (rejoining n).regsCanonical) = true ∧
    takesMsg (rejoining 0) .b (.digest 1 []) (fun m => match m with | .digest n d => some (n, d) | _ => none) (1, []) ∧
    takesMsg (rejoining 0) .b (.bucket 0) (fun m => match m with | .bucket n => some n | _ => none) 0 ∧ (rejoining 0).fld .b Fld.vltStateVaultState ≠ 3 ∧
    (let s := (rejoining 0).updCont .a fun c => { c with holdOrder := true }
     takesMsg s .a (.digest 1 []) (fun m => match m with | .digest n d => some (n, d) | _ => none) (1, []) ∧ (s.span .a).cont.holdOrder = true ∧ (s.span .a).cont.csn ≠ 1 ∧
       (s.span .b).cont.mode = .rejoining ∧ (s.span .a).cont.peerLost = false) ∧
    (let s := aged 60000000000 (upState.updCont .b fun c => { c with mode := .isolated, rejoinFailedAt := some 0 })
     (s.span .b).cont.rejoinFailedAt = some 0 ∧ (s.span .b).cont.mode = .isolated ∧ (s.span .b).cont.peerLost = false ∧ 0 + 60 * sec ≤ s.elapsed) := by
  decide +kernel

/-- Equal digests reach a rejoining span. -/
theorem witness_Rejoin_digests : ∃ d, d = ((rejoining 0).span .b).digest ∧ 0 = ((rejoining 0).span .b).cont.csn ∧
    ({ rejoining 0 with deck := [(.b, .digest 0 d)] }.receive .b (fun m => match m with | .digest n d => some (n, d) | _ => none)).isSome = true :=
  ⟨_, rfl, by decide +kernel, rfl⟩

/-! ### Witnesses: the vault -/

/-- A key object of the producers with SERIAL 7, of a type and usage. -/
def object (type usage : Nat) (st : ObjState) (exp : Bool) : KeyObj := { wrapper with type := type, usage := usage, state := st, exportable := exp }

/-- `seeded` with key objects. -/
def vaulted (l : List KeyObj) : State := seeded (fun r => { r with objs := l }) []

/-- A use of the vault is admitted with its input, of an object that the caller may address. -/
def usable (s : State) (op : Nat) (vals : List (Option (List Byte))) (o : KeyObj) : Bool :=
  let r := ((s.touch mgmt).span .a).rep
  s.started mgmt op vals && s.vaultBars mgmt op == none && r.obj 7 == some o && r.ctr 7 == none && r.mayAddress mgmt o.owner &&
    (s.span .a).cont.mode != .seeking && !(s.touch mgmt).entFatal .a

/-- A public key of the P-256 type, with the private key 1. -/
def key256 : List Byte := (ecCurve 0x10).public 1

/-- A job of the vault. -/
def agreeing : VaultJob := ⟨mgmt, 0x0823, [7], 0, .agree 0x1A (zeroBytes 32) (zeroBytes 32), none⟩

/-- `seeded` with a waiting job and, if so, lane 7. -/
def working (j : VaultJob) (lane : Bool) : State :=
  ((seeded id []).upd .a fun x => { x with vault := { x.vault with jobs := [j] } }).setFld .a Fld.bneCtrlLaneEn (if lane then 0x80 else 0)

theorem ofLe_zeros (n : Nat) : ofLe (List.replicate n 0#8) = 0 := by
  induction n with
  | zero => rfl
  | succ n ih => simp [List.replicate_succ, ofLe, ih]

/-- A key of zeros is below the modulus, whatever its length. -/
theorem mlkemModulus_zeroBytes (n : Nat) : mlkemModulus (zeroBytes n) = true := by
  have h : ∀ o k, leField (zeroBytes n) o k = 0 := fun o k => by
    simp [leField, sliceBytes, zeroBytes, List.drop_replicate, List.take_replicate, List.replicate_append_replicate, ofLe_zeros]
  simp [mlkemModulus, h]

theorem witness_VaultJobsAnswerFromTheirObjects :
    (let u (o : KeyObj) := usable (vaulted [o]) 0x0821 (some (num 7) :: Scheme.ecdsa.vals ++ [some (zeroBytes 32)]) o
     u (object 0x10 1 .active false) ∧ u (object 0x10 1 .draining false) ∧ u (object 0x10 1 .suspended false) ∧ u (object 0x10 2 .active false)) ∧
    (let u (t b n op : Nat) := usable (vaulted [object t b .active false]) op [some (num 7), some (zeroBytes n)] (object t b .active false)
     u 0x1A 4 32 0x0823 ∧ u 0x1B 4 56 0x0823 ∧ u 0x30 0x10 1088 0x0825 ∧ u 0x31 0x10 1568 0x0825) ∧
    (let s := vaulted [{ object 0x10 1 .active false with owner := 2 }]
     s.vaultBars mgmt 0x0821 = none ∧ ((s.touch mgmt).span .a).rep.mayAddress mgmt 2 = false) ∧
    (Scheme.ecdsa.fits 0x10 = true ∧ Scheme.ecdsa.takes 0x10 32 = true ∧ publicForm 0x10 key256 = true ∧ publicForm 0x10 [] = false ∧
      Scheme.ecdsa.sigForm 0x10 (zeroBytes 64) = true ∧ publicForm 0x30 (zeroBytes 1184) = true ∧ mlkemModulus (zeroBytes 1184) = true ∧
      publicForm 0x31 (zeroBytes 1568) = true ∧ mlkemModulus (zeroBytes 1568) = true) ∧
    (∀ pub ∈ [key256, []], (vaulted []).started mgmt 0x0822 (keyVals 0 0x10 pub ++ Scheme.ecdsa.vals ++ [some (zeroBytes 32), some (zeroBytes 64)]) = true ∧
      ((((vaulted []).touch mgmt).span .a).rep.publicOf mgmt 0 0x10 pub 1).toOption = some (0x10, pub)) ∧ (vaulted []).vaultBars mgmt 0x0822 = none ∧
    (∀ n ∈ [0, 1184, 1568], (vaulted []).started mgmt 0x0824 [some (num 0), some (zeroBytes n)] = true ∧
      ((((vaulted []).touch mgmt).span .a).rep.publicOf mgmt 0 (if n = 1568 then 0x31 else 0x30) (zeroBytes n) 3).toOption =
        some (if n = 1568 then 0x31 else 0x30, zeroBytes n)) ∧ (vaulted []).vaultBars mgmt 0x0824 = none ∧
    (let s := working agreeing true
     s.waitingJobs .a = agreeing :: [] ∧ s.epochFits mgmt [] = true ∧ (s.span .a).lanes.length = 8 ∧ agreeing.work.commands ≠ [] ∧ s.freeLane .a = some 7 ∧
       s.entFatal .a = false ∧ (s.drawJob .a agreeing).isSome = true ∧
       ((s.drawJob .a agreeing).all fun y => (agreeing.work.commands.head?.all fun c => (y.2.laneRandom .a c).isSome)) = true) ∧
    (working agreeing false).freeLane .a = none :=
  ⟨by decide +kernel, by decide +kernel, by decide +kernel,
    ⟨by decide +kernel, by decide +kernel, by decide +kernel, by decide +kernel, by decide +kernel, by decide +kernel, mlkemModulus_zeroBytes _,
      by decide +kernel, mlkemModulus_zeroBytes _⟩,
    by decide +kernel, by decide +kernel, by decide +kernel, by decide +kernel, by decide +kernel, by decide +kernel⟩

/-- `vaulted` with a counter. -/
def counting : State := seeded (fun r => { r with ctrs := [counter] }) []

theorem witness_VaultReadsCountersAndDestructions :
    (let o := object 2 0x20 .active true
     7 ≠ unitHandle ∧ usable (vaulted [o]) 0x0826 [some (num 7)] o ∧ usable (vaulted [object 0x10 1 .active false]) 0x0826 [some (num 7)] (object 0x10 1 .active false) ∧
       usable (vaulted [o]) 0x0827 [some (num 7)] o ∧ (vaulted []).started mgmt 0x0826 [some (num unitHandle)] = true ∧
       (∀ n ∈ [1, 256], (vaulted []).started mgmt 0x0828 [some (num 0), some (num n)] = true) ∧ (vaulted []).vaultBars mgmt 0x0826 = none ∧
       (vaulted []).vaultBars mgmt 0x0828 = none) ∧
    (counting.started mgmt 0x0829 [some (num 1)] = true ∧ counting.vaultBars mgmt 0x0829 = none ∧ ((counting.touch mgmt).span .a).rep.ctr 1 = some counter ∧
      counting.started mgmt 0x082A [some (num 1), some (num 1)] = true ∧ counting.vaultBars mgmt 0x082A = none ∧
      ((counting.touch mgmt).span .a).rep.mayAddress mgmt (ownerOf 1) = true ∧
      (((counting.touch mgmt).asked .a mgmt (.ctrIncr 1 1)).any fun y => y.2.ordering .a 1 &&
        (match (y.2.ordered .a).decideIncr .a mgmt 1 1 with | .ok p => decide (p.slates.length ≤ 1) | .error _ => false)) = true) ∧
    (let s := (ruled fun r => { r with ctrs := [{ counter with handle := 2 * 2 ^ 32 + 1 }], config := r.config ++ [⟨2, 2, 2, zeroBytes 8⟩] })
     ((s.touch mgmt).span .a).rep.mayAddress mgmt (ownerOf (2 * 2 ^ 32 + 1)) = false) ∧
    (let w := object 2 0x20 .active true
     let o := { object 1 0x100 .active true with handle := 8 }
     let s := vaulted [w, o]
     usable s 0x082B [some (num 7), some (num 8)] w ∧ s.epochFits mgmt [] = true ∧ ((s.touch mgmt).span .a).rep.obj 8 = some o ∧
       ((s.touch mgmt).span .a).rep.mayAddress mgmt o.owner = true) ∧
    (let j : VaultJob := ⟨mgmt, 0x082B, [7, 8], 0, .seal (object 2 0x20 .active true) (zeroBytes 16) (zeroBytes 32), none⟩
     let s := working j false
     s.waitingJobs .a = j :: [] ∧ s.epochFits mgmt [] = true ∧ (s.drawJob .a j).isSome = true) := by decide +kernel

theorem witness_CtrIncr_current :
    (((counting.touch mgmt).waitOver .a (.cmd mgmt)).currentFor .a (.ctrIncr 1 1)) ∧
      (counting.touch mgmt).asked .a mgmt (.ctrIncr 1 1) = some ([], (counting.touch mgmt).waitOver .a (.cmd mgmt)) := by
  refine ⟨?_, rfl⟩
  unfold State.currentFor
  decide +kernel

/-- An object that a proposal is destroying. -/
def destroying : State :=
  aged 1000000000 (ruled fun r => { r with objs := [object 2 0x20 .draining true], props := [{ approved with body := .single (.keyDestroy 7) }]
                                           locks := [⟨0, 0, 1, 0, 1, 0, [], [], []⟩] })

theorem witness_DestructionEndsWithTheLastReference :
    (let k := destroying.ordered .a
     destroying.keystone = some .a ∧ destroying.ordering .a 2 = true ∧ ((k.span .a).rep.obj 7).map (·.state) = some .draining ∧ (k.span .a).refs 7 = 0 ∧
       (k.span .b).refs 7 = 0 ∧ ((k.span .a).rep.lastingProp (.keyDestroy 7)).isSome = true ∧ 0 + sec ≤ k.now .a) ∧
    (let s := destroying.upd .a fun x => { x with vault := { x.vault with jobs := [agreeing] } }
     ((s.ordered .a).span .a).refs 7 ≠ 0) := by decide +kernel

/-! ### Witnesses: contexts and the tag engine -/

/-- `ruled` with stream contexts, at a time. -/
def streaming (n : Nat) (x : Stream) : State := (aged n (ruled id)).upd .a fun y => { y with stream := x }

theorem witness_ContextsFollowTheirBanks :
    ((ruled id).started mgmt 0x0709 [some (num 4095)] = true ∧ (ruled id).vaultOpen .a = true ∧ (ruled id).bars mgmt 0x0709 [.ctx 4095] = none) ∧
    (let s := streaming 0 (with15 .draining Stream.reset)
     s.keystone = some .a ∧ s.ordering .a 2 = true ∧ (((s.ordered .a).span .a).stream.active.ctx 15).state = .draining ∧
       ((s.ordered .a).span .a).refCount 15 = 0 ∧ ((s.ordered .a).span .b).refCount 15 = 0 ∧ ((s.ordered .a).span .a).stream.active.ctx 0 = .empty) ∧
    (let b : Slot := { Slot.empty with load := .loaded, handle := 2 ^ 32 }
     let s := streaming 2000000000 { Stream.reset with active := ⟨[(15, ctx15 .active)], [(31, b)]⟩ }
     s.ordering .a 2 = true ∧ (((s.ordered .a).span .a).stream.active.slot 15 true).load = .loaded ∧
       (((s.ordered .a).span .a).stream.active.ctx 15).state.installed = true ∧ (s.ordered .a).promoteAt .a 15 < (s.ordered .a).now .a) ∧
    (State.reset.regsCanonical = true ∧ sparseWf (fun _ => CtxEntry.empty) none State.reset.a.stream.shadow.ctxs = true ∧
      sparseWf (fun _ => CtxEntry.empty) none State.reset.a.stream.active.ctxs = true ∧ sparseWf (fun _ => Slot.empty) none State.reset.a.stream.active.slots = true ∧
      sparseWf (fun _ => Slot.empty) none State.reset.a.stream.shadow.slots = true ∧ (State.reset.a.stream.active.ctx 0).state ≠ .ready ∧
      State.reset.fld .a Fld.vltStateVaultState ≠ 3 ∧ (State.reset.setFld .a Fld.vltStateVaultState 3).fld .a Fld.vltStateVaultState = 3) ∧
    (let s := streaming 0 (with15 .ready Stream.reset)
     let s := s.setReg .a Reg.steCtxBase 15
     s.regsCanonical = true ∧ (s.a.stream.active.ctx (s.selCtx .a)).state = .ready ∧ sparseWf (fun _ => StreamRec.cleared) none s.a.stream.states = true) := by
  decide +kernel

theorem witness_NoncesRiseAndAreAcceptedOnce :
    let s := streaming 0 (with15 .active Stream.reset)
    ((s.span .a).rep.config.template ((s.span .a).stream.active.ctx 15).template).isSome = true ∧
      sparseWf (fun _ => StreamRec.cleared) none (s.span .a).stream.states = true := by decide +kernel

/-! ### Witnesses: stream ports -/

/-- A state with port 1 of Span A up. -/
def portUp1 : State := (State.reset.setFld .a (Fld.clsPortnStatusLink 1) 1).setFld .a (Fld.clsPortnCfgMode 1) 1

/-- A frame of 64 bytes with its FCS. -/
def frame64 : List Byte := zeroBytes 60 ++ fcs (zeroBytes 60)

theorem witness_FramesAreAdmittedAndQueued :
    (portUp1.regsCanonical = true ∧ portUp1.portUp .a 1 = true ∧ (64 + 63) / 64 ≤ portUp1.space .a 1 ∧ frame64.length = 64 ∧ fcsValid frame64 = true ∧
      fcsValid (zeroBytes 64) = false) ∧
    (let x : Frame := ⟨[], none, 0, 32768⟩
     let s := portUp1.updPort .a 1 fun p => { p with frames := [x] }
     s.regsCanonical = true ∧ s.portUp .a 1 = true ∧ ¬ (2000 + 63) / 64 ≤ s.space .a 1) := by decide +kernel

/-- A guest on Span A that is RUNNING, with its memory in the first MiB of DRAM, which region 1 opens to it. -/
def hosted (g : Nat) (f : Guest → Guest) (s : State) : State :=
  let s := s.upd .a fun x => { x with
    rep := { x.rep with config := [worldScene g] }, worlds := { x.worlds with guests := [f ⟨g, 0, none, 0, 0, 0, false, [], [], 0⟩] } }
  let s := ((s.setFld .a (Fld.gateRegionrCfgSizeLog2 1) 20).setFld .a (Fld.gateRegionrCfgPerm 1) 7).setReg .a (Reg.gateRegionrWorldsLo 1) (BitVec.ofNat 32 (2 ^ g))
  s.setFld .a (Fld.kprGuestgStateState g) 2

theorem witness_FramesLeaveInOrder :
    (let s := portUp1.updPort .a 1 fun p => { p with frames := [⟨[], none, 0, 1⟩] }
     s.regsCanonical = true ∧ ((s.span .a).port 1).frames = ⟨[], none, 0, 1⟩ :: [] ∧ s.portUp .a 1 = true ∧ s.partnerPaused .a 1 = false) ∧
    (let s := portUp1.updPort .a 1 fun p => { p with frames := [⟨[], none, 0, 1⟩], pausedUntil := some 1 }
     s.partnerPaused .a 1 = true ∧ s.elapsed < 1 ∧ ((s.span .a).port 1).pausedUntil = some 1 ∧ 1 ≤ { s with elapsed := 1 }.elapsed) ∧
    (let s := ((portUp1.setFld .a (Fld.clsPortnStatusXoff 1) 1).setFld .a (Fld.clsPortnBufThrXon 1) 60000)
     s.regsCanonical = true ∧ s.portUp .a 1 = true ∧ s.fld .a (Fld.clsPortnStatusXoff 1) = 1 ∧ s.space .a 1 < s.fld .a (Fld.clsPortnBufThrXon 1) ∧
       s.elapsed < ((s.span .a).port 1).lastPause + 1600000 ∧ ((s.span .a).port 1).lastPause + 16000000 ≤ { s with elapsed := 16000000 }.elapsed) ∧
    (let s := hosted 1 id (portUp1.updPort .a 1 fun p => { p with txBusy := [7] })
     s.regsCanonical = true ∧ ((s.span .a).port 1).txBusy = 7 :: [] ∧ s.portUp .a 1 = true ∧ s.partnerPaused .a 1 = false ∧ ((s.span .a).port 1).inserted = false ∧
       (s.guestRead .a 1 ((s.reg .a (Reg.clsPortnPtpTxqLo 1)).toNat + 2 ^ 32 * (s.reg .a (Reg.clsPortnPtpTxqHi 1)).toNat + 256 * 7) 256).isSome = true) := by
  decide +kernel

theorem witness_LinksBuffersAndTablesFollowTheirRules :
    (State.reset.regsCanonical = true ∧ ((State.reset.span .a).port 1).retired = false ∧ portUp1.fld .a (Fld.clsPortnCfgMode 1) ≠ 4 ∧
      (portUp1.setFld .a (Fld.clsPortnStatusLink 1) 0).fld .a (Fld.clsPortnStatusLink 1) = 0 ∧ portUp1.fld .a (Fld.clsPortnStatusLink 1) = 1 ∧ portUp1.regsCanonical = true) ∧
    (let s := (State.reset.updPort .a 1 fun p => { p with trainStart := some 0, trainFailed := some 0 }).setFld .a (Fld.clsPortnCfgMode 1) 2
     s.regsCanonical = true ∧ s.fld .a (Fld.clsPortnCfgMode 1) = 2 ∧ ((s.span .a).port 1).retired = false ∧ ((s.span .a).port 1).trainStart = some 0 ∧ ((s.span .a).port 1).trainFailed = some 0 ∧ s.elapsed < 0 + 500 * ms ∧
       0 + sec ≤ { s with elapsed := 1000000000 }.elapsed) ∧
    (let s := State.reset.setFld .a (Fld.clsPortnCfgMode 1) 2
     s.regsCanonical = true ∧ s.fld .a (Fld.clsPortnCfgMode 1) = 2) ∧
    (32704 < 32705 + State.reset.rsvCells .a 0 ∧ 32704 - State.reset.rsvCells .a 1 ≤ State.reset.freePool .a) ∧
    (let s := State.reset.updPort .a 0 fun p => { p with frames := [⟨[], none, 0, 32000⟩] }
     s.rsvCells .a 1 < 30000 ∧ 30000 + s.rsvCells .a 0 ≤ 32704 ∧ s.freePool .a < 30000 - s.rsvCells .a 1) ∧
    (let s := State.reset.updPort .a 1 fun p => { p with heldRsv := some 1000 }
     ((s.span .a).port 1).heldRsv = some 1000 ∧ 1000 + s.rsvCells .a 0 ≤ 32704 ∧ s.rsvCells .a 1 < 1000 ∧ 1000 - s.rsvCells .a 1 ≤ s.freePool .a) ∧
    (let i := State.reset.fld .a Fld.clsEmIndexIndex
     let e := EmTable.get State.reset.a.cls.active i
     e.key < 2 ^ 256 ∧ e.ctx < 4096 ∧ sparseWf (fun _ => EmEntry.empty) none State.reset.a.cls.shadow = true) ∧
    (State.reset.fld .a Fld.clsCommitPending = 0 ∧ (State.reset.setFld .a Fld.clsCommitPending 1).fld .a Fld.clsCommitPending = 1) := by decide +kernel

/-! ### Witnesses: lanes -/

/-- A command of a lane: DST 0, SRCA 1, SRCB 2, SRCC 3, group 0, with flag bits of word 0 and its other words. -/
def cmd (op flags w1 w2 : Nat) : LaneCmd := ⟨op + 0x321000 + flags * 2 ^ 26, w1, w2, 0⟩

/-- The group of chapter 9's one-limb arithmetic over 2^61 - 1, as a kind; 64 is the square of RHO. -/
def group61 (kind : Nat) : Group := ⟨kind, 1, 61, 0, 0x2000000000000001, 0, 0, [2 ^ 61 - 1, 64, 3, 5, 2, 4, 1, 1], 96⟩

/-- A polynomial group. -/
def groupQ (kind : Nat) : Group := ⟨kind, 128, 23, 0, 0, 0, 0, [], 1088⟩

/-- Lane 7 of Span A, with a mode, a job of one command, and a group. -/
def laneState (m : LaneMode) (c : LaneCmd) (g : Group) (f : Lane → Lane) : State :=
  let s := State.reset.setReg .a Reg.bneCtrl 0x80
  s.upd .a fun x => { x with
    lanes := x.lanes.set 7 (f { Lane.empty with mode := m, job := [c], groups := [(0, g)], slots := [(1, 5)] }) }

/-- The command of that lane runs in its first run. -/
def laneRan (op mode : Nat) (g : Group) : Bool :=
  let c := cmd op 0 (mode * 65536) 0
  let s := laneState .runFirst c g id
  ((s.lane .a 7).mode == .runFirst) && (s.lane .a 7).staging == [] && (s.lane .a 7).vault == none && (s.lane .a 7).next == some c && c.opcode == op && sparseWf (fun _ => 0) none (s.lane .a 7).slots &&
    (s.lane .a 7).groupOf c == some g && c.groupBad g == false && (s.span .a).lanes.length == 8

/-- A job of two commands, pushed onto an idle lane. -/
def queued : List LaneCmd := [cmd 0 0 0 0, cmd 0x3A 1 0 0]

/-- The bytes of the descriptor of `group61`, in the vault RAM. -/
def descriptor : List Byte := putAt (zeroBytes 96) 0 ([1, 0, 1, 1, 61, 0, 0, 0] ++ leBytes 8 0x2000000000000001) |> (putAt · 64 (leBytes 16 (2 ^ 61 - 1) ++ leBytes 16 64))

theorem witness_LaneJobsFollowTheirLife :
    (State.reset.regsCanonical = true ∧ (State.reset.span .a).lanes.length = 8) ∧
    (let s := laneState .idle (cmd 0 0 0 0) (group61 1) id
     s.regsCanonical = true ∧ s.issueStatus .a 7 ⟨0, 0, 0, 0⟩ = .ok) ∧
    (let s := laneState .idle (cmd 0 0 0 0) (group61 1) fun l => { l with queue := [cmd 0 0 0 0] }
     s.issueStatus .a 7 ⟨0, 0, 0, 0⟩ ≠ .ok ∧ (s.lane .a 7).refusing = false ∧ (s.lane .a 7).open_ = [cmd 0 0 0 0]) ∧
    (let s := laneState .idle (cmd 0 0 0 0) (group61 1) fun l => { l with queue := queued }
     (s.lane .a 7).mode = .idle ∧ s.unitState .a 7 = 0 ∧ (s.lane .a 7).nextGuest = none ∧ s.laneRoom .a = true ∧ (s.lane .a 7).firstJob = some (queued, []) ∧
       (s.lane .a 7).cpls.length < 64 ∧ (queued.head?.all fun c => c.rand == 0 && (s.laneRandom .a c).isSome) = true) ∧
    (let c : LaneCmd := ⟨0, 2 ^ 17, 0, 0⟩
     let s := (laneState .idle (cmd 0 0 0 0) (group61 1) fun l => { l with queue := [c, cmd 0x3A 1 0 0] }).setFld .a Fld.rngStatusFatal 1
     ((s.lane .a 7).firstJob.map fun x => x.1.headD ⟨0, 0, 0, 0⟩) = some c ∧ c.rand ≠ 0 ∧ s.entFatal .a = true ∧ s.unitState .a 7 = 0 ∧ s.laneRoom .a = true) ∧
    (let s := laneState .idle (cmd 0 0 0 0) (group61 1) fun l => { l with queue := queued, cpls := List.replicate 64 ⟨0, .ok, 0, 0, false, 0, 0⟩ }
     64 ≤ (s.lane .a 7).cpls.length ∧ (s.lane .a 7).cpls ≠ [] ∧ (s.lane .a 7).mode ≠ .held) := by decide +kernel

/-- A job that validates. -/
theorem witness_LaneJobs_validate :
    ((laneState .validating (cmd 2 0 1 0x100000) (group61 1) id).laneOp .a 7 2 [.validating] (cmd 2 0 1 0x100000) ∧
      ((laneState .validating (cmd 2 0 1 0x100000) (group61 1) id).laneRead .a 7 0x100000 8).isOk = true) ∧
    ((laneState .validating (cmd 2 0 1 0x200000) (group61 1) id).laneOp .a 7 2 [.validating] (cmd 2 0 1 0x200000) ∧
      ((laneState .validating (cmd 2 0 1 0x200000) (group61 1) id).laneRead .a 7 0x200000 8).isOk = false ∧
      (laneState .validating (cmd 2 0 1 0x200000) (group61 1) id).onlyReports .a 0x440) ∧
    ((laneState .validating (cmd 0 0 0 0) (group61 1) id).laneAt .a 7 0 [.validating] (cmd 0 0 0 0) ∧ (cmd 0 0 0 0).close = false) ∧
    (let s := (laneState .validating (cmd 4 0 0 0x100000) (group61 1) id).updWorlds .a fun w => { w with mem := w.mem.setBytes 0x100000 descriptor }
     s.laneOp .a 7 4 [.validating] (cmd 4 0 0 0x100000) ∧ (s.laneRead .a 7 0x100000 64).toOption = some (descriptor.take 64) ∧ 64 ≤ descriptor.length ∧
       (s.laneRead .a 7 0x100000 (descriptorBytes (descriptor.take 64))).toOption = some descriptor ∧
       (parseGroup descriptor).isOk = true ∧
       (((s.lane .a 7).groups.filter fun x => x.1 ≠ 0).map fun x => x.2.bytes).sum + descriptorBytes (descriptor.take 64) ≤ 5120) ∧
    (let c := cmd 1 0 0x400 0
     c.close = false ∧ (laneState .validating c (group61 1) id).laneAt .a 7 1 [.validating] c ∧ c.groupBad (group61 1) = false ∧
       firstFail (group61 1) 4 0 ≠ .ok ∧ firstFail (group61 1) 0 5 = .ok ∧ ((laneState .validating c (group61 1) id).lane .a 7).lateStatus = .ok ∧
       ((laneState .validating c (group61 1) id).lane .a 7).groupOf c = some (group61 1) ∧
       ((laneState .validating c (group61 1) fun l => { l with groups := [] }).lane .a 7).lateStatus ≠ .ok ∧
       ((laneState .validating (cmd 1 0 0 0) (group61 1) fun l => { l with groups := [] }).lane .a 7).lateStatus = .ok) := by
  refine ⟨?_, ?_, ?_, ?_, ?_⟩
  · unfold State.laneOp State.laneAt; decide +kernel
  · unfold State.laneOp State.laneAt State.onlyReports; decide +kernel
  · unfold State.laneAt; decide +kernel
  · unfold State.laneOp State.laneAt; decide +kernel
  · unfold State.laneAt; decide +kernel

/-- A mark, a return and a comparison in a run. -/
theorem witness_LaneJobs_runs :
    (∀ op ∈ [0x3A, 0x3B, 0x3C], (laneState .runFirst (cmd op 0 1 0) (group61 1) fun l => { l with reject := true }).laneOp .a 7 op [.runFirst, .runSecond]
      (cmd op 0 1 0)) ∧
    (let s := laneState .runFirst (cmd 0x3B 0 1 0) (group61 1) fun l => { l with reject := true, loops := [(0, 1)] }
     (s.lane .a 7).reject = true ∧ 1 ≤ sparseGet 0 0 (s.lane .a 7).loops) := by
  unfold State.laneOp State.laneAt; decide +kernel

/-- A STORE of slot 1 to the vault RAM, or to where nothing is, that closes its job. -/
def storing (m : LaneMode) (addr : Nat) : State := laneState m (cmd 3 1 1 addr) (group61 1) id

theorem witness_LaneJobsReleaseAllOrNothing :
    (∀ m ∈ [LaneMode.runFirst, .runSecond], ∀ a ∈ [0x100000, 0x200000], (storing m a).laneAt .a 7 3 [.runFirst, .runSecond] (cmd 3 1 1 a) ∧
      (storing m a).regsCanonical = true ∧ ((storing m a).span .a).lanes.length = 8 ∧ (cmd 3 1 1 a).close = true ∧ ((storing m a).lane .a 7).repeats = false) ∧
    ((storing .runFirst 0x100000).mayRelease .a 7 [⟨0x100000, 1, 5⟩] ∧ ¬ (storing .runFirst 0x200000).mayRelease .a 7 [⟨0x200000, 1, 5⟩] ∧
      (storing .runFirst 0x200000).onlyReports .a 0x440) ∧
    (LaneMode.running .runFirst = true ∧ LaneMode.running .idle = false) ∧
    (let s := laneState .comparing (cmd 3 1 1 0x100000) (group61 1) fun l => { l with staging := [⟨0x100000, 1, 5⟩], compared := 1, equal := true }
     (s.lane .a 7).vault = none ∧ (s.lane .a 7).compared = (s.lane .a 7).staging.length ∧ s.mayRelease .a 7 (s.lane .a 7).staging) ∧
    (laneState .comparing (cmd 3 1 1 0x100000) (group61 1) fun l => { l with equal := false }).regsCanonical = true ∧
    (∀ st ∈ [Status.ok, .jobCancelled, .arithGuard, .faultMismatch], ∀ e ∈ [false, true],
      let s := laneState .wiping (cmd 0 0 0 0) (group61 1) fun l => { l with endStatus := st, memErr := e }
      (s.lane .a 7).mode = .wiping ∧ (s.lane .a 7).vault = none ∧ (s.lane .a 7).job ≠ [] ∧ (s.lane .a 7).nextGuest = none) ∧
    (let j : VaultJob := ⟨mgmt, 0x0825, [7], 0, .decap 0x30 [] [], none⟩
     let s := laneState .wiping (cmd 0 0 0 0) (group61 1) fun l => { l with endStatus := .ok, vault := some j }
     (s.lane .a 7).mode = .wiping ∧ (s.lane .a 7).vault = some j ∧ (s.lane .a 7).nextGuest = none ∧ j.answer.isOk = true) := by
  unfold State.laneAt State.mayRelease State.onlyReports; decide +kernel

/-- The modular commands run over 2^61 - 1, with 5 as their first source and 0 as their second. -/
theorem witness_ModularCommandsAreExact :
    ((group61 1).p % 2 = 1 ∧ 1 < (group61 1).p ∧ (group61 1).p < 2 ^ 64 ∧ ((group61 1).p * (group61 1).pInv + 1) % 2 ^ 64 = 0 ∧
      (group61 1).rho2 = 2 ^ 128 % (group61 1).p) ∧
    (∀ op ∈ [0x10, 0x11, 0x12, 0x13, 0x14, 0x15, 0x16, 0x17, 0x18, 0x19, 0x1A, 0x1B], laneRan op 0 (group61 1) = true) ∧
    (let l := (laneState .runFirst (cmd 0x12 0 0 0) (group61 1) id).lane .a 7
     limbs (l.slot 1) 0 2 = 5 ∧ 5 < 4 * (group61 1).p ∧ limbs (l.slot 2) 0 2 < 4 * (group61 1).p ∧ Nat.gcd 5 (group61 1).p = 1 ∧
       Nat.gcd (limbs (l.slot 2) 0 2) (group61 1).p ≠ 1) ∧
    4 * 2 ^ 64 ≤ limbs (((laneState .runFirst (cmd 0x12 0 0 0) (group61 1) fun l => { l with slots := [(1, 2 ^ 66)] }).lane .a 7).slot 1) 0 2 := by
  decide +kernel

theorem witness_CurveAndPolynomialCommands :
    (laneRan 0x20 0 (group61 3) = true ∧ laneRan 0x21 0 (group61 3) = true ∧ laneRan 0x22 0 (group61 4) = true ∧ laneRan 0x23 0 (group61 5) = true ∧
      (∀ i, 2 ≤ i → i ≤ 5 → (group61 3).arrays.getD i 0 < (group61 3).p)) ∧
    (∀ kind ∈ [6, 7], ∀ op ∈ [0x30, 0x31, 0x32, 0x33, 0x34, 0x36, 0x37, 0x38, 0x39], laneRan op 0 (groupQ kind) = true) ∧
    ((cmd 0x32 6 0 0).chainStart = true ∧ (cmd 0x32 6 0 0).chainEnd = true ∧ (cmd 0x32 6 0 0).stream = false) ∧
    (laneRan 0x35 0 (groupQ 6) = true ∧ (pround (groupQ 6) 0 0 5 0).isOk = true ∧ laneRan 0x35 0x46 (groupQ 7) = true) ∧
    ((∀ v ∈ coeffs 5, v < (groupQ 7).q) ∧ ¬ ∀ v ∈ coeffs 3329, v < (groupQ 7).q) := by
  refine ⟨⟨by decide +kernel, by decide +kernel, by decide +kernel, by decide +kernel, ?_⟩, by decide +kernel⟩
  intro i h1 h2
  have : i = 2 ∨ i = 3 ∨ i = 4 ∨ i = 5 := by omega
  rcases this with rfl | rfl | rfl | rfl <;> decide +kernel

/-! ### Witnesses: entropy -/

/-- A raw block whose bits alternate, and one of zero bits. -/
def altBlock : List Byte := List.replicate 128 0x55

/-- The entropy unit of Span A with source 3 running and instances seeded. -/
def noisy (f : Entropy → Entropy) : State :=
  let d : Drbg := ⟨true, zeroBytes 32, zeroBytes 32, 0, 0⟩
  (upA fun x => { x with entropy := f { x.entropy with s3 := { x.entropy.s3 with running := true }, d0 := d, d1 := d, d2 := d } }).setFld .a Fld.rngCtrlEnable 1

theorem witness_EntropyFollowsItsRules :
    (let s := noisy id
     s.regsCanonical = true ∧ (s.a.entropy.src 3).running = true ∧ (s.a.entropy.src 3).startup = false ∧ altBlock.length = 128 ∧
       (rctRun (rawBits altBlock) (s.a.entropy.src 3).lastBit (s.a.entropy.src 3).run false).2.2 = false ∧ aptFails (rawBits altBlock) = false ∧
       (rctRun (rawBits (zeroBytes 128)) (s.a.entropy.src 3).lastBit (s.a.entropy.src 3).run false).2.2 = true ∧ s.a.entropy.rushes = none ∧
       s.a.entropy.pool.length < 16 ∧ s.a.cont.deferred = [] ∧ s.a.vault.waits = [] ∧ s.a.entropy.d0.seeded = true ∧ s.a.entropy.d1.seeded = true ∧ s.a.entropy.d2.seeded = true ∧
       s.entFatal .a = false ∧ s.fld .a Fld.rngCtrlEnable ≠ 0 ∧ s.a.entropy.pool = []) ∧
    16 ≤ (noisy fun e => { e with pool := List.replicate 16 [] }).a.entropy.pool.length ∧
    (let s := noisy fun e => { e with s3 := { e.s3 with fails := [0, 0] } }
     2 ≤ ((s.a.entropy.src 3).fails.filter fun t => decide (s.now .a < t + 600 * sec)).length) ∧
    (let s := noisy fun e => { e with s3 := { e.s3 with startup := true } }
     (s.a.entropy.src 3).running = true ∧ (s.a.entropy.src 3).startup = true) ∧
    (let s := (noisy id).setFld .a Fld.rngStatusFatal 1
     s.entFatal .a = true ∧ (∀ n ∈ [0, 1, 8192, 8193], s.started mgmt 0x0A10 [some (num n)] = true) ∧ s.bars mgmt 0x0A10 [] = none) ∧
    (let s := noisy fun e => { e with d2 := { e.d2 with reqs := 65535 } }
     (s.a.entropy.drbg 2).reqs < 65536 ∧ s.elapsed < (s.a.entropy.drbg 2).reseeded + sec ∧ (∀ n ∈ [0, 1, 8192, 8193], s.started mgmt 0x0A10 [some (num n)] = true) ∧ s.bars mgmt 0x0A10 [] = none) ∧
    65536 ≤ ((noisy fun e => { e with d2 := { e.d2 with reqs := 65536 } }).a.entropy.drbg 2).reqs ∧
    (noisy fun e => { e with rushes := some ⟨0, 0, false, [], 0⟩ }).a.entropy.rushes = some ⟨0, 0, false, [], 0⟩ := by decide +kernel

/-! ### Witnesses: tamper -/

/-- `upState` armed, with source 12 counting in a window and a threshold of one. -/
def guarded (f : Tamper → Tamper) : State :=
  let t := (ruled id).hub.tamper
  let s := { ruled id with hub := { (ruled id).hub with tamper := f (t.setFilter { t.filter 12 with entry := (1, 1, 16) }) } }
  (((s.setFld .a Fld.tmpStatusArmed 1).setFld .a (Fld.tmpSrcnFilterThreshold 12) 1).setFld .a (Fld.tmpSrcnFilterMode 12) 1).setFld .a (Fld.tmpSrcnFilterWindowMs 12) 16

/-- A test of source 12 that runs. -/
def tested : TmpTest := ⟨12, mgmt, 0, 0⟩

theorem witness_TamperEventsFireAndAreTestedAndAcknowledged :
    (let s := guarded id
     s.regsCanonical = true ∧ s.watched 12 = true ∧ s.watched 13 = false ∧ s.hub.tamper.test = none ∧ 12 ∈ countingSources ∧ 0 < s.bucketWidth 12 ∧
       s.elapsed < (s.hub.tamper.filter 12).started + s.bucketWidth 12 ∧
       (s.hub.tamper.filter 12).started + s.bucketWidth 12 ≤ { s with elapsed := 1000000 }.elapsed) ∧
    (let s := guarded id
     s.lineRuns mgmt ∧ s.started mgmt 0x0901 [] = true ∧ s.bars mgmt 0x0901 [] = none ∧ (s.touch mgmt).tamperMay mgmt = true ∧
       (∀ y ∈ s.hub.tamper.tests, y.2 + 1 * sec ≤ s.elapsed) ∧ (s.span .a).rep.log.roomOutsideReserve = true ∧ (s.span .a).rep.log.mode = .normal ∧
       s.started mgmt 0x0902 [] = true ∧ s.bars mgmt 0x0902 [] = none) ∧
    (let s := upState
     s.started mgmt 0x0901 [] = true ∧ s.bars mgmt 0x0901 [] = none ∧ (s.touch mgmt).tamperMay mgmt = false ∧ s.started mgmt 0x0902 [] = true ∧
       s.bars mgmt 0x0902 [] = none) ∧
    (guarded fun t => { t with test := some tested }).hub.tamper.test = some tested := by
  refine ⟨by decide +kernel, ⟨(by intro h; cases h), by decide +kernel⟩, by decide +kernel, rfl⟩

/-- `upState` with every trim word of Span A at 100, and a gain. -/
def trimmed : State :=
  upA fun x => { x with fuses := { x.fuses with words := (List.range 32).map fun i => ⟨96 + i, 100, 100, 100⟩ }, nvs := { x.nvs with calib := [(2, 5)] } }

theorem trimmed_trim (k : Nat) : trimmed.a.fuses.trim k = some 100 := by
  have h : ∀ i, i < 32 → trimmed.a.fuses.word (96 + i) = ⟨96 + i, 100, 100, 100⟩ := by decide +kernel
  simp [Fuses.trim, h (Config.trimWord k % 32) (Nat.mod_lt _ (by decide)), FuseWord.clean]

theorem witness_SensorsYieldEvents :
    (upState.regsCanonical = true ∧ upState.powered = true ∧ upState.tempTrims 0 = none ∧ upState.supplyTrimmed 2 = false ∧
      (upState.hub.tamper.filter 0x10).lastEvent = none) ∧
    (trimmed.regsCanonical = true ∧ trimmed.powered = true ∧ trimmed.tempTrims 0 = some (100, 5)) ∧
    ({ upState with hub := { upState.hub with power := { upState.hub.power with converter := false } } }.powered = false) ∧
    (let s := guarded fun t => t.setFilter { t.filter 0x12 with lastEvent := some 0 }
     (s.hub.tamper.filter 0x12).lastEvent = some 0 ∧ s.elapsed < 0 + 1 * sec) ∧
    (∀ i, [99, 99, 99].getD i 0 * 1024 / 1000 < 2 ^ 21) ∧
    (upState.powered = true ∧ upState.fld .a (Fld.tmpSrcnFilterMode 7) = 0 ∧ (upState.setFld .a (Fld.tmpSrcnFilterMode 7) 2).fld .a (Fld.tmpSrcnFilterMode 7) = 2) ∧
    (upState.hub.power.converter = true) := by
  refine ⟨by decide +kernel, ⟨by decide +kernel, by decide +kernel, ?_⟩, rfl, by decide +kernel, ?_, by decide +kernel, rfl⟩
  · simp only [State.tempTrims, if_true, State.span, trimmed_trim]
    decide +kernel
  · intro i
    match i with
    | 0 | 1 | 2 => decide
    | n + 3 => simp

/-! ### Witnesses: host ports -/

/-- A queue pair of 16 entries, enabled, with one descriptor to fetch. -/
def pair255 : QueuePair := { QueuePair.reset 255 with enabled := true, sqTail := 1 }

/-- A descriptor of the PF in that pair, in a stage. -/
def flying (st : CmdStage) (i : List Byte) : InFlight := ⟨255, 0, 0, 3, 0x0634, 0, false, 0, 0, i.length, 0, 0, 4096, some i, st, 0, false, false, false⟩

/-- The PF as its driver sets it: it masters the bus, its BAR0 answers, and its vectors 0 and 1 are set up, vector 1 masked. -/
def mastering : FnState :=
  { FnState.reset 0 with busMaster := true, memSpace := true, msixEnable := true, vectors := [(0, ⟨0x1000, 5, false⟩), (1, ⟨0x1000, 6, true⟩)] }

/-- `upState` with that pair, and descriptors in flight. -/
def ported (l : List InFlight) : State :=
  ((upA fun x => { x with host := { x.host with queues := [pair255], fns := [mastering], inflight := l, linkUp := true } }).setFld .a Fld.hostCtrlFetchEn 1
    |>.setReg .a (Reg.hostFnnQueues 0) (BitVec.ofNat 32 (2 ^ 24))).setFld .a (Fld.hostFnnCreditsCap 0) 32768

theorem witness_DoorbellsFetchAndStartDescriptors :
    (let s := ported []
     s.regsCanonical = true ∧ s.localQueue .a 0 255 = some 255 ∧ (s.a.host.queue 255).enabled = true ∧ (s.a.host.queue 255).draining = false ∧
       15 < (s.a.host.queue 255).size ∧ (s.a.host.queue 255).size ≤ 16 ∧ (s.a.host.queue 254).enabled = false ∧ s.localQueue .a 0 254 = some 254 ∧
       s.fnOfQueue .a 255 = some 0 ∧ s.mayFetch .a 255 0 = true ∧ s.nextFetch .a = some 255 ∧ s.fnOfQueue .a 254 = some 0 ∧ s.mayFetch .a 254 0 = false) ∧
    (let s := hosted 1 (fun x => { x with queues := [{ QueuePair.reset 3 with enabled := true, sqTail := 1 }] }) upState |>.setFld .a (Fld.kprGuestgInflightCap 1) 16
     s.regsCanonical = true ∧ ((s.guest .a 1).map fun x => s.mayFetchGuest .a 1 x (x.queue 3) && (x.queue 3).n == 3) = some true ∧
       s.guestRead .a 1 0 64 = some (zeroBytes 64) ∧ leField (zeroBytes 64) 0x14 4 ≤ inLenMax ∧ s.guestRead .a 1 0 0 ≠ none) ∧
    (let d := flying .fetched []
     let s := ported [d]
     (s.a.host.inflight.find? fun x => x.queue == 255 && x.slot == 0 && x.stage == .fetched) = some d ∧ before s.a.host.inflight d = [] ∧
       s.startRefusal .a false { d with stage := .started } = none ∧ s.startRefusal .a false { flying .fetched [1] with stage := .started } ≠ none ∧
       (s.a.host.fnState 0).busMaster = true ∧ (s.a.host.fnState 0).d0 = true) ∧
    (let d := { flying .fetched [] with slot := 1 }
     let s := ported [flying .fetched [], d]
     (s.a.host.inflight.find? fun x => x.queue == 255 && x.slot == 1 && x.stage == .fetched) = some d ∧ before s.a.host.inflight d = [flying .fetched []]) := by
  decide +kernel

theorem witness_QueuesDrainAndFunctionsReset :
    (let s := ported [flying .deferred []]
     ((s.inflightOf .a none).find? fun x => x.queue == 255 && x.slot == 0 && x.stage == .deferred) = some (flying .deferred []) ∧
       0 + s.deferLimit .a none ≤ { s with elapsed := s.deferLimit .a none }.elapsed ∧ s.elapsed < 0 + (s.setFld .a Fld.hostDeferDeferMs 1).deferLimit .a none) ∧
    (∀ v ∈ [0, 1], let s := (ported []).upd .a fun x => { x with host := { x.host with queues := [{ pair255 with unsignalled := 1, aggTime := 1, vector := v }] } }
     let f := s.a.host.fnState 0
     (s.fnOfQueue .a 255).getD 0 = 0 ∧ v < vectorCount 0 ∧ f.msixEnable = true ∧ f.fnMask = false ∧ (f.vector v).masked = (v == 1) ∧ f.busMaster = true ∧
       f.d0 = true ∧ 0 < (s.a.host.queue 255).unsignalled ∧ 0 + 1 * us ≤ { s with elapsed := 1000 }.elapsed) ∧
    (let s := upA fun x => { x with host := { x.host with queues := [{ pair255 with unsignalled := 1, aggTime := 1 }] } }
     0 < (s.a.host.queue 255).unsignalled ∧ (s.a.host.queue 255).aggTime ≠ 0 ∧ s.elapsed < (s.a.host.queue 255).oldest + 1 * us) ∧
    ([CmdStage.fetched, .deferred, .lane, .started, .sent].all fun st =>
      ((ported [flying st []]).a.host.inflight.filter fun d => d.queue == 255 && d.cid == 3) == [flying st []]) = true ∧
    ((ported []).a.host.inflight.filter fun d => d.queue == 255 && d.cid == 3) = [] ∧
    (let s := (ported []).setFld .a Fld.hostQSelQueue 255
     s.selected .a 0 = some 255 ∧ (s.a.host.fnState 0).flr = false ∧ (s.a.host.queue 255).enabled = true) ∧
    ((ported []).selected .a 0 = some 0 ∧ ((ported []).a.host.queue 0).enabled = false ∧ ((ported []).a.host.queue 0).draining = false) ∧
    ((ported []).a.host.vfEnable = false ∧ (∀ q, q < 256 → (upState.a.host.queue q).enabled = false) ∧
      (∀ m, m < 33 → m ≠ 0 → ¬ ((upState.fnQueues .a m).1 < 0 + 64 ∧ 0 < (upState.fnQueues .a m).1 + (upState.fnQueues .a m).2)) ∧
      (ported []).a.host.exists_ 0 = true ∧ (0 : Word32).getLsbD 2 = false) := by decide +kernel

/-! ### Witnesses: worlds -/

/-- Core 5 of Span A in a hypercall of its guest: the function in g1, its arguments at the window of the call. -/
def calling (g n : Nat) (args : List Nat) (f : Guest → Guest) : State :=
  (hosted g f upState).updCore (.span .a 5) fun x =>
    { x with guest := some g, wid := g, h := { x.h with cause := 3 }
             v := { x.v with globals := [(1, BitVec.ofNat 64 n)], phys := ((args.zipIdx.filter fun a => a.1 ≠ 0).map fun a => (a.2, BitVec.ofNat 64 a.1)) } }

/-- A guest's hypercall is being served. -/
def served (n : Nat) (args : List Nat) : Bool :=
  let s := calling 1 n args id
  s.inCall .a 5 n == some 1 && (s.guest .a 1).isSome && s.regsCanonical && s.a.worlds.cores.length == 6 && (args.zipIdx.all fun a => s.callArg .a 5 a.2 == a.1)

theorem witness_TakesFollowTheirCycle :
    (let s := (hosted 1 id upState).setFld .a Fld.kprStatusKeeperUp 1
     s.a.worlds.cores.length = 6 ∧ s.fld .a Fld.kprStatusKeeperUp ≠ 0 ∧ s.slotNow .a 5 = some (1, 0, 104000) ∧ (s.core (.span .a 5)).take ≠ some (0, 104000) ∧
       s.fld .a (Fld.kprGuestgStateState 1) = 2) ∧
    (let s := ((hosted 1 id upState).setFld .a (Fld.kprGuestgStateState 1) 1).updCore (.span .a 5) fun x => { x with take := some (0, 104000) }
     s.slotNow .a 5 = some (1, 0, 104000) ∧ (s.core (.span .a 5)).take = some (0, 104000) ∧ s.fld .a (Fld.kprGuestgStateState 1) ≠ 2) ∧
    (aged 104000 (hosted 1 id upState)).slotNow .a 5 = none := by decide +kernel

/-- The bytes of a completion at an address may be written. -/
def writableAt (s : State) (g ipa : Nat) : Bool :=
  (List.range 16).all fun i => match s.translate .a g (ipa + i) .write with | some pa => s.memAllows .a g pa .write | none => false

theorem writableAt_write (s : State) (g ipa : Nat) (h : writableAt s g ipa = true) : ∀ b : List Byte, b.length = 16 → s.guestWrite .a g ipa b ≠ none := by
  intro b hb
  unfold writableAt at h
  simp only [State.guestWrite, hb]
  split
  · exact Option.some_ne_none _
  · rename_i hn
    exact absurd h hn

/-- A call of guest 1 that is fetched, which it cancels. -/
def cancelling : State := calling 1 7 [3, 3] fun x => { x with inflight := [{ flying .fetched [] with queue := 3 }] }

theorem witness_Hypercalls_cancel : ∃ y, cancelling.inCall .a 5 7 = some 1 ∧ cancelling.guest .a 1 = some y ∧
    ∀ b : List Byte, b.length = 16 → cancelling.guestWrite .a 1 ((y.queue 3).cqBase + 16 * (y.queue 3).cqTail) b ≠ none := by
  obtain ⟨y, hy⟩ := ex_some (d := cancelling.guest .a 1) (by decide +kernel)
  have h : ((cancelling.guest .a 1).any fun y => writableAt cancelling 1 ((y.queue 3).cqBase + 16 * (y.queue 3).cqTail)) = true := by decide +kernel
  rw [hy] at h
  exact ⟨y, by decide +kernel, hy, writableAt_write _ _ _ h⟩

theorem witness_HypercallsAnswerTheirGuest :
    (let x := (calling 1 1 [] id).core (.span .a 5)
     x.v.level = 2 ∧ sparseWf (fun _ => 0) none x.v.globals = true ∧ sparseWf (fun _ => 0) none x.v.phys = true ∧ x.v.newWcwp = none ∧ x.v.newWrb = none ∧
       x.v.newWres = none ∧ x.v.newWown = none ∧ (x.v.wcwp + 96 - x.h.cwp.toNat % 96) % 96 + 16 ≤ x.v.wres) ∧
    (served 1 [] ∧ served 2 [] ∧ served 3 [5] ∧ served 4 [1, 47] ∧ served 4 [3, 48] ∧ served 5 [] ∧ served 6 [3, 0, 4096, 4, 0, 1] ∧ served 6 [4, 0, 0, 4] ∧
      served 6 [0, 1048576, 0, 4, 0, 1] ∧ served 7 [3, 65535] ∧ served 8 [7, 3, 1] ∧ served 8 [10, 1, 1] ∧ served 8 [9, 2, 10000] ∧ served 9 []) ∧
    (let s := calling 1 3 [] fun x => { x with timer := some (2 ^ 63) }
     (s.guest .a 1).map (·.timer) = some (some (2 ^ 63)) ∧ tai64 (s.now .a) ≤ 2 ^ 63) ∧
    (let s := cancelling
     (s.guest .a 1).map (fun y => y.inflight.filter fun d => d.queue == 3 && d.cid == 3) = some [{ flying .fetched [] with queue := 3 }]) ∧
    (let s := calling 2 8 [7, 3, 1] id
     s.inCall .a 5 8 = some 2 ∧ s.laneGuest .a 7 ≠ 2) ∧
    (let s := calling 1 8 [7, 3, 1] id
     s.unitState .a 7 = 0 ∧ s.unitIdle .a 7 = true ∧ (∀ r ∈ s.a.worlds.requests, r.unit ≠ 7)) ∧
    (let s := (calling 1 8 [7, 3, 1] id).upd .a fun x => { x with lanes := x.lanes.set 7 { Lane.empty with mode := .runFirst } }
     s.unitIdle .a 7 = false) ∧
    (let r : UnitReq := ⟨1, 5, 7, 2, 1⟩
     let s := upA fun x => { x with worlds := { x.worlds with requests := [r], restoring := [(7, 0)] } }
     (s.a.worlds.requests.find? fun r => r.unit == 7) = some r ∧ s.unitIdle .a 7 = true ∧ (s.a.worlds.requests.find? fun r => r.guest == 1 && r.core == 5) = some r ∧
       s.elapsed < r.deadline ∧ r.deadline ≤ { s with elapsed := 1 }.elapsed ∧ (s.a.worlds.restoring.find? fun y => y.1 == 7) = some (7, 0) ∧
       s.elapsed < 0 + 200 * us ∧ s.a.lanes.length = 8) := by decide +kernel

/-- An access that is not refused. -/
theorem ex_reach {d : Except Abort Nat} (h : (match d with | .ok _ => true | .error _ => false) = true) : ∃ pa, d = .ok pa := by
  cases d with
  | ok p => exact ⟨p, rfl⟩
  | error e => cases h

/-- Core 5 runs guest 33, to which the window of `KPR_VC_DB` is open. -/
def ringing : State :=
  (((hosted 33 (fun x => { x with queues := [{ QueuePair.reset 3 with enabled := true, sqTail := 1 }] }) upState).setReg .a (Reg.gateSlotsWrHi 31) 2).setReg .a
    (Reg.gateSlotsWrHi 32) 2).updCore (.span .a 5) fun x => { x with wid := 33, v := { x.v with level := 0 } }

theorem witness_WatchdogsImagesAndGatesFollowTheirRules :
    ((∃ pa, ringing.reachMem (.span .a 5) .write (windowBase + Reg.kprVcDb) 4 = .ok pa) ∧
      (∃ pa, upState.reachMem (.span .a 1) .write (windowBase + Reg.kprSwdtKick) 4 = .ok pa)) ∧
    (ringing.regsCanonical = true ∧ ringing.worldOn (.span .a 5) = 33 ∧ (ringing.guest .a 33).isSome = true ∧
      ((ringing.guest .a 33).map fun x => (x.queue 3).enabled && !(x.queue 3).draining && decide ((x.queue 3).size = 16)) = some true) ∧
    (let s := (upState.setFld .a Fld.kprStatusSwdtArmed 3)
     (s.reg .a Reg.kprStatus).getLsbD 2 = true ∧ s.elapsed < s.a.worlds.kick1 + 1000 * ms ∧
       s.a.worlds.kick1 + 1000 * ms ≤ { s with elapsed := 1000000000 }.elapsed) ∧
    (let s := ringing
     0 < s.guestWdt .a 33 ∧ s.wdtNow .a 33 < 0 + s.guestWdt .a 33 / 2 ∧ 0 + s.guestWdt .a 33 ≤ { s with elapsed := 1000000000 }.wdtNow .a 33) ∧
    (let s := ringing.setFld .a (Fld.kprGuestgStateState 33) 1
     s.regsCanonical = true ∧ s.fld .a (Fld.kprGuestgStateState 33) = 1 ∧ ((s.span .a).rep.config.scene 8 33).isSome = true) ∧
    (upState.worldOn (.span .a 1) = 0 ∧ upState.worldOn (.span .a 5) = 0x3C ∧ sparseWf (fun _ => (0 : Word32)) none upState.a.worlds.gateShadow = true) := by
  refine ⟨⟨ex_reach (by decide +kernel), ex_reach (by decide +kernel)⟩, by decide +kernel⟩

/-- A guest may not write the kick of the secure watchdogs. -/
theorem witness_KickRefused : ∃ a, (ringing.setReg .a (Reg.gateSlotsWrHi 31) 0).reachMem (.span .a 5) .write (windowBase + Reg.kprSwdtKick) 4 = .error a := by
  cases h : (ringing.setReg .a (Reg.gateSlotsWrHi 31) 0).reachMem (.span .a 5) .write (windowBase + Reg.kprSwdtKick) 4 with
  | error a => exact ⟨a, rfl⟩
  | ok pa =>
    have : (match (ringing.setReg .a (Reg.gateSlotsWrHi 31) 0).reachMem (.span .a 5) .write (windowBase + Reg.kprSwdtKick) 4 with
      | .ok _ => true | .error _ => false) = false := by decide +kernel
    rw [h] at this
    cases this

/-! ### Witnesses: Pier cores -/

/-- A core of Span A in `upState` after a change; core 0 is the secure world's, core 5 the Keeper's. -/
def coreState (c : Nat) (f : PierCore → PierCore) : State := upState.updCore (.span .a c) f

/-- The core executes what it is given. -/
def goes (s : State) (c : Nat) : Bool :=
  let i : CoreId := .span .a c
  s.canRun i && s.a.worlds.cores.length == 6 && s.b.worlds.cores.length == 6 &&
    (match s.reachMem i .fetch (s.core i).v.pc.toNat 4 with | .ok _ => true | .error _ => false)

theorem goes_runs (s : State) (c : Nat) (h : goes s c = true) : s.runs (.span .a c) := by
  simp only [goes, Bool.and_eq_true, beq_iff_eq] at h
  exact ⟨h.1.1.1, h.1.1.2, h.1.2, ex_reach h.2⟩

/-- Core 5 of Span A runs a guest at a level: at user and kernel level from its memory, at hypervisor level the Keeper. -/
def guestCore (level : Nat) (f : PierCore → PierCore) : State :=
  (hosted 1 id upState).updCore (.span .a 5) fun x =>
    f { x with guest := some 1, wid := 1, v := { x.v with level := level, pc := if level = 2 then 0x42000000 else 0, globals := [(1, 1)] } }

theorem witness_PierComputesExactResults : upState.runs (.span .a 0) ∧ (guestCore 0 id).runs (.span .a 5) ∧ (guestCore 1 id).runs (.span .a 5) ∧
    (guestCore 2 id).runs (.span .a 5) :=
  ⟨goes_runs _ _ (by decide +kernel), goes_runs _ _ (by decide +kernel), goes_runs _ _ (by decide +kernel), goes_runs _ _ (by decide +kernel)⟩

/-- Operands of the bit instructions: zero, the highest bit, and the fields that end at bit 63 and beyond it. -/
theorem witness_PierBitInstructionsFollowTheirRules : upState.runs (.span .a 0) ∧ (0 : BitVec 5).toNat < 25 ∧
    (0 : BitVec 6).toNat + ((63 : BitVec 6).toNat + 1) ≤ 64 ∧ 64 < (1 : BitVec 6).toNat + ((63 : BitVec 6).toNat + 1) :=
  ⟨goes_runs _ _ (by decide +kernel), by decide⟩

/-- Core 0 with an address in w0: the vault RAM, a control register, an odd address, and one where nothing is. -/
def pointing (a : Word64) : State := coreState 0 fun x => x.setReg 8 a

theorem witness_PierLoadsAndStoresReachTheirBytes :
    (∀ a ∈ [(0x100000 : Word64), 0xF0160000, 0x100001, 0x200000], (pointing a).runs (.span .a 0)) ∧
    (let s := pointing 0x100000
     s.memCanonical = true ∧ ((s.core (.span .a 0)).reg 8).toNat = 0x100000 ∧ (s.reachMem (.span .a 0) .read 0x100000 8).toOption = some 0x100000 ∧
       (s.reachMem (.span .a 0) .write 0x100000 8).toOption = some 0x100000 ∧ place 0x100000 = .vaultRam) ∧
    (((State.reachMem ((pointing 0xF0160000).setReg .a (Reg.gateSlotsWrLo 31) 1) (.span .a 0) .write (windowBase + Reg.kprSwdtKick) 4).toOption =
        some (windowBase + Reg.kprSwdtKick)) ∧ place (windowBase + Reg.kprSwdtKick) = .regs Reg.kprSwdtKick) ∧
    (0x100001 % 2 ≠ 0 ∧ ((pointing 0x200000).reachMem (.span .a 0) .read 0x200000 8).isOk = false) := by
  refine ⟨?_, by decide +kernel⟩
  intro a ha
  simp only [List.mem_cons, List.not_mem_nil, or_false] at ha
  rcases ha with rfl | rfl | rfl | rfl <;> exact goes_runs _ _ (by decide +kernel)

theorem ex_pair {α β : Type} {d : α × Option β} (h : d.2.isSome = true) : ∃ a b, d = (a, some b) := by
  obtain ⟨a, o⟩ := d
  cases o with
  | some b => exact ⟨a, b, rfl⟩
  | none => cases h

theorem ex_pair_none {α β : Type} {d : α × Option β} (h : d.2.isNone = true) : ∃ a, d = (a, none) := by
  obtain ⟨a, o⟩ := d
  cases o with
  | some b => cases h
  | none => exact ⟨a, rfl⟩

/-- Core 0 whose window file is full, with its spill area at an address. -/
def full (wsp : Word64) : State := coreState 0 fun x => { x with v := { x.v with wres := 75, wspK := wsp, wspU := wsp } }

/-- Core 0 whose window has nothing below it, with its spill area at an address. -/
def bottom (wsp : Word64) : State := coreState 0 fun x => { x with v := { x.v with wspK := wsp, wspU := wsp } }

theorem witness_PierBranchesCallsAndReturns :
    (upState.runs (.span .a 0) ∧ (full 0x100100).runs (.span .a 0) ∧ (bottom 0x100100).runs (.span .a 0)) ∧
    (let x := upState.core (.span .a 0)
     x.v.wres + 10 ≤ 96 - 21 * (CoreId.top (.span .a 0) - x.v.level) ∧ x.v.wcwp < 96 ∧ (x.v.wcwp + 16) % 96 = (x.v.wrb + x.v.wres) % 96 ∧ x.v.wres < 26) ∧
    (∃ s1, State.spillFor (.span .a 0) 75 10 16 (full 0x100100) = (s1, none)) ∧ (∃ s1 e, State.spillFor (.span .a 0) 75 10 16 (full 0x200100) = (s1, some e)) ∧
    (∃ s1, State.fillFor (.span .a 0) 10 16 (bottom 0x100100) = (s1, none)) ∧ (∃ s1 e, State.fillFor (.span .a 0) 10 16 (bottom 0x200100) = (s1, some e)) ∧
    26 ≤ ((full 0).core (.span .a 0)).v.wres :=
  ⟨⟨goes_runs _ _ (by decide +kernel), goes_runs _ _ (by decide +kernel), goes_runs _ _ (by decide +kernel)⟩, by decide +kernel,
    ex_pair_none (by decide +kernel), ex_pair (by decide +kernel), ex_pair_none (by decide +kernel), ex_pair (by decide +kernel), by decide +kernel⟩

/-- Cores in which an interrupt is pending. -/
def interrupted (n : Interrupt) : State :=
  match n with
  | .irq => ((guestCore 1 id).setReg .a Reg.pwrIen 0xFFFFFFFF).setReg .a Reg.pwrEvt 0xFFFFFFFF
  | .virq => guestCore 0 fun x => { x with v := { x.v with vip := 1 } }
  | .timer => { guestCore 1 fun x => { x with htcmp := 1 } with elapsed := 1000 }

theorem witness_PierExceptionsEnterAndReturn :
    ((guestCore 0 id).runs (.span .a 5) ∧ (guestCore 1 id).runs (.span .a 5) ∧ (guestCore 2 id).runs (.span .a 5)) ∧
    (let x := (guestCore 1 id).core (.span .a 5)
     x.v.entryFits ∧ CoreId.top (.span .a 5) = 2 ∧ x.v.level = 1 ∧ 1 ≤ (x.reg 1).toNat ∧ (x.reg 1).toNat ≤ 9 ∧ (x.trap 1).psr.toNat % 4 ≤ 2 ∧
       x.v.newWcwp = none ∧ x.v.newWrb = none ∧ x.v.newWres = none ∧ x.v.newWown = none ∧ (x.v.wcwp + 96 - (x.trap 1).cwp.toNat % 96) % 96 + 16 ≤ x.v.wres) ∧
    (let s := coreState 0 fun x => { x with v := { x.v with k := { x.v.k with psr := 2 } } }
     CoreId.top (.span .a 0) < ((s.core (.span .a 0)).trap (s.core (.span .a 0)).v.level).psr.toNat % 4) ∧
    (∀ n ∈ [Interrupt.irq, .virq, .timer], (interrupted n).takeable (.span .a 5) n = true ∧ (interrupted n).alive (.span .a 5) = true ∧
      ((interrupted n).core (.span .a 5)).v.sleep = .awake ∧ ((interrupted n).core (.span .a 5)).v.entryFits ∧ upState.takeable (.span .a 5) n = false ∧
      (interrupted n).a.worlds.cores.length = 6 ∧ (interrupted n).b.worlds.cores.length = 6) := by
  refine ⟨⟨goes_runs _ _ (by decide +kernel), goes_runs _ _ (by decide +kernel), goes_runs _ _ (by decide +kernel)⟩, ?_⟩
  unfold VCore.entryFits
  decide +kernel

/-- Core 0 with an event set, and asleep. -/
def dozing (x : Sleep) (ev : Bool) : State := coreState 0 fun y => { y with v := { y.v with sleep := x, ev := ev } }

theorem witness_PierSystemInstructionsFollowTheirRules :
    (upState.runs (.span .a 0) ∧ (guestCore 0 id).runs (.span .a 5) ∧ (guestCore 2 id).runs (.span .a 5) ∧ (dozing .awake true).runs (.span .a 0)) ∧
    (srLevels 2 0x044 = some (2, 2) ∧ srLevels 1 0x044 = some (3, 3) ∧ srLevels 2 0x000 = some (0, 1) ∧ srLevels 2 0x045 = none ∧
      srLevels 2 0xFFF = none) ∧
    (let x := upState.core (.span .a 0)
     1 ≤ x.v.level ∧ ((((x.trap x.v.level).cwp.toNat + 15) % 96) + 96 - x.v.wrb) % 96 < x.v.wres ∧
       x.v.wres ≤ ((((x.trap x.v.level).cwp.toNat + 16) % 96) + 96 - x.v.wrb) % 96) ∧
    (let s := guestCore 1 fun x => x.setReg 8 0
     ((s.reachMem (.span .a 5) .read ((s.core (.span .a 5)).reg 8).toNat 8).toOption = some 0x40000000 ∧ place 0x40000000 = .dram 0)) ∧
    ((pointing 1).reachMem (.span .a 0) .read 1 8).isOk = false ∧
    ((dozing .wfe true).alive (.span .a 0) = true ∧ ((dozing .wfe true).core (.span .a 0)).v.sleep = .wfe ∧
      ((dozing .awake true).core (.span .a 0)).v.sleep ≠ .wfe) ∧
    (let s := guestCore 1 fun x => { x with v := { x.v with sleep := .waitc 8 0 5 100 0 0 } }
     s.alive (.span .a 5) = true ∧ s.anyTakeable (.span .a 5) = false ∧ (s.reachMem (.span .a 5) .read 0 8).toOption = some 0x40000000 ∧
       s.cyc (.span .a 5) < 0 + 256 ∧ 0 + 256 ≤ { s with elapsed := 1000 }.cyc (.span .a 5) ∧ 100 ≤ { s with elapsed := 1000 }.cyc (.span .a 5)) ∧
    (gated.setReg .a (Reg.gateSlotsWrLo 29) 1).reaches .a (.core 0) .write (Reg.pierCorecCtrl 5) 0 :=
  ⟨⟨goes_runs _ _ (by decide +kernel), goes_runs _ _ (by decide +kernel), goes_runs _ _ (by decide +kernel), goes_runs _ _ (by decide +kernel)⟩,
    by decide +kernel, by decide +kernel, by decide +kernel, by decide +kernel, by decide +kernel, by decide +kernel,
    reaches_core _ _ _ _ _ _ (by decide) (by decide) (by decide +kernel) (by decide +kernel)⟩

/-! ### Witnesses: the vault store, fuses, the life cycle, reports, clocks and power -/

/-- A program of a body, with a number of attempts. -/
def prog1 (n : Nat) : ProgOp := ⟨.journal, 1, false, n, none⟩

/-- An erase of the sector at address 0 of an area, with a purpose and a number of repeats. -/
def erase1 (p : ErasePurpose) (n : Nat) : EraseOp := ⟨.objects, 0, n, p, false, none⟩

/-- `upState` at a time, with Span A's vault store changed. -/
def stored (n : Nat) (f : Nvs → Nvs) : State := aged n (upState.updNvs .a f)

/-- A live and a superseded record of sector 3 of the objects. -/
def homes : List HomeRec := [⟨.objects, 1, 1, 3, false, false, []⟩, ⟨.objects, 1, 0, 3, false, true, []⟩]

theorem witness_ProgramsAndErasesFollowTheirRules :
    (let s := stored 0 fun v => { v with progs := [prog1 0], pfwAt := some 0 }
     s.regsCanonical = true ∧ (s.setFld .a Fld.nvsStatusFlushed 1).fld .a Fld.nvsStatusFlushed = 1 ∧ s.fld .a Fld.nvsStatusFlushed ≠ 1 ∧
       s.fld .a Fld.nvsEvtFlushLate = 0) ∧
    (let s := stored 0 fun v => { v with progs := [{ prog1 0 with salt := some (2, some 5) }, prog1 2, prog1 3, { prog1 3 with commitWord := true }] }
     s.regsCanonical = true ∧ (s.span .a).nvs.pfwAt = none ∧ (s.span .a).nvs.progs.map (·.attempts) = [0, 2, 3, 3] ∧
       Action.ofCode ((s.span .a).rep.config.errorPolicy 0x500).1 = .report) ∧
    (let s := stored 0 fun v => { v with progs := [{ prog1 3 with area := .log }, { prog1 0 with area := .log, commitWord := true }], pfwAt := some 0 }
     (s.span .a).nvs.progs.map (·.area) = [.log, .log] ∧ s.fld .a Fld.nvsStatusFlushed ≠ 1 ∧ s.elapsed ≤ 0 + ms ∧
       (s.updNvs .a fun v => { v with pfwAt := none }).a.nvs.pfwAt = none) ∧
    ((stored 2500000 fun v => { v with pfwAt := some 0 }).elapsed = 2500 * us ∧ (stored 2499999 fun v => { v with pfwAt := some 0 }).elapsed < 2500 * us) ∧
    (let s := stored 0 fun v => { v with erases := [erase1 .reclaim 2], home := homes }
     s.regsCanonical = true ∧ s.eraseWaits .a = false ∧ (s.span .a).rep.log.queued = 0 ∧ (s.span .a).nvs.homeSector .objects = 0 ∧
       ((s.span .a).nvs.copyForward ((s.span .a).nvs.liveIn .objects 3)).liveIn .objects 3 = []) ∧
    (let s := stored 0 fun v => { v with erases := [erase1 .bank 3] }
     s.regsCanonical = true ∧ s.eraseWaits .a = false) := by
  decide +kernel

/-- Word 0 of the fuses, whose margin readings agree or do not. -/
def word0 (low : Nat) : FuseWord := ⟨0, 1, low, 1⟩

/-- `upState` at a time with Span A's fuses changed. -/
def fused (n : Nat) (f : Fuses → Fuses) : State := aged n (upState.upd .a fun x => { x with fuses := f x.fuses })

theorem witness_FusesReadScanAndProgram :
    (let s := fused (86400 * sec) fun f => { f with words := [word0 1], scanned := true }
     s.regsCanonical = true ∧ (s.span .a).fuses.progs = [] ∧ (∀ w ∈ [⟨1, 0, 0, 0⟩] ++ (s.span .a).fuses.words, w.clean = true) ∧
       (s.span .a).fuses.scanned = true ∧ (s.span .a).fuses.scanAt + 86400 * sec = s.elapsed) ∧
    (let s := (fused 0 fun f => { f with words := [word0 0], scanned := true }).setFld .a (Fld.tmpTempkValueTemp SpanId.a.num) 160
     s.regsCanonical = true ∧ (∃ w ∈ (s.span .a).fuses.words, w.clean = false) ∧ (s.dieTemp .a - (s.span .a).fuses.scanTemp).natAbs = 160) ∧
    (fused (86400 * sec - 1) fun f => { f with scanned := true }).elapsed < 86400 * sec ∧
    (let p : FuseProg := ⟨0, 2, 3, false⟩
     let s := fused 0 fun f => { f with words := [word0 1], progs := [p] }
     let w := s.a.fuses.word 0
     s.regsCanonical = true ∧ s.a.fuses.progs = [p] ∧ p.bits ≠ 0 ∧ p.attempts < 4 ∧ s.a.fuses.scanWaits = false ∧ s.hub.transition = none ∧
       (w.norm ||| (3 &&& p.bits)) &&& p.bits = p.bits ∧ (w.norm ||| (0 &&& p.bits)) &&& p.bits ≠ p.bits) := by
  decide +kernel
/-- The monitor's line of session 7 on Span A. -/
def line7 : Caller := ⟨.a, .monitor, 7, 0⟩

/-- The fuses of a later life-cycle state, with the digest of a debug key. -/
def lifeFuses (n : Nat) : Fuses :=
  let d := sha256 producerKey
  { Fuses.reset with words := ((List.range 3).map fun j => ⟨9 + 3 * n + j, lifeCode n, lifeCode n, lifeCode n⟩) ++
      (List.range 16).map fun i => ⟨60 + i, leField d (4 * (i % 8)) 4, leField d (4 * (i % 8)) 4, leField d (4 * (i % 8)) 4⟩ }

/-- A monitor session whose challenge is 32 ones. -/
def session7 : MonSession := ⟨7, List.replicate 32 1, 0, none, 0, 0, 0⟩

/-- `ruled` in a life-cycle state, with that monitor session and a challenge for a transition. -/
def living (n : Nat) : State :=
  let s := seeded id []
  { s with
    a := { s.a with fuses := lifeFuses n, vault := { s.a.vault with lcChallenge := some ⟨zeroBytes 32, none, 0⟩ } }, b := { s.b with fuses := lifeFuses n }
    hub := { s.hub with monitor := { s.hub.monitor with session := some session7 } } }

/-- A body with one signature of a role over it and the magic of its kind, the key carried with it for roles 3 and 4. -/
def signedBody (magic : String) (role : Nat) (body : List Byte) : List Byte :=
  let e : SigEntry := ⟨1, role, 0, 0, 0, zeroBytes 96⟩
  let n := asciiBytes magic ++ sha384 body ++ e.head
  body ++ e.head ++ signedBy1 n ++ (if role = 1 then [] else producerKey ++ zeroBytes 7)

/-- A request from a state to the next, with `n` signatures. -/
def lifeRequest (src n : Nat) : List Byte :=
  putAt (putAt (zeroBytes 80) 0 (asciiBytes "AKNLC-V1" ++ leBytes 1 src ++ leBytes 1 (src + 1))) 72 [BitVec.ofNat 8 n]

/-- The request from SHIPPED to COMMISSIONED that the producer signed. -/
def lifeSignedRequest : List Byte := signedBody "AKNLS-V1" 1 (lifeRequest 2 1)

/-- A certificate for that session, of every right but those for cores, signed with the debug key. -/
def cert7 : List Byte :=
  signedBody "AKNDS-V1" 4 (putAt (putAt (putAt (putAt (zeroBytes 96) 0 (asciiBytes "AKNDBG01" ++ [0x41, 0, 0, 0, 4])) 32 (List.replicate 32 1)) 72 (leBytes 8 (2 ^ 32))) 88 [1])

/-- `living 2` where the monitor's refusals have no room in the log. -/
def livingFull : State := (living 2).updRep .a fun r => { r with log := { r.log with wp := logPositions } }

theorem witness_TheLifeCycleMovesBySignedRequests :
    ((living 2).lineRuns mgmt ∧ (living 2).lineRuns line7) ∧
    ((living 2).started mgmt 0x0B01 [] = true ∧ (living 2).bars mgmt 0x0B01 [] = none ∧ (living 2).lifeCaller mgmt = true ∧ (living 2).lcState = 2 ∧
      (living 2).entFatal .a = false ∧ ((living 2).random .a 0 32 false).isSome = true) ∧
    ((living 5).started mgmt 0x0B01 [] = true ∧ (living 5).bars mgmt 0x0B01 [] = none ∧ (living 5).lifeCaller mgmt = true ∧ (living 5).lcState = 5) ∧
    ((living 2).setFld .a Fld.rngStatusFatal 1).entFatal .a = true ∧
    (let s := (living 2).upd .a fun x => { x with entropy := Entropy.reset }
     s.started mgmt 0x0B01 [] = true ∧ s.bars mgmt 0x0B01 [] = none ∧ s.lifeCaller mgmt = true ∧ s.lcState ≠ 5 ∧ s.entFatal .a = false ∧
       (s.random .a 0 32 false).isNone = true) ∧
    (upState.started mgmt 0x0B01 [] = true ∧ upState.bars mgmt 0x0B01 [] = none ∧ upState.lifeCaller mgmt = false) ∧
    ([(2, mgmt), (1, line7)].all fun x =>
      (living x.1).started x.2 0x0B02 [] && (living x.1).bars x.2 0x0B02 [] == none && (living x.1).lifeRefusal x.2 (lifeRequest x.1 0) == none &&
        (living x.1).lifeFresh x.2 (lifeRequest x.1 0) && !(living x.1).lifeFresh x.2 [] && (living x.1).hub.transition == none) = true ∧
    ((living 2).a.rep.log.roomOutsideReserve = true ∧ (living 2).lifeRefusal mgmt (lifeRequest 3 0) = some .lifecycleState) := by
  exact ⟨⟨(by intro h; cases h), (by intro _; decide +kernel)⟩, (by decide +kernel)⟩

/-- Both cases of a transition's signatures: none, and the producer's. -/
theorem witness_TransitionSignatures :
    (let r := ((living 2).span .a).rep
     let sigs (req : List Byte) := ((keyedSigsFrom req (leField req 72 2) 80).bind fun x => if x.2 = req.length then some x.1 else none).getD []
     lifeSigned r.config 2 (sigs (lifeRequest 2 0)) = false ∧
     (living 2).lifeRefusal mgmt lifeSignedRequest = none ∧ (living 2).lifeFresh mgmt lifeSignedRequest = true ∧
     signersOnce (sigs lifeSignedRequest) = true ∧ lifeSigned r.config 2 (sigs lifeSignedRequest) = true ∧
     (sigs lifeSignedRequest).all (fun e => (e.1.role == 1 || e.1.role == 3) &&
       keyedHolds r.config ((living 2).span .a).fuses "AKNLS-V1" (lifeSignedRequest.take 80) e) = true) := by decide +kernel

/-- The cases of a certificate: refused, accepted with room in the log, and accepted without. -/
theorem witness_DebugCertificates :
    (living 2).hub.monitor.session = some session7 ∧ (living 1).lcState < 2 ∧ 4 < (living 5).lcState ∧ (living 4).lcState = 4 ∧ (living 2).lcState = 2 ∧
    (living 2).certRefused .a session7 [] = true ∧ (living 2).certRefused .a session7 cert7 = false ∧ (living 2).monRoom .a 0x0B04 = true ∧
    livingFull.hub.monitor.session = some session7 ∧ livingFull.lcState = 2 ∧ livingFull.certRefused .a session7 cert7 = false ∧
    livingFull.monRoom .a 0x0B04 = false := by decide +kernel

/-- A report of the vault store, and its source's state with one pending. -/
def report1 : Report := ⟨0, 0x500, 5, .ok, .span .a, false, 0, []⟩

/-- `upState` with Span A's reports changed. -/
def reporting (f : ErrHub → ErrHub) : State := upState.upd .a fun x => { x with err := f x.err }

theorem witness_ReportsAreQueuedAndClocksFallBack :
    (let s := reporting fun e => { e with hubWait := [report1] }
     s.regsCanonical = true ∧ (s.span .a).err.hubWait = [report1]) ∧
    (let x : SrcState := ⟨0x500, 1, 0, some report1, 0, false⟩
     let s := reporting fun e => { e with srcs := [x], queue := { e.queue with entries := List.replicate 1024 report1 } }
     s.regsCanonical = true ∧ (s.span .a).err.hubWait = [] ∧ ((s.span .a).err.srcs.find? fun x => x.pending.isSome) = some x ∧
       (s.span .a).err.queue.entries.length = reportDepth ∧ s.secureUp .a = true) ∧
    ((upState.span .a).err.hubWait = [] ∧ (upState.span .a).err.srcs = [] ∧ (upState.span .a).err.queue.entries = []) ∧
    ((aged 1000000 upState).a.err.window ≠ (aged 1000000 upState).now .a / ms ∧ upState.a.err.window = upState.now .a / ms ∧
      (aged 1000000 upState).hub.window ≠ (aged 1000000 upState).elapsed / ms) ∧
    (let s := { upState with hub := { upState.hub with toA := [report1] } }
     s.regsCanonical = true ∧ (s.span .a).cont.hubLink = true ∧ Action.ofCode ((s.span .a).rep.config.errorPolicy report1.source).1 = .report ∧
       ((s.updCont .a fun c => { c with hubLink := false }).span .a).cont.hubLink = false) ∧
    ((ruled id).started mgmt 0x0A02 [] = true ∧ ((ruled id).span .a).rep.epoch ≠ 0 ∧ ((ruled id).touch mgmt).reportsMay mgmt = true ∧ (ruled id).secureUp .a = true ∧
      (upState.touch mgmt).reportsMay mgmt = false ∧ upState.started mgmt 0x0A02 [] = true) ∧
    (upState.fld .a Fld.clkStatusSysFallback = 0 ∧ (upState.setFld .a Fld.clkStatusSysFallback 1).fld .a Fld.clkStatusSysFallback = 1) ∧
    (upState.hub.fallback = false ∧ (upState.updHub fun h => { h with fallback := true }).hub.fallback = true) := by
  decide +kernel

/-- `upState` at a time with the power changed. -/
def powered (n : Nat) (f : Power → Power) : State :=
  let s := aged n upState
  { s with hub := { s.hub with power := f s.hub.power } }

theorem witness_PowerFollowsItsInputs :
    (upState.hub.power.source ≠ 1 ∧ upState.hub.power.pfw = false) ∧
    (let x : Telemetry := ⟨3601, 3850, 0, 0, 0, 0⟩
     max x.vaux x.vpoe = 3850 ∧ max { x with vaux := 3851 }.vaux x.vpoe = 3851) ∧
    (let s := powered 100000000 fun p => { p with pfw := true, above := some 0 }
     s.hub.power.pfw = true ∧ s.hub.power.above = some 0 ∧ s.elapsed = 100 * ms ∧ s.hub.power.converter = true ∧ s.hub.sup.running = true ∧ s.hub.power.tier ≠ 0 ∧
       (powered 99999999 fun p => { p with pfw := true, above := some 0 }).elapsed < 100 * ms) ∧
    (powered 0 fun p => { p with converter := false }).hub.power.converter = false ∧ (upState.span .a).nvs.pfwAt = none := by
  decide +kernel
/-! ### Witnesses: boot, resets, firmware and the monitor -/

/-- A bank that verifies. -/
def bank1 : FwBank := ⟨true, 1, 0, 0, 0, [], []⟩

/-- `upState` with Span A's boot in a stage, its boot pointer, and its two banks. -/
def booting (stage : Nat) (p : BootPointer) (b0 b1 : FwBank) : State :=
  upA fun x => { x with boot := { x.boot with stage := stage }, nvs := { x.nvs with boot := p, bank0 := b0, bank1 := b1 } }

/-- A bank that does not verify. -/
def noBank : FwBank := { bank1 with valid := false }

theorem witness_BootWaitsForWhatItsStepsNeed :
    (let s := booting 2 ⟨1, some 0, 0⟩ bank1 bank1
     s.regsCanonical = true ∧ s.railsOn .a = true ∧ s.a.boot.resetDue = none ∧ s.a.fuses.progs = [] ∧ s.a.fuses.life ≠ 5 ∧ s.hub.power.pfw = false ∧
       s.a.bankOk 0 = true ∧ s.a.bankOk 1 = true) ∧
    ((booting 2 ⟨0, none, 0⟩ noBank noBank).a.bankOk 0 = false ∧ (booting 2 ⟨0, none, 0⟩ noBank noBank).a.bankOk 1 = false ∧
      (booting 2 ⟨1, none, 0⟩ bank1 noBank).a.bankOk 0 = true ∧ (booting 2 ⟨1, none, 0⟩ bank1 noBank).a.bankOk 1 = false) ∧
    (({ living 5 with a := { (living 5).a with boot := BootState.reset } } : State).a.fuses.life = 5 ∧ (living 5).a.fuses.progs = []) ∧
    (let s := booting 6 ⟨0, none, 0⟩ bank1 noBank |>.setFld .a Fld.rngCtrlEnable 1
     s.regsCanonical = true ∧ s.fld .a Fld.rngCtrlEnable = 1 ∧ s.entFatal .a = false ∧ (s.a.entropy.d0.seeded && s.a.entropy.d1.seeded && s.a.entropy.d2.seeded) = false) ∧
    (let s := (booting 8 ⟨0, none, 0⟩ bank1 noBank).setFld .a Fld.vltStateVaultState 1
     s.regsCanonical = true ∧ s.a.cont.mode.joined = true ∧ s.settlePending.fld .a Fld.tmpStatusPending = 0 ∧ s.fld .a Fld.vltStateVaultState = 1 ∧
       (s.updCont .a fun c => { c with mode := .joining }).a.cont.mode.joined = false ∧ s.a.boot.mismatch = false ∧
       ((s.setReg .a Reg.tmpPendingLo 4).updNvs .a fun v => { v with salts := [(2, [])] }).settlePending.fld .a Fld.tmpStatusPending = 1) ∧
    ([Mode.keystone, .follower].all fun m =>
      let s := upA fun x => { x with boot := { x.boot with stage := 8, mismatch := true }, cont := { x.cont with mode := m }, rep := { x.rep with epoch := 1 } }
      s.regsCanonical && s.railsOn .a && (s.span .a).listDiffers) = true ∧
    (let s := booting 9 ⟨0, none, 0⟩ bank1 noBank
     s.regsCanonical = true ∧ s.a.boot.cause ≤ 1 ∧ s.a.boot.restart = false ∧ s.fld .a Fld.tbStatusQualified = 0 ∧
       (s.setFld .a Fld.tbStatusQualified 1).fld .a Fld.tbStatusQualified = 1 ∧ s.a.nvs.erases = [] ∧
       ∃ e ∈ ((stored 0 fun v => { v with erases := [erase1 .floor 0] }).span .a).nvs.erases, e.purpose = .floor) ∧
    (let s := { upState with hub := { upState.hub with sup := { upState.hub.sup with running := false } } }
     s.regsCanonical = true ∧ s.hub.power.converter = true ∧ s.hub.sup.running = false ∧ s.hub.power.pfw = false ∧ s.hub.power.tier ≠ 0) := by
  decide +kernel

theorem witness_ResetsKeepWhatTheirDomainKeeps :
    (upState.regsCanonical = true ∧ upState.hub.power.converter = true ∧ upState.a.nvs.pfwAt = none ∧ upState.b.nvs.pfwAt = none ∧ upState.a.nvs.progs = [] ∧
      upState.b.nvs.progs = []) ∧
    (let s := stored 2500000 fun v => { v with pfwAt := some 0, progs := [prog1 0] }
     s.regsCanonical = true ∧ s.a.nvs.pfwAt = some 0 ∧ 2500 * us = s.elapsed) ∧
    ((stored 0 fun v => { v with progs := [prog1 0] }).a.nvs.progs ≠ [] ∧ (stored 0 fun v => { v with progs := [prog1 0] }).regsCanonical = true) ∧
    (let s := upA fun x => { x with boot := { x.boot with resetDue := some 4 } }
     s.regsCanonical = true ∧ s.a.boot.resetDue = some 4 ∧ s.a.entropy.rushes = none) ∧
    ((0xFB : Nat).testBit 2 = false ∧ (0x04 : Nat).testBit 2 = true ∧ (upState.span .a).lanes.length = 8 ∧
      (∀ g ∈ (upState.span .a).worlds.guests, upState.fld .a (Fld.kprGuestgInflightInFlight g.g) = g.inflight.length) ∧
      ∃ off b, b < 8 ∧ (32 : Nat).testBit b = true ∧ off / 0x10000 = blockWindow b ∧ off / 0x10000 ∈ [0, 1, 9] ∧ fieldsAt off ≠ []) :=
  ⟨by decide +kernel, by decide +kernel, by decide +kernel, by decide +kernel, by decide +kernel, by decide +kernel, by decide +kernel, by decide +kernel, Reg.tbCtrl, 5, by decide +kernel⟩

/-- The update in a state, of Span A, at a time; Span A in a mode, on its trial bank. -/
def updating (state n : Nat) (ma mb : Mode) : State :=
  let s := (aged n (ruled id)).updHub fun h => { h with update := { h.update with state := state, target := .a, since := 0, bank := bank1 } }
  { s with
    a := { s.a with boot := { s.a.boot with trial := true }, cont := { s.a.cont with mode := ma } }
    b := { s.b with cont := { s.b.cont with mode := mb } } }

/-- The header of a firmware image of version 1 with three empty sections, and that image with a signature by key 1. -/
def head1 : List Byte :=
  (putAt (zeroBytes 112) 0 (asciiBytes "AKNFWIMG" ++ [1, 0, 3, 0] ++ leBytes 4 312 ++ [1, 0, 0, 0, 0, 0, 1]) |> (putAt · 0x30 [0x70]) |> (putAt · 0x40 [1]) |>
    (putAt · 0x50 [2]) |> (putAt · 0x60 [3])).take 112
def image1 : List Byte := head1 ++ signedBy1 (asciiBytes "AKNFW-V1" ++ sha384 head1) ++ producerKey ++ zeroBytes 7

/-- `ruled` with the digest of the image's key in the fuses. -/
def makerState : State :=
  let d := sha256 producerKey
  (ruled id).upd .a fun x => { x with fuses := { x.fuses with words := x.fuses.words ++
    ((List.range 16).map fun i => ⟨36 + i, leField d (4 * (i % 8)) 4, leField d (4 * (i % 8)) 4, leField d (4 * (i % 8)) 4⟩) } }

theorem witness_UpdatesMoveFromSpanToSpan :
    (makerState.started mgmt 0x0509 [some image1] = true ∧ makerState.fwRefusal mgmt image1 = none ∧ (ruled id).started mgmt 0x0509 [some []] = true ∧
      (ruled id).fwRefusal mgmt [] = some .imageFormat) ∧
    (let s := updating 1 0 .keystone .follower
     s.hub.update.state = 1 ∧ s.a.nvs.erases ++ s.b.nvs.erases = [] ∧ s.secureUp .a = true ∧ s.secureUp .b = true) ∧
    ((updating 3 0 .follower .keystone).stepReached = true ∧ (updating 5 0 .follower .keystone).stepReached = true ∧
      (updating 3 0 .rejoining .keystone).stepReached = false ∧ (updating 5 0 .rejoining .keystone).stepReached = false) ∧
    (let s := updating 4 0 .keystone .follower
     s.hub.update.state = 4 ∧ (s.span s.hub.update.target).cont.mode = .keystone ∧ (s.span s.hub.update.target.other).cont.mode = .follower) ∧
    ((updating 3 (300 * sec) .rejoining .keystone).hub.update.since + 300 * sec = (updating 3 (300 * sec) .rejoining .keystone).elapsed ∧
      (updating 3 (300 * sec - 1) .rejoining .keystone).elapsed < 300 * sec ∧ (updating 3 (300 * sec) .rejoining .keystone).stepReached = false) := by
  decide +kernel

/-- `upState` with the monitor changed. -/
def monitored (f : Monitor → Monitor) (s : State) : State := s.updHub fun h => { h with monitor := f h.monitor }

/-- A line about Span A is executed. -/
def lineReady (s : State) : Bool :=
  s.hub.sup.running && !s.lineBusy && s.hub.monitor.session.isSome && !s.hub.sup.romOnly && (s.span .a).cont.hubLink && s.regsCanonical

theorem lineReady_ready (s : State) (h : lineReady s = true) : s.monReady .a ∧ s.regsCanonical = true := by
  simp only [lineReady, Bool.and_eq_true, Bool.not_eq_true'] at h
  refine ⟨⟨h.1.1.1.1.1, h.1.1.1.1.2, ?_, h.1.1.2, h.1.2⟩, h.2⟩
  intro hn
  simp [hn] at h

/-- A certificate of no rights until an instant. -/
def bare (n : Nat) : Cert := ⟨0, 0, n, []⟩

theorem witness_MonitorLinesNeedASessionAndTheirRights :
    (upState.regsCanonical = true ∧ upState.hub.sup.running = true ∧ upState.lineBusy = false ∧ upState.hub.monitor.session.isSome = true ∧
      (monitored (fun m => { m with session := none }) upState).hub.monitor.session = none) ∧
    (let s := monitored (fun m => { m with nextBaud := some (500000, 0) }) (aged 10000000 upState)
     s.hub.monitor.nextBaud = some (500000, 0) ∧ 10 * ms = s.elapsed) ∧
    ((aged (600 * sec) upState).hub.monitor.session = some ⟨7, zeroBytes 32, 0, none, 0, 0, 0⟩ ∧ 600 * sec = (aged (600 * sec) upState).elapsed) ∧
    (let s := monitored (fun m => { m with session := some ⟨7, zeroBytes 32, 0, some (bare 0), 0, 0, 0⟩ }) (aged 1 upState)
     (bare 0).notAfter < s.now (s.keystone.getD .a) ∧ s.hub.monitor.session.isSome = true) ∧
    (upState.monReady .a ∧ upState.lcState ≤ 1 ∧ upState.lcState ≠ 5 ∧ ([0, 6, 7, 4].all upState.monRight) = true ∧
      upState.started (upState.monCaller .a) 0x0A02 [] = true ∧ (upState.span .a).rep.epoch ≠ 0 ∧ upState.secureUp .a = true) ∧
    ((living 2).lcState = 2 ∧ ((living 2).updCont .a fun c => { c with mode := .follower }).monReady .a ∧ ([0, 6, 7, 2, 3, 4].all fun r => !(living 2).monRight r) = true) ∧
    (let s := (((ruled id).updCont .a fun c => { c with mode := .follower }).updCont .b fun c => { c with mode := .keystone })
     (s.span .a).cont.mode = .follower ∧ s.entFatal .a = false ∧ ((s.span .a).entropy.src 3).retired = false) := by
  refine ⟨by decide +kernel, by decide +kernel, by decide +kernel, by decide +kernel, ⟨(lineReady_ready upState (by decide +kernel)).1, by decide +kernel⟩,
    ⟨by decide +kernel, (lineReady_ready _ (by decide +kernel)).1, by decide +kernel⟩, by decide +kernel⟩

/-- A halt on core 5 of Span A, of guest 1. -/
def halt1 (eff : Bool) : Halt := ⟨.a, 5, if eff then 1 else 0, eff, 0, none, 0, none⟩

/-- Guest 1 hosted on Span A, with a monitor session, in its take on core 5 or not, and a list of halts. -/
def halting (on : Bool) (l : List Halt) : State :=
  (monitored (fun m => { m with halts := l }) (aged 5000 (hosted 1 id upState))).updCore (.span .a 5) fun x =>
    { x with guest := if on then some 1 else none, take := if on then some (1000, 1000000) else none }

/-- That state in a later life-cycle state, with a certificate of every right for guest 1, and no room in the log or all of it. -/
def certified (full on : Bool) (l : List Halt) : State :=
  let s := (halting on l).upd .a fun x => { x with fuses := lifeFuses 2, rep := { x.rep with log := { x.rep.log with wp := if full then logPositions else 0 } } }
  monitored (fun m => { m with session := some ⟨7, zeroBytes 32, 0, some ⟨0xFFFFFFFF, 2, 1000000, []⟩, 0, 0, 0⟩ }) (s.upd .b fun x => { x with fuses := lifeFuses 2 })

/-- A halt and a GO that the slate log has no room for, and those that it has room for. -/
theorem witness_MonitorRoom :
    ((certified true true []).monReady .a ∧ (certified true false [halt1 true]).monReady .a ∧ (certified false false [halt1 true]).monReady .a) ∧
    (let s := certified true false [halt1 true]
     s.lcState = 2 ∧ s.monRight 3 = true ∧ s.monOnCore .a 5 ≠ [] ∧ s.haltsOn .a 5 = [halt1 true] ∧ s.monRoom .a 0x0B0A = false) ∧
    (let s := certified false false [halt1 true]
     s.lcState = 2 ∧ s.monRight 3 = true ∧ s.haltsOn .a 5 = [halt1 true] ∧ s.monRoom .a 0x0B0A = true) ∧
    (let s := certified false true []
     s.monRight 3 = true ∧ (s.core (.span .a 5)).guest = some 1 ∧ 1 ∈ s.monOnCore .a 5 ∧ s.haltOf .a 5 1 = none ∧ s.monRoom .a 0x0B0A = true) := by
  refine ⟨⟨(lineReady_ready _ (by decide +kernel)).1, (lineReady_ready _ (by decide +kernel)).1, (lineReady_ready _ (by decide +kernel)).1⟩, by decide +kernel⟩

theorem witness_MonitorHaltsStepsAndReadsGuests :
    (let s := halting true [halt1 false]
     s.regsCanonical = true ∧ (s.core (.span .a 5)).guest = some 1 ∧ (s.core (.span .a 5)).take = some (1000, 1000000) ∧ 1000 + 4 * us = s.now .a ∧
       s.haltOf .a 5 1 = none ∧ (s.hub.monitor.halts.find? fun h => h.span == .a && h.core == 5 && !h.effective) = some (halt1 false) ∧ 1 ∈ s.monOnCore .a 5) ∧
    ((halting false []).core (.span .a 5)).guest = none ∧
    ((halting true []).monReady .a ∧ (halting true [halt1 true]).monReady .a ∧ (halting false [halt1 true]).monReady .a) ∧
    ((halting true []).lcState ≠ 5 ∧ (halting true []).monRight 3 = true ∧ (halting true []).monRight 2 = true ∧ (halting true []).monOnCore .a 5 ≠ [] ∧
      (halting true []).monOnCore .a 0 = [] ∧ (halting true []).haltsOn .a 5 = [] ∧ (halting true [halt1 true]).haltsOn .a 5 = [halt1 true] ∧
      ((halting true [halt1 true]).haltOf .a 5 1).isSome = true ∧ ((halting false [halt1 true]).core (.span .a 5)).guest ≠ some (halt1 true).guest) ∧
    (let s := halting true []
     s.monGuest 1 = true ∧ s.guest .a 1 ≠ none ∧ ((s.lined .a).translate .a 1 0 .read).isSome = true ∧
       (((s.lined .a).translate .a 1 0 .read).any fun pa => (s.lined .a).monReads .a 1 0 pa) = true ∧ (s.lined .a).translate .a 1 0x7FFFFFF000 .read = none ∧
       0xFF8 % 4096 + 8 ≤ 4096 ∧ s.monGuest 34 = false) := by
  refine ⟨by decide +kernel, by decide +kernel, ⟨(lineReady_ready _ (by decide +kernel)).1, (lineReady_ready _ (by decide +kernel)).1,
    (lineReady_ready _ (by decide +kernel)).1⟩, by decide +kernel, by decide +kernel⟩
/-! ### The spec's worked examples -/

/-- Chapter 9, a one-limb Montgomery round trip: 5 to 40, 40 times 40 to 200, 200 to 25. -/
theorem test_montgomery_round_trip : (mmul (2 ^ 61 - 1) 0x2000000000000001 1 5 64).toOption = some 40 ∧
    (mmul (2 ^ 61 - 1) 0x2000000000000001 1 40 40).toOption = some 200 ∧ (mmul (2 ^ 61 - 1) 0x2000000000000001 1 200 1).toOption = some 25 := by
  decide +kernel

/-- Chapter 13, the high limit of TEMP_A: the limit codes, the values on both sides of the high limit, and a reading. -/
theorem test_temp_a_limits : tempLimits 1850 15200 = (1506, 2282) ∧ tempQ4 1850 15200 2281 = 1999 ∧ tempQ4 1850 15200 2282 = 2003 ∧ tempQ4 1850 15200 2000 = 956 := by
  decide +kernel

/-- Chapter 17, a lap across the wrap of SEQ: 37 entries are lost, SEQ 5 is delivered, and E becomes 6. -/
theorem test_lap_across_wrap :
    let q : StdQueue Nat := ⟨(List.range 64).map fun i => (65525 + i) % 65536, 53, 0⟩
    q.lapPop 64 ⟨65504, 0, false⟩ = (some 5, ⟨6, 37, true⟩) := by decide +kernel

/-- A stream state of chapter 6's context 4: the last nonce holds era second and smpCnt given, received at a time. -/
def rec4 (era c rx : Nat) : StreamRec :=
  { StreamRec.cleared with nonceHw := 0x5A17C3E0 * 2 ^ 64 + era * 2 ^ 24 + c * 256 + 1, eraSecond := era, hwValid := true, eraValid := true, lastRx := rx }

/-- Chapter 6, second rollover: f2 stays in era 123, f3 goes on to era 124, a second copy of f3 stays there. -/
theorem test_second_rollover :
    (eraSecond (rec4 1900000123 4798 1900000123999623000) true 1900000123999832000 4799 4800).toOption = some 1900000123 ∧
    (eraSecond (rec4 1900000123 4799 1900000123999832000) true 1900000124000040000 0 4800).toOption = some 1900000124 ∧
    (eraSecond (rec4 1900000124 0 1900000124000040000) true 1900000124000050000 0 4800).toOption = some 1900000124 ∧
    nonceIndex 1 4800 (rec4 1900000124 0 0).nonceHw = 9120000595200 := by decide +kernel

/-- Chapter 6, a 0.7 s LAN A outage: the frame is anchored in era 124; without the outage it would have been read as older. -/
theorem test_outage_anchors :
    (eraSecond (rec4 1900000124 1000 1900000124208373000) true 1900000124908373000 4360 4800).toOption = some 1900000124 ∧
    (eraSecond (rec4 1900000124 1000 1900000124708373000) true 1900000124908373000 4360 4800).toOption = some 1900000123 := by decide +kernel

/-- The header of chapter 5's frame of MU-B07-1, with the bytes that its walk reads; the rest is zero. -/
def muFrame : List Byte :=
  let f := putAt (zeroBytes 182) 0 [0x01, 0x0C, 0xCD, 4, 0, 7, 0x02, 0x4D, 0x42, 7, 1, 0, 0x81, 0, 0x80, 7, 0x88, 0xBA, 0x40, 7]
  let f := putAt (putAt (putAt f 26 [0x60, 120, 0x80, 1, 1, 0xA2, 0x73, 0x30, 0x71, 0x80, 0x20]) 69 [0x82, 2, 9, 7, 0x83, 4]) 172 [0, 0, 0xA0, 0xA0, 0x88, 0xFB]
  putAt f 176 [0x88, 0xFB]

/-- Chapter 4, classifying a verified SV frame: the class, and the eight words of the key. -/
theorem test_mu_frame_key :
    let h := parseFrame muFrame 102 0xA2 0xA1 false
    h.cls = .svEth ∧ h.etypeEnd = 18 ∧ (List.range 8).map (fun i => classKey muFrame h / 2 ^ (32 * (7 - i)) % 2 ^ 32) =
      [0x12007000, 0x4007010C, 0xCD040007, 0x024D4207, 0x01000000, 0, 0, 0] := by decide +kernel

/-- Chapter 5's template 9: REF-SV-OW for tags of 16 bytes. -/
def template9 : Template :=
  putAt (putAt (putAt (putAt (zeroBytes 128) 2 [1, 1, 0, 0, 1, 4, 16, 4]) 20 [1, 2, 2, 4, 8, 0, 0, 0, 0x60, 0xA2, 0x30, 0x82]) 56 [4, 1, 0, 0, 0xE8, 0xFF]) 96 [1, 4]

/-- Chapter 5, signing one SV frame: smpCnt is 2,311, the block starts at 148, 138 bytes are covered, and the nonce. -/
theorem test_sign_mu_frame :
    let h := parseFrame muFrame 102 0xA2 0xA1 false
    let a := anchors muFrame h 172 178
    template9.counters muFrame a = some ⟨2311, 0, 0, 0⟩ ∧ template9.blockAt muFrame a = some 148 ∧ (template9.covered muFrame h a 148).map List.length = some 138 ∧
      nonceBytes template9 0x5A17C3E0 1900000123 ⟨2311, 0, 0, 0⟩ = [0x5A, 0x17, 0xC3, 0xE0, 0, 0x71, 0x3F, 0xB3, 0x7B, 9, 7, 1] := by decide +kernel

/-- Chapter 14, takes on core 3 of Span B: the slots of a cycle of guests 1, 4 and 6 on one core. -/
theorem test_take_slots :
    let w (g takes us mib : Nat) : Scene := ⟨8, 0, g, putAt (zeroBytes 512) 4 (leBytes 1 8 ++ leBytes 1 8 ++ leBytes 1 takes ++ [0] ++ leBytes 2 us ++ leBytes 2 mib)⟩
    let c : Storyboard := [w 1 4 1000 256, w 4 2 500 64, w 6 1 2000 64]
    c.takeSlots .b 3 = [(1, 1004), (4, 504), (6, 2004), (1, 1004), (4, 504), (1, 1004), (1, 1004)] := by decide +kernel

/-- Chapter 14, a split burst: 1,000 bytes from 0x0F40 are 192 and 808. -/
theorem test_split_burst : pageParts 3 0xF40 1000 = [(0xF40, 192), (0x1000, 808)] := by decide +kernel

/-- Chapter 22, reaching lane 6 and port pair 88. -/
theorem test_addresses : windowBase + Reg.bneLanekCpl3 6 = 0xF002162C ∧ windowBase + Reg.hostSqnDb 88 = 0xF00412C0 := by decide +kernel

/-- FIPS 197, appendix B: a block of AES-128, and back. -/
theorem test_aes_fips197 :
    let k := beBytes 16 0x2b7e151628aed2a6abf7158809cf4f3c
    let c := beBytes 16 0x3925841d02dc09fbdc118597196a0b32
    aesEncrypt k (beBytes 16 0x3243f6a8885a308d313198a2e0370734) = c ∧ aesDecrypt k c = beBytes 16 0x3243f6a8885a308d313198a2e0370734 := by decide +kernel

/-- A guest's core at kernel level in a frame of chapter 15's example. -/
def windowed (wcwp wrb wres wsp : Nat) : State :=
  guestCore 1 fun x => { x with v := { x.v with wcwp := wcwp, wrb := wrb, wres := wres, wown := 0x55555555, wspK := BitVec.ofNat 64 wsp } }

/-- The window registers after a step, and the spill pointer. -/
def windowOf (o : Host.Outcome State Fault Refusal) : Option (Nat × Nat × Nat × Nat) :=
  match o with
  | .next t => let v := (t.core (.span .a 5)).v; some (v.wcwp, v.wrb, v.wres, v.wspK.toNat)
  | _ => none

/-- Chapter 15, three windows deep: a call that spills one group, a call that spills two, a return that needs no fill, and one that fills a group. -/
theorem test_windows : windowOf (exec (.call (.span .a 5) 64) (windowed 54 0 70 0x100000)) = some (64, 6, 74, 0xFFFD0) ∧
    windowOf (exec (.call (.span .a 5) 64) (windowed 64 6 74 0xFFFD0)) = some (74, 18, 72, 0xFFF70) ∧
    windowOf (exec (.ret (.span .a 5) 24) (windowed 74 18 72 0xFFF70)) = some (64, 18, 62, 0xFFF70) ∧
    windowOf (exec (.ret (.span .a 5) 24) (windowed 24 18 22 0xFFF70)) = some (14, 12, 18, 0xFFFA0) := by decide +kernel
end Sys2Proof.Tests
end

namespace Sys2Proof.Proofs

open Sys2Proof.Machine Sys2Proof.Laws

/-! ### What a command leaves in its lane (R209, R234) -/

variable {s : State} {sp : SpanId} {k op : Nat} {c : LaneCmd} {g : Group}

/-- A lane that exists reads as it was set. -/
theorem lane_setLane (l : Lane) (hk : k < (s.span sp).lanes.length) : (s.setLane sp k l).lane sp k = l := by
  simp [State.lane, List.getD_eq_getElem?_getD, hk]

/-- The other lanes of the span read as before. -/
theorem lane_setLane_ne (l : Lane) {j : Nat} (hj : j ≠ k) : (s.setLane sp k l).lane sp j = s.lane sp j := by
  simp [State.lane, List.getD_eq_getElem?_getD, List.getElem?_set_ne hj.symm]

theorem updWorlds_id (s : State) (sp : SpanId) : (s.updWorlds sp fun w => w) = s := by cases sp <;> rfl

/-- A lane that does not go into its wipe with stores to release is put back as it is (R209). -/
theorem putLane_eq_setLane {l : Lane} (h : l.mode = .wiping → l.staging = []) : s.putLane sp k l = s.setLane sp k l := by
  unfold State.putLane
  split
  · next hw =>
    have hs := h hw.1
    have hl : { l with staging := [] } = l := by rw [← hs]
    simp [hs, hl, updWorlds_id]
  · rfl

/-! Slots. -/

theorem slot_setSlot {l : Lane} (h : sparseWf (fun _ => 0) none l.slots = true) (i v : Nat) : (l.setSlot i v).slot i = v :=
  sparseGet_set_some (fun _ => 0) i v l.slots none h

theorem slot_setSlot_ne (l : Lane) {i j : Nat} (v : Nat) (hj : j ≠ i) : (l.setSlot i v).slot j = l.slot j :=
  sparseGet_set_ne 0 v _ hj l.slots

theorem slots_setSlot_wf {l : Lane} (h : sparseWf (fun _ => 0) none l.slots = true) (i v : Nat) :
    sparseWf (fun _ => 0) none (l.setSlot i v).slots = true :=
  sparseSet_wf (fun _ => 0) i v l.slots h

/-! The step to the next command. -/

/-- What the end of a run leaves alone. -/
theorem endRun_keeps (l : Lane) (c : LaneCmd) :
    (l.endRun c).slots = l.slots ∧ (l.endRun c).staging = l.staging ∧ (l.endRun c).xof = l.xof := by
  unfold Lane.endRun Lane.endJob
  dsimp only
  split
  · exact ⟨rfl, rfl, rfl⟩
  · split
    · split <;> exact ⟨rfl, rfl, rfl⟩
    · exact ⟨rfl, rfl, rfl⟩

/-- The end of a run is a change of the mode, and only the end of a first run can lead to the wipe (R207, R209). -/
theorem endRun_mode {l : Lane} (c : LaneCmd) (hm : l.mode ∈ [LaneMode.runFirst, .runSecond]) :
    (l.endRun c).mode ≠ l.mode ∧ ((l.endRun c).mode = .wiping → l.mode ≠ .runSecond) := by
  unfold Lane.endRun Lane.endJob
  dsimp only
  obtain hm | hm : l.mode = .runFirst ∨ l.mode = .runSecond := by simpa using hm
  · rw [hm]
    dsimp only
    split
    · split <;> simp
    · simp
  · simp [hm]

/-- What the step to the next command leaves alone. -/
theorem advance_keeps (l : Lane) (c : LaneCmd) (n : Nat) :
    (l.advance c n).slots = l.slots ∧ (l.advance c n).staging = l.staging ∧ (l.advance c n).xof = l.xof := by
  unfold Lane.advance
  dsimp only
  split
  · exact endRun_keeps _ c
  · exact ⟨rfl, rfl, rfl⟩

@[simp] theorem slot_advance (l : Lane) (c : LaneCmd) (n i : Nat) : (l.advance c n).slot i = l.slot i := by
  obtain ⟨hslots, -, -⟩ := advance_keeps l c n
  exact congrArg (sparseGet 0 i) hslots

@[simp] theorem staging_advance (l : Lane) (c : LaneCmd) (n : Nat) : (l.advance c n).staging = l.staging := by
  obtain ⟨-, hstaging, -⟩ := advance_keeps l c n
  exact hstaging

@[simp] theorem xof_advance (l : Lane) (c : LaneCmd) (n : Nat) : (l.advance c n).xof = l.xof := by
  obtain ⟨-, -, hxof⟩ := advance_keeps l c n
  exact hxof

/-- A lane whose first run has staged nothing steps on without stores to release. -/
theorem advance_no_stores {l : Lane} (c : LaneCmd) (n : Nat) (hm : l.mode ∈ [LaneMode.runFirst, .runSecond])
    (hs : l.mode ≠ .runSecond → l.staging = []) (hw : (l.advance c n).mode = .wiping) : (l.advance c n).staging = [] := by
  rw [staging_advance]
  apply hs
  unfold Lane.advance at hw
  dsimp only at hw
  split at hw
  · exact (endRun_mode (l := { l with cycles := l.cycles + n }) c hm).2 hw
  · intro h
    simp [h] at hw

/-- A lane that stays in its run steps on without losing REJECT. -/
theorem reject_advance {l : Lane} {c : LaneCmd} {n : Nat} (hm : l.mode ∈ [LaneMode.runFirst, .runSecond])
    (h : (l.advance c n).mode = l.mode) : (l.advance c n).reject = l.reject := by
  unfold Lane.advance at h ⊢
  dsimp only at h ⊢
  split at h
  · exact absurd h (endRun_mode (l := { l with cycles := l.cycles + n }) c hm).1
  · rename_i hc
    simp [hc]

/-! The command that a lane runs. -/

/-- The command at the head of a running lane acts, and its lane is put back. -/
theorem laneCmd_eq {f : Lane → LaneCmd → Lane} (h : s.laneOp sp k op [.runFirst, .runSecond] c) :
    s.laneCmd sp k op inRun f = .next (s.putLane sp k (f (s.lane sp k) c)) := by
  obtain ⟨⟨hk, -, hm, hn, ho, -, hv⟩, -⟩ := h
  have hr : inRun (s.lane sp k).mode = true := by
    obtain hm | hm : (s.lane sp k).mode = .runFirst ∨ (s.lane sp k).mode = .runSecond := by simpa using hm
    · rw [hm]; rfl
    · rw [hm]; rfl
  simp [State.laneCmd, hn, hv, hk, ho, hr]

/-- A command that leaves mode and stores of its lane alone is done with one step of the lane. -/
theorem laneCmd_advance {f : Lane → LaneCmd → Lane} {l' : Lane} {n : Nat} (h : s.laneOp sp k op [.runFirst, .runSecond] c)
    (hf : f (s.lane sp k) c = l'.advance c n) (hm : l'.mode = (s.lane sp k).mode) (hs : l'.staging = (s.lane sp k).staging) :
    s.laneCmd sp k op inRun f = .next (s.setLane sp k (l'.advance c n)) := by
  rw [laneCmd_eq h, hf]
  obtain ⟨⟨-, -, hrun, -⟩, hst⟩ := h
  rw [← hm] at hrun hst
  rw [← hs] at hst
  rw [putLane_eq_setLane (advance_no_stores c n hrun hst)]

/-- A lane that runs a command exists, so that it reads as it was set. -/
theorem lane_setLane_of_laneOp (h : s.laneOp sp k op [.runFirst, .runSecond] c) (l : Lane) : (s.setLane sp k l).lane sp k = l := by
  obtain ⟨⟨hk, hlen, -⟩, -⟩ := h
  exact lane_setLane l (by omega)

/-- A lane set with another value in one slot only. -/
theorem slotWritten_setLane {l' : Lane} {i v : Nat} (h : s.laneOp sp k op [.runFirst, .runSecond] c) (hv : l'.slot i = v)
    (hne : ∀ j, j ≠ i → l'.slot j = (s.lane sp k).slot j) : s.slotWritten (s.setLane sp k l') sp k i v := by
  have hl := lane_setLane_of_laneOp h l'
  refine ⟨by rw [hl, hv], fun j hj => by rw [hl, hne j hj], fun j hj => lane_setLane_ne l' hj, ?_, ?_⟩
  · simp
  · simp

/-- A lane steps on with one slot changed. -/
theorem slotWritten_advance {l' : Lane} {i v n : Nat} (h : s.laneOp sp k op [.runFirst, .runSecond] c)
    (hl : l'.slots = ((s.lane sp k).setSlot i v).slots) : s.slotWritten (s.setLane sp k (l'.advance c n)) sp k i v := by
  obtain ⟨⟨-, -, -, -, -, hwf, -⟩, -⟩ := id h
  have hslot (j : Nat) : (l'.advance c n).slot j = ((s.lane sp k).setSlot i v).slot j := by
    rw [slot_advance]
    exact congrArg (sparseGet 0 j) hl
  exact slotWritten_setLane h (by rw [hslot, slot_setSlot hwf]) fun j hj => by rw [hslot, slot_setSlot_ne _ _ hj]

/-! Arithmetic commands (R234). -/

theorem lane_arith_ok {l l' : Lane} {cycles : Lane → LaneCmd → Group → Nat} {f : Lane → LaneCmd → Group → Arith Lane} {spoil : Spoil}
    (hg : l.groupOf c = some g) (hf : f l c g = .ok l') : l.arith c cycles f spoil = l'.advance c (cycles l c g) := by
  simp [Lane.arith, hg, hf]

/-- An arithmetic command that gives a lane of the same mode and stores is done with one step of that lane. -/
theorem arith_ok {l' : Lane} {cycles : Lane → LaneCmd → Group → Nat} {f : Lane → LaneCmd → Group → Arith Lane} {spoil : Spoil}
    (h : s.laneRuns sp k op c g) (hf : f (s.lane sp k) c g = .ok l') (hm : l'.mode = (s.lane sp k).mode)
    (hs : l'.staging = (s.lane sp k).staging) :
    s.arith sp k op cycles f spoil = .next (s.setLane sp k (l'.advance c (cycles (s.lane sp k) c g))) := by
  obtain ⟨hop, hg, -⟩ := h
  exact laneCmd_advance hop (lane_arith_ok hg hf) hm hs

/-- An arithmetic command that fails ends its job with the status. -/
theorem arith_error {st : Status} {cycles : Lane → LaneCmd → Group → Nat} {f : Lane → LaneCmd → Group → Arith Lane}
    (h : s.laneRuns sp k op c g) (hf : f (s.lane sp k) c g = .error st) (hst : st ≠ .ok) :
    ∃ t, s.arith sp k op cycles f = .next t ∧ s.laneEnds t sp k st := by
  obtain ⟨hop, hg, -⟩ := h
  refine ⟨_, laneCmd_eq hop, ?_⟩
  have hput (l : Lane) (hr : l.release = false) : (s.putLane sp k l).lane sp k = l := by
    have : s.putLane sp k l = s.setLane sp k l := by simp [State.putLane, hr]
    rw [this, lane_setLane_of_laneOp hop]
  simp only [Lane.arith, hg, hf]
  rw [State.laneEnds, hput _ (by simp [Lane.endJob, hst])]
  exact ⟨rfl, rfl, rfl, fun j => rfl⟩

/-- A command that gives a value writes it into DST. -/
theorem arithDst_ok {v : Nat} {cycles : Lane → LaneCmd → Group → Nat} {f : Lane → LaneCmd → Group → Arith Nat}
    (h : s.laneRuns sp k op c g) (hf : f (s.lane sp k) c g = .ok v) :
    ∃ t, s.arithDst sp k op cycles f = .next t ∧ s.slotWritten t sp k c.dst v := by
  obtain ⟨hop, -⟩ := id h
  exact ⟨_, arith_ok (l' := (s.lane sp k).setSlot c.dst v) h (by simp [hf, Except.map]) rfl rfl, slotWritten_advance hop rfl⟩

/-- A command that would write DST and fails ends its job. -/
theorem arithDst_error {st : Status} {cycles : Lane → LaneCmd → Group → Nat} {f : Lane → LaneCmd → Group → Arith Nat}
    (h : s.laneRuns sp k op c g) (hf : f (s.lane sp k) c g = .error st) (hst : st ≠ .ok) :
    ∃ t, s.arithDst sp k op cycles f = .next t ∧ s.laneEnds t sp k st :=
  arith_error h (by simp [hf, Except.map]) hst

end Sys2Proof.Proofs

namespace Sys2Proof.Proofs

open Sys2Proof.Machine Sys2Proof.Laws

variable {g : Group}

/-! ### Operands that need no correction -/

/-- The steps of the correction leave a reduced value alone. -/
theorem correctSteps_of_lt {p r : Nat} (h : r < p) : ∀ j, correctSteps p j r = r
  | 0 => if_neg (Nat.not_le.mpr h)
  | j + 1 => by
    have hstep : ¬ 2 ^ (j + 1) * p ≤ r := Nat.not_le.mpr (Nat.lt_of_lt_of_le h (Nat.le_mul_of_pos_left p (Nat.two_pow_pos _)))
    rw [correctSteps, if_neg hstep, correctSteps_of_lt h j]

theorem correct_of_lt {p r : Nat} (h : r < p) (j : Nat) : correct p j r = .ok r := by
  rw [correct, correctSteps_of_lt h, below, if_pos h]

theorem coord_of_lt {slot i : Nat} (h : limbs slot (i * g.limbs) g.limbs < g.p) :
    coord g slot i = .ok (limbs slot (i * g.limbs) g.limbs) := correct_of_lt h 2

theorem curveVal_of_lt {i : Nat} (h : g.arrays.getD i 0 < g.p) : curveVal g i = .ok (g.arrays.getD i 0) := correct_of_lt h 2

theorem scalarOperand_of_clear {n v : Nat} (h : limbs v n 1 = 0) : scalarOperand n v = .ok (limbs v 0 n) := if_pos h

/-- The scaling of a projective result is no zero of the field. -/
theorem scaleOf_pos (inputs : List Nat) : 0 < scaleOf g inputs := Nat.succ_pos _

theorem scaleOf_lt (hp : 1 < g.p) (inputs : List Nat) : scaleOf g inputs < g.p := by
  have := Nat.mod_lt (Config.projScale (g.p :: inputs)) (show 0 < g.p - 1 by omega)
  unfold scaleOf
  omega

/-! ### The points of the curve commands (R225) -/

section

variable {slot a b c : Nat} (hb : limbs b g.limbs 1 = 0) (hx : limbs a (0 * g.limbs) g.limbs < g.p)
  (hy : limbs a (1 * g.limbs) g.limbs < g.p) (hv : ∀ i, 2 ≤ i → i ≤ 5 → g.arrays.getD i 0 < g.p)

include hb hx hy hv

theorem esmul_eq :
    let r := PPoint.mul g.p (g.arrays.getD 2 0) (PPoint.ofAffine (limbs a (0 * g.limbs) g.limbs) (limbs a (1 * g.limbs) g.limbs))
      (limbs b 0 g.limbs) (64 * g.limbs)
    ∃ inputs, esmul g slot a b = .ok (putCoords g slot
      [r.x * scaleOf g inputs % g.p, r.y * scaleOf g inputs % g.p, r.z * scaleOf g inputs % g.p]) := by
  simp only [esmul, scalarOperand_of_clear hb, coord_of_lt hx, coord_of_lt hy, curveVal_of_lt (hv 2 (by omega) (by omega)),
    curveVal_of_lt (hv 3 (by omega) (by omega)), bind, Except.bind]
  exact ⟨_, rfl⟩

theorem dsmul_eq (hc : limbs c g.limbs 1 = 0) :
    let ca := g.arrays.getD 2 0
    let r := (PPoint.mul g.p ca (PPoint.ofAffine (g.arrays.getD 4 0) (g.arrays.getD 5 0)) (limbs b 0 g.limbs) (64 * g.limbs)).add g.p ca
      (PPoint.mul g.p ca (PPoint.ofAffine (limbs a (0 * g.limbs) g.limbs) (limbs a (1 * g.limbs) g.limbs)) (limbs c 0 g.limbs) (64 * g.limbs))
    ∃ inputs, dsmul g slot a b c = .ok (putCoords g slot
      [r.x * scaleOf g inputs % g.p, r.y * scaleOf g inputs % g.p, r.z * scaleOf g inputs % g.p]) := by
  simp only [dsmul, scalarOperand_of_clear hb, scalarOperand_of_clear hc, coord_of_lt hx, coord_of_lt hy,
    curveVal_of_lt (hv 2 (by omega) (by omega)), curveVal_of_lt (hv 3 (by omega) (by omega)), curveVal_of_lt (hv 4 (by omega) (by omega)),
    curveVal_of_lt (hv 5 (by omega) (by omega)), bind, Except.bind]
  exact ⟨_, rfl⟩

theorem edmul_eq (hp : 1 < g.p) :
    let x := limbs a (0 * g.limbs) g.limbs
    let y := limbs a (1 * g.limbs) g.limbs
    let r := EPoint.mul g.p (g.arrays.getD 2 0) (g.arrays.getD 3 0) ⟨x, y, 1, x * y % g.p⟩ (limbs b 0 g.limbs) (64 * g.limbs)
    ∃ inputs, edmul g slot a b = .ok (putCoords g slot
      [r.x * scaleOf g inputs % g.p, r.y * scaleOf g inputs % g.p, r.z * scaleOf g inputs % g.p, r.t * scaleOf g inputs % g.p]) := by
  simp only [edmul, scalarOperand_of_clear hb, coord_of_lt hx, coord_of_lt hy, curveVal_of_lt (hv 2 (by omega) (by omega)),
    curveVal_of_lt (hv 3 (by omega) (by omega)), Nat.mod_eq_of_lt hp, bind, Except.bind]
  exact ⟨_, rfl⟩

omit hy in
theorem xmul_eq :
    let r := ladder g.p (g.arrays.getD 2 0) (limbs a (0 * g.limbs) g.limbs) (limbs b 0 g.limbs) g.modBits (1, 0, limbs a (0 * g.limbs) g.limbs, 1)
    ∃ inputs, xmul g slot a b = .ok (putCoords g slot [r.1 * scaleOf g inputs % g.p, r.2.1 * scaleOf g inputs % g.p]) := by
  simp only [xmul, scalarOperand_of_clear hb, coord_of_lt hx, curveVal_of_lt (hv 2 (by omega) (by omega)), bind, Except.bind]
  exact ⟨_, rfl⟩

end

end Sys2Proof.Proofs

namespace Sys2Proof.Proofs

open Sys2Proof.Machine Sys2Proof.Laws

/-! ### Polynomial slots -/

@[simp] theorem length_coeffs (v : Nat) : (coeffs v).length = 256 := by simp [coeffs]

theorem ofCoeffs_cons (c : Nat) (cs : List Nat) : ofCoeffs (c :: cs) = c % 2 ^ 32 + 2 ^ 32 * ofCoeffs cs := rfl

theorem ofCoeffs_lt : ∀ cs : List Nat, ofCoeffs cs < 2 ^ (32 * cs.length)
  | [] => Nat.one_pos
  | c :: cs => by
    have ih := ofCoeffs_lt cs
    rw [ofCoeffs_cons, List.length_cons, Nat.mul_succ, Nat.pow_add]
    omega

/-- The coefficient at a place of a number made of coefficients. -/
theorem ofCoeffs_digit : ∀ (cs : List Nat) (i : Nat), ofCoeffs cs / 2 ^ (32 * i) % 2 ^ 32 = cs.getD i 0 % 2 ^ 32
  | [], i => by simp [ofCoeffs]
  | c :: cs, 0 => by
    rw [ofCoeffs_cons, List.getD_cons_zero]
    omega
  | c :: cs, i + 1 => by
    have hdiv : ofCoeffs (c :: cs) / 2 ^ 32 = ofCoeffs cs := by
      rw [ofCoeffs_cons]
      omega
    rw [Nat.mul_succ, Nat.add_comm (32 * i), Nat.pow_add, ← Nat.div_div_eq_div_mul, hdiv, List.getD_cons_succ, ofCoeffs_digit cs i]

theorem getD_of_lt {cs : List Nat} {i : Nat} (h : i < cs.length) : cs.getD i 0 = cs[i] := by
  rw [List.getD_eq_getElem?_getD, List.getElem?_eq_getElem h, Option.getD_some]

/-- A polynomial result read back. -/
theorem coeffs_polyResult {cs : List Nat} (hlen : cs.length = 256) (hlt : ∀ v ∈ cs, v < 2 ^ 32) : coeffs (polyResult 0 cs) = cs := by
  have hbits : 32 * cs.length = 64 * 128 := by rw [hlen]
  have hsize : ofCoeffs cs < 2 ^ (64 * 128) := hbits ▸ ofCoeffs_lt cs
  have hval : polyResult 0 cs = ofCoeffs cs := by
    simp only [polyResult, putLimbs, limbs, Nat.mul_zero, Nat.pow_zero, Nat.zero_div, Nat.zero_mod, Nat.mul_one, Nat.zero_add,
      Nat.sub_zero, Nat.mod_eq_of_lt hsize]
  apply List.ext_getElem
  · simp [hlen]
  · intro i _ hi
    have hdigit := ofCoeffs_digit cs i
    rw [getD_of_lt hi, Nat.mod_eq_of_lt (hlt _ (List.getElem_mem hi))] at hdigit
    simpa [coeffs, hval] using hdigit

variable {g : Group}

theorem q_pos (g : Group) : 0 < g.q := by unfold Group.q; split <;> decide

theorem q_lt (g : Group) : g.q < 2 ^ 32 := by unfold Group.q; split <;> decide

theorem canonicalCoeffs_ok {v : Nat} (h : ∀ x ∈ coeffs v, x < g.q) : canonicalCoeffs g v = .ok (coeffs v) :=
  if_pos (by simpa using h)

theorem canonicalCoeffs_error {v : Nat} (h : ¬ ∀ x ∈ coeffs v, x < g.q) : canonicalCoeffs g v = .error .arithGuard :=
  if_neg (by simpa using h)

/-! ### Lists of coefficients -/

section

variable {q : Nat}

/-- A list mapped by a function below q. -/
theorem map_lt {α : Type} {f : α → Nat} (hf : ∀ x, f x < q) (cs : List α) : ∀ v ∈ cs.map f, v < q := by
  intro v hv
  obtain ⟨x, -, rfl⟩ := List.mem_map.mp hv
  exact hf x

/-- A combination of two lists by a function below q. -/
theorem zipWith_lt {f : Nat → Nat → Nat} (hf : ∀ x y, f x y < q) : ∀ a b : List Nat, ∀ v ∈ a.zipWith f b, v < q
  | [], _ => by simp
  | _ :: _, [] => by simp
  | _ :: a, _ :: b => by
    intro v hv
    obtain rfl | hv := List.mem_cons.mp hv
    · exact hf _ _
    · exact zipWith_lt hf a b v hv

/-- Two combinations of one pair of lists, combined. -/
theorem zipWith_zipWith_same (f u v : Nat → Nat → Nat) :
    ∀ a b : List Nat, (a.zipWith u b).zipWith f (a.zipWith v b) = a.zipWith (fun x y => f (u x y) (v x y)) b
  | [], _ => rfl
  | _ :: _, [] => rfl
  | _ :: a, _ :: b => congrArg (_ :: ·) (zipWith_zipWith_same f u v a b)

/-- A combination with a canonical list that depends on the first list only. -/
theorem zipWith_eq_map_left {F : Nat → Nat → Nat} {f : Nat → Nat} (hF : ∀ x y, y < q → F x y = f x) :
    ∀ {a b : List Nat}, a.length = b.length → (∀ v ∈ b, v < q) → a.zipWith F b = a.map f
  | [], [], _, _ => rfl
  | x :: a, y :: b, hlen, hb => by
    rw [List.zipWith_cons_cons, List.map_cons, hF x y (hb y List.mem_cons_self),
      zipWith_eq_map_left hF (Nat.succ.inj hlen) fun v hv => hb v (List.mem_cons_of_mem y hv)]

/-- A combination with a canonical list that depends on that list only. -/
theorem zipWith_eq_map_right {F : Nat → Nat → Nat} {f : Nat → Nat} (hF : ∀ x y, y < q → F x y = f y) :
    ∀ {a b : List Nat}, a.length = b.length → (∀ v ∈ b, v < q) → a.zipWith F b = b.map f
  | [], [], _, _ => rfl
  | x :: a, y :: b, hlen, hb => by
    rw [List.zipWith_cons_cons, List.map_cons, hF x y (hb y List.mem_cons_self),
      zipWith_eq_map_right hF (Nat.succ.inj hlen) fun v hv => hb v (List.mem_cons_of_mem y hv)]

/-- A multiplication by a number that is 1 modulo q leaves a canonical list alone. -/
theorem map_mul_eq_self {f : Nat} (hf : f % q = 1 % q) {cs : List Nat} (h : ∀ v ∈ cs, v < q) : cs.map (fun c => f * c % q) = cs := by
  refine (List.map_congr_left fun v hv => ?_).trans (List.map_id cs)
  rw [Nat.mul_mod, hf, ← Nat.mul_mod, Nat.one_mul, Nat.mod_eq_of_lt (h v hv), id]

/-- A list of a length that allows one layer more falls into two halves. -/
theorem exists_halves {l : Nat} {cs : List Nat} (h : 2 ^ (l + 1) ∣ cs.length) :
    ∃ a b, cs = a ++ b ∧ a.length = b.length ∧ 2 ^ l ∣ b.length := by
  obtain ⟨r, hr⟩ := h
  have hlen : cs.length = 2 * (2 ^ l * r) := by rw [hr, Nat.pow_succ', Nat.mul_assoc]
  refine ⟨cs.take (2 ^ l * r), cs.drop (2 ^ l * r), (List.take_append_drop _ cs).symm, ?_, r, ?_⟩
  · rw [List.length_take, List.length_drop]
    omega
  · rw [List.length_drop]
    omega

theorem half_length {a b : List Nat} (h : a.length = b.length) : (a ++ b).length / 2 = a.length := by
  rw [List.length_append]
  omega

end

/-! ### Butterflies modulo q -/

section

/-- A number modulo q. -/
def residue (q : Nat) [NeZero q] (x : Nat) : Fin q := Fin.ofNat q x

variable {q : Nat}

theorem mod_eq_of_residue [NeZero q] {x y : Nat} (h : residue q x = residue q y) : x % q = y % q := congrArg Fin.val h

theorem residue_add [NeZero q] (x y : Nat) : residue q (x + y) = residue q x + residue q y := Fin.ext (Nat.add_mod x y q)

theorem residue_mul [NeZero q] (x y : Nat) : residue q (x * y) = residue q x * residue q y := Fin.ext (Nat.mul_mod x y q)

theorem residue_mod [NeZero q] (x : Nat) : residue q (x % q) = residue q x := Fin.ext (Nat.mod_mod x q)

theorem residue_two [NeZero q] : residue q 2 = 1 + 1 := residue_add 1 1

theorem residue_subMod [NeZero q] (x : Nat) {y : Nat} (hy : y < q) : residue q (subMod q x y) = residue q x - residue q y := by
  have hsum : residue q (subMod q x y) + residue q y = residue q x := by
    rw [← residue_add]
    refine Fin.ext ?_
    change (subMod q x y + y) % q = x % q
    rw [subMod, Nat.mod_add_mod, Nat.sub_add_cancel (by omega), Nat.add_mod_right]
  grind

variable (hq : 0 < q) {z w : Nat}

theorem subMod_lt (hq : 0 < q) (x y : Nat) : subMod q x y < q := Nat.mod_lt _ hq

include hq

/-- The sum of the two ends of a forward butterfly. -/
theorem forward_butterfly_sum (c x y : Nat) : (c * ((x + z * y % q) % q) % q + c * subMod q x (z * y % q) % q) % q = 2 * c * x % q := by
  have : NeZero q := ⟨Nat.ne_of_gt hq⟩
  apply mod_eq_of_residue
  simp only [residue_add, residue_mul, residue_mod, residue_two, residue_subMod x (Nat.mod_lt (z * y) hq)]
  grind

/-- The difference of the two ends of a forward butterfly, with the inverse root. -/
theorem forward_butterfly_diff (hzw : z * w % q = 1 % q) (c x y : Nat) :
    w * subMod q (c * ((x + z * y % q) % q) % q) (c * subMod q x (z * y % q) % q) % q = 2 * c * y % q := by
  have : NeZero q := ⟨Nat.ne_of_gt hq⟩
  have hroot : residue q z * residue q w = 1 := (residue_mul z w).symm.trans (Fin.ext hzw)
  apply mod_eq_of_residue
  simp only [residue_add, residue_mul, residue_mod, residue_two, residue_subMod x (Nat.mod_lt (z * y) hq),
    residue_subMod _ (Nat.mod_lt (c * subMod q x (z * y % q)) hq)]
  grind

/-- The forward butterfly on the two ends of an inverse one: its sum. -/
theorem inverse_butterfly_sum (hzw : z * w % q = 1 % q) (f x y : Nat) (hy : y < q) :
    (f * ((x + y) % q) % q + z * (f * (w * subMod q x y % q) % q) % q) % q = 2 * f * x % q := by
  have : NeZero q := ⟨Nat.ne_of_gt hq⟩
  have hroot : residue q z * residue q w = 1 := (residue_mul z w).symm.trans (Fin.ext hzw)
  apply mod_eq_of_residue
  simp only [residue_add, residue_mul, residue_mod, residue_two, residue_subMod x hy]
  grind

/-- The forward butterfly on the two ends of an inverse one: its difference. -/
theorem inverse_butterfly_diff (hzw : z * w % q = 1 % q) (f x y : Nat) (hy : y < q) :
    subMod q (f * ((x + y) % q) % q) (z * (f * (w * subMod q x y % q) % q) % q) = 2 * f * y % q := by
  have : NeZero q := ⟨Nat.ne_of_gt hq⟩
  have hroot : residue q z * residue q w = 1 := (residue_mul z w).symm.trans (Fin.ext hzw)
  rw [← Nat.mod_eq_of_lt (subMod_lt hq (f * ((x + y) % q) % q) (z * (f * (w * subMod q x y % q) % q) % q))]
  apply mod_eq_of_residue
  simp only [residue_add, residue_mul, residue_mod, residue_two, residue_subMod x hy,
    residue_subMod _ (Nat.mod_lt (z * (f * (w * subMod q x y % q) % q)) hq)]
  grind

end

/-! ### The roots of the transforms (R227) -/

/-- Square and multiply gives the power of the low bits of the exponent. -/
theorem powMod_eq (p x : Nat) : ∀ n e : Nat, powMod p x e n = x ^ (e % 2 ^ n) % p
  | 0, e => by rw [powMod, Nat.pow_zero, Nat.mod_one, Nat.pow_zero]
  | n + 1, e => by
    have ih := powMod_eq p x n (e / 2)
    have he : e % 2 ^ (n + 1) = 2 * (e / 2 % 2 ^ n) + e % 2 := by
      rw [Nat.pow_succ', Nat.mod_mul]
      omega
    have hsq : powMod p x (e / 2) n * powMod p x (e / 2) n % p = x ^ (2 * (e / 2 % 2 ^ n)) % p := by
      rw [ih, ← Nat.mul_mod, ← Nat.pow_add, Nat.two_mul]
    simp only [powMod, hsq, he]
    obtain h | h := Nat.mod_two_eq_zero_or_one e
    · rw [h, if_neg (by decide), Nat.add_zero]
    · rw [h, if_pos rfl, Nat.pow_succ, Nat.mod_mul_mod]

theorem brv_lt : ∀ n x : Nat, brv n x < 2 ^ n
  | 0, _ => Nat.one_pos
  | n + 1, x => by
    have ih := brv_lt n (x / 2)
    have hbit : x % 2 * 2 ^ n ≤ 1 * 2 ^ n := Nat.mul_le_mul_right _ (by omega)
    rw [brv, Nat.pow_succ']
    omega

/-- How many powers of ζ the inverse transform reckons with: a multiple of the order of ζ. -/
def rootSpan (g : Group) : Nat := if g.kind = 6 then 512 else 256

/-- ζ is a root of unity of that order. -/
theorem zeta_pow_rootSpan (g : Group) : zeta g.kind ^ rootSpan g % g.q = 1 % g.q := by
  unfold zeta rootSpan Group.q
  split <;> decide +kernel

/-- The exponents of a root and of its inverse add up to the span, or both roots are 1. -/
theorem zetaPow_mul_zetaPow (g : Group) {e : Nat} (he : e < rootSpan g) : zetaPow g.kind e * zetaPow g.kind (rootSpan g - e) % g.q = 1 % g.q := by
  change powMod g.q (zeta g.kind) e 9 * powMod g.q (zeta g.kind) (rootSpan g - e) 9 % g.q = _
  have hspan : rootSpan g ≤ 512 := by unfold rootSpan; split <;> decide
  rw [powMod_eq, powMod_eq, ← Nat.mul_mod, ← Nat.pow_add]
  by_cases hwrap : rootSpan g - e = 512
  · rw [hwrap, show e = 0 by omega]
    rfl
  · rw [show e % 2 ^ 9 + (rootSpan g - e) % 2 ^ 9 = rootSpan g by omega, zeta_pow_rootSpan]

/-- The root of a node of the transform. -/
def nodeRoot (g : Group) (m : Nat) : Nat := zetaPow g.kind (brv (layersOf g.kind) m)

/-- The root of a node of the inverse transform. -/
def nodeInverse (g : Group) (m : Nat) : Nat := zetaPow g.kind (rootSpan g - brv (layersOf g.kind) m)

theorem nodeRoot_mul_nodeInverse (g : Group) (m : Nat) : nodeRoot g m * nodeInverse g m % g.q = 1 % g.q := by
  refine zetaPow_mul_zetaPow g (Nat.lt_of_lt_of_le (brv_lt (layersOf g.kind) m) ?_)
  unfold layersOf rootSpan
  split <;> decide

/-- The factor by which PINTT divides by the length. -/
def lengthInverse (g : Group) : Nat := if g.kind = 6 then 8347681 else 3303

theorem lengthInverse_mul (g : Group) : 2 ^ layersOf g.kind * lengthInverse g % g.q = 1 % g.q := by
  unfold layersOf lengthInverse Group.q
  split <;> decide +kernel

/-! ### The transforms undo each other -/

section

variable (g : Group)

/-- A block of the transform: the butterflies of its two halves, and their blocks. -/
theorem nttBlock_append (l m : Nat) {a b : List Nat} (h : a.length = b.length) : nttBlock g.kind g.q (l + 1) m (a ++ b) =
    nttBlock g.kind g.q l (2 * m) (a.zipWith (fun x y => (x + nodeRoot g m * y % g.q) % g.q) b) ++
      nttBlock g.kind g.q l (2 * m + 1) (a.zipWith (fun x y => subMod g.q x (nodeRoot g m * y % g.q)) b) := by
  simp only [nttBlock, half_length h, List.take_left, List.drop_left, List.zipWith_map_right, nodeRoot]

/-- A block of the inverse transform: the blocks of its two halves, and their butterflies. -/
theorem inttBlock_append (l m : Nat) {a b : List Nat} (h : a.length = b.length) : inttBlock g.kind g.q (l + 1) m (a ++ b) =
    (inttBlock g.kind g.q l (2 * m) a).zipWith (fun x y => (x + y) % g.q) (inttBlock g.kind g.q l (2 * m + 1) b) ++
      (inttBlock g.kind g.q l (2 * m) a).zipWith (fun x y => nodeInverse g m * subMod g.q x y % g.q)
        (inttBlock g.kind g.q l (2 * m + 1) b) := by
  simp only [inttBlock, half_length h, List.take_left, List.drop_left, nodeInverse, rootSpan]

/-- The transforms keep coefficients canonical. -/
theorem nttBlock_lt : ∀ (l m : Nat) (cs : List Nat), (∀ v ∈ cs, v < g.q) → ∀ v ∈ nttBlock g.kind g.q l m cs, v < g.q
  | 0, _, _, h => h
  | l + 1, m, cs, _ => by
    intro v hv
    rw [nttBlock, List.mem_append] at hv
    obtain hv | hv := hv
    · exact nttBlock_lt l _ _ (zipWith_lt (fun _ _ => Nat.mod_lt _ (q_pos g)) _ _) v hv
    · exact nttBlock_lt l _ _ (zipWith_lt (fun _ _ => Nat.mod_lt _ (q_pos g)) _ _) v hv

theorem inttBlock_lt : ∀ (l m : Nat) (cs : List Nat), (∀ v ∈ cs, v < g.q) → ∀ v ∈ inttBlock g.kind g.q l m cs, v < g.q
  | 0, _, _, h => h
  | l + 1, m, cs, _ => by
    intro v hv
    rw [inttBlock, List.mem_append] at hv
    obtain hv | hv := hv
    · exact zipWith_lt (fun _ _ => Nat.mod_lt _ (q_pos g)) _ _ v hv
    · exact zipWith_lt (fun _ _ => Nat.mod_lt _ (q_pos g)) _ _ v hv

theorem length_nttBlock : ∀ (l m : Nat) (cs : List Nat), 2 ^ l ∣ cs.length → (nttBlock g.kind g.q l m cs).length = cs.length
  | 0, _, _, _ => rfl
  | l + 1, m, cs, h => by
    obtain ⟨a, b, rfl, hab, hb⟩ := exists_halves h
    have hzip (f : Nat → Nat → Nat) : (a.zipWith f b).length = b.length := by rw [List.length_zipWith, hab, Nat.min_self]
    have hdvd (f : Nat → Nat → Nat) : 2 ^ l ∣ (a.zipWith f b).length := (hzip f).symm ▸ hb
    rw [nttBlock_append g l m hab, List.length_append, length_nttBlock l _ _ (hdvd _), length_nttBlock l _ _ (hdvd _), hzip, hzip,
      List.length_append, hab]

theorem length_inttBlock : ∀ (l m : Nat) (cs : List Nat), 2 ^ l ∣ cs.length → (inttBlock g.kind g.q l m cs).length = cs.length
  | 0, _, _, _ => rfl
  | l + 1, m, cs, h => by
    obtain ⟨a, b, rfl, hab, hb⟩ := exists_halves h
    rw [inttBlock_append g l m hab, List.length_append, List.length_zipWith, List.length_zipWith, length_inttBlock l _ a (hab ▸ hb),
      length_inttBlock l _ b hb, hab, Nat.min_self, List.length_append, hab]

/-- The inverse transform undoes the transform up to the length. -/
theorem inttBlock_nttBlock : ∀ (l m : Nat) (cs : List Nat), 2 ^ l ∣ cs.length → (∀ v ∈ cs, v < g.q) →
    inttBlock g.kind g.q l m (nttBlock g.kind g.q l m cs) = cs.map fun c => 2 ^ l * c % g.q
  | 0, _, cs, _, h => (map_mul_eq_self rfl h).symm
  | l + 1, m, cs, h, hlt => by
    obtain ⟨a, b, rfl, hab, hb⟩ := exists_halves h
    have hdvd (f : Nat → Nat → Nat) : 2 ^ l ∣ (a.zipWith f b).length := by rwa [List.length_zipWith, hab, Nat.min_self]
    have hblt : ∀ v ∈ b, v < g.q := fun v hv => hlt v (List.mem_append_right a hv)
    have hblocks : (nttBlock g.kind g.q l (2 * m) (a.zipWith (fun x y => (x + nodeRoot g m * y % g.q) % g.q) b)).length =
        (nttBlock g.kind g.q l (2 * m + 1) (a.zipWith (fun x y => subMod g.q x (nodeRoot g m * y % g.q)) b)).length := by
      rw [length_nttBlock g l _ _ (hdvd _), length_nttBlock g l _ _ (hdvd _), List.length_zipWith, List.length_zipWith]
    rw [nttBlock_append g l m hab, inttBlock_append g l m hblocks,
      inttBlock_nttBlock l _ _ (hdvd _) (zipWith_lt (fun _ _ => Nat.mod_lt _ (q_pos g)) a b),
      inttBlock_nttBlock l _ _ (hdvd _) (zipWith_lt (fun _ _ => subMod_lt (q_pos g) _ _) a b)]
    simp only [List.map_zipWith, zipWith_zipWith_same]
    rw [zipWith_eq_map_left (fun x y _ => forward_butterfly_sum (q_pos g) (2 ^ l) x y) hab hblt,
      zipWith_eq_map_right (fun x y _ => forward_butterfly_diff (q_pos g) (nodeRoot_mul_nodeInverse g m) (2 ^ l) x y) hab hblt,
      Nat.pow_succ', List.map_append]

/-- The transform undoes the inverse transform, multiplied by a factor, up to the length. -/
theorem nttBlock_map_inttBlock : ∀ (l m f : Nat) (cs : List Nat), 2 ^ l ∣ cs.length → (∀ v ∈ cs, v < g.q) →
    nttBlock g.kind g.q l m ((inttBlock g.kind g.q l m cs).map fun c => f * c % g.q) = cs.map fun c => 2 ^ l * f * c % g.q
  | 0, _, f, cs, _, _ => by rw [Nat.pow_zero, Nat.one_mul]; rfl
  | l + 1, m, f, cs, h, hlt => by
    obtain ⟨a, b, rfl, hab, hb⟩ := exists_halves h
    have halt : ∀ v ∈ a, v < g.q := fun v hv => hlt v (List.mem_append_left b hv)
    have hblt : ∀ v ∈ b, v < g.q := fun v hv => hlt v (List.mem_append_right a hv)
    have hblocks : (inttBlock g.kind g.q l (2 * m) a).length = (inttBlock g.kind g.q l (2 * m + 1) b).length := by
      rw [length_inttBlock g l _ a (hab ▸ hb), length_inttBlock g l _ b hb, hab]
    have hlen (u v : Nat → Nat → Nat) : ((inttBlock g.kind g.q l (2 * m) a).zipWith u (inttBlock g.kind g.q l (2 * m + 1) b)).length =
        ((inttBlock g.kind g.q l (2 * m) a).zipWith v (inttBlock g.kind g.q l (2 * m + 1) b)).length := by
      rw [List.length_zipWith, List.length_zipWith]
    have hcanon := inttBlock_lt g l (2 * m + 1) b hblt
    rw [inttBlock_append g l m hab, List.map_append, List.map_zipWith, List.map_zipWith, nttBlock_append g l m (hlen _ _),
      zipWith_zipWith_same, zipWith_zipWith_same,
      zipWith_eq_map_left (fun x y hy => inverse_butterfly_sum (q_pos g) (nodeRoot_mul_nodeInverse g m) f x y hy) hblocks hcanon,
      zipWith_eq_map_right (fun x y hy => inverse_butterfly_diff (q_pos g) (nodeRoot_mul_nodeInverse g m) f x y hy) hblocks hcanon,
      nttBlock_map_inttBlock l _ (2 * f) a (hab ▸ hb) halt, nttBlock_map_inttBlock l _ (2 * f) b hb hblt, List.map_append,
      Nat.pow_succ, Nat.mul_assoc (2 ^ l)]

end

/-! ### PNTT and PINTT (R227, R229) -/

/-- The values that PNTT writes. -/
def forward (g : Group) (cs : List Nat) : List Nat := nttBlock g.kind g.q (layersOf g.kind) 1 cs

/-- The values that PINTT writes. -/
def backward (g : Group) (cs : List Nat) : List Nat :=
  (inttBlock g.kind g.q (layersOf g.kind) 1 cs).map fun c => lengthInverse g * c % g.q

section

variable {g : Group} {cs : List Nat} {v : Nat} (slot : Nat)

theorem pntt_ok (h : ∀ x ∈ coeffs v, x < g.q) : pntt g slot v = .ok (polyResult slot (forward g (coeffs v))) := by
  rw [pntt, canonicalCoeffs_ok h]
  rfl

theorem pintt_ok (h : ∀ x ∈ coeffs v, x < g.q) : pintt g slot v = .ok (polyResult slot (backward g (coeffs v))) := by
  rw [pintt, canonicalCoeffs_ok h]
  rfl

theorem pntt_error (h : ¬ ∀ x ∈ coeffs v, x < g.q) : pntt g slot v = .error .arithGuard := by
  rw [pntt, canonicalCoeffs_error h]
  rfl

theorem forward_lt (h : ∀ v ∈ cs, v < g.q) : ∀ v ∈ forward g cs, v < g.q := nttBlock_lt g _ _ cs h

theorem backward_lt : ∀ v ∈ backward g cs, v < g.q := map_lt (fun _ => Nat.mod_lt _ (q_pos g)) _

theorem layers_dvd (hlen : cs.length = 256) : 2 ^ layersOf g.kind ∣ cs.length := by
  rw [hlen]
  unfold layersOf
  split <;> decide

theorem length_forward (hlen : cs.length = 256) : (forward g cs).length = 256 := by
  rw [forward, length_nttBlock g _ _ _ (layers_dvd hlen), hlen]

theorem length_backward (hlen : cs.length = 256) : (backward g cs).length = 256 := by
  rw [backward, List.length_map, length_inttBlock g _ _ _ (layers_dvd hlen), hlen]

/-- The inverse transform undoes the transform. -/
theorem backward_forward (hlen : cs.length = 256) (h : ∀ v ∈ cs, v < g.q) : backward g (forward g cs) = cs := by
  have hmul (c : Nat) : lengthInverse g * (2 ^ layersOf g.kind * c % g.q) % g.q = 2 ^ layersOf g.kind * lengthInverse g * c % g.q := by
    rw [Nat.mul_mod_mod, ← Nat.mul_assoc, Nat.mul_comm (lengthInverse g)]
  rw [backward, forward, inttBlock_nttBlock g _ _ _ (layers_dvd hlen) h, List.map_map]
  exact (List.map_congr_left fun c _ => hmul c).trans (map_mul_eq_self (lengthInverse_mul g) h)

/-- The transform undoes the inverse transform. -/
theorem forward_backward (hlen : cs.length = 256) (h : ∀ v ∈ cs, v < g.q) : forward g (backward g cs) = cs := by
  rw [backward, forward, nttBlock_map_inttBlock g _ _ _ _ (layers_dvd hlen) h]
  exact map_mul_eq_self (lengthInverse_mul g) h

end

end Sys2Proof.Proofs

namespace Sys2Proof.Proofs

open Sys2Proof.Machine Sys2Proof.Laws

/-! ### Curve commands (R225) -/

variable {s : State} {sp : SpanId} {k op : Nat} {c : LaneCmd} {g : Group}

/-- A curve command that gives a projective result up to its scaling completes with a multiple of that result by a factor in [1, p). -/
theorem curve_completes {cycles : Lane → LaneCmd → Group → Nat} {f : Lane → LaneCmd → Group → Arith Nat} {v : Nat → List Nat}
    (h : s.laneRuns sp k op c g) (hp : 1 < g.p)
    (hf : ∃ inputs, f (s.lane sp k) c g = .ok (putCoords g ((s.lane sp k).slot c.dst) (v (scaleOf g inputs)))) :
    ∃ t, s.arithDst sp k op cycles f = .next t ∧
      ∃ r, 0 < r ∧ r < g.p ∧ s.slotWritten t sp k c.dst (putCoords g ((s.lane sp k).slot c.dst) (v r)) := by
  obtain ⟨inputs, hf⟩ := hf
  obtain ⟨t, ht, hw⟩ := arithDst_ok h hf
  exact ⟨t, ht, _, scaleOf_pos inputs, scaleOf_lt hp inputs, hw⟩

/-! ### Polynomial commands (R227 to R233) -/

/-! Chains of products (R231). -/

theorem products_lt {x y : List Nat} : ∀ v ∈ products g x y, v < g.q := by
  unfold products
  split
  · exact zipWith_lt (fun _ _ => Nat.mod_lt _ (q_pos g)) x y
  · refine map_lt (fun i => ?_) _
    dsimp only
    split <;> exact Nat.mod_lt _ (q_pos g)

theorem length_products {x y : List Nat} (hx : x.length = 256) (hy : y.length = 256) : (products g x y).length = 256 := by
  unfold products
  split <;> simp [hx, hy]

/-- The sums of a chain: what stood there, and the products with the multiples of q that the lane has not reduced (log entry 52). -/
def chainSum (q width : Nat) (lift : Nat × Nat → Nat) (old ps : List Nat) : List Nat :=
  old.zipWith (· + ·) (ps.zipIdx.map fun c => c.1 + q * (lift c % width))

section

variable {q width bound : Nat} {lift : Nat × Nat → Nat} {old ps : List Nat}

theorem length_chainSum (h : old.length = ps.length) : (chainSum q width lift old ps).length = old.length := by
  simp [chainSum, h]

theorem getElem_chainSum {i : Nat} (hi : i < (chainSum q width lift old ps).length) (ho : i < old.length) (hp : i < ps.length) :
    (chainSum q width lift old ps)[i] = old[i] + (ps[i] + q * (lift (ps[i], i) % width)) := by
  simp [chainSum]

/-- A chain stays below its bound, raised by one product. -/
theorem chainSum_lt (h : old.length = ps.length) (hold : ∀ v ∈ old, v < bound) (hps : ∀ v ∈ ps, v < q) (hw : 0 < width) :
    ∀ v ∈ chainSum q width lift old ps, v < bound + width * q := by
  intro v hv
  obtain ⟨i, hi, rfl⟩ := List.getElem_of_mem hv
  have ho : i < old.length := by rwa [length_chainSum h] at hi
  have hp : i < ps.length := h ▸ ho
  have hlift : q * (lift (ps[i], i) % width + 1) ≤ q * width := Nat.mul_le_mul_left q (Nat.mod_lt _ hw)
  have hbase := hold _ (List.getElem_mem ho)
  have hprod := hps _ (List.getElem_mem hp)
  rw [getElem_chainSum hi ho hp]
  rw [Nat.mul_add, Nat.mul_one, Nat.mul_comm q width] at hlift
  omega

/-- A chain holds its sum modulo q. -/
theorem chainSum_mod (h : old.length = ps.length) {i : Nat} (hi : i < old.length) :
    (chainSum q width lift old ps).getD i 0 % q = (old.getD i 0 + ps.getD i 0) % q := by
  have hs : i < (chainSum q width lift old ps).length := by rwa [length_chainSum h]
  have hp : i < ps.length := h ▸ hi
  rw [getD_of_lt hs, getD_of_lt hi, getD_of_lt hp, getElem_chainSum hs hi hp, ← Nat.add_assoc,
    Nat.add_mul_mod_self_left]

end

/-- What a PMAC adds its products to. -/
def chainBase (start : Bool) (slot : Nat) : List Nat := if start then List.replicate 256 0 else coeffs slot

theorem length_chainBase (start : Bool) (slot : Nat) : (chainBase start slot).length = 256 := by
  cases start
  · exact length_coeffs slot
  · exact List.length_replicate

/-- By how many multiples of q a product may lie above its residue (R231). -/
def chainWidth (g : Group) : Nat := if g.kind = 6 then 2 else 4

/-- The bound of what a PMAC adds its products to, after a chain of `n` (R231). -/
def chainBound (g : Group) (start : Bool) (n : Nat) : Nat := g.q + (if start then 0 else n) * chainWidth g * g.q

theorem chainWidth_pos (g : Group) : 0 < chainWidth g := by unfold chainWidth; split <;> decide

/-- PMAC on canonical sources, as long as the chain keeps to its bound. -/
theorem pmac_ok {slot a b n : Nat} {start end_ : Bool} (ha : ∀ v ∈ coeffs a, v < g.q) (hb : ∀ v ∈ coeffs b, v < g.q)
    (hold : ∀ v ∈ chainBase start slot, v < chainBound g start n) (hroom : chainBound g start n + chainWidth g * g.q ≤ 2 ^ 32) :
    ∃ x : List Nat, pmac g slot a b start end_ n = .ok (polyResult slot x) ∧ x.length = 256 ∧ (end_ = true → ∀ v ∈ x, v < g.q) ∧
      ∀ i < 256, x.getD i 0 % g.q = ((chainBase start slot).getD i 0 + (products g (coeffs a) (coeffs b)).getD i 0) % g.q := by
  let lift (c : Nat × Nat) : Nat := Config.pmacLift g.kind c.2 ((coeffs a).getD c.2 0) ((coeffs b).getD c.2 0) c.1
  let sum := chainSum g.q (chainWidth g) lift (chainBase start slot) (products g (coeffs a) (coeffs b))
  have hlen : (chainBase start slot).length = (products g (coeffs a) (coeffs b)).length := by
    rw [length_chainBase, length_products (length_coeffs a) (length_coeffs b)]
  have hsumlen : sum.length = 256 := by rw [length_chainSum hlen, length_chainBase]
  have hlt : ∀ v ∈ sum, v < 2 ^ 32 := fun v hv => Nat.lt_of_lt_of_le (chainSum_lt hlen hold products_lt (chainWidth_pos g) v hv) hroom
  have hbase : (if start then .ok (List.replicate 256 0)
      else if (coeffs slot).all (fun c => decide (c < g.q + n * (if g.kind = 6 then 2 else 4) * g.q)) then .ok (coeffs slot)
      else guardFail : Arith (List Nat)) =
      .ok (chainBase start slot) := by
    cases start
    · exact (if_neg Bool.false_ne_true).trans (if_pos (List.all_eq_true.mpr fun v hv => decide_eq_true (hold v hv)))
    · rfl
  have hguard : (sum.any fun c => decide (2 ^ 32 ≤ c)) = false := by simpa using hlt
  refine ⟨if end_ then sum.map (· % g.q) else sum, ?_, ?_, ?_, fun i hi => ?_⟩
  · simp only [pmac, canonicalCoeffs_ok ha, canonicalCoeffs_ok hb, bind, Except.bind]
    rw [hbase]
    exact if_neg (Bool.eq_false_iff.mp hguard)
  · split <;> simp [hsumlen]
  · intro he v hv
    rw [if_pos he] at hv
    exact map_lt (fun _ => Nat.mod_lt _ (q_pos g)) _ v hv
  · have hmod : sum.getD i 0 % g.q = _ := chainSum_mod hlen (by rwa [length_chainBase])
    rw [← hmod]
    cases end_
    · rfl
    · simp [List.getD_eq_getElem?_getD, hsumlen, hi]

/-- The lane after a PMAC with a result: the result in DST, and its chain longer by one. -/
def pmacDone (l : Lane) (c : LaneCmd) (v : Nat) : Lane :=
  { l.setSlot c.dst v with polyChain := sparseSet c.dst (if c.chainStart then 1 else sparseGet 0 c.dst l.polyChain + 1) true l.polyChain }

/-- What a PMAC whose second operand is `b` makes of its lane. -/
def pmacLane (l : Lane) (c : LaneCmd) (g : Group) (b : Nat) : Arith Lane := do
  let v ← pmac g (l.slot c.dst) (l.slot c.srcA) b c.chainStart c.chainEnd (sparseGet 0 c.dst l.polyChain)
  .ok (pmacDone l c v)

/-- The cycles of a PMAC. -/
def pmacCycles (_ : Lane) (c : LaneCmd) (g : Group) : Nat := (if g.kind = 6 then 144 else 336) + (if c.stream then 86 else 0)

theorem exec_pmac_of_slot (hn : (s.lane sp k).next = some c) (hs : c.stream = false) :
    exec (.pmac sp k) s = s.arith sp k 0x32 pmacCycles fun l c g => pmacLane l c g (l.slot c.srcB) :=
  if_neg (by simp [hn, hs])

theorem exec_pmac_of_stream {bs : List Byte} (hn : (s.lane sp k).next = some c) (hs : c.stream = true)
    (hr : s.laneRead sp k c.addr 1024 = .ok bs) :
    exec (.pmac sp k) s = s.arith sp k 0x32 pmacCycles fun l c g => pmacLane l c g (ofLe bs) := by
  refine (if_pos (by simp [hn, hs])).trans ?_
  simp only [State.laneFetch, hn, hr]
  rfl

/-- A PMAC adds its products to DST. -/
theorem pmac_completes {b : Lane → LaneCmd → Nat} (h : s.laneRuns sp k 0x32 c g) (ha : ∀ v ∈ coeffs ((s.lane sp k).slot c.srcA), v < g.q)
    (hb : ∀ v ∈ coeffs (b (s.lane sp k) c), v < g.q)
    (hold : ∀ v ∈ chainBase c.chainStart ((s.lane sp k).slot c.dst), v < chainBound g c.chainStart (sparseGet 0 c.dst (s.lane sp k).polyChain))
    (hroom : chainBound g c.chainStart (sparseGet 0 c.dst (s.lane sp k).polyChain) + chainWidth g * g.q ≤ 2 ^ 32) :
    ∃ t, s.arith sp k 0x32 pmacCycles (fun l c g => pmacLane l c g (b l c)) = .next t ∧ ∃ x : List Nat, x.length = 256 ∧
      s.slotWritten t sp k c.dst (polyResult ((s.lane sp k).slot c.dst) x) ∧ (c.chainEnd = true → ∀ v ∈ x, v < g.q) ∧
      ∀ i < 256, x.getD i 0 % g.q = ((chainBase c.chainStart ((s.lane sp k).slot c.dst)).getD i 0 +
        (products g (coeffs ((s.lane sp k).slot c.srcA)) (coeffs (b (s.lane sp k) c))).getD i 0) % g.q := by
  obtain ⟨x, hx, hlen, hend, hmod⟩ := pmac_ok (end_ := c.chainEnd) ha hb hold hroom
  have hlane : pmacLane (s.lane sp k) c g (b (s.lane sp k) c) = .ok (pmacDone (s.lane sp k) c (polyResult ((s.lane sp k).slot c.dst) x)) := by
    rw [pmacLane, hx]
    rfl
  exact ⟨_, arith_ok h hlane rfl rfl, x, hlen, slotWritten_advance h.1 rfl, hend, hmod⟩


/-! The transforms. -/

theorem pntt_completes (h : s.laneRuns sp k 0x30 c g) (ha : ∀ v ∈ coeffs ((s.lane sp k).slot c.srcA), v < g.q) :
    ∃ t x, exec (.pntt sp k) s = .next t ∧ x.length = 256 ∧ (∀ v ∈ x, v < g.q) ∧
      s.slotWritten t sp k c.dst (polyResult ((s.lane sp k).slot c.dst) x) ∧
      pintt g 0 (polyResult 0 x) = .ok (polyResult 0 (coeffs ((s.lane sp k).slot c.srcA))) := by
  obtain ⟨t, ht, hw⟩ := arithDst_ok (cycles := fun _ _ g => if g.kind = 6 then 528 else 464)
    (f := fun l c g => pntt g (l.slot c.dst) (l.slot c.srcA)) h (pntt_ok _ ha)
  have hlen : (forward g (coeffs ((s.lane sp k).slot c.srcA))).length = 256 := length_forward (length_coeffs _)
  have hread := coeffs_polyResult hlen fun v hv => Nat.lt_trans (forward_lt ha v hv) (q_lt g)
  refine ⟨t, _, ht, hlen, forward_lt ha, hw, ?_⟩
  rw [pintt_ok 0 (by rw [hread]; exact forward_lt ha), hread, backward_forward (length_coeffs _) ha]

theorem pintt_completes (h : s.laneRuns sp k 0x31 c g) (ha : ∀ v ∈ coeffs ((s.lane sp k).slot c.srcA), v < g.q) :
    ∃ t x, exec (.pintt sp k) s = .next t ∧ x.length = 256 ∧ (∀ v ∈ x, v < g.q) ∧
      s.slotWritten t sp k c.dst (polyResult ((s.lane sp k).slot c.dst) x) ∧
      pntt g 0 (polyResult 0 x) = .ok (polyResult 0 (coeffs ((s.lane sp k).slot c.srcA))) := by
  obtain ⟨t, ht, hw⟩ := arithDst_ok (cycles := fun _ _ g => if g.kind = 6 then 672 else 608)
    (f := fun l c g => pintt g (l.slot c.dst) (l.slot c.srcA)) h (pintt_ok _ ha)
  have hlen : (backward g (coeffs ((s.lane sp k).slot c.srcA))).length = 256 := length_backward (length_coeffs _)
  have hread := coeffs_polyResult hlen fun v hv => Nat.lt_trans (backward_lt v hv) (q_lt g)
  refine ⟨t, _, ht, hlen, backward_lt, hw, ?_⟩
  rw [pntt_ok 0 (by rw [hread]; exact backward_lt), hread, forward_backward (length_coeffs _) ha]

/-! Coefficient-wise commands (R230). -/

theorem paddsub_ok {slot a b : Nat} (sub : Bool) (ha : ∀ v ∈ coeffs a, v < g.q) (hb : ∀ v ∈ coeffs b, v < g.q) : paddsub g sub slot a b =
    .ok (polyResult slot ((coeffs a).zipWith (fun u v => if sub then subMod g.q u v else (u + v) % g.q) (coeffs b))) := by
  rw [paddsub, canonicalCoeffs_ok ha, canonicalCoeffs_ok hb]
  rfl

theorem pnorm_ok {a bound : Nat} (ha : ∀ v ∈ coeffs a, v < g.q) :
    pnorm g a bound = .ok ((coeffs a).any fun c => decide (bound ≤ min c (g.q - c))) := by
  rw [pnorm, canonicalCoeffs_ok ha]
  rfl

/-- PNORM writes no slot, and adds its finding to REJECT. -/
theorem pnorm_completes (h : s.laneRuns sp k 0x36 c g) (ha : ∀ v ∈ coeffs ((s.lane sp k).slot c.srcA), v < g.q) :
    ∃ t, exec (.pnorm sp k) s = .next t ∧ (∀ j, (t.lane sp k).slot j = (s.lane sp k).slot j) ∧
      ((t.lane sp k).mode = (s.lane sp k).mode → ((t.lane sp k).reject = true ↔
        (s.lane sp k).reject = true ∨ ∃ v ∈ coeffs ((s.lane sp k).slot c.srcA), c.addr % 2 ^ 32 ≤ min v (g.q - v))) := by
  let found := (coeffs ((s.lane sp k).slot c.srcA)).any fun v => decide (c.addr % 2 ^ 32 ≤ min v (g.q - v))
  let l' : Lane := { s.lane sp k with reject := (s.lane sp k).reject || found }
  have hexec : exec (.pnorm sp k) s = .next (s.setLane sp k (l'.advance c 80)) := by
    refine arith_ok h ?_ rfl rfl
    rw [pnorm_ok ha]
    rfl
  have hl := lane_setLane_of_laneOp h.1 (l'.advance c 80)
  obtain ⟨⟨⟨-, -, hm, -⟩, -⟩, -⟩ := h
  refine ⟨_, hexec, fun j => by rw [hl, slot_advance]; rfl, fun hmode => ?_⟩
  rw [hl] at hmode ⊢
  rw [reject_advance (l := l') hm hmode]
  simp [l', found]

/-! Rounding, coding and sampling (R232, R233; log entry 53). -/

/-- PROUND writes DST, and SRCB where its function gives a second result. -/
theorem pround_completes {v : Nat × Option Nat} (h : s.laneRuns sp k 0x35 c g)
    (hv : pround g c.mode ((s.lane sp k).slot c.dst) ((s.lane sp k).slot c.srcA) ((s.lane sp k).slot c.srcB) = .ok v) :
    ∃ t, exec (.pround sp k) s = .next t ∧ (t.lane sp k).slot c.dst = v.1 ∧
      (∀ w, v.2 = some w → c.srcB ≠ c.dst → (t.lane sp k).slot c.srcB = w) ∧
      ∀ j, j ≠ c.dst → (j ≠ c.srcB ∨ v.2 = none) → (t.lane sp k).slot j = (s.lane sp k).slot j := by
  let l₁ : Lane := match v.2 with | some w => (s.lane sp k).setSlot c.srcB w | none => s.lane sp k
  have hkeep : l₁.mode = (s.lane sp k).mode ∧ l₁.staging = (s.lane sp k).staging := by
    unfold l₁
    split <;> exact ⟨rfl, rfl⟩
  have hexec : exec (.pround sp k) s = .next (s.setLane sp k ((l₁.setSlot c.dst v.1).advance c 144)) := by
    refine arith_ok h ?_ hkeep.1 hkeep.2
    dsimp only
    rw [hv]
    rfl
  have hl := lane_setLane_of_laneOp h.1 ((l₁.setSlot c.dst v.1).advance c 144)
  obtain ⟨⟨⟨-, -, -, -, -, hwf, -⟩, -⟩, -⟩ := h
  refine ⟨_, hexec, ?_, fun w hw hne => ?_, fun j hj hsrc => ?_⟩ <;> rw [hl, slot_advance]
  · have hwf₁ : sparseWf (fun _ => 0) none l₁.slots = true := by
      unfold l₁
      split
      · exact slots_setSlot_wf hwf _ _
      · exact hwf
    exact slot_setSlot hwf₁ _ _
  · rw [slot_setSlot_ne _ _ hne]
    simp only [l₁, hw, slot_setSlot hwf]
  · rw [slot_setSlot_ne _ _ hj]
    unfold l₁
    split
    · next w hw => exact slot_setSlot_ne _ _ (hsrc.resolve_right (by simp [hw]))
    · rfl

/-- PCODE packs a canonical polynomial, and unpacks into one. -/
theorem pcode_completes (h : s.laneRuns sp k 0x37 c g) :
    let r := Config.pcode c.mode g.kind ((s.lane sp k).slot c.srcA)
    let ok := ∀ v ∈ coeffs ((s.lane sp k).slot c.srcA), v < g.q
    (Config.pcodePacks c.mode = true → ok → ∃ t, exec (.pcode sp k) s = .next t ∧ s.slotWritten t sp k c.dst (r % 2 ^ (64 * 129))) ∧
    (Config.pcodePacks c.mode = true → ¬ ok → ∃ t, exec (.pcode sp k) s = .next t ∧ s.laneEnds t sp k .arithGuard) ∧
    (Config.pcodePacks c.mode = false →
      ∃ t, exec (.pcode sp k) s = .next t ∧ s.slotWritten t sp k c.dst (canonicalSlot g ((s.lane sp k).slot c.dst) r)) := by
  refine ⟨fun hp ha => arithDst_ok h ?_, fun hp ha => arithDst_error h ?_ (by decide), fun hp => arithDst_ok h ?_⟩
  · dsimp only
    rw [if_pos hp, canonicalCoeffs_ok ha]
    rfl
  · dsimp only
    rw [if_pos hp, canonicalCoeffs_error ha]
    rfl
  · exact if_neg (by simp [hp])

theorem xof_completes (h : s.laneOp sp k 0x38 [.runFirst, .runSecond] c) :
    ∃ t, exec (.xof sp k) s = .next t ∧
      let r := Config.xof c.mode c.count (s.lane sp k).xof ((s.lane sp k).slot c.srcA) ((s.lane sp k).slot c.dst)
      s.slotWritten t sp k c.dst (r.2.1 % 2 ^ (64 * 129)) ∧ (t.lane sp k).xof = r.1 := by
  let r := Config.xof c.mode c.count (s.lane sp k).xof ((s.lane sp k).slot c.srcA) ((s.lane sp k).slot c.dst)
  let l' : Lane := { s.lane sp k with xof := r.1 }.setSlot c.dst (r.2.1 % 2 ^ (64 * 129))
  have hexec : exec (.xof sp k) s = .next (s.setLane sp k (l'.advance c (1278 * r.2.2))) := by
    change execXof sp k s = _
    rw [execXof]
    exact laneCmd_advance h rfl rfl rfl
  refine ⟨_, hexec, slotWritten_advance h rfl, ?_⟩
  rw [lane_setLane_of_laneOp h, xof_advance]
  rfl

theorem sample_completes (h : s.laneRuns sp k 0x39 c g) :
    ∃ t x, exec (.sample sp k) s = .next t ∧ (∀ v ∈ x, v < g.q) ∧ s.slotWritten t sp k c.dst (polyResult ((s.lane sp k).slot c.dst) x) ∧
      x = ((coeffs (Config.sample c.mode g.kind (s.lane sp k).xof).1).map fun v => v % g.q) ∧
      (t.lane sp k).xof = (Config.sample c.mode g.kind (s.lane sp k).xof).2.1 := by
  have hlt : ∀ v ∈ (coeffs (Config.sample c.mode g.kind (s.lane sp k).xof).1).map (fun v => v % g.q), v < g.q :=
    map_lt (fun _ => Nat.mod_lt _ (q_pos g)) _
  refine ⟨_, _, arith_ok h rfl rfl rfl, hlt, slotWritten_advance h.1 rfl, rfl, ?_⟩
  rw [lane_setLane_of_laneOp h.1, xof_advance]
  rfl

/-! ### The obligation -/

/-- Settles O36: each curve command by its equation and the scaling of its result, each polynomial command by its own completion lemma. -/
theorem curveAndPolynomialCommands : Obligations.CurveAndPolynomialCommands := by
  unfold Obligations.CurveAndPolynomialCommands
  refine ⟨fun s sp k c g hp => ?_, fun s sp k c g _ => ?_⟩
  · intro l n p scalar co point hb hx hy hv
    refine ⟨fun h => ?_, fun h hc => ?_, fun h => ?_, fun h => ?_⟩
    · exact curve_completes h hp (esmul_eq hb hx hy hv)
    · exact curve_completes h hp (dsmul_eq hb hx hy hv hc)
    · exact curve_completes h hp (edmul_eq hb hx hy hv hp)
    · exact curve_completes h hp (xmul_eq hb hx hv)
  · intro l a b ok dst
    refine ⟨fun h => ⟨fun ha => pntt_completes h ha, fun ha => ?_⟩, fun h ha => pintt_completes h ha, fun h ha => ?_, fun h ha hb => ?_,
      fun h ha hb => ?_, fun v h hv => pround_completes h hv, fun h ha => ?_, fun h => pcode_completes h, fun h => xof_completes h,
      fun h => sample_completes h⟩
    · exact arithDst_error h (pntt_error _ ha) (by decide)
    · intro old width bound chained hold hroom
      obtain ⟨⟨⟨-, -, -, hn, -⟩, -⟩, -⟩ := id h
      refine ⟨fun hs hb => ?_, fun bs hs hr hb => ?_⟩
      · rw [exec_pmac_of_slot hn hs]
        exact pmac_completes h ha hb hold hroom
      · rw [exec_pmac_of_stream hn hs hr]
        exact pmac_completes (b := fun _ _ => ofLe bs) h ha hb hold hroom
    · exact arithDst_ok h (paddsub_ok false ha hb)
    · exact arithDst_ok h (paddsub_ok true ha hb)
    · obtain ⟨t, ht, hslots, hreject⟩ := pnorm_completes h ha
      exact ⟨t, ht, hslots, fun hm _ => hreject hm⟩

end Sys2Proof.Proofs

namespace Sys2Proof.Proofs

open Sys2Proof.Machine Sys2Proof.Laws

/-! ### What an instruction of a core leaves as it was when it retires (R457) -/

/-- Two states that differ in registers of the PIER block, in the monitor and in what has left the ports, and agree in the cores, the memories and every other
part that `State.onlyCore` and `State.sameMemory` speak of. -/
structure SameButPier (s t : State) : Prop where
  reg : ∀ sp off, off / 0x10000 ≠ 0x11 → t.reg sp off = s.reg sp off
  rep : ∀ sp, (t.span sp).rep = (s.span sp).rep
  cont : ∀ sp, (t.span sp).cont = (s.span sp).cont
  worlds : ∀ sp, (t.span sp).worlds = (s.span sp).worlds
  host : ∀ sp, (t.span sp).host = (s.span sp).host
  hubCore : t.hub.core = s.hub.core
  supMem : t.hub.supMem = s.hub.supMem
  deck : t.deck = s.deck
  elapsed : t.elapsed = s.elapsed
  pending : t.pending = s.pending

namespace SameButPier

variable {s t u : State}

theorem refl (s : State) : SameButPier s s :=
  ⟨fun _ _ _ => rfl, fun _ => rfl, fun _ => rfl, fun _ => rfl, fun _ => rfl, rfl, rfl, rfl, rfl, rfl⟩

theorem trans (h₁ : SameButPier s t) (h₂ : SameButPier t u) : SameButPier s u where
  reg sp off hoff := (h₂.reg sp off hoff).trans (h₁.reg sp off hoff)
  rep sp := (h₂.rep sp).trans (h₁.rep sp)
  cont sp := (h₂.cont sp).trans (h₁.cont sp)
  worlds sp := (h₂.worlds sp).trans (h₁.worlds sp)
  host sp := (h₂.host sp).trans (h₁.host sp)
  hubCore := h₂.hubCore.trans h₁.hubCore
  supMem := h₂.supMem.trans h₁.supMem
  deck := h₂.deck.trans h₁.deck
  elapsed := h₂.elapsed.trans h₁.elapsed
  pending := h₂.pending.trans h₁.pending

theorem core (h : SameButPier s t) (j : CoreId) : t.core j = s.core j := by
  cases j with
  | span sp c => exact congrArg (fun w : Worlds => w.cores.getD c (PierCore.reset 1 0 0 0)) (h.worlds sp)
  | supervisor => exact h.hubCore

theorem sameMemory (h : SameButPier s t) : s.sameMemory t := by
  intro j
  cases j with
  | span sp c => exact congrArg Worlds.mem (h.worlds sp)
  | supervisor => exact h.supMem

theorem onlyCore (h : SameButPier s t) (i : CoreId) : s.onlyCore t i :=
  ⟨fun j _ => h.core j, h.reg, fun sp => ⟨h.rep sp, h.cont sp, congrArg Worlds.guests (h.worlds sp), h.host sp⟩, h.deck, h.elapsed, h.pending⟩

end SameButPier

variable {s t u : State} {i : CoreId}

theorem sameButPier_setReg (s : State) (sp : SpanId) {off : Nat} (v : Word32) (hoff : off / 0x10000 = 0x11) :
    SameButPier s (s.setReg sp off v) := by
  have hub : (s.setReg sp off v).hub = s.hub := by simp [State.setReg, inTmp, hoff]
  refine ⟨fun q j hj => reg_setReg_ne s sp q v fun h => hj (h ▸ hoff), ?_, ?_, ?_, ?_, ?_, ?_, ?_, ?_, ?_⟩ <;> simp [hub]

theorem sameButPier_setFld (s : State) (sp : SpanId) {f : FieldRef} (v : Nat) (hf : f.reg / 0x10000 = 0x11) :
    SameButPier s (s.setFld sp f v) :=
  sameButPier_setReg s sp _ hf

theorem sameButPier_bump64 (s : State) (sp : SpanId) {lo hi : Nat} (n : Nat) (hlo : lo / 0x10000 = 0x11) (hhi : hi / 0x10000 = 0x11) :
    SameButPier s (s.bump64 sp lo hi n) :=
  (sameButPier_setReg s sp _ hlo).trans (sameButPier_setReg _ sp _ hhi)

/-- A change of the hub that leaves its TMP registers, its core and its memory alone. -/
theorem sameButPier_updHub (s : State) {f : HubState → HubState} (hregs : (f s.hub).regs = s.hub.regs) (hcore : (f s.hub).core = s.hub.core)
    (hmem : (f s.hub).supMem = s.hub.supMem) : SameButPier s (s.updHub f) := by
  constructor <;> simp [State.reg, hregs, hcore, hmem]

theorem sameButPier_emit (s : State) (o : Output) : SameButPier s (s.emit o) := by
  constructor <;> simp [State.reg]

/-- An answer on the monitor's line. -/
theorem sameButPier_complete_monitor (s : State) (sp : SpanId) (id epoch : Nat) (st : Status) (fields : List (List Byte)) :
    SameButPier s (s.complete ⟨sp, .monitor, id, epoch⟩ st fields) := by
  unfold State.complete State.completeWith
  dsimp only
  split
  · exact .refl s
  · exact (sameButPier_updHub s rfl rfl rfl).trans (sameButPier_emit _ _)

theorem sameButPier_countStep (s : State) (sp : SpanId) (c : Nat) : SameButPier s (s.countStep sp c) := by
  unfold State.countStep
  dsimp only
  split
  · exact .refl s
  · split
    · exact (sameButPier_updHub s rfl rfl rfl).trans (sameButPier_complete_monitor _ _ _ _ _ _)
    · exact sameButPier_updHub s rfl rfl rfl

/-! ### A core that is replaced -/

/-- The core is one of the module's. -/
def HasCore (s : State) (i : CoreId) : Prop :=
  match i with
  | .span sp c => c < 6 ∧ (s.span sp).worlds.cores.length = 6
  | .supervisor => True

theorem hasCore_of_runs (h : s.runs i) : HasCore s i := by
  obtain ⟨hcan, ha, hb, -⟩ := h
  cases i with
  | span sp c =>
    simp only [State.canRun, Bool.and_eq_true, decide_eq_true_eq] at hcan
    obtain ⟨⟨⟨⟨hc, -⟩, -⟩, -⟩, -⟩ := hcan
    exact ⟨hc, match sp with | .a => ha | .b => hb⟩
  | supervisor => trivial

theorem hasCore_of_sameButPier (h : SameButPier s t) (hi : HasCore s i) : HasCore t i := by
  cases i with
  | span sp c => exact ⟨hi.1, by rw [h.worlds]; exact hi.2⟩
  | supervisor => trivial

theorem sameButPier_countRetired (hi : HasCore s i) : SameButPier s (s.countRetired i) := by
  cases i with
  | supervisor => exact .refl s
  | span sp c =>
    have hc : c < 6 := hi.1
    refine (sameButPier_bump64 s sp 1 ?_ ?_).trans (sameButPier_countStep _ sp c)
    · unfold Reg.pierCorecRetiredLo; omega
    · unfold Reg.pierCorecRetiredHi; omega

/-- The status register of a core lies in the PIER block. -/
theorem pierCorecStatus_block {c : Nat} (hc : c < 6) : Reg.pierCorecStatus c / 0x10000 = 0x11 := by
  unfold Reg.pierCorecStatus; omega

/-- A core that has been replaced, before it is shown in its status register. -/
def putCore (s : State) (i : CoreId) (x : PierCore) : State :=
  match i with
  | .supervisor => s.updHub fun h => { h with core := x }
  | .span sp c => s.updWorlds sp fun w => { w with cores := w.cores.set c x }

theorem sameButPier_putCore_setCore (hi : HasCore s i) (x : PierCore) : SameButPier (putCore s i x) (s.setCore i x) := by
  cases i with
  | supervisor => exact .refl _
  | span sp c =>
    have hreg := pierCorecStatus_block hi.1
    exact ((sameButPier_setFld _ sp _ hreg).trans (sameButPier_setFld _ sp _ hreg)).trans (sameButPier_setFld _ sp _ hreg)

theorem core_putCore (hi : HasCore s i) (x : PierCore) : (putCore s i x).core i = x := by
  cases i with
  | supervisor => rfl
  | span sp c =>
    obtain ⟨hc, hlen⟩ := hi
    simp [putCore, State.core, List.getD_eq_getElem?_getD, hlen, hc]

theorem core_putCore_ne (s : State) (x : PierCore) {j : CoreId} (hj : j ≠ i) : (putCore s i x).core j = s.core j := by
  cases i with
  | supervisor =>
    cases j with
    | supervisor => exact absurd rfl hj
    | span sp c => simp [putCore, State.core]
  | span sp c =>
    cases j with
    | supervisor => simp [putCore, State.core]
    | span q d =>
      by_cases hq : q = sp
      · subst hq
        have hd : c ≠ d := fun h => hj (h ▸ rfl)
        simp [putCore, State.core, List.getD_eq_getElem?_getD, List.getElem?_set_ne hd]
      · simp [putCore, State.core, State.updWorlds, span_upd_ne s _ hq]

theorem onlyCore_putCore (s : State) (i : CoreId) (x : PierCore) : s.onlyCore (putCore s i x) i := by
  refine ⟨fun j hj => core_putCore_ne s x hj, ?_⟩
  cases i with
  | supervisor => simp [putCore, State.reg]
  | span sp c =>
    simp only [putCore, reg_updWorlds, deck_updWorlds, elapsed_updWorlds, pending_updWorlds, implies_true, and_true, true_and]
    intro q
    by_cases hq : q = sp
    · subst hq; simp
    · simp [State.updWorlds, span_upd_ne s _ hq]

theorem sameMemory_putCore (s : State) (i : CoreId) (x : PierCore) : s.sameMemory (putCore s i x) := by
  intro j
  cases i with
  | supervisor => cases j <;> simp [putCore, State.memOf]
  | span sp c =>
    cases j with
    | supervisor => simp [putCore, State.memOf]
    | span q d =>
      by_cases hq : q = sp
      · subst hq; simp [putCore, State.memOf]
      · simp [putCore, State.memOf, State.updWorlds, span_upd_ne s _ hq]

/-! Frames follow each other. -/

theorem onlyCore_trans (h₁ : s.onlyCore t i) (h₂ : t.onlyCore u i) : s.onlyCore u i := by
  obtain ⟨hcore₁, hreg₁, hspan₁, hdeck₁, helapsed₁, hpending₁⟩ := h₁
  obtain ⟨hcore₂, hreg₂, hspan₂, hdeck₂, helapsed₂, hpending₂⟩ := h₂
  refine ⟨fun j hj => (hcore₂ j hj).trans (hcore₁ j hj), fun sp off hoff => (hreg₂ sp off hoff).trans (hreg₁ sp off hoff), fun sp => ?_,
    hdeck₂.trans hdeck₁, helapsed₂.trans helapsed₁, hpending₂.trans hpending₁⟩
  obtain ⟨hrep₁, hcont₁, hguests₁, hhost₁⟩ := hspan₁ sp
  obtain ⟨hrep₂, hcont₂, hguests₂, hhost₂⟩ := hspan₂ sp
  exact ⟨hrep₂.trans hrep₁, hcont₂.trans hcont₁, hguests₂.trans hguests₁, hhost₂.trans hhost₁⟩

theorem sameMemory_trans (h₁ : s.sameMemory t) (h₂ : t.sameMemory u) : s.sameMemory u :=
  fun j => (h₂ j).trans (h₁ j)

theorem hasCore_putCore (hi : HasCore s i) (x : PierCore) : HasCore (putCore s i x) i := by
  cases i with
  | supervisor => trivial
  | span sp c => exact ⟨hi.1, by simpa [putCore] using hi.2⟩

/-! The rules of `State.setCore`. -/

theorem hasCore_setCore (hi : HasCore s i) (x : PierCore) : HasCore (s.setCore i x) i :=
  hasCore_of_sameButPier (sameButPier_putCore_setCore hi x) (hasCore_putCore hi x)

theorem core_setCore (hi : HasCore s i) (x : PierCore) : (s.setCore i x).core i = x :=
  ((sameButPier_putCore_setCore hi x).core i).trans (core_putCore hi x)

theorem onlyCore_setCore (hi : HasCore s i) (x : PierCore) : s.onlyCore (s.setCore i x) i :=
  onlyCore_trans (onlyCore_putCore s i x) ((sameButPier_putCore_setCore hi x).onlyCore i)

theorem sameMemory_setCore (hi : HasCore s i) (x : PierCore) : s.sameMemory (s.setCore i x) :=
  sameMemory_trans (sameMemory_putCore s i x) (sameButPier_putCore_setCore hi x).sameMemory

/-! An instruction that retires. -/

/-- One that has retired leaves its core with the new PC. -/
theorem core_retire (hi : HasCore s i) (pc : Word64) :
    (s.retire i pc).core i = { s.core i with v := { (s.core i).v with pc := pc } } :=
  ((sameButPier_countRetired (hasCore_setCore hi _)).core i).trans (core_setCore hi _)

theorem onlyCore_retire (hi : HasCore s i) (pc : Word64) : s.onlyCore (s.retire i pc) i :=
  onlyCore_trans (onlyCore_setCore hi _) ((sameButPier_countRetired (hasCore_setCore hi _)).onlyCore i)

theorem sameMemory_retire (hi : HasCore s i) (pc : Word64) : s.sameMemory (s.retire i pc) :=
  sameMemory_trans (sameMemory_setCore hi _) (sameButPier_countRetired (hasCore_setCore hi _)).sameMemory

/-! ### Instructions that compute, and those that are illegal -/

/-- On a core that runs, an instruction takes effect if it is legal (log entry 47, R349). -/
theorem issue_of_runs (h : s.runs i) (legal : Bool) (run : State → State) :
    s.issue i legal run = if legal then run s else s.takeTrap i .illegal false 0 0 := by
  obtain ⟨hcan, -, -, pa, hfetch⟩ := h
  simp [State.issue, hcan, hfetch]

theorem exec_illegal {c : Instr} {legal : Bool} {run : State → State} (h : s.runs i) (hc : exec c s = .next (s.issue i legal run))
    (hl : legal = false) : exec c s = .next (s.takeTrap i .illegal false 0 0) := by
  simp [hc, issue_of_runs h, hl]

theorem exec_compute_illegal {c : Instr} {legal : Bool} {rd : BitVec 5} {f : PierCore → Word64} (h : s.runs i)
    (hc : exec c s = .next (s.compute i legal rd f)) (hl : legal = false) : exec c s = .next (s.takeTrap i .illegal false 0 0) :=
  exec_illegal h hc hl

/-- A legal instruction that writes a value computed from the core completes with that value. -/
theorem yields_of_compute {c : Instr} {legal : Bool} {rd : BitVec 5} {f : PierCore → Word64} {w : Word64} (h : s.runs i)
    (hc : exec c s = .next (s.compute i legal rd f)) (hl : legal = true) (hw : f (s.core i) = w) : s.yields i c rd w := by
  subst hw
  have hi := hasCore_of_runs h
  have hset := hasCore_setCore hi ((s.core i).setReg rd.toNat (f (s.core i)))
  have hrun : s.compute i legal rd f = (s.updCore i fun x => x.setReg rd.toNat (f x)).retire i ((s.core i).v.pc + 4) := by
    rw [State.compute, issue_of_runs h, if_pos hl]
  refine ⟨_, hc, ?_⟩
  rw [hrun]
  refine ⟨(core_retire hset _).trans ?_, onlyCore_trans (onlyCore_setCore hi _) (onlyCore_retire hset _),
    sameMemory_trans (sameMemory_setCore hi _) (sameMemory_retire hset _)⟩
  rw [core_setCore hi]
  rfl

/-! By format. -/

theorem yields_of_rr {c : Instr} {rd rs1 rs2 : BitVec 5} {f : Word64 → Word64 → Word64} {w : Word64} (h : s.runs i) (hd : rd.toNat < 25)
    (h1 : rs1.toNat < 25) (h2 : rs2.toNat < 25) (hc : exec c s = .next (s.opRR i rd rs1 rs2 f))
    (hw : f ((s.core i).reg rs1.toNat) ((s.core i).reg rs2.toNat) = w) : s.yields i c rd w :=
  yields_of_compute h hc (by simp [specOk, hd, h1, h2]) hw

theorem yields_of_ri {c : Instr} {rd rs1 : BitVec 5} {imm : Word64} {f : Word64 → Word64 → Word64} {w : Word64} (h : s.runs i)
    (hd : rd.toNat < 25) (h1 : rs1.toNat < 25) (hc : exec c s = .next (s.opRI i rd rs1 imm f)) (hw : f ((s.core i).reg rs1.toNat) imm = w) :
    s.yields i c rd w :=
  yields_of_compute h hc (by simp [specOk, hd, h1]) hw

end Sys2Proof.Proofs

namespace Sys2Proof.Proofs

open Sys2Proof.Machine Sys2Proof.Laws

/-! ### Register operands (R338, R340) -/

/-- A write of g0 is discarded. -/
@[simp] theorem setReg_zero (x : PierCore) (y : Word64) : x.setReg 0 y = x := rfl

theorem reg_window (x : PierCore) {j : Nat} (hj : j < 16) : x.reg (8 + j) = x.v.p ((x.v.wcwp + j) % 96) := by
  have h₀ : ¬ 8 + j = 0 := by omega
  have h₇ : ¬ 8 + j < 7 := by omega
  have h₇' : ¬ 8 + j = 7 := by omega
  have h₂₄ : 8 + j < 24 := by omega
  simp only [PierCore.reg, h₀, h₇, h₇', h₂₄, if_true, if_false, Nat.add_sub_cancel_left]

/-! ### The arithmetic of the instruction tables -/

section

variable (a b : Word64)

theorem truth_eq_ite (p : Prop) [Decidable p] : truth (decide p) = if p then 1 else 0 := by
  by_cases hp : p <;> simp [truth, hp]

theorem truth_slt : truth (a.slt b) = if a.toInt < b.toInt then 1 else 0 := truth_eq_ite _

theorem truth_ult : truth (a.ult b) = if a.toNat < b.toNat then 1 else 0 := truth_eq_ite _

theorem minS_eq : (if b.slt a then b else a) = if a.toInt ≤ b.toInt then a else b := by
  simp only [BitVec.slt_iff_toInt_lt, ← Int.not_le, ite_not]

theorem minU_eq : (if b.ult a then b else a) = if a.toNat ≤ b.toNat then a else b := by
  simp only [BitVec.ult_iff_toNat_lt, ← Nat.not_le, ite_not]

/-- Where two words are equal, a maximum may give either. -/
theorem ite_lt_eq_ite_le {lt le : Prop} [Decidable lt] [Decidable le] (h : lt ↔ le ∧ a ≠ b) :
    (if lt then b else a) = if le then b else a := by
  by_cases hab : a = b
  · simp only [hab, ite_self]
  · simp only [h, ne_eq, hab, not_false_eq_true, and_true]

theorem maxS_eq : (if a.slt b then b else a) = if a.toInt ≤ b.toInt then b else a :=
  ite_lt_eq_ite_le a b (by rw [BitVec.slt_iff_toInt_lt, Int.lt_iff_le_and_ne, ne_eq, ne_eq, BitVec.toInt_inj])

theorem maxU_eq : (if a.ult b then b else a) = if a.toNat ≤ b.toNat then b else a :=
  ite_lt_eq_ite_le a b (by rw [BitVec.ult_iff_toNat_lt, Nat.lt_iff_le_and_ne, ne_eq, ne_eq, BitVec.toNat_inj])

/-- The high half of a product that 128 bits hold (MULHS). -/
theorem setWidth_ofInt_ushiftRight (n : Int) : (BitVec.ofInt 128 n >>> 64).setWidth 64 = BitVec.ofInt 64 (n / 2 ^ 64) := by
  apply BitVec.eq_of_toNat_eq
  simp only [BitVec.toNat_setWidth, BitVec.toNat_ushiftRight, BitVec.toNat_ofInt, Nat.shiftRight_eq_div_pow]
  omega

theorem mulHighS_eq : mulHighS a b = ((a.signExtend 128 * b.signExtend 128) >>> 64).setWidth 64 := by
  rw [mulHighS, BitVec.signExtend, BitVec.signExtend, ← BitVec.ofInt_mul, setWidth_ofInt_ushiftRight]

theorem mulHighU_eq : mulHighU a b = ((a.setWidth 128 * b.setWidth 128) >>> 64).setWidth 64 := by
  have hprod : (a.setWidth 128 * b.setWidth 128).toNat = a.toNat * b.toNat := by
    have hlt : a.toNat * b.toNat < 2 ^ 64 * 2 ^ 64 := Nat.mul_lt_mul'' a.isLt b.isLt
    rw [BitVec.toNat_mul, BitVec.toNat_setWidth_of_le (by decide), BitVec.toNat_setWidth_of_le (by decide)]
    exact Nat.mod_eq_of_lt hlt
  apply BitVec.eq_of_toNat_eq
  rw [mulHighU, BitVec.toNat_ofNat, BitVec.toNat_setWidth, BitVec.toNat_ushiftRight, hprod, Nat.shiftRight_eq_div_pow]

theorem quoS_eq : quoS a b = if b = 0 then 0 else a.sdiv b := by
  have h : BitVec.ofInt 64 (a.toInt.tdiv b.toInt) = a.sdiv b := by
    rw [← BitVec.toInt_inj, BitVec.toInt_sdiv, BitVec.toInt_ofInt]
  rw [quoS, h]

theorem modS_eq : modS a b = if b = 0 then a else a.srem b := by
  have h : BitVec.ofInt 64 (a.toInt.tmod b.toInt) = a.srem b := by
    rw [← BitVec.toInt_srem, BitVec.ofInt_toInt]
  rw [modS, h]

theorem quoU_eq : quoU a b = if b = 0 then 0 else a / b := by
  rw [quoU, ← BitVec.udiv_def]

theorem modU_eq : modU a b = if b = 0 then a else a % b := by
  rw [modU, ← BitVec.umod_def]

/-- A shift amount of an immediate lies below 64. -/
theorem toNat_shiftAmount (sh : BitVec 6) : (sh.setWidth 64).toNat % 64 = sh.toNat := by
  have := sh.isLt
  simp only [BitVec.toNat_setWidth]
  omega

theorem upper_eq (imm : BitVec 21) : upper imm = imm.signExtend 64 * 65536 :=
  BitVec.shiftLeft_eq_mul_twoPow _ 16

theorem toInt_simm (imm : BitVec 16) : (simm imm).toInt = imm.toInt := BitVec.toInt_signExtend_of_le (by decide)

theorem toNat_zimm (imm : BitVec 16) : (zimm imm).toNat = imm.toNat := by
  have := imm.isLt
  simp only [zimm, BitVec.toNat_setWidth]
  omega

end

/-! ### Reserved specifiers -/

section

variable {rd rs1 rs2 : BitVec 5}

theorem specOk_false {r : BitVec 5} (hr : 25 ≤ r.toNat) : specOk r = false := by
  simp [specOk, hr]

theorem specOk_and_false (hr : 25 ≤ rd.toNat ∨ 25 ≤ rs1.toNat) : (specOk rd && specOk rs1) = false := by
  rcases hr with hr | hr <;> simp [specOk_false hr]

theorem specOk_and_and_false (hr : 25 ≤ rd.toNat ∨ 25 ≤ rs1.toNat ∨ 25 ≤ rs2.toNat) : (specOk rd && specOk rs1 && specOk rs2) = false := by
  rcases hr with hr | hr | hr <;> simp [specOk_false hr]

end

/-- Settles O45: the instructions of each format by the lemma of that format, and each result by the equation of its operation. -/
theorem pierComputesExactResults : Obligations.PierComputesExactResults := by
  unfold Obligations.PierComputesExactResults
  intro s i rd rs1 rs2 h x a b
  refine ⟨rfl, fun y w => by rw [setReg_zero], fun j hj => reg_window x hj, rfl, rfl, fun hd h1 h2 => ?_, fun imm hd h1 => ?_, fun sh hd h1 => ?_,
    fun imm hd => ?_, ?_⟩
  · have rr {c : Instr} {f : Word64 → Word64 → Word64} {w : Word64} (hc : exec c s = .next (s.opRR i rd rs1 rs2 f)) (hw : f a b = w) :
        s.yields i c rd w := yields_of_rr h hd h1 h2 hc hw
    exact ⟨rr rfl rfl, rr rfl rfl, rr rfl rfl, rr rfl rfl, rr rfl rfl, rr rfl rfl, rr rfl rfl, rr rfl rfl, rr rfl rfl,
      rr rfl (truth_eq_ite _), rr rfl (truth_slt a b), rr rfl (truth_ult a b), rr rfl (minS_eq a b), rr rfl (maxS_eq a b),
      rr rfl (minU_eq a b), rr rfl (maxU_eq a b), rr rfl rfl, rr rfl (mulHighS_eq a b), rr rfl (mulHighU_eq a b), rr rfl (quoS_eq a b),
      rr rfl (quoU_eq a b), rr rfl (modS_eq a b), rr rfl (modU_eq a b), rr rfl rfl, rr rfl rfl⟩
  · have ri {c : Instr} {k : Word64} {f : Word64 → Word64 → Word64} {w : Word64} (hc : exec c s = .next (s.opRI i rd rs1 k f))
        (hw : f a k = w) : s.yields i c rd w := yields_of_ri h hd h1 hc hw
    exact ⟨ri rfl rfl, ri rfl rfl, ri rfl rfl, ri rfl rfl, ri rfl (by rw [truth_slt, toInt_simm]), ri rfl (by rw [truth_ult, toNat_zimm])⟩
  · have shift {c : Instr} {f : Word64 → Nat → Word64} (hc : exec c s = .next (s.opRI i rd rs1 (sh.setWidth 64) fun u v => f u (v.toNat % 64))) :
        s.yields i c rd (f a sh.toNat) := yields_of_ri h hd h1 hc (by rw [toNat_shiftAmount])
    exact ⟨shift rfl, shift rfl, shift rfl⟩
  · have hok : specOk rd = true := by simp [specOk, hd]
    exact ⟨yields_of_compute h rfl hok (upper_eq imm), yields_of_compute h rfl hok (congrArg (x.v.pc + ·) (upper_eq imm))⟩
  · rintro imm off sh pos wm1 k n c (⟨hr, hc⟩ | ⟨hr, hc⟩ | ⟨hr, hc⟩ | ⟨hr, hc⟩ | ⟨hr, hc⟩) <;> revert c <;>
      simp only [List.forall_mem_cons, List.not_mem_nil, false_implies, implies_true, and_true]
    · have rr {c : Instr} {f : PierCore → Word64} (hc : exec c s = .next (s.compute i _ rd f)) :=
        exec_compute_illegal h hc (specOk_and_and_false hr)
      exact ⟨rr rfl, rr rfl, rr rfl, rr rfl, rr rfl, rr rfl, rr rfl, rr rfl, rr rfl, rr rfl, rr rfl, rr rfl, rr rfl, rr rfl, rr rfl,
        rr rfl, rr rfl, rr rfl, rr rfl, rr rfl, rr rfl, rr rfl, rr rfl, rr rfl, rr rfl, rr rfl, exec_illegal h rfl (specOk_and_and_false hr)⟩
    · have ri {c : Instr} {f : PierCore → Word64} (hc : exec c s = .next (s.compute i _ rd f)) :=
        exec_compute_illegal h hc (specOk_and_false hr)
      have memory {c : Instr} {run : State → State} (hc : exec c s = .next (s.issue i _ run)) := exec_illegal h hc (specOk_and_false hr)
      have field {c : Instr} {ok : Bool} {f : PierCore → Word64} (hc : exec c s = .next (s.compute i (specOk rd && specOk rs1 && ok) rd f)) :=
        exec_compute_illegal h hc (by rw [specOk_and_false hr, Bool.false_and])
      exact ⟨ri rfl, ri rfl, ri rfl, ri rfl, ri rfl, ri rfl, ri rfl, ri rfl, ri rfl, memory rfl, memory rfl, memory rfl, memory rfl,
        memory rfl, memory rfl, memory rfl, memory rfl, memory rfl, memory rfl, memory rfl, field rfl, field rfl, field rfl, ri rfl, ri rfl⟩
    · have special {c : Instr} {ok : Bool} {f : PierCore → Word64} (hc : exec c s = .next (s.compute i (specOk rd && ok) rd f)) :=
        exec_compute_illegal h hc (by rw [specOk_false hr, Bool.false_and])
      exact ⟨exec_compute_illegal h rfl (specOk_false hr), exec_compute_illegal h rfl (specOk_false hr), special rfl, special rfl⟩
    · have jump {c : Instr} {run : State → State} (hc : exec c s = .next (s.issue i _ run)) := exec_illegal h hc (specOk_false hr)
      have special {c : Instr} {ok : Bool} {run : State → State} (hc : exec c s = .next (s.issue i (specOk rs1 && ok) run)) :=
        exec_illegal h hc (by rw [specOk_false hr, Bool.false_and])
      exact ⟨jump rfl, jump rfl, jump rfl, special rfl, special rfl⟩
    · have branch {c : Instr} {run : State → State} (hc : exec c s = .next (s.issue i _ run)) := exec_illegal h hc (specOk_and_false hr)
      exact ⟨branch rfl, branch rfl, branch rfl, branch rfl, branch rfl, branch rfl⟩

end Sys2Proof.Proofs

namespace Sys2Proof.Proofs

open Sys2Proof.Machine Sys2Proof.Laws

/-! ### Counting zeros (R351) -/

theorem leadZeros_zero (n : Nat) : leadZeros n 0 = n := rfl

theorem leadZeros_le (n v : Nat) : leadZeros n v ≤ n := by
  unfold leadZeros
  split <;> omega

/-- Above a number that is not zero, the zeros end at its highest set bit. -/
theorem leadZeros_spec {n v : Nat} (hv : v < 2 ^ n) (h0 : v ≠ 0) :
    leadZeros n v < n ∧ v.testBit (n - 1 - leadZeros n v) = true ∧ ∀ k, n - 1 - leadZeros n v < k → v.testBit k = false := by
  have hlog : v.log2 < n := (Nat.log2_lt h0).mpr hv
  have hz : leadZeros n v = n - 1 - v.log2 := if_neg h0
  have htop : n - 1 - leadZeros n v = v.log2 := by omega
  rw [htop]
  refine ⟨by omega, Nat.testBit_log2 h0, fun k hk => Nat.testBit_lt_two_pow ?_⟩
  exact Nat.lt_of_lt_of_le Nat.lt_log2_self (Nat.pow_le_pow_right (by decide) hk)

/-! ### Fields (R350) -/

section

variable (x d : Word64) {pos w : Nat}

theorem bitField_eq (pos w : Nat) : bitField x pos w = (x.extractLsb' pos w).setWidth 64 := by
  apply BitVec.eq_of_toNat_eq
  rw [bitField, BitVec.toNat_ofNat, BitVec.toNat_setWidth, BitVec.extractLsb'_toNat, Nat.shiftRight_eq_div_pow]

theorem bitFieldS_eq (hw : 0 < w) : bitFieldS x pos w = (x.extractLsb' pos w).signExtend 64 := by
  have hpow : 2 ^ w = 2 * 2 ^ (w - 1) := by rw [← Nat.pow_succ', Nat.succ_eq_add_one, Nat.sub_add_cancel hw]
  have htoInt := BitVec.toInt_eq_toNat_cond (x.extractLsb' pos w)
  rw [BitVec.extractLsb'_toNat, Nat.shiftRight_eq_div_pow] at htoInt
  rw [BitVec.signExtend, htoInt, bitFieldS]
  by_cases hneg : 2 ^ (w - 1) ≤ x.toNat / 2 ^ pos % 2 ^ w
  · rw [if_pos hneg, if_neg (by omega)]
    push_cast
    rfl
  · rw [if_neg hneg, if_pos (by omega), BitVec.ofInt_natCast]

theorem getLsbD_bitField {k : Nat} (hk : k < 64) : (bitField x pos w).getLsbD k = (decide (k < w) && x.getLsbD (pos + k)) := by
  rw [bitField_eq, BitVec.getLsbD_setWidth, BitVec.getLsbD_extractLsb', decide_eq_true hk, Bool.true_and]

theorem getLsbD_bitFieldS (hw : 0 < w) {k : Nat} (hk : k < 64) : (bitFieldS x pos w).getLsbD k = x.getLsbD (pos + min k (w - 1)) := by
  rw [bitFieldS_eq x hw, BitVec.getLsbD_signExtend, decide_eq_true hk, Bool.true_and]
  split
  · next h => rw [BitVec.getLsbD_extractLsb', decide_eq_true h, Bool.true_and, Nat.min_eq_left (by omega)]
  · next h =>
    rw [BitVec.msb_eq_getLsbD_last, BitVec.getLsbD_extractLsb', decide_eq_true (by omega), Bool.true_and, Nat.min_eq_right (by omega)]

/-- The bits that a field covers. -/
def fieldMask (pos w : Nat) : Nat := (2 ^ w - 1) * 2 ^ pos

theorem testBit_fieldMask (pos w k : Nat) : (fieldMask pos w).testBit k = decide (pos ≤ k ∧ k < pos + w) := by
  rw [fieldMask, Nat.testBit_mul_two_pow, Nat.testBit_two_pow_sub_one, ← Bool.decide_and]
  exact decide_eq_decide.mpr (by omega)

/-- Taking off the bits under a mask clears them. -/
theorem sub_and_eq_and_not (d m : Word64) : d - (d &&& m) = d &&& ~~~m := by
  have hdisjoint : (d &&& ~~~m) &&& (d &&& m) = 0 := by
    ext k hk
    cases hm : m[k] <;> simp [hm]
  have hsplit : (d &&& ~~~m) + (d &&& m) = d := by
    rw [BitVec.add_eq_or_of_and_eq_zero _ _ hdisjoint]
    ext k hk
    cases hm : m[k] <;> simp [hm]
  exact BitVec.sub_eq_iff_eq_add.mpr hsplit.symm

theorem getLsbD_ofNat_fieldMask (pos w : Nat) {k : Nat} (hk : k < 64) :
    (BitVec.ofNat 64 (fieldMask pos w)).getLsbD k = decide (pos ≤ k ∧ k < pos + w) := by
  rw [BitVec.getLsbD_ofNat, decide_eq_true hk, Bool.true_and, testBit_fieldMask]

/-- The low bits of a word, moved up to a field. -/
def fieldBits (x : Word64) (pos w : Nat) : Word64 := BitVec.ofNat 64 (x.toNat % 2 ^ w * 2 ^ pos)

theorem getLsbD_fieldBits {k : Nat} (hk : k < 64) :
    (fieldBits x pos w).getLsbD k = (decide (pos ≤ k ∧ k < pos + w) && x.getLsbD (k - pos)) := by
  rw [fieldBits, BitVec.getLsbD_ofNat, decide_eq_true hk, Bool.true_and, Nat.testBit_mul_two_pow, Nat.testBit_mod_two_pow,
    BitVec.testBit_toNat, ← Bool.and_assoc, ← Bool.decide_and]
  congr 1
  exact decide_eq_decide.mpr (by omega)

/-- BFI clears the field and puts the low bits of the source there. -/
theorem bitInsert_eq : bitInsert d x pos w = (d &&& ~~~BitVec.ofNat 64 (fieldMask pos w)) ||| fieldBits x pos w := by
  have hkept : BitVec.ofNat 64 (d.toNat - (d.toNat &&& fieldMask pos w)) = d &&& ~~~BitVec.ofNat 64 (fieldMask pos w) := by
    have hlt : d.toNat &&& fieldMask pos w < 2 ^ 64 := Nat.lt_of_le_of_lt Nat.and_le_left d.isLt
    rw [← BitVec.ofNat_sub_ofNat_of_le _ _ hlt Nat.and_le_left, BitVec.ofNat_and, BitVec.ofNat_toNat, BitVec.setWidth_eq, sub_and_eq_and_not]
  have hdisjoint : (d &&& ~~~BitVec.ofNat 64 (fieldMask pos w)) &&& fieldBits x pos w = 0 := by
    apply BitVec.eq_of_getLsbD_eq
    intro k hk
    rw [BitVec.getLsbD_and, BitVec.getLsbD_and, BitVec.getLsbD_not, getLsbD_ofNat_fieldMask pos w hk, getLsbD_fieldBits x hk]
    by_cases hin : pos ≤ k ∧ k < pos + w <;> simp [hin]
  calc bitInsert d x pos w
    _ = BitVec.ofNat 64 (d.toNat - (d.toNat &&& fieldMask pos w)) + fieldBits x pos w := BitVec.ofNat_add _ _
    _ = _ := by rw [hkept, BitVec.add_eq_or_of_and_eq_zero _ _ hdisjoint]

theorem getLsbD_bitInsert {k : Nat} (hk : k < 64) :
    (bitInsert d x pos w).getLsbD k = if pos ≤ k ∧ k < pos + w then x.getLsbD (k - pos) else d.getLsbD k := by
  rw [bitInsert_eq x d, BitVec.getLsbD_or, BitVec.getLsbD_and, BitVec.getLsbD_not, getLsbD_ofNat_fieldMask pos w hk, getLsbD_fieldBits x hk]
  by_cases hin : pos ≤ k ∧ k < pos + w <;> simp [hin, hk]

end

/-! ### Bytes (R352) -/

/-- The byte that a nibble of BPRM's second operand selects. -/
def permByte (x y : Word64) (j : Nat) : Nat :=
  let n := y.toNat / 2 ^ (4 * j) % 16
  if 8 ≤ n then 0 else x.toNat / 256 ^ n % 256

theorem permByte_lt (x y : Word64) (j : Nat) : permByte x y j < 256 := by
  unfold permByte
  dsimp only
  split <;> omega

/-- The number whose lowest `n` bytes are given. -/
def byteSum (f : Nat → Nat) (n : Nat) : Nat := ((List.range n).map fun j => f j * 256 ^ j).sum

theorem byteSum_succ (f : Nat → Nat) (n : Nat) : byteSum f (n + 1) = byteSum f n + f n * 256 ^ n := by
  simp only [byteSum, List.range_succ, List.map_append, List.sum_append, List.map_cons, List.map_nil, List.sum_cons, List.sum_nil, Nat.add_zero]

theorem byteSum_lt {f : Nat → Nat} (hf : ∀ j, f j < 256) : ∀ n, byteSum f n < 256 ^ n
  | 0 => Nat.one_pos
  | n + 1 => by
    have ih := byteSum_lt hf n
    have htop : f n * 256 ^ n ≤ 255 * 256 ^ n := Nat.mul_le_mul_right _ (Nat.le_of_lt_succ (hf n))
    rw [byteSum_succ, Nat.pow_succ]
    omega

theorem byteSum_byte {f : Nat → Nat} (hf : ∀ j, f j < 256) {j : Nat} : ∀ n, j < n → byteSum f n / 256 ^ j % 256 = f j
  | n + 1, hj => by
    have hpos : 0 < 256 ^ j := Nat.pow_pos (by decide)
    rw [byteSum_succ]
    by_cases hlt : j < n
    · have hpow : 256 ^ n = 256 ^ (n - 1 - j) * 256 * 256 ^ j := by
        rw [← Nat.pow_succ, ← Nat.pow_add]
        congr 1
        omega
      rw [hpow, ← Nat.mul_assoc, ← Nat.mul_assoc, Nat.add_mul_div_right _ _ hpos, Nat.add_mul_mod_self_right]
      exact byteSum_byte hf n hlt
    · obtain rfl : j = n := by omega
      rw [Nat.add_mul_div_right _ _ hpos, Nat.div_eq_of_lt (byteSum_lt hf j), Nat.zero_add, Nat.mod_eq_of_lt (hf j)]

/-- BPRM's result has the selected bytes. -/
theorem bytePermute_eq (x y : Word64) : bytePermute x y = BitVec.ofNat 64 (byteSum (permByte x y) 8) := by
  have hpow (n : Nat) : 2 ^ (8 * n) = 256 ^ n := Nat.pow_mul 2 8 n
  simp only [bytePermute, byteSum, permByte, hpow]

theorem bytePermute_byte (x y : Word64) {j : Nat} (hj : j < 8) : (bytePermute x y).toNat / 256 ^ j % 256 = permByte x y j := by
  have hbytes := permByte_lt x y
  have hlt : byteSum (permByte x y) 8 < 2 ^ 64 := byteSum_lt hbytes 8
  rw [bytePermute_eq, BitVec.toNat_ofNat, Nat.mod_eq_of_lt hlt, byteSum_byte hbytes 8 hj]

/-- Settles O46: each result by the lemma of its operation, and a field over bit 63 as an illegal instruction. -/
theorem pierBitInstructionsFollowTheirRules : Obligations.PierBitInstructionsFollowTheirRules := by
  unfold Obligations.PierBitInstructionsFollowTheirRules
  intro s i rd rs1 rs2 h hd h1 x a
  have hok : (specOk rd && specOk rs1) = true := by simp [specOk, hd, h1]
  refine ⟨⟨_, leadZeros_le 64 a.toNat, yields_of_compute h rfl hok rfl, ?_, fun ha => ?_⟩,
    ⟨_, leadZeros_le 32 (a.toNat % 2 ^ 32), yields_of_compute h rfl hok rfl, ?_, fun ha => ?_⟩,
    fun pos wm1 => ⟨fun hfit => ?_, fun hover => ?_⟩, fun h2 => ?_⟩
  · intro ha
    rw [ha]
    exact leadZeros_zero 64
  · exact leadZeros_spec a.isLt fun h0 => ha (BitVec.eq_of_toNat_eq h0)
  · intro ha
    rw [ha]
    exact leadZeros_zero 32
  · obtain ⟨hlt, htop, habove⟩ := leadZeros_spec (Nat.mod_lt a.toNat (by decide : 0 < 2 ^ 32)) ha
    have hbit {k : Nat} (hk : k < 32) : (a.toNat % 2 ^ 32).testBit k = a.getLsbD k := by
      rw [Nat.testBit_mod_two_pow, decide_eq_true hk, Bool.true_and, BitVec.testBit_toNat]
    exact ⟨hlt, by rw [← hbit (by omega)]; exact htop, fun k hk hk32 => by rw [← hbit hk32]; exact habove k hk⟩
  · have hfield : (specOk rd && specOk rs1 && decide (pos.toNat + wm1.toNat + 1 ≤ 64)) = true := by
      rw [hok, Bool.true_and]
      exact decide_eq_true hfit
    exact ⟨⟨_, yields_of_compute h rfl hfield rfl, fun k hk => getLsbD_bitField a hk⟩,
      ⟨_, yields_of_compute h rfl hfield rfl, fun k hk => getLsbD_bitFieldS a (Nat.succ_pos _) hk⟩,
      ⟨_, yields_of_compute h rfl hfield rfl, fun k hk => getLsbD_bitInsert a _ hk⟩⟩
  · have hfield : (specOk rd && specOk rs1 && decide (pos.toNat + wm1.toNat + 1 ≤ 64)) = false := by
      rw [hok, Bool.true_and]
      exact decide_eq_false (Nat.not_le.mpr hover)
    simp only [List.forall_mem_cons, List.not_mem_nil, false_implies, implies_true, and_true]
    exact ⟨exec_compute_illegal h rfl hfield, exec_compute_illegal h rfl hfield, exec_compute_illegal h rfl hfield⟩
  · exact ⟨_, yields_of_rr h hd h1 h2 rfl rfl, fun j hj => bytePermute_byte a _ hj⟩

end Sys2Proof.Proofs
